-- ==== Sys2Proof/Word.lean ====
section
/-! DEFINITION. The word types of the DRA-6192 and their plainest arithmetic (R6: little-endian, bit 0
least significant; R286: 64-bit registers). -/

namespace Sys2Proof

/-- A 64-bit general register or system word (R286, R287). -/
abbrev Word := BitVec 64

/-- One byte. -/
abbrev Byte := BitVec 8

/-- A task index 0 to 511 (R278, R280). -/
abbrev TaskId := Fin 512

/-- A general register number (R286). -/
abbrev Reg := Fin 32

/-- An RF port RF0 to RF3 (R25). -/
abbrev PortId := Fin 4

/-- A channel slot CH0 to CH191 (R81). -/
abbrev SlotId := Fin 192

/-- A chain port CL0 to CL2 (R193). -/
abbrev ChainId := Fin 3

/-- A link: CL0 to CL2, then TAP (R199). -/
abbrev LinkId := Fin 4

/-- A partition P0 to P7 (R385). -/
abbrev PartId := Fin 8

/-- A worker core (R277). -/
abbrev CoreId := Fin 8

/-- A subsystem number of R13. -/
abbrev SubId := Fin 20

/-- A housekeeping input (R452). -/
abbrev HkaId := Fin 32

/-- An 11-bit node ID (R201). -/
abbrev NodeId := BitVec 11

/-- A MAC address. -/
abbrev Mac := BitVec 48

/-- A level, gain or ratio in units of 1/1280 dB, the common unit of the 0.1 dB settings (128 units) and the
1/256 dB quantities (5 units) of the manual, so that both are exact. -/
abbrev Level := Int

/-- A time span in cycles of the ED domain, 983.04 MHz (R267). -/
abbrev EdCycles := Nat

/-- The low `n` bits of a word, sign-extended to 64 bits (R312, R317). -/
def sext64 (n : Nat) (w : BitVec n) : Word := w.signExtend 64

/-- The low `n` bits of a word, zero-extended to 64 bits. -/
def zext64 (n : Nat) (w : BitVec n) : Word := w.setWidth 64

/-- 1 for true, 0 for false, in a register. -/
def boolWord (b : Bool) : Word := if b then 1 else 0

/-- `x` limited to the range `lo` to `hi`, taking `hi` where the range is empty. -/
def clampInt (x lo hi : Int) : Int := min (max x lo) hi

/-- `x` limited to the range `lo` to `hi`. -/
def clampNat (x lo hi : Nat) : Nat := min (max x lo) hi

end Sys2Proof
end

