-- ==== Sys2Proof/Syntax.lean ====
section
/-! DEFINITION. The commands of the DRA-6192, one constructor per row of spec/opcode_table.json, with the
operands the manual gives each: an instruction carries the task that issues it and its register fields (R305), a
host access its address and data (R406), a hardware event the port, slot or link it concerns and the quantities
that the outside world or an analogue part supplies. Levels are in 1/1280 dB (`Level`). -/

namespace Sys2Proof

/-- What GLC measures over the control sample just ended (R120, R166): output level L, channel input power
before gain, and the saturated and total output words. -/
structure ControlSample where
  level : Level
  input : Level
  satWords : Nat
  words : Nat
  deriving DecidableEq, Repr

/-- What CFE's channel filter delivers of one channel over the round just ended: the values of its two 48-bit accumulators for
each channel sample, oldest first, and during a fade those of the old filter beside them (R14, R100, R103). -/
structure ChannelCut where
  slot : SlotId
  acc : List (Int × Int)
  old : List (Int × Int)
  deriving DecidableEq, Repr

/-- What one round brings to its boundary: the slots whose gain banks disagree (R523) and the cuts of the channels' samples. -/
structure RoundSeen where
  disagree : List SlotId
  cuts : List ChannelCut
  deriving DecidableEq, Repr

/-- What 0.5 µs of a port's output gives the composite limiter: the power measured (R46) and the port's 24-bit synthesis sums
(R100). -/
structure CompositeSeen where
  power : Level
  sums : List (Int × Int)
  deriving DecidableEq, Repr

/-- A port at a switch point, and the level of its BSTn_FLT pin there: a transmit interval raises KEY (R41, R53). -/
structure PortFlt where
  port : PortId
  fltHigh : Bool
  deriving DecidableEq, Repr

/-- What 1 ms of a port's received signal gives CNV: its spur estimate (R65) and the slice and rail correction coefficients
that it estimates (R63). -/
structure CnvEstimate where
  spur : Level
  coef : List Int
  deriving DecidableEq, Repr

/-- The end of a port's retune: the LO leakage and the image that the calibration leaves (R68, R69). -/
structure PortCal where
  port : PortId
  leak : Level
  image : Level
  deriving DecidableEq, Repr

/-- What FBC measures at one NLMS update step (R146, R150): modelled leakage over residual in the 16-step and the
256-step window, SRR, and the normalised gradient of each tap. -/
structure UpdateStep where
  ratio16 : Level
  ratio256 : Level
  srr : Level
  grad : List (Int × Int)
  deriving DecidableEq, Repr

/-- What the correlator finds for a probe (R157): the highest peak over the correlation noise, the received power
of the strongest path, its air delay, and the correlation noise referred to the receiving connector. -/
structure ProbeObs where
  peak : Level
  rxPower : Level
  airDelay : EdCycles
  noise : Level
  deriving DecidableEq, Repr

/-- A lane on a link direction (R198, R229): lane slot, anchor, direction, frame divisor, phase, positions, and whether
its blocks carry a returned copy (R240); its profile, and of an UL lane what the head distributes with the map: the grid's
start TA(0) in ns and the largest delay B of a branch that joins, in ps (R238, R239). -/
structure Lane where
  slot : Nat
  node : NodeId
  chan : Nat
  uplink : Bool
  p : Nat
  phase : Nat
  pos : List Nat
  returned : Bool
  profile : BitVec 4
  ta0 : Nat
  join : Nat
  deriving DecidableEq, Repr

/-- A lane map request (R198, R229): the requesting channel, the lane's anchor, its direction and profile, the link
directions it crosses, the path of the member in ps (hop latencies and fibre of the longer way, R234, or of the longest arrival,
R239), its delay as a branch that joins, and of the anchor CEIL, LDEL (0 for AUTO) and TA(0) in ns. `leave` says that the
channel no longer uses the lane (R224); `kept` lists the lanes that its link directions already carry (R212, R230). -/
structure LaneRequest where
  node : NodeId
  slot : SlotId
  anchorNode : NodeId
  anchorSlot : SlotId
  uplink : Bool
  profile : BitVec 4
  dirs : List Nat
  path : Nat
  join : Nat
  ceil : EdCycles
  ldel : EdCycles
  ta0 : Nat
  leave : Bool
  kept : List (Nat × Lane)
  deriving DecidableEq, Repr

/-- The head's answer to a commit that needs lane blocks (R198, R225, R234, R238): whether the lane is mapped, the anchor's
profile, the member's path in ps, the launch delay in force, the anchor's delay ceiling, and the grid of an UL lane. -/
structure LaneAnswer where
  granted : Bool
  profile : BitVec 4
  path : Nat
  dL : EdCycles
  ceil : EdCycles
  ta0 : Nat
  join : Nat
  deriving DecidableEq, Repr

/-- An election proposal (R203). -/
structure Proposal where
  donor : Bool
  prio : Byte
  serial : BitVec 64
  deriving DecidableEq, Repr

/-- An accept (R204): count, highest epoch, bitmap of IDs, bitmap of IDs found twice, and whether its CRC holds. -/
structure Accept where
  count : Nat
  epoch : BitVec 32
  ids : BitVec 2048
  dups : BitVec 2048
  crcOk : Bool
  deriving DecidableEq, Repr

/-- An epoch announcement (R204), with the head's ID and the IDs that hold an address (R223, R206). -/
structure EpochAnnounce where
  epoch : BitVec 32
  count : Nat
  dups : BitVec 2048
  members : BitVec 2048
  head : NodeId
  crcOk : Bool
  deriving DecidableEq, Repr

/-- A packet cell (R213): header, payload, and, for a message, the mailbox and partition it is sent to. -/
structure Cell where
  hdr : BitVec 64
  payload : List Byte
  part : PartId
  mbox : Fin 8
  deriving DecidableEq, Repr

/-- What a cell carries beside its header (R213, R355): its payload, and the partition and mailbox of a message. -/
structure CellBody where
  payload : List Byte
  part : PartId
  mbox : Fin 8
  deriving DecidableEq, Repr

/-- A memory response (R214): tag, generation, deadline in fabric time, data, and error (0 none, 1 HOME, 2
TIMEOUT, 3 ECC, 4 violation at the home). -/
structure MemResponse where
  tag : Fin 4096
  gen : BitVec 4
  deadline : Nat
  data : Word
  err : Fin 5
  deriving DecidableEq, Repr

/-- A memory request that reaches this node as home (R214, R321, R402): requester, partition and its generation,
operation (0 load, 1 store, 2 add, 3 swap, 4 compare and swap), reference, width in bytes, operands, tag. -/
structure MemRequest where
  node : NodeId
  part : PartId
  pgen : Byte
  op : Fin 5
  ref : Word
  bytes : Nat
  data : Word
  cmp : Word
  tag : Fin 4096
  gen : BitVec 4
  deadline : Nat
  deriving DecidableEq, Repr

/-- A memory response as it arrives: its source and its packet's sequence number (R208, R214). -/
structure ResponsePacket where
  r : MemResponse
  src : NodeId
  seq : BitVec 16
  deriving DecidableEq, Repr

/-- A memory request as it arrives at the home, with its packet's sequence number (R208, R214). -/
structure RequestPacket where
  q : MemRequest
  seq : BitVec 16
  deriving DecidableEq, Repr

/-- The content of a page as a replica takes it, with the places of its poisoned blocks of 32 bytes (R372, R382). -/
structure PageImage where
  bytes : List Byte
  bad : List Nat
  deriving DecidableEq, Repr

/-- The frame that the patrol scrub reads (R380): the one that accesses of a page reach, a keep page's MRAM copy beside it, or a free
frame, a new one or the `nth` of those that have shown errors. -/
inductive ScrubFrame where
  | working
  | copy
  | free (tier : Fin 3) (nth : Nat)
  deriving DecidableEq, Repr

/-- What the patrol scrub reads: a frame, and how many bits of a code word of the block, in DRAM how many symbols, have gone wrong
since it was last written (R379, R380). -/
structure ScrubRead where
  frame : ScrubFrame
  wrong : BitVec 2
  deriving DecidableEq, Repr

/-- The start of a frame on a link: its header, and whether the frame's sync headers stood where R196 has them. -/
structure FrameStart where
  hdr : BitVec 64
  sync : Bool
  deriving DecidableEq, Repr

/-- A lane's slot on a chain port (R198). -/
structure LanePlace where
  link : ChainId
  lane : Fin 96
  deriving DecidableEq, Repr

/-- One complex lane sample of a rail pair on the 20-bit channel scale (R227). -/
structure LaneSample where
  i : Int
  q : Int
  deriving DecidableEq, Repr

/-- An Ethernet frame on the TAP port (R220). -/
structure EthFrame where
  len : Nat
  fcsOk : Bool
  dst : Mac
  src : Mac
  tagged : Bool
  vid : BitVec 12
  pcp : BitVec 3
  etype : BitVec 16
  payload : List Byte
  deriving DecidableEq, Repr

/-- A PTP event message leaving this node's TAP (R262): two-step Sync or not, correctionField in 2^-16 ns, the
ingress instant and TAP link delay of the ingress node and the egress instant, in ns; whether it is a Sync or
Follow_Up, and the origin timestamp that such a message carries, in ns; whether it entered the fabric by this node's own
TAP; its domain and the clock that sent it (R261, R263). -/
structure PtpEvent where
  here : Bool
  domain : Byte
  clock : BitVec 64
  sync : Bool
  origin : Int
  twoStep : Bool
  followUp : Bool
  correction : Int
  ingress : Int
  linkDelay : Int
  egress : Int
  deriving DecidableEq, Repr

/-- An Announce message (R263) with the data the best master clock algorithm compares, the Announce interval it names, and
whether it entered the fabric by this node's own TAP. -/
structure PtpAnnounce where
  here : Bool
  domain : Byte
  prio1 : Byte
  clockClass : Byte
  accuracy : Byte
  variance : BitVec 16
  prio2 : Byte
  identity : BitVec 64
  steps : BitVec 16
  utcOffset : BitVec 16
  interval : EdCycles
  deriving DecidableEq, Repr

/-- The outcome of one aperture line whose home is another node (R417, R418). -/
structure RemoteLine where
  line : Fin 128
  err : Fin 5
  bytes : List Byte
  deriving DecidableEq, Repr

/-- A personality replica offered to an unconfigured node (R501, R502). -/
structure ReplicaOffer where
  fabCfg : Word
  tsuCfg : Word
  tsuAsym : Word
  thmCfg : Word
  charter : List Byte
  neighboursMatch : Bool
  idHasAddress : Bool
  deriving DecidableEq, Repr

/-- The commands. Instructions name the issuing task `t` first. -/
inductive Instr where
  /-- ADD (R309): 64-bit add modulo 2^64 of ga and gb into gd. -/
  | addR (t : TaskId) (gd ga gb : Reg)
  /-- SUB (R309): 64-bit subtract modulo 2^64. -/
  | subR (t : TaskId) (gd ga gb : Reg)
  /-- ADDS (R310): Signed 64-bit sum, saturated. -/
  | adds (t : TaskId) (gd ga gb : Reg)
  /-- SUBS (R310): Signed 64-bit difference, saturated. -/
  | subs (t : TaskId) (gd ga gb : Reg)
  /-- ADDUS (R310): Unsigned 64-bit sum, saturated. -/
  | addus (t : TaskId) (gd ga gb : Reg)
  /-- SUBUS (R310): Unsigned 64-bit difference, saturated at zero. -/
  | subus (t : TaskId) (gd ga gb : Reg)
  /-- MUL (R309): Low 64 bits of the product. -/
  | mulR (t : TaskId) (gd ga gb : Reg)
  /-- MULH (R309): High 64 bits of the signed 128-bit product. -/
  | mulh (t : TaskId) (gd ga gb : Reg)
  /-- MULHU (R309): High 64 bits of the unsigned 128-bit product. -/
  | mulhu (t : TaskId) (gd ga gb : Reg)
  /-- DIV (R310): Signed quotient toward zero with defined results for zero divisor and overflow. -/
  | divS (t : TaskId) (gd ga gb : Reg)
  /-- DIVU (R310): Unsigned quotient, all ones on division by zero. -/
  | divu (t : TaskId) (gd ga gb : Reg)
  /-- REM (R310): Signed remainder with the sign of ga. -/
  | remS (t : TaskId) (gd ga gb : Reg)
  /-- REMU (R310): Unsigned remainder, ga on division by zero. -/
  | remu (t : TaskId) (gd ga gb : Reg)
  /-- MIN (R309): Signed minimum of ga and gb. -/
  | minS (t : TaskId) (gd ga gb : Reg)
  /-- MAX (R309): Signed maximum of ga and gb. -/
  | maxS (t : TaskId) (gd ga gb : Reg)
  /-- AND (R309): Bitwise AND. -/
  | andR (t : TaskId) (gd ga gb : Reg)
  /-- OR (R309): Bitwise OR. -/
  | orR (t : TaskId) (gd ga gb : Reg)
  /-- XOR (R309): Bitwise XOR. -/
  | xorR (t : TaskId) (gd ga gb : Reg)
  /-- ANDN (R309): ga AND NOT gb. -/
  | andn (t : TaskId) (gd ga gb : Reg)
  /-- SLT (R309): Signed set-less-than. -/
  | slt (t : TaskId) (gd ga gb : Reg)
  /-- SLTU (R309): Unsigned set-less-than. -/
  | sltu (t : TaskId) (gd ga gb : Reg)
  /-- SLL (R310): Shift left by gb[5:0]. -/
  | sll (t : TaskId) (gd ga gb : Reg)
  /-- SRL (R310): Logical shift right by gb[5:0]. -/
  | srl (t : TaskId) (gd ga gb : Reg)
  /-- SRA (R310): Arithmetic shift right by gb[5:0]. -/
  | sra (t : TaskId) (gd ga gb : Reg)
  /-- SLLI (R309): Shift left by the shift field. -/
  | slli (t : TaskId) (gd ga : Reg) (sh : Fin 64)
  /-- SRLI (R309): Logical shift right by the shift field. -/
  | srli (t : TaskId) (gd ga : Reg) (sh : Fin 64)
  /-- SRAI (R309): Arithmetic shift right by the shift field. -/
  | srai (t : TaskId) (gd ga : Reg) (sh : Fin 64)
  /-- ADD_W (R311): 32-bit add, result sign-extended. -/
  | addW (t : TaskId) (gd ga gb : Reg)
  /-- SUB_W (R311): 32-bit subtract, result sign-extended. -/
  | subW (t : TaskId) (gd ga gb : Reg)
  /-- ADDS_W (R311): 32-bit signed saturated sum. -/
  | addsW (t : TaskId) (gd ga gb : Reg)
  /-- SUBS_W (R311): 32-bit signed saturated difference. -/
  | subsW (t : TaskId) (gd ga gb : Reg)
  /-- ADDUS_W (R311): 32-bit unsigned saturated sum, sign-extended. -/
  | addusW (t : TaskId) (gd ga gb : Reg)
  /-- SUBUS_W (R311): 32-bit unsigned saturated difference. -/
  | subusW (t : TaskId) (gd ga gb : Reg)
  /-- MUL_W (R311): 32-bit multiply, sign-extended. -/
  | mulW (t : TaskId) (gd ga gb : Reg)
  /-- DIV_W (R311): 32-bit signed divide with defined zero-divisor result. -/
  | divW (t : TaskId) (gd ga gb : Reg)
  /-- DIVU_W (R311): 32-bit unsigned divide. -/
  | divuW (t : TaskId) (gd ga gb : Reg)
  /-- REM_W (R311): 32-bit signed remainder. -/
  | remW (t : TaskId) (gd ga gb : Reg)
  /-- REMU_W (R311): 32-bit unsigned remainder. -/
  | remuW (t : TaskId) (gd ga gb : Reg)
  /-- SLL_W (R311): 32-bit shift left by gb[4:0]. -/
  | sllW (t : TaskId) (gd ga gb : Reg)
  /-- SRL_W (R311): 32-bit logical shift right. -/
  | srlW (t : TaskId) (gd ga gb : Reg)
  /-- SRA_W (R311): 32-bit arithmetic shift right. -/
  | sraW (t : TaskId) (gd ga gb : Reg)
  /-- SLLI_W (R311): 32-bit shift left by the shift field. -/
  | slliW (t : TaskId) (gd ga : Reg) (sh : Fin 32)
  /-- SRLI_W (R311): 32-bit logical shift right by the shift field. -/
  | srliW (t : TaskId) (gd ga : Reg) (sh : Fin 32)
  /-- SRAI_W (R311): 32-bit arithmetic shift right by the shift field. -/
  | sraiW (t : TaskId) (gd ga : Reg) (sh : Fin 32)
  /-- ADDI (R312): Add sign-extended immediate. -/
  | addi (t : TaskId) (gd ga : Reg) (imm : BitVec 16)
  /-- ANDI (R312): AND with zero-extended immediate. -/
  | andi (t : TaskId) (gd ga : Reg) (imm : BitVec 16)
  /-- ORI (R312): OR with zero-extended immediate. -/
  | ori (t : TaskId) (gd ga : Reg) (imm : BitVec 16)
  /-- XORI (R312): XOR with zero-extended immediate. -/
  | xori (t : TaskId) (gd ga : Reg) (imm : BitVec 16)
  /-- SLTI (R312): Signed compare with immediate. -/
  | slti (t : TaskId) (gd ga : Reg) (imm : BitVec 16)
  /-- SLTIU (R312): Unsigned compare with sign-extended immediate. -/
  | sltiu (t : TaskId) (gd ga : Reg) (imm : BitVec 16)
  /-- LUI (R312): Load upper immediate, sign-extended. -/
  | lui (t : TaskId) (gd : Reg) (imm : BitVec 16)
  /-- IHW_2 (R312): Replace bits [47:32] with the immediate. -/
  | ihw2 (t : TaskId) (gd ga : Reg) (imm : BitVec 16)
  /-- ADDI_W (R312): 32-bit add immediate, sign-extended. -/
  | addiW (t : TaskId) (gd ga : Reg) (imm : BitVec 16)
  /-- IHW_3 (R312): Replace bits [63:48] with the immediate. -/
  | ihw3 (t : TaskId) (gd ga : Reg) (imm : BitVec 16)
  /-- LD_B (R317): Local load of a sign-extended byte. -/
  | ldB (t : TaskId) (gd ga : Reg) (imm : BitVec 16)
  /-- LD_BU (R317): Local load of a zero-extended byte. -/
  | ldBu (t : TaskId) (gd ga : Reg) (imm : BitVec 16)
  /-- LD_H (R317): Local load of a sign-extended halfword. -/
  | ldH (t : TaskId) (gd ga : Reg) (imm : BitVec 16)
  /-- LD_HU (R317): Local load of a zero-extended halfword. -/
  | ldHu (t : TaskId) (gd ga : Reg) (imm : BitVec 16)
  /-- LD_W (R317): Local load of a sign-extended word. -/
  | ldW (t : TaskId) (gd ga : Reg) (imm : BitVec 16)
  /-- LD_WU (R317): Local load of a zero-extended word. -/
  | ldWu (t : TaskId) (gd ga : Reg) (imm : BitVec 16)
  /-- LD_D (R317): Local load of a doubleword. -/
  | ldD (t : TaskId) (gd ga : Reg) (imm : BitVec 16)
  /-- ST_B (R317): Local store of a byte into the store queue. -/
  | stB (t : TaskId) (gd ga : Reg) (imm : BitVec 16)
  /-- ST_H (R317): Local store of a halfword. -/
  | stH (t : TaskId) (gd ga : Reg) (imm : BitVec 16)
  /-- ST_W (R317): Local store of a word. -/
  | stW (t : TaskId) (gd ga : Reg) (imm : BitVec 16)
  /-- ST_D (R317): Local store of a doubleword. -/
  | stD (t : TaskId) (gd ga : Reg) (imm : BitVec 16)
  /-- GLD_B (R320): Global load of a sign-extended byte; thread waits for the response. -/
  | gldB (t : TaskId) (gd ga : Reg) (imm : BitVec 16)
  /-- GLD_BU (R320): Global load of a zero-extended byte. -/
  | gldBu (t : TaskId) (gd ga : Reg) (imm : BitVec 16)
  /-- GLD_H (R320): Global load of a sign-extended halfword. -/
  | gldH (t : TaskId) (gd ga : Reg) (imm : BitVec 16)
  /-- GLD_HU (R320): Global load of a zero-extended halfword. -/
  | gldHu (t : TaskId) (gd ga : Reg) (imm : BitVec 16)
  /-- GLD_W (R320): Global load of a sign-extended word. -/
  | gldW (t : TaskId) (gd ga : Reg) (imm : BitVec 16)
  /-- GLD_WU (R320): Global load of a zero-extended word. -/
  | gldWu (t : TaskId) (gd ga : Reg) (imm : BitVec 16)
  /-- GLD_D (R320): Global load of a doubleword. -/
  | gldD (t : TaskId) (gd ga : Reg) (imm : BitVec 16)
  /-- GST_B (R320): Posted global store of a byte. -/
  | gstB (t : TaskId) (gd ga : Reg) (imm : BitVec 16)
  /-- GST_H (R320): Posted global store of a halfword. -/
  | gstH (t : TaskId) (gd ga : Reg) (imm : BitVec 16)
  /-- GST_W (R320): Posted global store of a word. -/
  | gstW (t : TaskId) (gd ga : Reg) (imm : BitVec 16)
  /-- GST_D (R320): Posted global store of a doubleword. -/
  | gstD (t : TaskId) (gd ga : Reg) (imm : BitVec 16)
  /-- AADD_W (R323): 32-bit atomic add at the home, old value returned. -/
  | aaddW (t : TaskId) (gd ga gb : Reg)
  /-- AADD_D (R323): 64-bit atomic add at the home. -/
  | aaddD (t : TaskId) (gd ga gb : Reg)
  /-- ASWAP_W (R323): 32-bit atomic swap at the home. -/
  | aswapW (t : TaskId) (gd ga gb : Reg)
  /-- ASWAP_D (R323): 64-bit atomic swap at the home. -/
  | aswapD (t : TaskId) (gd ga gb : Reg)
  /-- ACAS_W (R323): 32-bit compare-and-swap at the home. -/
  | acasW (t : TaskId) (gd ga gb : Reg)
  /-- ACAS_D (R323): 64-bit compare-and-swap at the home. -/
  | acasD (t : TaskId) (gd ga gb : Reg)
  /-- BEQ (R314): Branch if equal. -/
  | beq (t : TaskId) (ga gb : Reg) (off : BitVec 16)
  /-- BNE (R314): Branch if not equal. -/
  | bne (t : TaskId) (ga gb : Reg) (off : BitVec 16)
  /-- BLT (R314): Branch if signed less. -/
  | blt (t : TaskId) (ga gb : Reg) (off : BitVec 16)
  /-- BGE (R314): Branch if signed greater or equal. -/
  | bge (t : TaskId) (ga gb : Reg) (off : BitVec 16)
  /-- BLTU (R314): Branch if unsigned less. -/
  | bltu (t : TaskId) (ga gb : Reg) (off : BitVec 16)
  /-- BGEU (R314): Branch if unsigned greater or equal. -/
  | bgeu (t : TaskId) (ga gb : Reg) (off : BitVec 16)
  /-- J (R314): PC-relative jump. -/
  | j (t : TaskId) (off : BitVec 26)
  /-- JAL (R314): PC-relative jump with link in g31. -/
  | jal (t : TaskId) (off : BitVec 26)
  /-- JALR (R314): Register-indirect jump with link in gd. -/
  | jalr (t : TaskId) (gd ga : Reg) (imm : BitVec 16)
  /-- FENCE_L (R326): Waits until earlier local stores are visible at this node. -/
  | fenceL (t : TaskId)
  /-- FENCE_G (R327): Waits for all earlier accesses to be acknowledged and raises pending store errors. -/
  | fenceG (t : TaskId)
  /-- FENCE_I (R328): Discards prefetched instructions of the partition on every core. -/
  | fenceI (t : TaskId)
  /-- SYSR (R330): Reads a system word under privilege and Access rules. -/
  | sysr (t : TaskId) (gd ga : Reg)
  /-- SYSW (R330): Writes a system word that has no row of its own. -/
  | sysw (t : TaskId) (gd ga : Reg)
  /-- EXC_RET (R290): Write of SW.EXC_STAT.RET clears ACTIVE and resumes at SW.EXC_PC. -/
  | excRet (t : TaskId)
  /-- CH_ALLOC (R339): Reserves a slot or refuses with NO_BUDGET or NO_SLOT; thread waits for the round boundary. -/
  | chAlloc (t : TaskId) (gd ga gb : Reg)
  /-- CH_ALLOC_RETURN (R339): At the next round boundary the channel becomes HELD and the handle is returned. -/
  | chAllocReturn (slot : SlotId)
  /-- CH_FREE (R111): Bumps the slot generation, drops ownership and ramps output to zero. -/
  | chFree (t : TaskId) (gd ga : Reg)
  /-- CH_FREE_RELEASE (R111): Slot and cost released at the first round boundary after output reaches zero. -/
  | chFreeRelease (slot : SlotId)
  /-- CH_SET (R337): Writes a pending setting of the task's pending set. -/
  | chSet (t : TaskId) (gd ga gb : Reg) (n : BitVec 6)
  /-- CH_GET (R337): Returns a setting in force. -/
  | chGet (t : TaskId) (gd ga gb : Reg) (n : BitVec 6)
  /-- CH_COMMIT_CUT (R340): Checks and admits a commit carried out as a cut. -/
  | chCommitCut (t : TaskId) (gd ga : Reg)
  /-- CH_COMMIT_FADE (R340): Checks and admits a commit carried out as a fade. -/
  | chCommitFade (t : TaskId) (gd ga : Reg)
  /-- COMMIT_LANE_RESULT (R340): A commit needing lane blocks receives the head's answer or its timeout and returns its code. -/
  | commitLaneResult (slot : SlotId) (a : LaneAnswer)
  /-- CH_MUTE (R341): Records the program's mute on the channel. -/
  | chMute (t : TaskId) (gd ga : Reg)
  /-- CH_UNMUTE (R341): Withdraws the program's own mute. -/
  | chUnmute (t : TaskId) (gd ga : Reg)
  /-- CH_ARM (R173): Checks and requests re-arm of a fenced channel, possibly held until HOLD. -/
  | chArm (t : TaskId) (gd ga : Reg)
  /-- CH_MEAS (R343): Returns a measurement item of the channel. -/
  | chMeas (t : TaskId) (gd ga gb : Reg)
  /-- CH_PROBE (R154): Queues 1–16 probe bursts on a committed loop channel. -/
  | chProbe (t : TaskId) (gd ga : Reg) (k : Fin 16)
  /-- PORT_TUNE (R347): Reads a tune record and sets role, bank, state, LOs and limits of a port. -/
  | portTune (t : TaskId) (gd ga gb : Reg)
  /-- PORT_SCHED (R348): Loads, repairs and duty-checks a TDD schedule. -/
  | portSched (t : TaskId) (gd ga gb : Reg)
  /-- ALLOC (R363): Allocates pages under quota and frame checks. -/
  | allocP (t : TaskId) (gd ga gb : Reg)
  /-- FREE (R364): Releases pages touched by a range. -/
  | freeP (t : TaskId) (gd ga gb : Reg)
  /-- KEEP (R365): Sets or clears the keep attribute on a range. -/
  | keepP (t : TaskId) (gd ga gb : Reg)
  /-- CNT_RD (R350): Reads a performance counter under counter rights. -/
  | cntRd (t : TaskId) (gd ga : Reg)
  /-- MODE (R351): Warden requests a program mode. -/
  | modeReq (t : TaskId) (gd ga : Reg)
  /-- SPAWN (R352): Creates a READY task in the issuer's partition. -/
  | spawnT (t : TaskId) (gd ga gb : Reg)
  /-- YIELD (R352): Task returns to READY. -/
  | yieldT (t : TaskId)
  /-- EXIT (R352): Waits as fence.g then makes the task DONE. -/
  | exitT (t : TaskId) (ga : Reg)
  /-- JOIN (R352): Waits until a task is DONE, returns its exit value and frees the index. -/
  | joinT (t : TaskId) (gd ga gb : Reg)
  /-- TIME (R353): Returns fabric time. -/
  | timeT (t : TaskId) (gd : Reg)
  /-- WAIT_UNTIL (R353): Waits until fabric time reaches a deadline. -/
  | waitUntil (t : TaskId) (gd ga : Reg)
  /-- WAIT_EV (R353): Waits for a partition event or a deadline. -/
  | waitEv (t : TaskId) (gd ga gb : Reg)
  /-- WAIT_DEADLINE_EXPIRE (R353): An armed deadline passes and the waiting task becomes READY. -/
  | waitDeadlineExpire (t : TaskId)
  /-- SEND (R355): Queues a message to a mailbox at this or another node. -/
  | sendM (t : TaskId) (gd ga gb : Reg)
  /-- RECV (R356): Takes the oldest message from a mailbox or waits. -/
  | recvM (t : TaskId) (gd ga gb : Reg)
  /-- ENGINE_ROUND_BOUNDARY (R110): Every 1,152 ED cycles hardware events, resets and program instructions take effect in order and GLC recomputes gains. -/
  | engineRoundBoundary (seen : RoundSeen)
  /-- CONTROL_SAMPLE_BOUNDARY (R119): Every M rounds the level and brim loops step from measured quantities. -/
  | controlSampleBoundary (slot : SlotId) (m : ControlSample)
  /-- SETTLING_COMPLETE (R97): Filter full and ramp done; channel enters LIVE. -/
  | settlingComplete (slot : SlotId)
  /-- FADE_END (R103): Cross-fade ends; old filter and cost released at next boundary. -/
  | fadeEnd (slot : SlotId)
  /-- MUTE_RAMP_COMPLETE (R108): Mute or free ramp brings channel output below noise. -/
  | muteRampComplete (slot : SlotId)
  /-- FBC_UPDATE_STEP (R146): NLMS update of a model every four channel samples, with depth and validity updates. -/
  | fbcUpdateStep (slot : SlotId) (m : UpdateStep)
  /-- MODEL_FREEZE_TIMEOUT (R149): A freeze passing 10 ms makes the model not valid. -/
  | modelFreezeTimeout (slot : SlotId)
  /-- ISOLATION_REFRESH (R159): Every 100 ms isolation estimates are updated from model coupling; `gains` is the correction by the
  calibrated gains of the channel's two ports. -/
  | isolationRefresh (slot : SlotId) (gains : Level)
  /-- PROBE_BURST_START (R156): Next queued burst on a port starts when the port is ready, or is dropped. -/
  | probeBurstStart (port : PortId)
  /-- PROBE_BURST_END (R35): Burst ends and the port enters its return state. -/
  | probeBurstEnd (port : PortId)
  /-- PROBE_RESULT (R157): Correlation forms a measured, lower-bound or invalid result and sets I. -/
  | probeResult (slot : SlotId) (o : ProbeObs)
  /-- OSC_WINDOW_END (R166): OSC autocorrelation window ends and may trim or fence. -/
  | oscWindowEnd (slot : SlotId) (rho : Nat)
  /-- NRISE_ESTIMATE (R166): Noise-rise estimate formed; may trim, mute or end an NRISE mute. -/
  | nriseEstimate (slot : SlotId) (noise : Level)
  /-- DLOSS_MUTE (R166): Donor input below threshold throughout DLHOLD mutes the channel. -/
  | dlossMute (slot : SlotId) (input : Level)
  /-- DLOSS_UNMUTE (R170): Donor at threshold + 3 dB for 10 ms ends the DLOSS mute. -/
  | dlossUnmute (slot : SlotId) (input : Level)
  /-- ACLR_MEASURE (R166): 1 ms adjacent leakage measurement trims or fences a port's channels. -/
  | aclrMeasure (port : PortId) (ratio : Level)
  /-- TRIM_RELEASE (R169): TREL without a trim lowers T by 3 dB from the oldest share. -/
  | trimRelease (slot : SlotId)
  /-- SILENCED_HOLDOFF_END (R180): Hold-off expires and a held mode request takes effect. -/
  | silencedHoldoffEnd
  /-- HELD_REARM_EFFECT (R173): After HOLD, and outside WATCH, a held re-arm is rechecked and takes effect. -/
  | heldRearmEffect (slot : SlotId)
  /-- NGD_SARM_GO (R176): Warden clears severity of a source and re-arms its fenced channels. -/
  | ngdSarmGo (t : TaskId) (v : Word)
  /-- GNT_POWER_CHECK (R186): Every 0.5 µs slot power is checked and excess clamped and fenced. -/
  | gntPowerCheck (slot : SlotId) (power : Level) (clampOk : Bool)
  /-- GNT_DUTY_CHECK (R186): Per schedule period a port's transmit time is checked against its duty limit. -/
  | gntDutyCheck (port : PortId) (txNs : Nat) (clampOk : Bool)
  /-- COMPOSITE_LIMIT_SCALE (R46): Every 0.5 µs composite power is measured and the window scaled down if over. -/
  | compositeLimitScale (port : PortId) (seen : CompositeSeen)
  /-- COMPOSITE_LIMIT_RESTORE (R46): Every 100 µs after excess ends the scaling restores by 0.1 dB. -/
  | compositeLimitRestore (port : PortId)
  /-- BANK_CHANGE_COMPLETE (R29): STANDBY interval of a bank change ends and the port enters its requested state. -/
  | bankChangeComplete (port : PortId)
  /-- BOOSTER_KEY_RISE (R38): 50 µs after EN the booster is keyed and the ramp follows. -/
  | boosterKeyRise (port : PortId) (fltHigh : Bool)
  /-- BOOSTER_EN_FALL (R39): 20–25 µs after key falls the booster supply is removed. -/
  | boosterEnFall (port : PortId)
  /-- TDD_SWITCH_POINT (R41): Schedule switch point changes the port between TDD-UL, TDD-DL and gap. -/
  | tddSwitchPoint (pin : PortFlt)
  /-- TDD_PERIOD_START (R42): Period start applies a newly loaded or unloaded schedule. -/
  | tddPeriodStart (pin : PortFlt)
  /-- RFKILL_ASSERT (R49): RFKILL_N low stops every port without ramp. -/
  | rfkillAssert
  /-- RFKILL_RELEASE (R51): RFKILL_N returns high and starts the 1 ms wait. -/
  | rfkillRelease
  /-- RFKILL_RESTART (R51): After 1 ms high every port due to transmit restarts. -/
  | rfkillRestart
  /-- BOOSTER_FAULT (R53): Qualified BSTn_FLT blanks the port and latches BFLT. -/
  | boosterFault (port : PortId)
  /-- CNV_ADAPT_UPDATE (R63): Every 1 ms mismatch coefficients are updated and CONV evaluated. -/
  | cnvAdaptUpdate (port : PortId) (composite : Level) (est : CnvEstimate)
  /-- ADC_CLIP (R66): Full-scale sample sets CLIP and counts the interval. -/
  | adcClip (port : PortId)
  /-- CLIPCNT_READ (R80): Read of CLIPCNT returns and clears the RC count. -/
  | clipcntRead (port : PortId)
  /-- TX_CAL_TRACK (R68): Every 100 ms LO leakage and image are tracked. -/
  | txCalTrack (port : PortId) (leak image : Level)
  /-- PORT_SYNTH_LOCKED (R69): Changed synthesisers lock and calibration runs. -/
  | portSynthLocked (port : PortId)
  /-- PORT_RETUNE_COMPLETE (R69): Receive samples valid again and PCAL clears. -/
  | portRetuneComplete (cal : PortCal)
  /-- PORT_SYNTH_UNLOCK (R73): Port synthesiser loses lock and the port is blanked. -/
  | portSynthUnlock (port : PortId)
  /-- MAIN_SYNTH_UNLOCK (R74): Main synthesiser loses lock; all ports blanked and processing held. -/
  | mainSynthUnlock
  /-- MAIN_SYNTH_RELOCK (R112): Relock refills every channel and LIVE channels enter SETTLING. -/
  | mainSynthRelock
  /-- SYN_CORRECTION_APPLY (R59): SYN applies or slews a TSU frequency correction, in 0.01 ppb; `offset` is the offset measured
  (R60), in the same unit. -/
  | synCorrectionApply (corr offset : Int)
  /-- REF_SYNTONISED (R60): Offset within 0.05 ppm for 10 s makes the reference SYNTONISED. -/
  | refSyntonised
  /-- CORE_FREQ_CHANGE (R75): Core clock switches to bypass and the synthesiser relocks. -/
  | coreFreqChange (f : BitVec 2)
  /-- CORE_SYNTH_LOCKED (R75): Core synthesiser stable 2 µs; tree switches to the new frequency. -/
  | coreSynthLocked
  /-- LINK_LIGHT_DETECTED (R200): Light on a chain port starts training. -/
  | linkLightDetected (l : LinkId)
  /-- LINK_UP (R200): Training completes and the link enters UP. -/
  | linkUp (l : LinkId)
  /-- LINK_DOWN (R200): Loss of frame lock takes the link DOWN. -/
  | linkDown (l : LinkId)
  /-- LINK_LULL_ENTER (R200): Both ends agree in block 3 and the link enters LULL. -/
  | linkLullEnter (l : ChainId)
  /-- LINK_LULL_EXIT (R200): Either end requests UP and the link leaves LULL. -/
  | linkLullExit (l : ChainId)
  /-- FRAME_HEADER_RX (R197): Frame header received and checked by CRC. -/
  | frameHeaderRx (l : ChainId) (start : FrameStart)
  /-- LANE_MAP_REQUEST_RX (R198): Head assigns lane slots and blocks for a commit or refuses. -/
  | laneMapRequestRx (q : LaneRequest)
  /-- LANE_MAP_CHANGE (R198): New lane map takes effect at the frame in which MAPV changes. -/
  | laneMapChange (l : ChainId) (outbound : Bool) (mapv : BitVec 8) (map : List Lane)
  /-- ELECTION_START (R203): Trigger starts an election at this node. -/
  | electionStart
  /-- FAB_ELECT (R202): Warden write of SW.FAB_CFG.ELECT starts an election. -/
  | fabElect (t : TaskId) (v : Word)
  /-- PROPOSAL_RX (R204): Proposal received, compared and forwarded; parent chosen. -/
  | proposalRx (l : ChainId) (p : Proposal)
  /-- ACCEPT_RX (R204): Accept from a child received and merged. -/
  | acceptRx (l : ChainId) (a : Accept)
  /-- ACCEPT_SEND (R204): After 1 ms stability and all child accepts the node sends its accept. -/
  | acceptSend
  /-- HEAD_ANNOUNCE (R204): Candidate becomes head and floods the new epoch. -/
  | headAnnounce
  /-- EPOCH_ANNOUNCE_RX (R205): Epoch announcement received and forwarded. -/
  | epochAnnounceRx (l : ChainId) (a : EpochAnnounce)
  /-- EPOCH_TAKE (R205): Node takes the new epoch at the next round boundary; of its chain links, those that belong to a loop,
  and those that belong to a loop beyond the first of the loops that share a link (R193, R194). -/
  | epochTake (ring shared : BitVec 3)
  /-- NO_PROPOSAL_TIMEOUT (R205): 10 ms without a proposal clears ELECT and leaves HEADLESS. -/
  | noProposalTimeout
  /-- CELL_RX (R216): Packet cell received, deduplicated, delivered or forwarded cut-through. -/
  | cellRx (l : ChainId) (hdr : BitVec 64) (body : CellBody)
  /-- REQUEST_DEADLINE_EXPIRE (R214): Unanswered global request ends with TIMEOUT. -/
  | requestDeadlineExpire (tag : Fin 4096)
  /-- RESPONSE_RX (R214): Memory response completes its request or is discarded as stale. -/
  | responseRx (pkt : ResponsePacket)
  /-- HOME_REQUEST_RX (R324): Home node serves a global load, store or atomic. -/
  | homeRequestRx (pkt : RequestPacket)
  /-- FAULT_REPORT_HOLD_EXPIRE (R218): Held fault report sent toward the head after its hold. -/
  | faultReportHoldExpire
  /-- TAP_FRAME_RX (R220): Ethernet frame on the TAP port is filtered, learned and bridged. -/
  | tapFrameRx (f : EthFrame)
  /-- MAC_AGEING (R220): Learned address aged out after 300 s. -/
  | macAgeing (vid : BitVec 12) (mac : Mac)
  /-- STAMP_BLOCK_RX (R233): Lane stamp received on a link's lane slot, its copy's path (hop latencies, and the fibre of the
  links before the last, whose delay this node measures) being `path` ps; resampler and alignment delay recomputed. -/
  | stampBlockRx (place : LanePlace) (block : BitVec 64) (path : Nat)
  /-- LANE_BLOCK_RX (R232): Lane sample block received, taken or added to and forwarded; its type nibble and its 60 other bits
  (R227). -/
  | laneBlockRx (l : ChainId) (lane : Fin 96) (typ : BitVec 4) (data : BitVec 60)
  /-- LANE_DESCRIPTOR_CHANGE (R236): Member reacts to descriptor 0x2 or 0x3 of its lane. -/
  | laneDescriptorChange (place : LanePlace) (code : BitVec 4)
  /-- LANE_LOST (R236): No copy of a lane arrives and the member is muted. -/
  | laneLost (slot : SlotId)
  /-- LANE_RESTORE (R236): 1 ms after stamp and valid descriptors return the member unmutes. -/
  | laneRestore (slot : SlotId)
  /-- GATE_WINDOW (R242): Noise-funnel gate window ends and opens or closes the gate. -/
  | gateWindow (slot : SlotId) (power : Level)
  /-- TIME_SYNC_RX (R252): SYNC block received and timestamped. -/
  | timeSyncRx (l : ChainId) (frame : BitVec 16) (block : BitVec 64) (arrival : Nat)
  /-- TIME_ECHO_RX (R253): ECHO completes an exchange; delay and offset computed and servo steers. -/
  | timeEchoRx (l : ChainId) (block : BitVec 64) (t1 : Nat)
  /-- TIME_INFO_RX (R252): INFO block delivers state, TRACE, hop count and TAI offset. -/
  | timeInfoRx (l : ChainId) (block : BitVec 64)
  /-- TSU_SET (R249): Warden write queues a fabric time step at the head. -/
  | tsuSet (t : TaskId) (v : Word)
  /-- TSU_SET_APPLY (R249): At the next whole second the queued time is applied. -/
  | tsuSetApply
  /-- TSU_LOCKED (R250): Offset within 20 ns for 10 s makes TSU LOCKED. -/
  | tsuLocked
  /-- TSU_UNLOCK (R251): Offset beyond 100 ns for 1 s returns TSU to ACQUIRE. -/
  | tsuUnlock
  /-- TSU_SOURCE_LOST (R259): Loss of source puts a LOCKED node into HOLDOVER. -/
  | tsuSourceLost
  /-- PDELAY_REQ_RX (R262): Pdelay_Req on TAP answered and link delay measured. -/
  | pdelayReqRx (seq : BitVec 16) (linkDelay : Nat)
  /-- PTP_EVENT_RX (R262): PTP event message crosses the fabric with correctionField updated. -/
  | ptpEventRx (m : PtpEvent)
  /-- PTP_ANNOUNCE_RX (R263): Announce considered by the best master clock algorithm. -/
  | ptpAnnounceRx (a : PtpAnnounce)
  /-- GRANDMASTER_LOSS (R263): No grandmaster for 3 Announce intervals is loss of source. -/
  | grandmasterLoss
  /-- PTP_MASTER_SEND (R264): With PTPM the node sends its own Announce and Sync. -/
  | ptpMasterSend
  /-- PPS_IN_EDGE (R265): PPS_IN rising edge timestamped and used or ignored. -/
  | ppsInEdge (instant : Nat)
  /-- PPS_IN_MISSING (R265): Expected PPS edge missing; three in a row is loss of source. -/
  | ppsInMissing
  /-- PPS_OUT_SECOND (R266): PPS_OUT rises at each whole second. -/
  | ppsOutSecond
  /-- PPS_OUT_FALL (R266): PPS_OUT falls after PPSW ms. -/
  | ppsOutFall
  /-- HOST_SNAPSHOT_READ (R272): Read of a wide register's lowest word captures its snapshot. -/
  | hostSnapshotRead (addr : BitVec 14)
  /-- HOST_UNMAPPED_ACCESS (R411): Access to an unmapped address returns zero and counts in HPI_VIOL. -/
  | hostUnmappedAccess (addr : BitVec 14) (write : Bool)
  /-- HPI_VIOL_READ (R424): Read of HPI_VIOL returns and clears the count. -/
  | hpiViolRead
  /-- HOST_WRITE (R410): Posted host write latched and queued, or discarded when full. -/
  | hostWrite (addr : BitVec 14) (data : BitVec 16)
  /-- HOST_WRITE_APPLY (R410): Queued host write takes effect in its destination domain. -/
  | hostWriteApply
  /-- MBX_IGO (R413): Host hands the inbound slot to the engine. -/
  | mbxIgo
  /-- INBOUND_PLACE (R413): Held inbound message placed in its mailbox or discarded; slot returned. -/
  | inboundPlace
  /-- OUTBOUND_READY (R414): Engine moves the oldest host-bound message into the outbound slot. -/
  | outboundReady
  /-- MBX_ODONE (R414): Host returns the outbound slot. -/
  | mbxOdone
  /-- APR_FILL (R417): Copies lines from global memory into the aperture buffer. -/
  | aprFill (line cnt : Fin 128)
  /-- APR_FLUSH (R417): Copies aperture lines to global memory. -/
  | aprFlush (line cnt : Fin 128)
  /-- APR_COMMAND_END (R417): Aperture command ends; BUSY clears and APR interrupt sets. -/
  | aprCommandEnd (remote : List RemoteLine)
  /-- BOOT_GO (R420): Host starts verification of the staged image. -/
  | bootGo
  /-- FSW_STICKY_CLEAR (R465): Clearing STICKY clears GONE and resets the cuff. -/
  | fswStickyClear (mask : BitVec 20)
  /-- CUFF_READ (R464): Read of a cuff sets its SEEN. -/
  | cuffRead (sub : SubId)
  /-- KEEP_BUFFER_WRITE (R367): Keep write buffer entry written to the MRAM copy. -/
  | keepBufferWrite
  /-- HEAT_DECAY (R369): Every 10 ms page heat halves and placement is reviewed. -/
  | heatDecay
  /-- PAGE_MIGRATE (R370): Pager copies a page between tiers and switches over. -/
  | pageMigrate (part : PartId) (va : BitVec 48) (tier : BitVec 2)
  /-- REPLICA_REQUEST (R372): Remote read heat 256 requests a replica, at the requesting node and at the home. -/
  | replicaRequest (node : NodeId) (ref : Word) (data : PageImage)
  /-- REPLICA_DISCARD_RX (R373): Holder discards a replica and acknowledges. -/
  | replicaDiscardRx (ref : Word)
  /-- REPLICA_ACK_RX (R373): Home completes a store once every holder acknowledged. -/
  | replicaAckRx (node : NodeId) (ref : Word)
  /-- PATROL_SCRUB (R380): Scrub reads, corrects and rewrites frames; retires or poisons. -/
  | patrolScrub (part : PartId) (va : BitVec 48) (read : ScrubRead)
  /-- BAND4_EVICT (R378): In band 4 non-keep pages move from DRAM to MRAM. -/
  | band4Evict
  /-- PART_CREATE (R388): Creates an absent tenant partition with its grants. -/
  | partCreate (t : TaskId) (pnum : PartId)
  /-- PART_START (R388): Fences instructions and spawns the partition's first task. -/
  | partStart (t : TaskId) (pnum : PartId)
  /-- PART_RESET (R401): Runs the partition reset sequence. -/
  | partReset (t : TaskId) (pnum : PartId)
  /-- PART_DESTROY (R401): Runs the reset sequence then makes the partition absent. -/
  | partDestroy (t : TaskId) (pnum : PartId)
  /-- PART_CLEAR (R388): Clears a partition's violation counter. -/
  | partClear (t : TaskId) (pnum : PartId)
  /-- PART_RELEASE (R388): Releases keep pages of an absent partition number. -/
  | partRelease (t : TaskId) (pnum : PartId)
  /-- PART_RESET_COMPLETE (R401): Reset sequence frees channels and resources and clears BUSY. -/
  | partResetComplete (part : PartId)
  /-- PART_RESET_NOTICE_RX (R402): Home receives a reset notice and discards older-generation requests. -/
  | partResetNoticeRx (node : NodeId) (part : PartId) (gen : Byte)
  /-- PART_GRANT_WRITE (R389): Grant word write accepted whole or refused with QERR. -/
  | partGrantWrite (t : TaskId) (word : Fin 3) (v : Word)
  /-- PART_ALLOC (R391): Warden allocates pages for a selected partition. -/
  | partAlloc (t : TaskId) (v : Word)
  /-- SCHED_WINDOW_START (R393): Every 100 µs contexts are bound and credits granted. -/
  | schedWindowStart
  /-- CREDIT_EXHAUSTED (R395): Partition credit reaches zero and its tasks are taken off. -/
  | creditExhausted (part : PartId)
  /-- TASK_TIMESLICE (R394): Task run 10 µs with another READY returns to the queue. -/
  | taskTimeslice (t : TaskId)
  /-- WORKER_CORE_FAULT (R285): Worker core fault ends its tasks and HSC withdraws it. -/
  | workerCoreFault (core : CoreId)
  /-- WARDEN_STOP (R284): Lockstep mismatch or halt stops the Warden pair and enters WATCH. -/
  | wardenStop (halted : Bool)
  /-- WARDEN_RESTART (R284): Warden pair restarts P0 in WATCH. -/
  | wardenRestart
  /-- MODE_TRANSITION (R429): Requested or hardware mode change takes effect and held instructions run. -/
  | modeTransition
  /-- DOZE_ENTER (R437): Power manager enters DOZE when conditions hold. -/
  | dozeEnter
  /-- HIBERNATE_ENTER (R437): Power manager enters HIBERNATE from DOZE. -/
  | hibernateEnter
  /-- DOZE_EXIT (R439): Exit from DOZE or HIBERNATE toward BASE. -/
  | dozeExit
  /-- HIBERNATE_WAKE (R439): HIBERNATE returns to DOZE ahead of a known or unannounced event. -/
  | hibernateWake
  /-- WAKE_EDGE (R436): Rising edge on WAKE. -/
  | wakeEdge
  /-- PWR_TIMER_EXPIRE (R456): SW.PWR_TMR time reached ends DOZE or HIBERNATE. -/
  | pwrTimerExpire
  /-- LEAD_TIME_RECOMPUTE (R434): Lead time recomputed on change or every 10 µs. -/
  | leadTimeRecompute
  /-- CORE_IDLE_ENTER (R435): Idle worker core enters the deepest permitted depth. -/
  | coreIdleEnter (core : CoreId)
  /-- CORE_IDLE_EXIT (R435): Core exit started one exit latency ahead of a known event. -/
  | coreIdleExit (core : CoreId)
  /-- FEED_LOST (R441): Loss of one feed sets FLOST and records it. -/
  | feedLost (feed : Bool)
  /-- FEED_OVERVOLTAGE (R506): Feed at 66 V or more disconnected. -/
  | feedOvervoltage (feed : Bool)
  /-- FEED_RECONNECT (R506): Feed at 64 V or less for 10 ms reconnects. -/
  | feedReconnect (feed : Bool)
  /-- POWER_FAIL_WARNING (R443): Combined feed below 33 V runs the power-loss sequence. -/
  | powerFailWarning (feed : BitVec 12)
  /-- POWER_LOSS_COMPLETE (R443): Cores, DRAM, links stopped and engine held in RESET. -/
  | powerLossComplete
  /-- FEED_RESTORED (R443): Feed at 36 V for 10 ms after the sequence leaves RESET to boot. -/
  | feedRestored (bootsel : BitVec 2)
  /-- HOLDUP_EXHAUSTED (R429): Hold-up store exhausted; engine reaches OFF. -/
  | holdupExhausted
  /-- FEED_POWER_ON (R429): Combined feed at or above 36 V from OFF enters RESET. -/
  | feedPowerOn
  /-- RST_ASSERT (R431): RST_N low 1 µs enters RESET and discards state. -/
  | rstAssert
  /-- RST_RELEASE (R490): RST_N high with power good enters BOOT and samples BOOTSEL. -/
  | rstRelease (bootsel : BitVec 2)
  /-- POWER_GOOD (R490): Rails within tolerance and reference running. -/
  | powerGood (bootsel : BitVec 2) (hvsel : Bool)
  /-- IMAGE_VERIFIED (R492): Boot image verified; P0 starts at ENTRY in QUIET. -/
  | imageVerified
  /-- CHAIN_IMAGE_RECEIVED (R494): Image relayed from the parent fully received and run. -/
  | chainImageReceived (image : List Byte)
  /-- HKA_ROUND_TRIGGER (R453): 10 ms round trigger starts or latches a scan. -/
  | hkaRoundTrigger
  /-- HKA_TRIG (R454): Warden triggers a scan through SW.HKA_CFG.TRIG. -/
  | hkaTrig (t : TaskId)
  /-- HKA_CONVERSION_END (R454): One input converted and its result updated. -/
  | hkaConversionEnd (input : HkaId) (value : BitVec 12) (connected : Bool)
  /-- HKA_SCAN_END (R445): Scan ends; round thermal checks, throttle, band and halt evaluated. -/
  | hkaScanEnd
  /-- HOUSEKEEPING_RECORD (R455): Every HKR rounds a housekeeping record is written. -/
  | housekeepingRecord
  /-- ERROR_LINE_RISE (R463): Subsystem error line rises; STICKY and cuff update. -/
  | errorLineRise (sub : SubId) (kind : Byte)
  /-- ERROR_LINE_FALL (R463): Error line falls; GONE evaluated. -/
  | errorLineFall (sub : SubId)
  /-- FAULT_MSG_RX (R470): Head places a received fault message and records it. -/
  | faultMsgRx (m : BitVec 128)
  /-- SEVERITY_WINDOW_EXPIRE (R472): Window passes with no event and the source stops being severe. -/
  | severityWindowExpire (src : Nat)
  /-- EVENT_RECORD_COMMIT (R477): Queued event record written to MRAM. -/
  | eventRecordCommit
  /-- TOKEN_REFILL (R478): Every 125 ms an event code's bucket gains a token. -/
  | tokenRefill (code : BitVec 16)
  /-- OPTIME_SAVE (R475): Operating time saved to MRAM every second. -/
  | optimeSave
  /-- BUSHEL_DUMP (R484): Counters captured and a bushel written to the ring. -/
  | bushelDump
  /-- PERF_SAMPLE (R487): PERIOD-th core event writes a sample to the partition ring. -/
  | perfSample (t : TaskId) (pc : Word)
  /-- OBS_SAMP_ENABLE (R488): Writing EN zeroes SNEXT and DROP and starts sampling. -/
  | obsSampEnable (t : TaskId) (v : Word)
  /-- OBS_FCLR (R481): Warden clears STICKY bits through the system word. -/
  | obsFclr (t : TaskId) (v : Word)
  /-- OBS_EMIT (R481): Program writes an event record in the program range. -/
  | obsEmit (t : TaskId) (v : Word)
  /-- OBS_PCLR (R476): Warden clears the permanent area. -/
  | obsPclr (t : TaskId)
  /-- OBS_RDATA_READ (R481): Reads 8 bytes of the selected record and advances PTR. -/
  | obsRdataRead (t : TaskId) (gd : Reg)
  /-- GLC_TABLE_SWAP (R136): Write of SWAP schedules a level or brim table swap. -/
  | glcTableSwap (t : TaskId) (v : Word)
  /-- GLC_ESET (R135): Write with ESET sets the shadow ERES of the selected table. -/
  | glcEset (t : TaskId) (v : Word)
  /-- GLC_TDATA_WRITE (R135): Stores a table entry at PTR and advances PTR. -/
  | glcTdataWrite (t : TaskId) (v : Word)
  /-- GLC_TDATA_READ (R135): Reads a shadow entry at PTR and advances PTR. -/
  | glcTdataRead (t : TaskId) (gd : Reg)
  /-- FBC_TABLE_SWAP (R147): Write of SWAP schedules a step table swap. -/
  | fbcTableSwap (t : TaskId) (v : Word)
  /-- FBC_TDATA_WRITE (R147): Stores a step table entry and advances PTR. -/
  | fbcTdataWrite (t : TaskId) (v : Word)
  /-- FBC_TDATA_READ (R147): Reads a step table entry and advances PTR. -/
  | fbcTdataRead (t : TaskId) (gd : Reg)
  /-- FBC_TAPD_WRITE (R153): Writes a canceller tap and advances PTR. -/
  | fbcTapdWrite (t : TaskId) (v : Word)
  /-- FBC_TAPD_READ (R152): Reads a canceller tap whole and advances PTR. -/
  | fbcTapdRead (t : TaskId) (gd : Reg)
  /-- CH_FIND_READ (R500): Returns the handle bits of a slot the partition owns. -/
  | chFindRead (t : TaskId) (gd : Reg)
  /-- WRIMG (R496): Verifies the staged image and copies it to the idle slot. -/
  | wrimg (t : TaskId)
  /-- WRCHT (R496): Copies the staged charter into the slot not in force. -/
  | wrcht (t : TaskId)
  /-- ACTCHT (R183): Requests activation of the charter slot not in force. -/
  | actcht (t : TaskId)
  /-- CHARTER_ACTIVATE (R183): Verified charter comes into force; uncovered channels fenced. -/
  | charterActivate
  /-- RESTART (R499): Verifies the other slot and restarts the cores from it in WATCH. -/
  | restart (t : TaskId)
  /-- CONFIRM (R496): Ends the trial and raises the confirmed version. -/
  | confirm (t : TaskId)
  /-- FUSE (R496): Fuses the key hash of the staged image or charter. -/
  | fuse (t : TaskId)
  /-- SLOT_OP_COMPLETE (R496): Slot operation finishes; BUSY clears and RES set. -/
  | slotOpComplete
  /-- ISOLATE_CALIBRATION_END (R497): 2 s transmit calibration ends; queued probes and held RELAY proceed. -/
  | isolateCalibrationEnd
  /-- PERSONALITY_SEND (R501): Personality replica sent to neighbours and head after a change. -/
  | personalitySend
  /-- PERSONALITY_OFFER_RX (R502): Unconfigured node adopts an offered replica and starts an election. -/
  | personalityOfferRx (o : ReplicaOffer)
  /-- PORT_TRANSITION_COMPLETE (R37): A port's timed transition such as OFF to STANDBY (180–250 µs) or STANDBY to RX (8–12 µs) completes and the new state reads back. -/
  | portTransitionComplete (port : PortId)
  /-- FEED_RECOVERY (R441): A lost feed returns to 36 V or more and its FA or FB bit reads 1 again. -/
  | feedRecovery (feed : Bool)
  /-- HOLD_UP_CHARGED (R442): The hold-up store reaches its rated energy within 2 s of power good and HOLD sets. -/
  | holdUpCharged
  /-- CORE_SYNTH_LOCK_FAIL (R523): The core synthesiser fails to lock within t2 of R75 and raises SYN fault kind 0x1A. -/
  | coreSynthLockFail
  /-- MODEL_PARITY_ERROR (R523): A parity error in canceller model or tap memory clears the channel's model and raises FBC kind 0x38. -/
  | modelParityError (slot : SlotId)
  /-- PARENT_ANNOUNCE_RX (R204): A neighbour's parent announcement in block 2 is received, telling the node whether that neighbour named it as parent. -/
  | parentAnnounceRx (l : ChainId) (named : Bool)
  /-- CHAIN_IMAGE_REQUEST_RX (R494): A parent receives a child's image request in block 3 and starts fetching and relaying the head's image. -/
  | chainImageRequestRx (l : ChainId)
  /-- SILENCED_COUNT_EXPIRE (R179): A SILENCED entry passes out of the 24-hour operating-time window, lowering SILN and the next hold-off. -/
  | silencedCountExpire
  /-- TEST_ACCESS_PORT_CLOCK (R512): A TCK edge advances the IEEE 1149.1 test access port, which runs BYPASS, IDCODE, SAMPLE/PRELOAD or EXTEST on the boundary register. -/
  | testAccessPortClock (tms tdi trst : Bool)
  deriving DecidableEq, Repr

end Sys2Proof
end

