-- ==== Sys2Proof/WellFormed.lean ====
section
/-! DEFINITION. Which commands the outside can send: the bounds between operand fields that their types do not
carry. Register numbers, ports, slots, links and field widths are bounded by their types (R305). -/

namespace Sys2Proof

/-- The number fits a signed word of `n` bits. -/
def fitsWord (n : Nat) (x : Int) : Bool := decide (-2 ^ (n - 1) ≤ x) && decide (x < 2 ^ (n - 1))

/-- The operands of a command stand in the relations the manual gives: no more saturated words than words (R166),
accumulators of 48 bits and synthesis sums of 24 (R100),
at most 48 taps (R141), an autocorrelation of at most 1 (R166), 1 to 56 payload bytes as LEN says (R213), an
access of 1, 2, 4 or 8 aligned bytes (R321), no address for an ID found twice (R206), 64-byte aperture lines (R417), an image of
at most 16 MiB (R492), a page of 4 KiB or 2 MiB (R360), one of three tiers (R358), a poisoned block within its page (R382), and no link direction named
twice by a lane request (R198). -/
def Instr.wf : Instr → Bool
  | .addR _ _ _ _ => true
  | .subR _ _ _ _ => true
  | .adds _ _ _ _ => true
  | .subs _ _ _ _ => true
  | .addus _ _ _ _ => true
  | .subus _ _ _ _ => true
  | .mulR _ _ _ _ => true
  | .mulh _ _ _ _ => true
  | .mulhu _ _ _ _ => true
  | .divS _ _ _ _ => true
  | .divu _ _ _ _ => true
  | .remS _ _ _ _ => true
  | .remu _ _ _ _ => true
  | .minS _ _ _ _ => true
  | .maxS _ _ _ _ => true
  | .andR _ _ _ _ => true
  | .orR _ _ _ _ => true
  | .xorR _ _ _ _ => true
  | .andn _ _ _ _ => true
  | .slt _ _ _ _ => true
  | .sltu _ _ _ _ => true
  | .sll _ _ _ _ => true
  | .srl _ _ _ _ => true
  | .sra _ _ _ _ => true
  | .slli _ _ _ _ => true
  | .srli _ _ _ _ => true
  | .srai _ _ _ _ => true
  | .addW _ _ _ _ => true
  | .subW _ _ _ _ => true
  | .addsW _ _ _ _ => true
  | .subsW _ _ _ _ => true
  | .addusW _ _ _ _ => true
  | .subusW _ _ _ _ => true
  | .mulW _ _ _ _ => true
  | .divW _ _ _ _ => true
  | .divuW _ _ _ _ => true
  | .remW _ _ _ _ => true
  | .remuW _ _ _ _ => true
  | .sllW _ _ _ _ => true
  | .srlW _ _ _ _ => true
  | .sraW _ _ _ _ => true
  | .slliW _ _ _ _ => true
  | .srliW _ _ _ _ => true
  | .sraiW _ _ _ _ => true
  | .addi _ _ _ _ => true
  | .andi _ _ _ _ => true
  | .ori _ _ _ _ => true
  | .xori _ _ _ _ => true
  | .slti _ _ _ _ => true
  | .sltiu _ _ _ _ => true
  | .lui _ _ _ => true
  | .ihw2 _ _ _ _ => true
  | .addiW _ _ _ _ => true
  | .ihw3 _ _ _ _ => true
  | .ldB _ _ _ _ => true
  | .ldBu _ _ _ _ => true
  | .ldH _ _ _ _ => true
  | .ldHu _ _ _ _ => true
  | .ldW _ _ _ _ => true
  | .ldWu _ _ _ _ => true
  | .ldD _ _ _ _ => true
  | .stB _ _ _ _ => true
  | .stH _ _ _ _ => true
  | .stW _ _ _ _ => true
  | .stD _ _ _ _ => true
  | .gldB _ _ _ _ => true
  | .gldBu _ _ _ _ => true
  | .gldH _ _ _ _ => true
  | .gldHu _ _ _ _ => true
  | .gldW _ _ _ _ => true
  | .gldWu _ _ _ _ => true
  | .gldD _ _ _ _ => true
  | .gstB _ _ _ _ => true
  | .gstH _ _ _ _ => true
  | .gstW _ _ _ _ => true
  | .gstD _ _ _ _ => true
  | .aaddW _ _ _ _ => true
  | .aaddD _ _ _ _ => true
  | .aswapW _ _ _ _ => true
  | .aswapD _ _ _ _ => true
  | .acasW _ _ _ _ => true
  | .acasD _ _ _ _ => true
  | .beq _ _ _ _ => true
  | .bne _ _ _ _ => true
  | .blt _ _ _ _ => true
  | .bge _ _ _ _ => true
  | .bltu _ _ _ _ => true
  | .bgeu _ _ _ _ => true
  | .j _ _ => true
  | .jal _ _ => true
  | .jalr _ _ _ _ => true
  | .fenceL _ => true
  | .fenceG _ => true
  | .fenceI _ => true
  | .sysr _ _ _ => true
  | .sysw _ _ _ => true
  | .excRet _ => true
  | .chAlloc _ _ _ _ => true
  | .chAllocReturn _ => true
  | .chFree _ _ _ => true
  | .chFreeRelease _ => true
  | .chSet _ _ _ _ _ => true
  | .chGet _ _ _ _ _ => true
  | .chCommitCut _ _ _ => true
  | .chCommitFade _ _ _ => true
  | .commitLaneResult _ _ => true
  | .chMute _ _ _ => true
  | .chUnmute _ _ _ => true
  | .chArm _ _ _ => true
  | .chMeas _ _ _ _ => true
  | .chProbe _ _ _ _ => true
  | .portTune _ _ _ _ => true
  | .portSched _ _ _ _ => true
  | .allocP _ _ _ _ => true
  | .freeP _ _ _ _ => true
  | .keepP _ _ _ _ => true
  | .cntRd _ _ _ => true
  | .modeReq _ _ _ => true
  | .spawnT _ _ _ _ => true
  | .yieldT _ => true
  | .exitT _ _ => true
  | .joinT _ _ _ _ => true
  | .timeT _ _ => true
  | .waitUntil _ _ _ => true
  | .waitEv _ _ _ _ => true
  | .waitDeadlineExpire _ => true
  | .sendM _ _ _ _ => true
  | .recvM _ _ _ _ => true
  | .engineRoundBoundary ⟨_, cuts⟩ =>
    cuts.all fun c => (c.acc ++ c.old).all fun x => fitsWord 48 x.1 && fitsWord 48 x.2
  | .controlSampleBoundary _ m => decide (m.satWords ≤ m.words) && decide (0 < m.words)
  | .settlingComplete _ => true
  | .fadeEnd _ => true
  | .muteRampComplete _ => true
  | .fbcUpdateStep _ m => decide (m.grad.length ≤ 48)
  | .modelFreezeTimeout _ => true
  | .isolationRefresh _ _ => true
  | .probeBurstStart _ => true
  | .probeBurstEnd _ => true
  | .probeResult _ _ => true
  | .oscWindowEnd _ rho => decide (rho ≤ 1280)
  | .nriseEstimate _ _ => true
  | .dlossMute _ _ => true
  | .dlossUnmute _ _ => true
  | .aclrMeasure _ _ => true
  | .trimRelease _ => true
  | .silencedHoldoffEnd => true
  | .heldRearmEffect _ => true
  | .ngdSarmGo _ _ => true
  | .gntPowerCheck _ _ _ => true
  | .gntDutyCheck _ _ _ => true
  | .compositeLimitScale _ ⟨_, sums⟩ => sums.all fun x => fitsWord 24 x.1 && fitsWord 24 x.2
  | .compositeLimitRestore _ => true
  | .bankChangeComplete _ => true
  | .boosterKeyRise _ _ => true
  | .boosterEnFall _ => true
  | .tddSwitchPoint _ => true
  | .tddPeriodStart _ => true
  | .rfkillAssert => true
  | .rfkillRelease => true
  | .rfkillRestart => true
  | .boosterFault _ => true
  | .cnvAdaptUpdate _ _ _ => true
  | .adcClip _ => true
  | .clipcntRead _ => true
  | .txCalTrack _ _ _ => true
  | .portSynthLocked _ => true
  | .portRetuneComplete _ => true
  | .portSynthUnlock _ => true
  | .mainSynthUnlock => true
  | .mainSynthRelock => true
  | .synCorrectionApply _ _ => true
  | .refSyntonised => true
  | .coreFreqChange _ => true
  | .coreSynthLocked => true
  | .linkLightDetected _ => true
  | .linkUp _ => true
  | .linkDown _ => true
  | .linkLullEnter _ => true
  | .linkLullExit _ => true
  | .frameHeaderRx _ _ => true
  | .laneMapRequestRx q => decide q.dirs.Nodup
  | .laneMapChange _ _ _ map =>
    decide (map.length ≤ 96) && map.all fun x => decide (x.slot < 96) && decide (1 ≤ x.p) && decide (x.p ≤ 256)
      && decide (x.phase < x.p) && x.pos.all fun k => decide (10 ≤ k) && decide (k ≤ 111)
  | .electionStart => true
  | .fabElect _ _ => true
  | .proposalRx _ _ => true
  | .acceptRx _ a => decide (a.count ≤ 2048)
  | .acceptSend => true
  | .headAnnounce => true
  | .epochAnnounceRx _ a => decide (a.members &&& a.dups = 0)
  | .epochTake _ _ => true
  | .noProposalTimeout => true
  | .cellRx _ hdr b => decide (1 ≤ b.payload.length ∧ b.payload.length ≤ 56 ∧ hdr.toNat / 2 ^ 50 % 64 = b.payload.length)
  | .requestDeadlineExpire _ => true
  | .responseRx _ => true
  | .homeRequestRx ⟨q, _⟩ => (q.bytes = 1 || q.bytes = 2 || q.bytes = 4 || q.bytes = 8) && decide (q.ref.toNat % q.bytes = 0)
  | .faultReportHoldExpire => true
  | .tapFrameRx f => decide (f.payload.length ≤ f.len)
  | .macAgeing _ _ => true
  | .stampBlockRx _ _ _ => true
  | .laneBlockRx _ _ _ _ => true
  | .laneDescriptorChange _ _ => true
  | .laneLost _ => true
  | .laneRestore _ => true
  | .gateWindow _ _ => true
  | .timeSyncRx _ _ _ _ => true
  | .timeEchoRx _ _ _ => true
  | .timeInfoRx _ _ => true
  | .tsuSet _ _ => true
  | .tsuSetApply => true
  | .tsuLocked => true
  | .tsuUnlock => true
  | .tsuSourceLost => true
  | .pdelayReqRx _ _ => true
  | .ptpEventRx _ => true
  | .ptpAnnounceRx _ => true
  | .grandmasterLoss => true
  | .ptpMasterSend => true
  | .ppsInEdge _ => true
  | .ppsInMissing => true
  | .ppsOutSecond => true
  | .ppsOutFall => true
  | .hostSnapshotRead _ => true
  | .hostUnmappedAccess _ _ => true
  | .hpiViolRead => true
  | .hostWrite _ _ => true
  | .hostWriteApply => true
  | .mbxIgo => true
  | .inboundPlace => true
  | .outboundReady => true
  | .mbxOdone => true
  | .aprFill _ _ => true
  | .aprFlush _ _ => true
  | .aprCommandEnd ls => ls.all fun x => decide (x.bytes.length = 64)
  | .bootGo => true
  | .fswStickyClear _ => true
  | .cuffRead _ => true
  | .keepBufferWrite => true
  | .heatDecay => true
  | .pageMigrate _ _ tier => decide (tier ≠ 3)
  | .replicaRequest _ _ data => decide (data.bytes.length = 4096 ∨ data.bytes.length = 0x200000) && data.bad.all fun b => decide (b * 32 < data.bytes.length)
  | .replicaDiscardRx _ => true
  | .replicaAckRx _ _ => true
  | .patrolScrub _ va _ => decide (va.toNat % 32 = 0)
  | .band4Evict => true
  | .partCreate _ _ => true
  | .partStart _ _ => true
  | .partReset _ _ => true
  | .partDestroy _ _ => true
  | .partClear _ _ => true
  | .partRelease _ _ => true
  | .partResetComplete _ => true
  | .partResetNoticeRx _ _ _ => true
  | .partGrantWrite _ _ _ => true
  | .partAlloc _ _ => true
  | .schedWindowStart => true
  | .creditExhausted _ => true
  | .taskTimeslice _ => true
  | .workerCoreFault _ => true
  | .wardenStop _ => true
  | .wardenRestart => true
  | .modeTransition => true
  | .dozeEnter => true
  | .hibernateEnter => true
  | .dozeExit => true
  | .hibernateWake => true
  | .wakeEdge => true
  | .pwrTimerExpire => true
  | .leadTimeRecompute => true
  | .coreIdleEnter _ => true
  | .coreIdleExit _ => true
  | .feedLost _ => true
  | .feedOvervoltage _ => true
  | .feedReconnect _ => true
  | .powerFailWarning _ => true
  | .powerLossComplete => true
  | .feedRestored _ => true
  | .holdupExhausted => true
  | .feedPowerOn => true
  | .rstAssert => true
  | .rstRelease _ => true
  | .powerGood _ _ => true
  | .imageVerified => true
  | .chainImageReceived image => decide (image.length ≤ 16777216)
  | .hkaRoundTrigger => true
  | .hkaTrig _ => true
  | .hkaConversionEnd _ _ _ => true
  | .hkaScanEnd => true
  | .housekeepingRecord => true
  | .errorLineRise _ _ => true
  | .errorLineFall _ => true
  | .faultMsgRx _ => true
  | .severityWindowExpire _ => true
  | .eventRecordCommit => true
  | .tokenRefill _ => true
  | .optimeSave => true
  | .bushelDump => true
  | .perfSample _ _ => true
  | .obsSampEnable _ _ => true
  | .obsFclr _ _ => true
  | .obsEmit _ _ => true
  | .obsPclr _ => true
  | .obsRdataRead _ _ => true
  | .glcTableSwap _ _ => true
  | .glcEset _ _ => true
  | .glcTdataWrite _ _ => true
  | .glcTdataRead _ _ => true
  | .fbcTableSwap _ _ => true
  | .fbcTdataWrite _ _ => true
  | .fbcTdataRead _ _ => true
  | .fbcTapdWrite _ _ => true
  | .fbcTapdRead _ _ => true
  | .chFindRead _ _ => true
  | .wrimg _ => true
  | .wrcht _ => true
  | .actcht _ => true
  | .charterActivate => true
  | .restart _ => true
  | .confirm _ => true
  | .fuse _ => true
  | .slotOpComplete => true
  | .isolateCalibrationEnd => true
  | .personalitySend => true
  | .personalityOfferRx _ => true
  | .portTransitionComplete _ => true
  | .feedRecovery _ => true
  | .holdUpCharged => true
  | .coreSynthLockFail => true
  | .modelParityError _ => true
  | .parentAnnounceRx _ _ => true
  | .chainImageRequestRx _ => true
  | .silencedCountExpire => true
  | .testAccessPortClock _ _ _ => true

end Sys2Proof
end

