-- ==== Sys2Proof/Decode.lean ====
section
/-! DEFINITION. The encodings of the Ranpimo instructions (R305 to R308): the fields of the six formats, the major
opcode map, and the command that a task issues when it executes a word. -/

namespace Sys2Proof

/-- Bits [hi:lo] of an instruction word. -/
def wordBits (w hi lo : Nat) : Nat := w / 2 ^ lo % 2 ^ (hi + 1 - lo)

/-- The register number in the five bits from `lo` on: gd or B's ga at 21, ga or B's gb at 16, gb at 11 (R305). -/
def regField (w lo : Nat) : Reg := ⟨w / 2 ^ lo % 32, Nat.mod_lt _ (by decide)⟩

/-- The major opcode [31:26] (R305). -/
def opField (w : Nat) : Nat := wordBits w 31 26

/-- imm16 of format I and off16 of format B, [15:0] (R305). -/
def imm16Field (w : Nat) : BitVec 16 := BitVec.ofNat 16 w

/-- off26 of format J, [25:0] (R305). -/
def off26Field (w : Nat) : BitVec 26 := BitVec.ofNat 26 w

/-- fn of formats A and S, [10:0] (R305). -/
def fnField (w : Nat) : Nat := wordBits w 10 0

/-- func: fn[4:0] of the ALU and atomic groups (R309, R323). -/
def funcField (w : Nat) : Nat := wordBits w 4 0

/-- The shift field fn[10:5] (R309). -/
def shiftField (w : Nat) : Fin 64 := ⟨w / 2 ^ 5 % 64, Nat.mod_lt _ (by decide)⟩

/-- sub of format C, [10:6] (R305). -/
def subField (w : Nat) : Nat := wordBits w 10 6

/-- chan-field of format C, [5:0] (R305). -/
def chanField (w : Nat) : Nat := wordBits w 5 0

/-- `i` where the fields that must be zero are (R307). -/
def whenZero (zero : Bool) (i : Instr) : Option Instr := if zero then some i else none

/-- Applies a format A row to the word's registers. -/
def formA (t : TaskId) (w : Nat) (f : TaskId → Reg → Reg → Reg → Instr) : Instr :=
  f t (regField w 21) (regField w 16) (regField w 11)

/-- Applies a format I row to the word's registers and immediate. -/
def formI (t : TaskId) (w : Nat) (f : TaskId → Reg → Reg → BitVec 16 → Instr) : Instr :=
  f t (regField w 21) (regField w 16) (imm16Field w)

/-- The register-register rows of the 64-bit ALU group (R309). -/
def aluRow (func : Nat) : Option (TaskId → Reg → Reg → Reg → Instr) :=
  match func with
  | 0x00 => some .addR
  | 0x01 => some .subR
  | 0x02 => some .adds
  | 0x03 => some .subs
  | 0x04 => some .addus
  | 0x05 => some .subus
  | 0x06 => some .mulR
  | 0x07 => some .mulh
  | 0x08 => some .mulhu
  | 0x09 => some .divS
  | 0x0A => some .divu
  | 0x0B => some .remS
  | 0x0C => some .remu
  | 0x0D => some .minS
  | 0x0E => some .maxS
  | 0x10 => some .andR
  | 0x11 => some .orR
  | 0x12 => some .xorR
  | 0x13 => some .andn
  | 0x14 => some .slt
  | 0x15 => some .sltu
  | 0x16 => some .sll
  | 0x17 => some .srl
  | 0x18 => some .sra
  | _ => none

/-- The register-register rows of the 32-bit ALU group (R309). -/
def aluWRow (func : Nat) : Option (TaskId → Reg → Reg → Reg → Instr) :=
  match func with
  | 0x00 => some .addW
  | 0x01 => some .subW
  | 0x02 => some .addsW
  | 0x03 => some .subsW
  | 0x04 => some .addusW
  | 0x05 => some .subusW
  | 0x06 => some .mulW
  | 0x09 => some .divW
  | 0x0A => some .divuW
  | 0x0B => some .remW
  | 0x0C => some .remuW
  | 0x16 => some .sllW
  | 0x17 => some .srlW
  | 0x18 => some .sraW
  | _ => none

/-- The immediate shifts of the 64-bit group (R309). -/
def shiftRow (func : Nat) : Option (TaskId → Reg → Reg → Fin 64 → Instr) :=
  match func with
  | 0x19 => some .slli
  | 0x1A => some .srli
  | 0x1B => some .srai
  | _ => none

/-- The immediate shifts of the 32-bit group (R309). -/
def shiftWRow (func : Nat) : Option (TaskId → Reg → Reg → Fin 32 → Instr) :=
  match func with
  | 0x19 => some .slliW
  | 0x1A => some .srliW
  | 0x1B => some .sraiW
  | _ => none

/-- The ALU group, op 0x01 (R309): gb is zero in an immediate shift, the shift field in everything else. -/
def decodeAlu (t : TaskId) (w : Nat) : Option Instr :=
  match shiftRow (funcField w) with
  | some f => whenZero (regField w 11 == 0) (f t (regField w 21) (regField w 16) (shiftField w))
  | none => (aluRow (funcField w)).bind fun f => whenZero (shiftField w == 0) (formA t w f)

/-- The ALU 32-bit group, op 0x02 (R309): bit 5 of the shift field is zero too. -/
def decodeAluW (t : TaskId) (w : Nat) : Option Instr :=
  match shiftWRow (funcField w) with
  | some f => whenZero (regField w 11 == 0 && wordBits w 10 10 == 0)
      (f t (regField w 21) (regField w 16) ⟨(shiftField w).val % 32, Nat.mod_lt _ (by decide)⟩)
  | none => (aluWRow (funcField w)).bind fun f => whenZero (shiftField w == 0) (formA t w f)

/-- The rows of format I by their opcode: immediates, local and global loads and stores, jalr (R312, R314, R317, R320);
lui has a form of its own. -/
def immRow (op : Nat) : Option (TaskId → Reg → Reg → BitVec 16 → Instr) :=
  match op with
  | 0x04 => some .addi
  | 0x05 => some .andi
  | 0x06 => some .ori
  | 0x07 => some .xori
  | 0x08 => some .slti
  | 0x09 => some .sltiu
  | 0x0B => some .ihw2
  | 0x0C => some .addiW
  | 0x0D => some .ihw3
  | 0x10 => some .ldB
  | 0x11 => some .ldBu
  | 0x12 => some .ldH
  | 0x13 => some .ldHu
  | 0x14 => some .ldW
  | 0x15 => some .ldWu
  | 0x16 => some .ldD
  | 0x18 => some .stB
  | 0x19 => some .stH
  | 0x1A => some .stW
  | 0x1B => some .stD
  | 0x20 => some .gldB
  | 0x21 => some .gldBu
  | 0x22 => some .gldH
  | 0x23 => some .gldHu
  | 0x24 => some .gldW
  | 0x25 => some .gldWu
  | 0x26 => some .gldD
  | 0x28 => some .gstB
  | 0x29 => some .gstH
  | 0x2A => some .gstW
  | 0x2B => some .gstD
  | 0x3A => some .jalr
  | _ => none

/-- The atomic rows (R323). -/
def atomicRow (func : Nat) : Option (TaskId → Reg → Reg → Reg → Instr) :=
  match func with
  | 0x00 => some .aaddW
  | 0x01 => some .aaddD
  | 0x02 => some .aswapW
  | 0x03 => some .aswapD
  | 0x04 => some .acasW
  | 0x05 => some .acasD
  | _ => none

/-- The branch rows of format B by their opcode (R314). -/
def branchRow (op : Nat) : Option (TaskId → Reg → Reg → BitVec 16 → Instr) :=
  match op with
  | 0x30 => some .beq
  | 0x31 => some .bne
  | 0x32 => some .blt
  | 0x33 => some .bge
  | 0x34 => some .bltu
  | 0x35 => some .bgeu
  | _ => none

/-- The system group, op 0x3E (R329): gb is zero throughout, gd and ga in the fences. -/
def decodeSystem (t : TaskId) (w : Nat) : Option Instr :=
  let gd := regField w 21
  let ga := regField w 16
  let noGb := regField w 11 == 0
  match fnField w with
  | 0x001 => whenZero (noGb && gd == 0 && ga == 0) (.fenceL t)
  | 0x002 => whenZero (noGb && gd == 0 && ga == 0) (.fenceG t)
  | 0x003 => whenZero (noGb && gd == 0 && ga == 0) (.fenceI t)
  | 0x010 => whenZero noGb (.sysr t gd ga)
  | 0x011 => whenZero noGb (.sysw t gd ga)
  | _ => none

/-- The channel group, op 0x3C (R335): the unused bits of chan-field and gb are zero (R334). -/
def decodeChannel (t : TaskId) (w : Nat) : Option Instr :=
  let gd := regField w 21
  let ga := regField w 16
  let gb := regField w 11
  let c := chanField w
  match subField w with
  | 0x00 => whenZero (c == 0) (.chAlloc t gd ga gb)
  | 0x01 => whenZero (c == 0 && gb == 0) (.chFree t gd ga)
  | 0x02 => some (.chSet t gd ga gb (BitVec.ofNat 6 c))
  | 0x03 => some (.chGet t gd ga gb (BitVec.ofNat 6 c))
  | 0x04 => whenZero (c / 2 == 0 && gb == 0) (if c == 0 then .chCommitCut t gd ga else .chCommitFade t gd ga)
  | 0x05 => whenZero (c / 2 == 0 && gb == 0) (if c == 0 then .chUnmute t gd ga else .chMute t gd ga)
  | 0x06 => whenZero (c == 0 && gb == 0) (.chArm t gd ga)
  | 0x07 => whenZero (c == 0) (.chMeas t gd ga gb)
  | 0x08 => whenZero (c / 16 == 0 && gb == 0) (.chProbe t gd ga ⟨c % 16, Nat.mod_lt _ (by decide)⟩)
  | _ => none

/-- Device group 1, op 0x3B: ports, allocation, counters and mode (R346, R349 to R351). -/
def decodeDevice1 (t : TaskId) (w : Nat) : Option Instr :=
  let noGb := regField w 11 == 0
  match fnField w with
  | 0x001 => some (formA t w .portTune)
  | 0x002 => some (formA t w .portSched)
  | 0x010 => some (formA t w .allocP)
  | 0x011 => some (formA t w .freeP)
  | 0x012 => some (formA t w .keepP)
  | 0x020 => whenZero noGb (.cntRd t (regField w 21) (regField w 16))
  | 0x030 => whenZero noGb (.modeReq t (regField w 21) (regField w 16))
  | _ => none

/-- Device group 2, op 0x3D: tasks, time and messages (R352, R353, R355, R356). -/
def decodeDevice2 (t : TaskId) (w : Nat) : Option Instr :=
  let gd := regField w 21
  let ga := regField w 16
  let gb := regField w 11
  match fnField w with
  | 0x001 => some (.spawnT t gd ga gb)
  | 0x002 => whenZero (gd == 0 && ga == 0 && gb == 0) (.yieldT t)
  | 0x003 => whenZero (gd == 0 && gb == 0) (.exitT t ga)
  | 0x004 => some (.joinT t gd ga gb)
  | 0x010 => whenZero (ga == 0 && gb == 0) (.timeT t gd)
  | 0x011 => whenZero (gb == 0) (.waitUntil t gd ga)
  | 0x012 => some (.waitEv t gd ga gb)
  | 0x020 => some (.sendM t gd ga gb)
  | 0x021 => some (.recvM t gd ga gb)
  | _ => none

/-- The instruction that the word `w` is for task `t`, by the major opcode map (R308); none where the encoding is
reserved (R307), the all-zero word among them. -/
def decodeWord (t : TaskId) (w : Nat) : Option Instr :=
  match opField w with
  | 0x01 => decodeAlu t w
  | 0x02 => decodeAluW t w
  | 0x0A => whenZero (regField w 16 == 0) (.lui t (regField w 21) (imm16Field w))
  | 0x2C => (atomicRow (funcField w)).bind fun f => whenZero (shiftField w == 0) (formA t w f)
  | 0x38 => some (.j t (off26Field w))
  | 0x39 => some (.jal t (off26Field w))
  | 0x3B => decodeDevice1 t w
  | 0x3C => decodeChannel t w
  | 0x3D => decodeDevice2 t w
  | 0x3E => decodeSystem t w
  | op =>
    match branchRow op with
    | some f => some (formI t w f)
    | none => (immRow op).map (formI t w)

/-- The command that the word `w` of `nbits` bits spells. The opcode table gives no row any bits; a 32-bit word is a
Ranpimo instruction (R305), here of task 0, since a word names no task (log 6). -/
def decodeTableWord (nbits w : Nat) : Option Instr :=
  if nbits = 32 then decodeWord 0 (w % 2 ^ 32) else none

end Sys2Proof
end

