-- ==== Sys2Proof/Config.lean ====
section
/-! DEFINITION. What one unit or its surroundings fix and the manual does not state: free values. Every constant
here is opaque (it has no body), so no proof can see a value of it, and a claim holds whatever it is. -/

namespace Sys2Proof.Config

/-- The k-th free word: the outcome of a case the manual leaves undefined (R301, R302). Applied to the plain
counter `State.free`, which every use advances. -/
opaque freeWord : Nat → Word

/-- The bytes an undefined case 4 of R301 may write in the issuing partition's own memory: virtual addresses
and values, applied to the free counter (R321). -/
opaque freeWrites : Nat → List (Nat × Byte)

/-- The module's unique 64-bit serial (R182, R203, R492). -/
opaque serial : BitVec 64

/-- 10 log10 of a positive count, in 1/1280 dB; the manual states no rounding of it (R155, R157, R159). -/
opaque tenLog10 : Nat → Level

/-- A receive port's calibrated noise figure in 1/1280 dB at a channel centre in units of 491.52 MHz / 2^32 (R155). -/
opaque noiseFigure : PortId → Nat → Level

/-- 10 log10 of a summed tap power in units of 2^-48, in 1/1280 dB; the manual states no rounding of it (R159). -/
opaque tapPower : Nat → Level

/-- A sample word times a gain in 1/1280 dB: the manual gives neither the multiplier's word nor its rounding (R100, R126). -/
opaque gainWord : Level → Int → Int

/-- CNV's factory coefficient set of a port for the calibrated frequency nearest a receive LO in kHz (R65). -/
opaque factoryCoef : PortId → Nat → List Int

/-- A level in 1/1280 dB taken to 1/256 dB where it is no exact multiple: the manual states no rounding (R137,
R163, R192, R343). -/
opaque meas256 : Int → Int

/-- The increment of one canceller tap from the step size entry and the normalised gradient; the manual states
no rounding of the product (R146). -/
opaque nlmsStep : Nat → Int → Int

/-- The taps of a model seeded by resampling the old model to the new channel rate, old taps given in order;
the manual states no resampling filter (R161). -/
opaque resampleTap : List (Int × Int) → Nat → Nat → Nat → Int × Int

/-- Initial value of the header CRC-8 (R197 states its polynomial only). -/
opaque crc8Init : Byte

/-- Whether the header CRC-8 takes the most significant bit first (R197 does not say). -/
opaque crc8MsbFirst : Bool

/-- Where the head starts its search for free positions of a lane; the manual does not say which free positions
it takes (R230). -/
opaque laneSearchStart : Nat → Nat

/-- A quotient that is no whole number: the manual states no rounding of link delays and time offsets (R253). -/
opaque roundDiv : Int → Int → Int

/-- How far the servo of R255 moves fabric time at an exchange, in 2^-16 ns; applied to the free counter. -/
opaque servoStep : Nat → Nat

/-- Priority 1 and priority 2 of the node's own Announce; the manual gives neither (R264). -/
opaque ptpPriority : Fin 2 → Byte

/-- The clock accuracy and the variance of the node's own Announce; the manual gives neither (R264). -/
opaque ptpAccuracy : Byte × BitVec 16

/-- The node's PTP clock identity; the manual does not say how it is formed (R264). -/
opaque ptpIdentity : BitVec 64

/-- The Announce interval of the node's own Announce, in ED cycles; the manual does not give it (R264). -/
opaque ptpInterval : Nat

/-- The low byte of the event code of an event that the manual records without naming its code (R212, R447). -/
opaque eventCode : Nat → Byte

/-- One rail of a channel word at place 1 to 15 of the raised-cosine rise at the end of settling, a gate or a mute; the manual states
no rounding of the product (R97, R108, R127). -/
opaque riseWord : Nat → Int → Int

/-- One rail of a channel word while a mute, a fence or a free brings the output to zero: the manual states how long that takes and
no shape (R108). Applied to the samples since the fall began. -/
opaque fallWord : Nat → Int → Int

/-- One rail of a fade at place `n` of `len`, of the old and the new filter's words: the manual states no rounding (R103). -/
opaque fadeWord : Nat → Nat → Int → Int → Int

/-- One rail out of the fractional resampler at a rate ratio, in ns and samples, and a fractional delay in 1/65,536 of a sample, of
the words that have come, newest first: the manual states no coefficients of its 1,024 phases (R92). -/
opaque resampleRail : Nat × Nat → Nat → List Int → Int

/-- One rail of a lane sample at place 1 to 16 of the raised-cosine ramp of a closing gate: the manual states no rounding of the
product (R242). -/
opaque gateRamp : Nat → Int → Int

/-- Which nodes the splits before a headless part have cut off from it: a fact of the links around it (R210, R375). Applied to the free
counter. -/
opaque cutOff : Nat → BitVec 2048

/-- The stored bits that go wrong at an instant: the block of 32 bytes, whether in a keep page's MRAM copy, and how many bits or symbols of
a code word. Noise and wear decide them (R379 to R381). -/
opaque upsets : Nat → List (Nat × Bool × Nat)

/-- How many packets the output queue of a link direction holds beside the first (R216 does not state it). -/
opaque queueRoom : Nat

/-- The ED cycles in a span of ps that is no whole number of them: the manual states no rounding (R233, R234, R239). -/
opaque cyclesOf : Nat → Nat

/-- Length of the test access port's instruction register (R512 does not state it). -/
opaque tapIrLength : Nat

/-- Instruction codes of IDCODE, SAMPLE/PRELOAD and EXTEST (R512 does not state them): 0, 1, 2 in that order;
any other code acts as BYPASS. -/
opaque tapDecode : List Bool → Nat

/-- Number of cells in the boundary register (R512 does not state it). -/
opaque boundaryLength : Nat

/-- The pin that boundary register cell k covers (R512 does not state the order). -/
opaque boundaryPin : Nat → Nat

/-- The SHA-256 digest of the Welquegon key in ROM that verifies the factory image (R491). -/
opaque factoryKeyHash : BitVec 256

/-- The factory image in on-die ROM (R491). -/
opaque factoryImage : List Byte

/-- The node's own MAC address on the TAP port (R220 does not state it). -/
opaque ownMac : Mac

end Sys2Proof.Config
end

