-- ==== Sys2Proof/Machine/Tbl.lean ====
section
/-! DEFINITION. Two kinds of sparse store, both plain data: a table from Nat keys to records, kept in rising key
order, and byte memory in one canonical form (strictly rising addresses, no zero byte listed). An address that is
not listed reads as zero: R363 states that every byte of a new page reads as zero and R364 that a released frame
is written with zeros. -/

namespace Sys2Proof.Machine

/-- The record at key `k`. -/
def tblFind {α : Type} (k : Nat) : List (Nat × α) → Option α
  | [] => none
  | (j, a) :: t => if j = k then some a else tblFind k t

/-- The record at key `k`, or `d` where none is listed. -/
def tblGet {α : Type} (d : α) (k : Nat) (t : List (Nat × α)) : α := (tblFind k t).getD d

/-- The table with the record `a` at key `k`. -/
def tblPut {α : Type} (k : Nat) (a : α) : List (Nat × α) → List (Nat × α)
  | [] => [(k, a)]
  | (j, b) :: t =>
    if j = k then (k, a) :: t
    else if k < j then (k, a) :: (j, b) :: t
    else (j, b) :: tblPut k a t

/-- The table without key `k`. -/
def tblDel {α : Type} (k : Nat) : List (Nat × α) → List (Nat × α)
  | [] => []
  | (j, b) :: t => if j = k then tblDel k t else (j, b) :: tblDel k t

/-- The table with every record changed by `f`. -/
def tblMap {α : Type} (f : Nat → α → α) : List (Nat × α) → List (Nat × α)
  | [] => []
  | (j, b) :: t => (j, f j b) :: tblMap f t

/-- Byte memory. -/
abbrev Mem := List Host.Cell

/-- The byte at address `a`; zero where none is listed (R363, R364). -/
def memRead (a : Nat) : Mem → Byte
  | [] => 0
  | (j, b) :: t => if j = a then b else if a < j then 0 else memRead a t

/-- Memory with the byte `b` at address `a`, in canonical form. -/
def memWrite (a : Nat) (b : Byte) : Mem → Mem
  | [] => if b = 0 then [] else [(a, b)]
  | (j, c) :: t =>
    if j = a then (if b = 0 then t else (a, b) :: t)
    else if a < j then (if b = 0 then (j, c) :: t else (a, b) :: (j, c) :: t)
    else (j, c) :: memWrite a b t

/-- Memory with zeros in the `n` bytes from address `a` (R364). -/
def memZero (a n : Nat) : Mem → Mem
  | [] => []
  | (j, c) :: t => if a ≤ j ∧ j < a + n then memZero a n t else (j, c) :: memZero a n t

/-- The canonical form: addresses rise strictly from above `lo`, and no listed byte is zero. -/
def memWfFrom (lo : Nat) : Mem → Bool
  | [] => true
  | (j, c) :: t => decide (lo ≤ j) && decide (c ≠ 0) && memWfFrom (j + 1) t

/-- Memory is in canonical form. -/
def memWf (m : Mem) : Bool := memWfFrom 0 m

/-- The `n` bytes from address `a`, lowest first. -/
def memBytes (m : Mem) (a : Nat) : Nat → List Byte
  | 0 => []
  | n + 1 => memRead a m :: memBytes m (a + 1) n

/-- Memory with the bytes `bs` written from address `a` up. -/
def memPutBytes (a : Nat) : List Byte → Mem → Mem
  | [], m => m
  | b :: bs, m => memPutBytes (a + 1) bs (memWrite a b m)

/-- The little-endian number that bytes spell (R6). -/
def bytesToNat : List Byte → Nat
  | [] => 0
  | b :: bs => b.toNat + 256 * bytesToNat bs

/-- The `n` little-endian bytes of a number (R6). -/
def natToBytes (x : Nat) : Nat → List Byte
  | 0 => []
  | n + 1 => BitVec.ofNat 8 x :: natToBytes (x / 256) n

/-- The 64-bit little-endian value of the `n` bytes at address `a`. -/
def memWord (m : Mem) (a n : Nat) : Word := BitVec.ofNat 64 (bytesToNat (memBytes m a n))

/-- The field `[hi:lo]` of a word, as a number (R6). -/
def fieldN (w : Nat) (hi lo : Nat) : Nat := w / 2 ^ lo % 2 ^ (hi + 1 - lo)

/-- Bit `i` of a number. -/
def bitN (w i : Nat) : Bool := w / 2 ^ i % 2 = 1

/-- A flag as the number that stands at bit `i`. -/
def flagN (b : Bool) (i : Nat) : Nat := if b then 2 ^ i else 0

/-- The two's complement value of the low `n` bits of a number. -/
def signedN (n w : Nat) : Int :=
  if w % 2 ^ n < 2 ^ (n - 1) then (w % 2 ^ n : Nat) else (w % 2 ^ n : Nat) - (2 ^ n : Nat)

/-- The low `n` bits of an integer in two's complement, as a number. -/
def toUnsignedN (n : Nat) (x : Int) : Nat := (x % (2 ^ n : Nat)).toNat

end Sys2Proof.Machine
end

