-- ==== Sys2Proof/Machine/State.lean ====
section
/-! DEFINITION. The state of one DRA-6192 engine as plain data, subsystem by subsystem (R13), with the queue of
commands that wait, and the state right after reset. Instants of hardware events are kept in ED cycles since reset
(`ed`), fabric time in units of 2^-16 ns (R246). -/

namespace Sys2Proof.Machine

/-- No command of this model stops the machine: every rule of the manual gives an effect, and a case it leaves
undefined takes free values (R292, R301). The type therefore has no constructor (safe). -/
inductive Fault where
  deriving DecidableEq, Repr

/-- Why a command has no meaning in the model. -/
inductive Refusal where
  /-- A row whose meaning is not written yet, raised by `exec`'s arm alone (safe). -/
  | notModelled (mnemonic : String)
  deriving DecidableEq, Repr

/-- The modes of R23 and R429. -/
inductive Mode where
  | off | reset | boot | quiet | survey | isolate | relay | watch | silenced | doze | hibernate | halt
  deriving DecidableEq, Repr

/-- The port states of R31. -/
inductive PState where
  | off | standby | rx | tx | rxtx | tddUl | tddDl | probe
  deriving DecidableEq, Repr

/-- Where a port's transmitter stands in the sequences of R38 and R39: off, started and waiting for the booster
key, on, or stopping with BSTn_EN still high. -/
inductive TxPhase where
  | off | starting | on | stopping
  deriving DecidableEq, Repr

/-- Why a task waits (R279, R353). -/
inductive Wait where
  | tag (tag : Nat) (gd : Reg) (bytes : Nat) (signed : Bool)
  | retry (tag : Bool)
  | fenceL
  | fenceG
  | fenceI
  | exitG (value : Word)
  | until (gd : Reg) (deadline : Word)
  | event (gd : Reg) (mask : BitVec 16) (deadline : Word)
  | join (gd gb : Reg) (handle : Word)
  | recv (gd gb : Reg) (buf : Word) (key : Nat)
  | alloc (gd gb : Reg) (slot : Nat)
  | commit (gd : Reg) (slot : Nat) (fade : Bool) (due : Nat)
  | held
  deriving DecidableEq, Repr

/-- The four task states of R279, with the context a RUNNING task is on and the exit value of a DONE one. -/
inductive TaskState where
  | ready
  | running (ctx : Nat)
  | waiting (w : Wait)
  | done (value : Word)
  deriving DecidableEq, Repr

/-- An entry of a task's store queue (R319): local address, width in bytes, value. -/
structure StoreEntry where
  va : Nat
  bytes : Nat
  value : Word
  deriving DecidableEq, Repr

/-- The earliest failed posted store of a task, by its place `seq` in program order, and how many more failed (R295,
R322). -/
structure StoreError where
  seq : Nat
  cause : Byte
  addr : Word
  more : Nat
  deriving DecidableEq, Repr

/-- A task's context in HSC (R278, R286, R290). -/
structure Task where
  part : PartId
  st : TaskState
  regs : Vector Word 32
  pc : Word
  cause : Byte
  active : Bool
  nest : Bool
  excPc : Word
  excAddr : Word
  evec : Word
  sq : List StoreEntry
  gseq : Nat
  gerr : Option StoreError
  placedAt : Nat
  lastCtx : Option Nat
  deriving DecidableEq, Repr

/-- What a task has stored since its last fence, by key and length (case 11 of R301, R345), and how many commits of each channel it has
learned of (R345). -/
structure Know where
  wrote : List (Nat × Nat)
  seen : List (Nat × Nat)
  deriving DecidableEq, Repr

/-- The cores, the Warden pair and HSC (R277, R282, R284, R392 to R396); `know` is by task; `stale` names the partition whose reset freed a task index
that no task has taken since (R300). -/
structure Cpu where
  tasks : List (Nat × Task)
  gens : List (Nat × Byte)
  ready : List Nat
  bound : List (Nat × Nat)
  coreUp : BitVec 8
  wdr : Bool
  outC : Bool
  wrun : Bool
  stops : List Nat
  wardenHeld : Bool
  heldQ : List (Nat × Instr)
  stale : List (Nat × PartId)
  know : List (Nat × Know)
  windowEnd : Nat
  deriving DecidableEq, Repr

/-- A message in a mailbox (R355, R356); `seen` is what a sender of this node had learned of commits (R345), `seq` the packet
sequence number of a message of another node (R208). -/
structure Msg where
  body : List Byte
  srcNode : NodeId
  srcPart : PartId
  seen : List (Nat × Nat)
  seq : Option Nat
  deriving DecidableEq, Repr

/-- The life of a partition (R387): absent, active, or resetting toward active (RESET) or absent (DESTROY). -/
inductive Life where
  | absent | active | resetting (destroy : Bool)
  deriving DecidableEq, Repr

/-- The grants of R385 and R390. -/
structure Grants where
  chq : Nat
  taskq : Nat
  eng : Nat
  can : Nat
  memq : Nat
  keepq : Nat
  nearq : Nat
  ctx : Nat
  time : Nat
  dram : Nat
  pkt : Nat
  cnt : BitVec 16
  deriving DecidableEq, Repr

/-- A GLC table (R134): the entries written over the default contents, and its ERES. -/
structure GTab where
  ent : List (Nat × BitVec 16)
  eres : BitVec 2
  deriving DecidableEq, Repr

/-- The table words and tables of one partition (R134 to R136, R146, R147, R152, R500). Table k of R134 is key k
for level and 4 + k for brim tables. -/
structure Tables where
  gShadow : List (Nat × GTab)
  gActive : List (Nat × GTab)
  gPend : BitVec 8
  gTnum : BitVec 2
  gKind : Bool
  gPtr : BitVec 6
  fShadow : List (Nat × List (Nat × BitVec 16))
  fActive : List (Nat × List (Nat × BitVec 16))
  fPend : BitVec 4
  fTnum : BitVec 2
  fPtr : BitVec 5
  tapHandle : BitVec 19
  tapPtr : BitVec 6
  findSlot : Byte
  deriving DecidableEq, Repr

/-- The sampling words of one partition (R487, R488). -/
structure Samp where
  event : BitVec 6
  en : Bool
  period : Nat
  drop : Nat
  base : Nat
  len : Nat
  snext : BitVec 32
  deriving DecidableEq, Repr

/-- One partition at this node (R291, R354, R366, R385 to R393). `eff` holds the ENG, CAN, CTX and TIME in force. -/
structure Part where
  life : Life
  gen : Byte
  grants : Grants
  effEng : Nat
  effCan : Nat
  effCtx : Nat
  effTime : Nat
  credit : Nat
  viol : BitVec 32
  lastK : Byte
  qfull : Bool
  kfull : Bool
  poison : Bool
  events : BitVec 16
  tabs : Tables
  samp : Samp
  resetMuted : Bool
  deriving DecidableEq, Repr

/-- The Warden's partition words (R387, R391). -/
structure PartWords where
  pnum : PartId
  qerr : Bool
  entry : Word
  arg : Word
  abase : BitVec 48
  acode : Byte
  deriving DecidableEq, Repr

/-- A page (R360 to R370): partition, base address, peck or gill, keep, tier (0 near, 1 DRAM, 2 MRAM; a keep page in
tier 2 has no working copy, R369), heat, when its heat last became 0, the operating times in ms of the corrected errors of the
frame that accesses reach and of a keep page's MRAM copy beside it (R380), and whether band 4 has evicted it (R378). -/
structure Page where
  part : PartId
  va : Nat
  peck : Bool
  keep : Bool
  tier : BitVec 2
  heat : Nat
  coldAt : Nat
  ce : List Nat
  ceCopy : List Nat
  evicted : Bool
  deriving DecidableEq, Repr

/-- A replica this node holds of a remote page, with the places of its poisoned blocks of 32 bytes (R372, R382). -/
structure Replica where
  ref : Nat
  data : List Byte
  bad : List Nat
  heat : Nat
  deriving DecidableEq, Repr

/-- A store or atomic that waits at this home for replica holders (R373). -/
structure HomeWait where
  req : MemRequest
  page : Nat
  deriving DecidableEq, Repr

/-- Stored bits that have gone wrong in a block of 32 bytes, of a keep page's MRAM copy where `copy` says so: how many of one code
word, in DRAM how many of its symbols (R379). -/
structure Flaw where
  block : Nat
  copy : Bool
  wrong : Nat
  deriving DecidableEq, Repr

/-- A free frame of `gills` gills in tier `tier` that has shown corrected errors, with their operating times in ms (R380). -/
structure Worn where
  tier : Nat
  gills : Nat
  ce : List Nat
  deriving DecidableEq, Repr

/-- Bytes that a task has published with a fence, by key and length, and what it had learned of commits (R345). -/
structure Shown where
  key : Nat
  bytes : Nat
  seen : List (Nat × Nat)
  deriving DecidableEq, Repr

/-- The memory system and pager (R358 to R384). Addresses are partition × 2^48 + virtual address. `asked` names
the pages whose holders have been told to discard (R373), `late` holds the stores of tasks whose index has been freed (R295, R319), `freeing` the released pages whose replicas' holders have not acknowledged (R364). -/
structure MemSys where
  mem : Mem
  pages : List Page
  mram : Mem
  kwb : List (Nat × List Byte)
  poison : List Nat
  replicas : List Replica
  readHeat : List (Nat × Nat)
  directory : List (Nat × List Nat)
  homeWait : List HomeWait
  keptMram : List Page
  band : BitVec 3
  bandCool : Nat
  evict : Bool
  ce : Bool
  ue : Bool
  retire : Bool
  scrub : Bool
  retired : List (Nat × Nat)
  asked : List Nat
  late : List (PartId × StoreEntry)
  flaws : List Flaw
  worn : List Worn
  freeing : List Page
  shown : List Shown
  deriving DecidableEq, Repr

/-- The filter settings of R102. -/
structure FilterSet where
  profile : BitVec 4
  centre : Nat
  rxSide : BitVec 3
  txSide : BitVec 3
  ul : Bool
  align : Bool
  deriving DecidableEq, Repr

/-- The GLC settings of R117, in 0.1 dB; LTGT is absent until written (R336). -/
structure GainSet where
  gmax : Int
  gmin : Int
  ltgt : Option Int
  alc : Bool
  brim : Int
  blo : Int
  bhi : Int
  ltab : BitVec 2
  btab : BitVec 2
  deriving DecidableEq, Repr

/-- The FBC settings of R143; WOFF 0x7FFF is AUTO. -/
structure CancSet where
  can : Bool
  woff : Nat
  stab : BitVec 2
  frz : Bool
  deriving DecidableEq, Repr

/-- The NGD settings of R168 in the units of R336. -/
structure GuardSet where
  ovm : Int
  nrth : Int
  dlth : Int
  dlhold : Nat
  trel : Nat
  hold : Nat
  deriving DecidableEq, Repr

/-- The trunk settings of R226 in the units of R336; LDEL 0 is AUTO. -/
structure TrunkSet where
  laneNode : NodeId
  laneSlot : Nat
  ceil : Nat
  ldel : Nat
  gate : Bool
  gth : Int
  ghang : Nat
  deriving DecidableEq, Repr

/-- A channel's settings (R336); DCMODE is absent until written (R98). -/
structure Settings where
  filt : FilterSet
  fadeLen : Nat
  dcMode : Option (BitVec 2)
  dck : Nat
  gain : GainSet
  canc : CancSet
  guard : GuardSet
  trunk : TrunkSet
  deriving DecidableEq, Repr

/-- A channel's pending set: the task that holds it and the values it has written, by setting number (R338). -/
structure PendSet where
  task : Nat
  vals : List (Nat × Int)
  deriving DecidableEq, Repr

/-- An accepted commit that waits for its round boundary (R103). -/
structure CommitReq where
  set : Settings
  fade : Bool
  task : Nat
  deriving DecidableEq, Repr

/-- A fade in progress (R103, R106): the costs of the old filter, still charged, its channel rate, the samples that the new filter
still fills for, the place of the cross-fade, and whether it has ended so that the old filter is released at the next boundary. -/
structure Fade where
  cfe : Nat
  canc : Nat
  rate : Nat
  fill : Nat
  place : Nat
  ended : Bool
  deriving DecidableEq, Repr

/-- The mutes of R108 and R170, separate from one another. -/
structure Mutes where
  prog : Bool
  dloss : Bool
  nrise : Bool
  trk : Bool
  reset : Bool
  deriving DecidableEq, Repr

/-- The phase of a slot: FREE, reserved by an accepted ch.alloc, owned by its partition (HELD until its first
commit takes effect), or freed and not yet released (R108, R111, R339). -/
inductive Phase where
  | free | reserved | owned | freeing
  deriving DecidableEq, Repr

/-- A channel's GLC state (R120 to R133); levels in 1/1280 dB. `applied` is none while the channel is gated. The
`cs` fields gather the control sample in progress, of which `csG` counts the rounds with a gain; the `prev` fields are those
of the round just ended; `ctl` is g_ctl of R126; `levIn` and `brimIn` are the loop states as the present boundary found them (R129). -/
structure Glc where
  gLev : Level
  gBrim : Level
  gPerm : Level
  applied : Option Level
  gateHold : Bool
  lim : Nat
  trimmed : Bool
  lastL : Level
  lastG : Level
  lastN : Nat
  margin : Option Level
  input : Level
  csMax : Level
  csSum : Level
  csN : Nat
  csG : Nat
  csSat : Nat
  csGated : Bool
  csNotLev : Bool
  csScaled : Bool
  prevApplied : Option Level
  prevTrimmed : Bool
  ctl : Level
  prevCtl : Level
  levIn : Level
  brimIn : Level
  deriving DecidableEq, Repr

/-- A channel's canceller model, isolation estimate and probe result (R141 to R161). `sent` and `sentLevel` are the settings
and the level of the last probe burst (R155); `sent` ends with a bank change inside the loop. -/
structure Fbc where
  taps : List (Nat × (Int × Int))
  valid : Bool
  steps : Nat
  proof : Nat
  raw : Level
  srr : Level
  seed : Option Level
  frozenAt : Option Nat
  autoWoff : Nat
  iso : Option Level
  probeIso : Level
  band : Option (Int × Int)
  pcode : Nat
  coupling : Level
  airDelay : Nat
  bursts : Nat
  asked : Nat
  sent : Option Settings
  sentLevel : Level
  deriving DecidableEq, Repr

/-- Who asked for a held re-arm (R173, R176, R177). -/
inductive HeldArm where
  | none | tenant | warden
  deriving DecidableEq, Repr

/-- A channel's guard state (R166 to R177, R185). Trim shares count steps of 3 dB; `aclrPort` is the port whose adjacent
leakage fenced the channel, the fence's source (R173). -/
structure Guard where
  tOsc : Nat
  tOvr : Nat
  tNrise : Nat
  tAclr : Nat
  atOsc : Nat
  atOvr : Nat
  atNrise : Nat
  atAclr : Nat
  lastTrim : Nat
  ovrHits : Nat
  nriseHits : Nat
  rho : Nat
  nrise : Level
  muteGain : Level
  fenced : Bool
  causes : BitVec 16
  aclrPort : Option PortId
  fenceReq : BitVec 16
  lastFence : Nat
  arm : HeldArm
  cover : Option Nat
  deriving DecidableEq, Repr

/-- A trunk channel's state (R224 to R244). `dU` is D_U as the place of a contributor makes it; `align` is the alignment delay A and
`rel` D_L − S_loc, from TREF to the sample's release, in ED cycles, and `alignNow` what of the latter is in force, in 1/65,536 of a
sample (R233); `stampAt` is when a stamp and a valid descriptor had both come after a loss (R236); `next` is the number of the next
sample to take and `via` the link whose copy was taken last
(R232); `snum` and `tref` are the last stamp's number and reference
instant, `ratio` the span and count of samples between stamps (R92, R228);
`frac` is the contributor's fractional delay in 1/65,536 of a sample, `ta0` the grid's start and `join` B of R239; `fifo` holds
the samples that wait for their instants (R233, R239), `own` the channel's own samples by number (R238); `window` is the number of
the first sample of the gate window in progress, and `gates` says from which sample on the gate's ramp stands at which place (0 full,
17 closed), newest first (R242). -/
structure Trunk where
  dReq : Nat
  dU : Nat
  dL : Nat
  ceil : Nat
  align : Int
  rel : Int
  alignNow : Int
  cause : Nat
  gateOpen : Bool
  below : Nat
  desc : BitVec 4
  donorLost : Bool
  lost : Bool
  stamped : Bool
  stampAt : Nat
  next : Option Nat
  via : Option ChainId
  snum : Nat
  tref : Nat
  ratio : Nat × Nat
  frac : Nat
  ta0 : Nat
  join : Nat
  fifo : List (Nat × LaneSample)
  own : List (Nat × LaneSample)
  ownNext : Option Nat
  window : Nat
  gates : List (Nat × Nat)
  last : List LaneSample
  deriving DecidableEq, Repr

/-- A channel slot (R81, R107 to R111). `committed` says that a commit has taken effect; `zero` that its output has
reached zero; `muteReq` holds the hardware mutes that take effect at the next round boundary. `rxOff` and `txOff` are the
channel's offsets from the LOs of its ports in Hz × 2^32 (R91), `dc` the DC-blocking stage's estimate per rail in 2^-20 of
a channel word (R98), `inp` the words that have come to the resampler and `out` the channel's output samples, newest first (R14,
R92). `fill` counts the samples for which a filter still fills, `ramp` the place of the output on its rise, full at 16, and `fell`
the samples since it began to fall (R97, R108). `commits` counts the commits accepted on the channel (R345); `outFree` names the
ports for whose retune or bank change the channel's output is undefined (case 6 of R301). -/
structure Slot where
  phase : Phase
  committed : Bool
  gen : Byte
  owner : PartId
  set : Settings
  pend : Option PendSet
  req : Option CommitReq
  fade : Option Fade
  settling : Bool
  mutes : Mutes
  muteReq : Mutes
  zero : Bool
  sats : Nat
  rxOff : Int
  txOff : Int
  dc : Int × Int
  fill : Nat
  ramp : Nat
  fell : Nat
  inp : List (Int × Int)
  out : List (Int × Int)
  commits : Nat
  outFree : BitVec 4
  glc : Glc
  fbc : Fbc
  guard : Guard
  trunk : Trunk
  deriving DecidableEq, Repr

/-- An operation of a program, or a hardware mute, that takes effect at the next round boundary, in issue order
(R110). -/
inductive RoundOp where
  | commit (slot : Nat)
  | mute (slot : Nat)
  | unmute (slot : Nat)
  | rearm (slot : Nat)
  deriving DecidableEq, Repr

/-- The device-wide flags of CFE, GLC, FBC, NGD, GNT and TRK (R113, R138, R164, R188, R190, R245), the operations
that wait for the round boundary, the head's answers to commits that WATCH or an election holds (R21, R207), the slots whose next
answer, till an instant of fabric time, belongs to a commit that was discarded with its task or timed out (R19, R340), and the
time-base flag of case 9 of R301. -/
structure Radio where
  slots : List (Nat × Slot)
  roundQ : List RoundOp
  sat : Bool
  noBud : Bool
  refill : Bool
  ceil : Bool
  gate : Bool
  chk : Bool
  inval : Bool
  isoDrop : Bool
  fNoBud : Bool
  everIsolate : Bool
  ngd : BitVec 6
  sarm : BitVec 11
  clamp : Bool
  refuse : Bool
  vfail : Bool
  gchk : Bool
  tLost : Bool
  tCeil : Bool
  tSat : Bool
  laneTimingFree : Bool
  laneAns : List (Nat × LaneAnswer)
  dropAns : List (Nat × Nat)
  plan : List (Nat × Settings)
  deriving DecidableEq, Repr

/-- A charter entitlement (R181, R527). -/
structure Ent where
  port : Nat
  ul : Bool
  duty : Nat
  prof : BitVec 16
  flo : Nat
  fhi : Nat
  gmax : Int
  pmax : Int
  deriving DecidableEq, Repr

/-- A fence by OSC or OVR: its instant, the channel's slot with its generation then, and the port of its transmit side (R178). -/
structure OscFence where
  at' : Nat
  slot : Nat
  gen : Byte
  port : Nat
  deriving DecidableEq, Repr

/-- GNT's charter slots, fuse and charter in force, and the SILENCED hold-off of NGD (R178 to R183). `clamps` holds the
instant, port and channels of each recent clamp. -/
structure Charter where
  slotA : List Byte
  slotB : List Byte
  force : Option Bool
  ents : List Ent
  seq : BitVec 32
  highest : BitVec 32
  fuse : Option (BitVec 256)
  actReq : Bool
  silEntries : List Nat
  holdEnd : Nat
  heldMode : Option Mode
  oscFences : List OscFence
  clamps : List (Nat × (Nat × List Nat))
  deriving DecidableEq, Repr

/-- A port.tune record after replacement (R347). -/
structure TuneRec where
  rxlo : Nat
  txlo : Nat
  state : PState
  ret : BitVec 3
  bank : BitVec 4
  donor : Bool
  boost : Bool
  klead : Nat
  clim : Int
  aclr : Int
  deriving DecidableEq, Repr

/-- A switch point (R348): offset in ns, state (0 gap, 1 TDD-UL, 2 TDD-DL), single-shot mark. -/
structure SwPoint where
  offset : Nat
  state : BitVec 2
  shot : Bool
  deriving DecidableEq, Repr

/-- A TDD schedule (R40, R348). -/
structure Sched where
  period : Nat
  phase : Nat
  points : List SwPoint
  deriving DecidableEq, Repr

/-- Where a port's retune of R69 stands: synthesisers relocking, or calibrating after lock. -/
inductive Retune where
  | locking | calibrating
  deriving DecidableEq, Repr

/-- An RF port with its converters and synthesisers (R25 to R53, R63 to R73, R80). `enAt` and `keyAt` are the instants
of the last rise of BSTn_EN and the last fall of BSTn_KEY, `rampAt` that at which the output ramp begins (R38); `blank` holds
the output off after a loss of lock (R73); `bankAt` is the start of a bank change's STANDBY interval (R29); `schedFresh` says
that no switch point of the schedule's present run has come yet (R44); `asker` is the partition whose record the port took last; `scaled` that the composite limit scaled the window in
the present round (R123); `coef` is the coefficient set in force and `coefs` the sets kept (R63, R65), `convMax` the
milliseconds of adapting input within which CONV sets; `txLeak` and `txImage` are the transmit calibration's results (R68);
`dac` is the last DAC word (R100) and `bias` the band of the PA bias table in force (R451). -/
structure Port where
  st : PState
  tune : TuneRec
  bankWait : Option TuneRec
  probeWait : Option TuneRec
  asker : PartId
  target : Option PState
  tx : TxPhase
  ben : Bool
  bkey : Bool
  bflt : Bool
  killed : Bool
  enAt : Nat
  keyAt : Nat
  rampAt : Nat
  bankAt : Option Nat
  blank : Bool
  scale : Nat
  scaled : Bool
  sched : Option Sched
  schedNext : Option (Option Sched)
  schedRun : Bool
  schedIdx : Nat
  schedFresh : Bool
  probeQ : List Nat
  probing : Option Nat
  retune : Option Retune
  lock : Bool
  rxv : Bool
  conv : Bool
  adapt : Bool
  clip : Bool
  clipCnt : Byte
  clipMs : Bool
  adaptMs : Nat
  convMax : Nat
  coef : List Int
  coefs : List ((Nat × Nat) × List Int)
  txLeak : Level
  txImage : Level
  dac : Int × Int
  bias : BitVec 3
  aclrHits : Nat
  deriving DecidableEq, Repr

/-- The synthesisers and reference (R57 to R79). Steering is in 0.01 ppb; `mainLost` and `coreFail` say that the main clock
has lost its lock and that the core synthesiser failed to lock in time. `inSince` is since when the offset has been within
0.05 ppm (R60), `slewAt` the instant of the last correction (R59). -/
structure Syn where
  ref : BitVec 2
  mainLk : Bool
  coreLk : Bool
  coreByp : Bool
  coreF : BitVec 2
  mainLost : Bool
  coreFail : Bool
  unlk : Bool
  steer : Int
  target : Int
  inSince : Option Nat
  slewAt : Nat
  deriving DecidableEq, Repr

/-- The link states of R199. -/
inductive LState where
  | down | train | up | lull | blocked
  deriving DecidableEq, Repr

/-- One copy of a lane as it arrives (R228, R231, R232): the number of its next sample, known from its first stamp on; its path
in ps; its last descriptor. -/
structure LaneCopy where
  next : Option Nat
  path : Nat
  desc : BitVec 4
  deriving DecidableEq, Repr

/-- A lane slot as it is sent (R228, R240): the number of the next sample, the blocks sent since the lane's last stamp (none
before its first), and the blocks sent that a failed link would return, newest first, with their instants. -/
structure LaneOut where
  next : Nat
  count : Option Nat
  kept : List (Nat × BitVec 64)
  deriving DecidableEq, Repr

/-- The control regions of the frame sent last (R196, R197, R200, R204, R231, R252): its number, header, time block, the best
proposal, whether it names the peer as parent, the accept and the announcement on their way, the requests of block 3 for LULL
and for UP and for lane blocks, the lane map of this direction and the errors counted on the link, the equaliser
margin's band (R451), and the lane descriptors. -/
structure FrameOut where
  no : Nat
  hdr : BitVec 64
  time : BitVec 64
  prop : Option Proposal
  parent : Bool
  accept : Option Accept
  announce : Option EpochAnnounce
  askLull : Bool
  askUp : Bool
  asks : List LaneRequest
  map : List Lane
  errs : Nat
  margin : BitVec 3
  desc : List (BitVec 4)
  deriving DecidableEq, Repr

/-- A link port (R196 to R200, R221, R253). `miss` counts frames with a bad sync header in a row (R196), `heard` is when the
best proposal arrived (R194), `broken` says that the link was lost since the epoch began (R210), `askUp` that a cell waits for
it in LULL (R200); `copies` are the lanes that arrive and `outs` those sent, by lane slot; `beyond` are the nodes that only this
link reaches, by the accepts of the election (R204, R210); `cells` are those of the packet sent
last (R213), and `eqBand` is the band of the equaliser margin in force (R451). -/
structure Link where
  st : LState
  ring : Bool
  los : Bool
  err : Bool
  speed : Bool
  frame : BitVec 16
  peerEpoch : BitVec 12
  peerNode : NodeId
  peerState : BitVec 3
  mapvIn : Byte
  mapvOut : Byte
  lanesIn : List Lane
  lanesOut : List Lane
  child : Bool
  accept : Option Accept
  syncFrame : BitVec 16
  syncT3 : Nat
  syncT4 : Nat
  synced : Bool
  departed : List (BitVec 16 × Nat)
  timeHigh : Byte
  delays : List Int
  asym : Int
  p7 : List Nat
  miss : Nat
  heard : Option Nat
  broken : Bool
  askUp : Bool
  copies : List (Nat × LaneCopy)
  outs : List (Nat × LaneOut)
  beyond : BitVec 2048
  cells : List Cell
  eqBand : BitVec 3
  sent : Option FrameOut
  deriving DecidableEq, Repr

/-- A transaction tag (R214): its generation, whether it is outstanding, and of its last use the task, the partition's
generation, whether it was a posted store and which, the reference and the deadline. -/
structure Tag where
  gen : BitVec 4
  busy : Bool
  task : Nat
  part : PartId
  pgen : Byte
  store : Bool
  seq : Nat
  addr : Word
  deadline : Nat
  deriving DecidableEq, Repr

/-- What a packet of this node carries (R213, R214, R218, R372, R373, R402, R262). -/
inductive PktBody where
  | message (body : List Byte) (part : PartId) (mbox : Fin 8)
  | request (q : MemRequest)
  | response (r : MemResponse)
  | fault (m : BitVec 128)
  | replicaAsk (ref : Word)
  | replicaData (ref : Word) (image : PageImage)
  | discard (ref : Word)
  | discardAck (ref : Word)
  | resetNotice (part : PartId) (gen : Byte)
  | frame (f : EthFrame)
  | ptp (f : EthFrame) (ingress delay : Nat)
  | forwarded (c : Cell)
  deriving DecidableEq, Repr

/-- A packet of another node that is arriving (R213): the mailbox of a message, by its key, and the bytes so far. -/
structure Arriving where
  box : Option Nat
  bytes : List Byte
  deriving DecidableEq, Repr

/-- A packet this node has queued for its links: destination, source, priority, source partition, type and sequence
number of its header, what it carries, the chain port it leaves by, and, where part of its cells leave at another priority, the
first of its cells and how many (R208, R213, R215). -/
structure TxPacket where
  dst : NodeId
  src : NodeId
  pri : BitVec 3
  part : PartId
  typ : BitVec 4
  seq : BitVec 16
  body : PktBody
  link : ChainId
  span : Option (Nat × Nat)
  deriving DecidableEq, Repr

/-- A fault report held for merging (R218, R471): the message, when it arrived first and
last grew, the last nested kind, and the link it came in on, none where it arose here. -/
structure HeldFault where
  msg : BitVec 128
  since : Nat
  at' : Nat
  nestKind : Byte
  via : Option ChainId
  deriving DecidableEq, Repr

/-- A learned TAP address (R220). -/
structure MacEntry where
  vid : BitVec 12
  mac : Mac
  node : NodeId
  at' : Nat
  deriving DecidableEq, Repr

/-- What the head holds of a lane (R225, R226, R229, R234, R238, R239): the anchor's profile, direction, CEIL and LDEL, the
launch delay, TA(0), and of each member its path in ps and its delay as a joining branch. -/
structure LaneRec where
  profile : BitVec 4
  uplink : Bool
  ceil : Nat
  ldel : Nat
  dL : Nat
  ta0 : Nat
  members : List (Nat × (Nat × Nat))
  deriving DecidableEq, Repr

/-- A block of an UL lane whose branches gather at this node, by the number of its first sample (R238): the sum, and the links
it has been heard on. -/
structure LaneSum where
  num : Nat
  sum : List LaneSample
  heard : List Nat
  deriving DecidableEq, Repr

/-- An UL lane at the node at which its copies or branches end (R232, R240): the number of the next sample to take, the blocks of
returned copies that wait for the other copy's, by number, and how many returned copies are in use. -/
structure LaneHome where
  next : Option Nat
  half : List (Nat × List LaneSample)
  retn : Nat
  deriving DecidableEq, Repr

/-- The fabric side of the node (R193 to R223): personality, election, tags, queues, bridging. `lanes` is the head's table of
lanes and `answers` its answers by requester; `lost` are the members of the epoch that a split has cut off (R210, R375); `asks` are the requests that this node has for the head; `sums` are the UL
blocks whose branches gather and `homes` the UL lanes that end here, by lane. -/
structure Fab where
  nodeId : NodeId
  idSet : Bool
  prio : Byte
  donor : Bool
  addr : Option NodeId
  tto : Nat
  tapSpeed : Bool
  tapEn : Bool
  pvid : BitVec 12
  mgmt : BitVec 12
  vlans : List (Nat × BitVec 12)
  vlanSel : BitVec 6
  elect : Bool
  best : Option Proposal
  bestAt : Nat
  proposalAt : Nat
  parent : Option ChainId
  accepted : Bool
  announce : Option EpochAnnounce
  isHead : Bool
  headless : Bool
  wide : Bool
  noAddr : Bool
  nodes : Nat
  selfAt : NodeId
  headId : NodeId
  epoch : BitVec 32
  members : BitVec 2048
  lost : BitVec 2048
  split : Bool
  stale : Bool
  dup : Bool
  seen : List (Nat × List Nat)
  ownSeq : BitVec 16
  tags : List (Nat × Tag)
  out : List TxPacket
  partial' : List (Nat × Arriving)
  late : List (Nat × Msg)
  held : List HeldFault
  macs : List MacEntry
  headMap : List (Nat × List Lane)
  notices : List (Nat × Byte)
  lanes : List (Nat × LaneRec)
  asks : List LaneRequest
  answers : List (Nat × LaneAnswer)
  sums : List (Nat × List LaneSum)
  homes : List (Nat × LaneHome)
  own : Option Proposal
  elId : Option NodeId
  acceptOut : Option Accept
  fwd : List Nat
  tapOut : List EthFrame
  up : Option ChainId
  deriving DecidableEq, Repr

/-- The time unit (R246 to R266). `set` is a time that waits for its whole second, and that second in ns (R249). -/
structure Tsu where
  src : BitVec 2
  ptpm : Bool
  ppsoe : Bool
  ppsw : Byte
  ppsd : Int
  domain : Byte
  asym : Word
  set : Option (Word × Nat)
  st : BitVec 2
  trace : Bool
  step : Bool
  ppsin : Bool
  gm : Option PtpAnnounce
  gms : List (PtpAnnounce × Nat)
  offs : Int
  ppsOff : Int
  hops : BitVec 12
  everLocked : Bool
  srcPresent : Bool
  inSince : Option Nat
  outSince : Option Nat
  ppsBad : Nat
  ppsOut : Bool
  ppsRise : Nat
  tai : BitVec 16
  peerState : BitVec 3
  pdelay : Nat
  ptpOut : List PtpEvent
  annOut : List PtpAnnounce
  pdelayOut : List Nat
  adv : Option Byte
  deriving DecidableEq, Repr

/-- A line of an aperture command in progress (R417, R418): read and not yet changed in the buffer, to be stored, awaited from
another node, done, or failed with an error of R426. -/
inductive AprLine where
  | read (bytes : List Byte)
  | store
  | away
  | done
  | failed (err : BitVec 3)
  deriving DecidableEq, Repr

/-- The host port (R405 to R427). `isamp` and `aprAt` are MBX_IDESC and APR_REF as sampled by the handoff and the command in
progress. -/
structure Hpi where
  wq : List (BitVec 14 × BitVec 16)
  snaps : List (Nat × Nat)
  whold : List (Nat × List (Nat × Nat))
  hd : BitVec 16
  int : BitVec 6
  ien : BitVec 6
  viol : BitVec 16
  iown : Bool
  oown : Bool
  idrop : Bool
  idesc : BitVec 32
  isamp : BitVec 32
  oinfo : BitVec 32
  inbuf : Mem
  outbuf : Mem
  aper : Mem
  aprRef : Word
  busy : Bool
  aprOp : BitVec 2
  aprAt : Word
  aprLines : List (Nat × AprLine)
  aerr : BitVec 3
  fline : BitVec 7
  cerr : Bool
  wbusy : Bool
  bootReady : Bool
  bootFail : Bool
  bootGo : Bool
  staging : Mem
  apart : PartId
  aen : Bool
  inen : Bool
  mbpart : PartId
  mbbox : Fin 8
  mben : Bool
  io18 : Bool
  xing : BitVec 10
  evrSel : BitVec 15
  deriving DecidableEq, Repr

/-- PWR's mode, feeds, lead time and policy (R428 to R444, R455, R456, R460). -/
structure Pwr where
  mode : Mode
  req : Option Mode
  base : Mode
  watchFrom : Mode
  feedA : Bool
  feedB : Bool
  cutA : Bool
  cutB : Bool
  downA : Bool
  downB : Bool
  pfw : Bool
  seqRun : Bool
  flost : Bool
  hold : Bool
  wake : Bool
  good : Bool
  rst : Bool
  lead : Nat
  depth : Vector (BitVec 2) 8
  dzen : Bool
  hben : Bool
  llen : Bool
  cfmax : BitVec 2
  d3en : Bool
  hkr : Nat
  tmr : Word
  rfkill : Bool
  rfHigh : Bool
  rfHighAt : Nat
  calib : BitVec 2
  calibAt : Nat
  wakeReq : Bool
  wardenWait : Bool
  unann : Bool
  deriving DecidableEq, Repr

/-- The thermal manager and HKA (R445 to R459, R462). -/
structure Thm where
  warn : Nat
  throt : Nat
  shut : Nat
  t0ntc : Bool
  t1ntc : Bool
  beta : Byte
  rwarn : Int
  fWarn : Bool
  fThr : Bool
  fShut : Bool
  fRwarn : Bool
  wseen : Bool
  brkn : Bool
  hovr : Bool
  backoff : Nat
  upRounds : Nat
  downRounds : Nat
  mask : BitVec 32
  pend : Option Bool
  scan : Option Bool
  value : Vector (BitVec 12) 32
  valid : BitVec 32
  brk : BitVec 12
  unplugged : BitVec 2
  bad : Vector Nat 12
  rounds : Nat
  roundAt : Nat
  nextInput : Nat
  deriving DecidableEq, Repr

/-- A cuff (R463, R468). `now` is the kind of the error whose line is high at present (R465). -/
structure Cuff where
  kind : Byte
  more : Bool
  seen : Bool
  cnt : BitVec 6
  now : Byte
  deriving DecidableEq, Repr

/-- The severity counting of one source (R472): instants of its last events in the unit of
`Clock.opt`, and the window W in force at the last of them (R473). -/
structure Source where
  times : List Nat
  severe : Bool
  window : Nat
  deriving DecidableEq, Repr

/-- The token bucket of one event code; `last` is the instant of its last gain, in 125 ms since reset (R478). -/
structure Bucket where
  tokens : Nat
  supp : Nat
  last : Nat
  deriving DecidableEq, Repr

/-- OBS: fault status word, cuffs, severity, event recorder, bushels, counters (R463 to R489). Records are 256-bit
values, byte 0 lowest (R474). `sampled` holds of a partition that samples the occurrences of its event since the last sample, and
the samples that are due (R487). -/
structure Obs where
  sticky : BitVec 20
  live : BitVec 20
  gone : BitVec 20
  cuffs : List (Nat × Cuff)
  sources : List (Nat × Source)
  sevN : Nat
  sevW : Nat
  handling : List (Nat × HeldFault)
  queue : List (BitVec 256)
  circ : List (Nat × BitVec 256)
  perm : List (Nat × BitVec 256)
  pcount : Nat
  next : BitVec 15
  lostNext : Bool
  buckets : List (Nat × Bucket)
  qovr : Bool
  fdrop : Bool
  bskip : Bool
  suppF : Bool
  optSaved : Nat
  pcc : Nat
  rsel : BitVec 15
  rptr : BitVec 2
  period : Nat
  ringBase : Nat
  ringLen : Nat
  periodNext : Nat
  baseNext : Nat
  lenNext : Nat
  bseq : BitVec 32
  bskipNext : Bool
  dumpAt : Nat
  counters : List (Nat × BitVec 48)
  sampled : List (Nat × (Nat × Nat))
  deriving DecidableEq, Repr

/-- The slot operation in progress (R496). -/
inductive SlotOp where
  | none | wrimg | wrcht | actcht | restart | confirm | fuse
  deriving DecidableEq, Repr

/-- A personality (R501): the words of SW.FAB_CFG, SW.TSU_CFG, SW.TSU_ASYM and SW.THM_CFG and the charter it carries. -/
structure Personality where
  fabCfg : Word
  tsuCfg : Word
  tsuAsym : Word
  thmCfg : Word
  charter : List Byte
  deriving DecidableEq, Repr

/-- Boot, image slots, fuses and service (R490 to R502). `persOut` is the replica last sent; `offer` the adopted one of the
election in progress with the personality it replaced. -/
structure Svc where
  imgA : List Byte
  imgB : List Byte
  rejA : Bool
  rejB : Bool
  confirmed : BitVec 32
  fuse : Option (BitVec 256)
  run : Bool
  source : Nat
  trial : Bool
  src : BitVec 48
  op : SlotOp
  res : BitVec 3
  bootsel : BitVec 2
  image : List Byte
  chainAsk : Bool
  relay : Option ChainId
  replicaOut : Bool
  persOut : Option Personality
  offer : Option (NodeId × Personality)
  offerBad : Bool
  deriving DecidableEq, Repr

/-- The test access port (R512): the IEEE 1149.1 controller state (0 to 15 in the order of its definition),
registers, and the latched boundary register. -/
structure Tap where
  st : Fin 16
  ir : List Bool
  irShift : List Bool
  dr : List Bool
  bsr : List Bool
  tdo : Bool
  tdoEn : Bool
  deriving DecidableEq, Repr

/-- The clock: ED cycles since reset, and their count at the main clock's first lock, from which rounds are counted (R83);
fabric time in 2^-16 ns (R246), operating time in the same unit (R475). -/
structure Clock where
  ed : Nat
  origin : Nat
  fab : Nat
  opt : Nat
  deriving DecidableEq, Repr

/-- The engine. `pending` is the queue of commands, first in first out; `free` counts the uses of free values
(the model's own field, not the manual's). -/
structure State where
  pending : List Instr
  free : Nat
  clk : Clock
  cpu : Cpu
  parts : Vector Part 8
  pw : PartWords
  mail : List (Nat × List Msg)
  ms : MemSys
  rad : Radio
  cht : Charter
  ports : Vector Port 4
  syn : Syn
  links : Vector Link 4
  fab : Fab
  tsu : Tsu
  hpi : Hpi
  pwr : Pwr
  thm : Thm
  obs : Obs
  svc : Svc
  tap : Tap
  deriving DecidableEq, Repr

/-- The default settings of R336. -/
def Settings.default : Settings :=
  { filt := { profile := 0, centre := 0, rxSide := 0, txSide := 0, ul := false, align := false }
    fadeLen := 64, dcMode := none, dck := 14
    gain := { gmax := 0, gmin := 0, ltgt := none, alc := true, brim := 150, blo := 0, bhi := 950,
              ltab := 0, btab := 0 }
    canc := { can := true, woff := 0x7FFF, stab := 0, frz := false }
    guard := { ovm := 60, nrth := 60, dlth := 60, dlhold := 100, trel := 10, hold := 100 }
    trunk := { laneNode := 0, laneSlot := 0, ceil := 150, ldel := 0, gate := true, gth := 60, ghang := 64 } }

/-- GLC state of a channel that has never been committed: gated, loops at 0 dB. -/
def Glc.initial : Glc :=
  { gLev := 0, gBrim := 0, gPerm := 0, applied := none, gateHold := false, lim := 4, trimmed := false,
    lastL := 0, lastG := 0, lastN := 0, margin := none, input := 0, csMax := 0, csSum := 0, csN := 0, csG := 0,
    csSat := 0, csGated := false, csNotLev := false, csScaled := false, prevApplied := none, prevTrimmed := false,
    ctl := 0, prevCtl := 0,
    levIn := 0, brimIn := 0 }

/-- FBC state without model, estimate or probe (R144, R160). -/
def Fbc.initial : Fbc :=
  { taps := [], valid := false, steps := 0, proof := 0, raw := 0, srr := 0, seed := none, frozenAt := none, autoWoff := 0, iso := none, probeIso := 0, band := none, pcode := 0,
    coupling := 0, airDelay := 0, bursts := 0, asked := 0, sent := none, sentLevel := 0 }

/-- Guard state of a channel with no trim, fence or held re-arm. -/
def Guard.initial : Guard :=
  { tOsc := 0, tOvr := 0, tNrise := 0, tAclr := 0, atOsc := 0, atOvr := 0, atNrise := 0, atAclr := 0,
    lastTrim := 0, ovrHits := 0, nriseHits := 0, rho := 0, nrise := 0, muteGain := 0, fenced := false,
    causes := 0, aclrPort := none, fenceReq := 0, lastFence := 0, arm := .none, cover := none }

/-- Trunk state of a channel with no lane. -/
def Trunk.initial : Trunk :=
  { dReq := 0, dU := 0, dL := 0, ceil := 147456, align := 0, rel := 0, alignNow := 0, cause := 0, gateOpen := false, below := 0, desc := 0,
    donorLost := false, lost := false, stamped := false, stampAt := 0, next := none, via := none, snum := 0, tref := 0, ratio := (0, 0),
    frac := 0, ta0 := 0, join := 0, fifo := [], own := [], ownNext := none, window := 0, gates := [], last := [] }

/-- No mute. -/
def Mutes.none : Mutes := { prog := false, dloss := false, nrise := false, trk := false, reset := false }

/-- A FREE slot of generation 0. -/
def Slot.initial : Slot :=
  { phase := .free, committed := false, gen := 0, owner := 0, set := Settings.default, pend := none, req := none, fade := none,
    settling := false, mutes := Mutes.none, muteReq := Mutes.none, zero := true, sats := 0, rxOff := 0, txOff := 0, dc := (0, 0), fill := 0, ramp := 0, fell := 0, inp := [], out := [], commits := 0, outFree := 0, glc := Glc.initial,
    fbc := Fbc.initial, guard := Guard.initial, trunk := Trunk.initial }

/-- The grants of a partition never granted anything (R390). -/
def Grants.zero : Grants :=
  { chq := 0, taskq := 0, eng := 0, can := 0, memq := 0, keepq := 0, nearq := 0, ctx := 0, time := 0,
    dram := 0, pkt := 0, cnt := 0 }

/-- Tables at their defaults and table words at reset (R134, R135, R146, R147, R152, R500). -/
def Tables.initial : Tables :=
  { gShadow := [], gActive := [], gPend := 0, gTnum := 0, gKind := false, gPtr := 0, fShadow := [],
    fActive := [], fPend := 0, fTnum := 0, fPtr := 0, tapHandle := 0, tapPtr := 0, findSlot := 0 }

/-- The sampling words at reset (R488). -/
def Samp.initial : Samp :=
  { event := 0, en := false, period := 1, drop := 0, base := 0, len := 0, snext := 0 }

/-- An absent partition (R387, R390). -/
def Part.initial : Part :=
  { life := .absent, gen := 0, grants := Grants.zero, effEng := 0, effCan := 0, effCtx := 0, effTime := 0,
    credit := 0, viol := 0, lastK := 0, qfull := false, kfull := false, poison := false, events := 0,
    tabs := Tables.initial, samp := Samp.initial, resetMuted := false }

/-- A tune record with the defaults of R38, R46 and R168; the LOs and other fields at DESIGN CHOICE 0 (log 2). -/
def TuneRec.initial : TuneRec :=
  { rxlo := 0, txlo := 0, state := .off, ret := 0, bank := 0, donor := false, boost := false, klead := 4,
    clim := 330, aclr := -45 }

/-- A port at reset (R32, R80): OFF, not locked, nothing loaded. RFKILL_N open asserts (R48). -/
def Port.initial : Port :=
  { st := .off, tune := TuneRec.initial, bankWait := none, probeWait := none, asker := 0, target := none, tx := .off,
    ben := false, bkey := false, bflt := false, killed := true, enAt := 0, keyAt := 0, rampAt := 0, bankAt := none, blank := false,
    scale := 0, scaled := false, sched := none, schedNext := none, schedRun := false, schedIdx := 0, schedFresh := false, probeQ := [], probing := none, retune := none,
    lock := false, rxv := false, conv := false, adapt := false, clip := false, clipCnt := 0, clipMs := false,
    adaptMs := 0, convMax := 200, coef := [], coefs := [], txLeak := 0, txImage := 0, dac := (0, 0), bias := 1, aclrHits := 0 }

/-- A link at reset (R221). -/
def Link.initial : Link :=
  { st := .down, ring := false, los := false, err := false, speed := false, frame := 0, peerEpoch := 0,
    peerNode := 2047, peerState := 0, mapvIn := 0, mapvOut := 0, lanesIn := [], lanesOut := [],
    child := false, accept := none, syncFrame := 0, syncT3 := 0, syncT4 := 0, synced := false, departed := [], timeHigh := 0, delays := [], asym := 0, p7 := [],
    miss := 0, heard := none, broken := false, askUp := false, copies := [], outs := [], beyond := 0, cells := [], eqBand := 1, sent := none }

/-- The machine right after RST_N is released and before BOOT begins (R7), as delivered (chapter 19: both fuses
unset, image and charter slots empty, personality empty): every field at the reset value the manual states, and
where it states none at the value log entry 2 names. -/
def State.reset : State :=
  { pending := [], free := 0
    clk := { ed := 0, origin := 0, fab := 0, opt := 0 }
    cpu := { tasks := [], gens := [], ready := [], bound := [], coreUp := 0, wdr := false, outC := false,
             wrun := false, stops := [], wardenHeld := false, heldQ := [], stale := [], know := [], windowEnd := 0 }
    parts := Vector.replicate 8 Part.initial
    pw := { pnum := 0, qerr := false, entry := 0, arg := 0, abase := 0, acode := 0 }
    mail := []
    ms := { mem := [], pages := [], mram := [], kwb := [], poison := [], replicas := [], readHeat := [],
            directory := [], homeWait := [], keptMram := [], band := 1, bandCool := 0, evict := false,
            ce := false, ue := false, retire := false, scrub := false, retired := [], asked := [], late := [], flaws := [], worn := [], freeing := [], shown := [] }
    rad := { slots := [], roundQ := [], sat := false, noBud := false, refill := false, ceil := false,
             gate := false, chk := false, inval := false, isoDrop := false, fNoBud := false,
             everIsolate := false, ngd := 0, sarm := 0, clamp := false, refuse := false, vfail := false, gchk := false,
             tLost := false, tCeil := false, tSat := false, laneTimingFree := false, laneAns := [], dropAns := [], plan := [] }
    cht := { slotA := [], slotB := [], force := none, ents := [], seq := 0, highest := 0, fuse := none,
             actReq := false, silEntries := [], holdEnd := 0, heldMode := none, oscFences := [], clamps := [] }
    ports := Vector.replicate 4 Port.initial
    syn := { ref := 0, mainLk := false, coreLk := false, coreByp := true, coreF := 2, mainLost := false,
             coreFail := false, unlk := false, steer := 0, target := 0, inSince := none, slewAt := 0 }
    links := Vector.replicate 4 Link.initial
    fab := { nodeId := 0, idSet := false, prio := 0, donor := false, addr := none, tto := 1000,
             tapSpeed := false, tapEn := false, pvid := 1, mgmt := 0, vlans := [], vlanSel := 0, elect := false,
             best := none, bestAt := 0, proposalAt := 0, parent := none, accepted := false, announce := none,
             isHead := false, headless := true, wide := false, noAddr := false, nodes := 0, selfAt := 2047,
             headId := 2047, epoch := 0, members := 0, lost := 0, split := false, stale := false, dup := false, seen := [],
             ownSeq := 0, tags := [], out := [], partial' := [], late := [], held := [], macs := [], headMap := [],
             notices := [], lanes := [], asks := [], answers := [], sums := [], homes := [], own := none, elId := none,
             acceptOut := none, fwd := [], tapOut := [], up := none }
    tsu := { src := 0, ptpm := false, ppsoe := false, ppsw := 0x64, ppsd := 0, domain := 0, asym := 0,
             set := none, st := 0, trace := false, step := false, ppsin := false, gm := none, gms := [],
             offs := 0, ppsOff := 0, hops := 0, everLocked := false, srcPresent := false,
             inSince := none, outSince := none, ppsBad := 0, ppsOut := false, ppsRise := 0, tai := 0,
             peerState := 0, pdelay := 0, ptpOut := [], annOut := [],
             pdelayOut := [], adv := none }
    hpi := { wq := [], snaps := [], whold := [], hd := 0, int := 0, ien := 0, viol := 0, iown := false,
             oown := true, idrop := false, idesc := 0, isamp := 0, oinfo := 0, inbuf := [], outbuf := [], aper := [],
             aprRef := 0, busy := false, aprOp := 0, aprAt := 0, aprLines := [], aerr := 0, fline := 0, cerr := false,
             wbusy := false, bootReady := false, bootFail := false, bootGo := false, staging := [], apart := 0, aen := false,
             inen := false, mbpart := 0, mbbox := 0, mben := false, io18 := false, xing := 0, evrSel := 0 }
    pwr := { mode := .reset, req := none, base := .quiet, watchFrom := .quiet, feedA := false, feedB := false, cutA := false,
             cutB := false, downA := false, downB := false, pfw := false, seqRun := false, flost := false, hold := false, wake := false,
             good := false, rst := true, lead := 0, depth := Vector.replicate 8 0, dzen := false, hben := false,
             llen := false, cfmax := 2, d3en := false, hkr := 500, tmr := 0, rfkill := true, rfHigh := false,
             rfHighAt := 0, calib := 0, calibAt := 0, wakeReq := false,
             wardenWait := false, unann := false }
    thm := { warn := 125, throt := 138, shut := 148, t0ntc := false, t1ntc := false, beta := 0, rwarn := 95,
             fWarn := false, fThr := false, fShut := false, fRwarn := false, wseen := false, brkn := false,
             hovr := false, backoff := 0, upRounds := 0, downRounds := 0, mask := 0x0003FFFF, pend := none,
             scan := none, value := Vector.replicate 32 0, valid := 0, brk := 0, unplugged := 0, bad := Vector.replicate 12 0,
             rounds := 0, roundAt := 0, nextInput := 0 }
    obs := { sticky := 0, live := 0, gone := 0, cuffs := [], sources := [], sevN := 4, sevW := 1000,
             handling := [], queue := [], circ := [], perm := [], pcount := 0, next := 0, lostNext := false,
             buckets := [], qovr := false, fdrop := false, bskip := false, suppF := false, optSaved := 0,
             pcc := 0, rsel := 0, rptr := 0, period := 1000, ringBase := 0, ringLen := 0, periodNext := 1000,
             baseNext := 0, lenNext := 0, bseq := 0, bskipNext := false, dumpAt := 0, counters := [],
             sampled := [] }
    svc := { imgA := [], imgB := [], rejA := false, rejB := false, confirmed := 0, fuse := none, run := false,
             source := 0, trial := false, src := 0, op := .none, res := 0, bootsel := 0, image := [],
             chainAsk := false, relay := none, replicaOut := false, persOut := none, offer := none, offerBad := false }
    tap := { st := 0, ir := [], irShift := [], dr := [], bsr := [], tdo := false, tdoEn := false } }

end Sys2Proof.Machine
end

