-- ==== Sys2Proof/Machine/Ops.lean ====
section
/-! DEFINITION. The named operations over the engine's state: accessors, clock, counters, event records, error
lines, coded fault messages, memory, and the task operations shared by every instruction (violation, exception
entry and return, completion, waiting and waking, placement on contexts). -/

namespace Sys2Proof.Machine

/-- The outcome of a command. -/
abbrev Out := Host.Outcome State Fault Refusal

/-- Three dB in 1/1280 dB (R169). -/
def trimStep : Level := 3840

/-- A setting in 0.1 dB as a level. -/
def tenths (x : Int) : Level := 128 * x

/-- ED cycles in a round (R82). -/
def roundLen : Nat := 1152

/-- `x` over 2^d, rounded half to even (R100). -/
def roundHalfEven (x : Int) (d : Nat) : Int :=
  let q := x / 2 ^ d
  let r := 2 * (x % 2 ^ d)
  if r < 2 ^ d then q else if 2 ^ d < r then q + 1 else q + q % 2

/-- A reduction of word length: convergent rounding by `d` bits, then saturation to a signed word of `w` bits with the sign of the
value, and whether it saturated (R100, R101). -/
def shrinkWord (d w : Nat) (x : Int) : Int × Bool :=
  let y := roundHalfEven x d
  (clampInt y (-2 ^ (w - 1)) (2 ^ (w - 1) - 1), decide (y < -2 ^ (w - 1)) || decide (2 ^ (w - 1) ≤ y))

/-- The filter engine, the canceller and the trunk combiner hold their state without processing: the main clock has lost its
lock (R74). -/
def State.engineHeld (s : State) : Bool := s.syn.mainLost

/-- The main clock is locked; its first lock after reset is the instant from which rounds are counted (R83). -/
def State.lockMain (s : State) : State :=
  { s with
    syn := { s.syn with mainLk := true, mainLost := false }
    clk := { s.clk with origin := if s.syn.mainLk || s.syn.mainLost then s.clk.origin else s.clk.ed } }

/-- ED cycles since the last round boundary; rounds are counted from the main clock's first lock after reset (R83). -/
def State.roundPos (s : State) : Nat := (s.clk.ed - s.clk.origin) % roundLen

/-- The number of the present round (R83). -/
def State.roundNo (s : State) : Nat := (s.clk.ed - s.clk.origin) / roundLen

/-- A round boundary is now: the clock stands at the start of a round (R82). -/
def State.atBoundary (s : State) : Bool := s.roundPos = 0

/-- ED cycles in `n` ms: 983,040 each (R267). -/
def edMs (n : Nat) : Nat := 983040 * n

/-- One microsecond of fabric time in 2^-16 ns (R246). -/
def fabUs : Nat := 65536000

/-- The slot `k`. -/
def State.slot (s : State) (k : Nat) : Slot := tblGet Slot.initial k s.rad.slots

/-- `s` with slot `k` replaced. -/
def State.setSlot (s : State) (k : Nat) (x : Slot) : State :=
  { s with rad := { s.rad with slots := tblPut k x s.rad.slots } }

/-- `s` with slot `k` changed by `f`. -/
def State.mapSlot (s : State) (k : Nat) (f : Slot → Slot) : State := s.setSlot k (f (s.slot k))

/-- `s` with port `p` changed by `f`. -/
def State.mapPort (s : State) (p : PortId) (f : Port → Port) : State :=
  { s with ports := s.ports.set p (f s.ports[p]) }

/-- `s` with every port changed by `f`. -/
def State.mapPorts (s : State) (f : Port → Port) : State := { s with ports := Vector.ofFn fun p => f s.ports[p] }

/-- `s` with link `l` changed by `f`. -/
def State.mapLink (s : State) (l : LinkId) (f : Link → Link) : State :=
  { s with links := s.links.set l (f s.links[l]) }

/-- `s` with partition `p` changed by `f`. -/
def State.mapPart (s : State) (p : PartId) (f : Part → Part) : State :=
  { s with parts := s.parts.set p (f s.parts[p]) }

/-- The task at index `t`, if the index is in use. -/
def State.task? (s : State) (t : Nat) : Option Task := tblFind t s.cpu.tasks

/-- `s` with the task at index `t` replaced. -/
def State.setTask (s : State) (t : Nat) (k : Task) : State :=
  { s with cpu := { s.cpu with tasks := tblPut t k s.cpu.tasks } }

/-- The value of register `r`; g0 reads as zero (R286). -/
def Task.get (k : Task) (r : Reg) : Word := if r = 0 then 0 else k.regs[r]

/-- The task with register `r` written; a write to g0 is discarded (R286). -/
def Task.put (k : Task) (r : Reg) (v : Word) : Task :=
  if r = 0 then k else { k with regs := k.regs.set r v }

/-- The node's ID as its own program names it: 2,046 while it has none (R289). -/
def State.selfNode (s : State) : NodeId := s.fab.addr.getD 2046

/-- The node's ID in a field that names a sender: 2,047 while it has none (R201). -/
def State.senderNode (s : State) : NodeId := s.fab.addr.getD 2047

/-- Operating time in ms (R475). -/
def State.opMs (s : State) : Nat := s.clk.opt / 65536 / 1000000

/-- Fabric time in ns, truncated (R246). -/
def State.fabNs (s : State) : Nat := s.clk.fab / 65536 % 2 ^ 64

/-- ED cycles until fabric time `ns` (R267). -/
def State.cyclesTo (s : State) (ns : Nat) : Nat := ((ns * 65536 - s.clk.fab) * 3 + 199999) / 200000

/-- A span of ps in ED cycles (R267). -/
def psCycles (ps : Nat) : Nat := if ps * 98304 % 10 ^ 8 = 0 then ps * 98304 / 10 ^ 8 else Config.cyclesOf ps

/-- A free word, the `k`-th from the present count (R301, R302). -/
def State.freeAt (s : State) (k : Nat) : Word := Config.freeWord (s.free + k)

/-- `s` after `n` uses of free values. -/
def State.useFree (s : State) (n : Nat) : State := { s with free := s.free + n }

/-- Performance counter `c` advanced by `n`, wrapping at 2^48; counters run from BOOT onward (R482). -/
def State.countBy (s : State) (c n : Nat) : State :=
  if s.pwr.mode = .off ∨ s.pwr.mode = .reset then s
  else { s with obs := { s.obs with
           counters := tblPut c (tblGet 0 c s.obs.counters + BitVec.ofNat 48 n) s.obs.counters } }

/-- Performance counter `c` advanced by one (R482, R526). -/
def State.count (s : State) (c : Nat) : State := s.countBy c 1

/-- A tenant's right to a counter: a compact fabric and the group's bit (R400). -/
def State.mayCount (s : State) (p : PartId) (c : Nat) : Bool :=
  p = 0 || (!s.fab.wide && s.parts[p].grants.cnt.getLsbD (c / 16))

/-- The sampling of partition `p`: occurrences of its event since the last sample, and samples that are due (R487). -/
def State.sampling (s : State) (p : Nat) : Nat × Nat := tblGet (0, 0) p s.obs.sampled

/-- Core event `c` in a task of partition `p`: its counter, and the partition's own copy where it samples this event and holds
the right; every PERIOD-th occurrence makes one sample due (R487, R526). -/
def State.countFor (s0 : State) (p : PartId) (c : Nat) : State :=
  let s := s0.count c
  let x := s.parts[p].samp
  if x.en && decide (x.event.toNat = c) && s.mayCount p c then
    let (n, due) := s.sampling p
    let v : Nat × Nat := if max x.period 1 ≤ n + 1 then (0, due + 1) else (n + 1, due)
    { s with obs := { s.obs with sampled := tblPut p v s.obs.sampled } }
  else s

/-- The time that `n` ED cycles from `s` take, in 2^-16 ns: 200,000 / 3 per cycle (R267). -/
def State.spanU (s : State) (n : Nat) : Nat := 200000 * (s.clk.ed + n) / 3 - 200000 * s.clk.ed / 3

/-- The number of RUNNING tasks of partition `p`, each of which uses its credit (R393). -/
def State.runningOf (s : State) (p : PartId) : Nat :=
  (s.cpu.tasks.filter fun (_, k) =>
    k.part = p && (match k.st with | .running _ => true | _ => false)).length

/-- The clock `n` ED cycles on: fabric time and operating time advance, and each RUNNING task of a tenant uses
its partition's credit (R246, R393, R475). Nothing runs in OFF. -/
def State.advance (s : State) (n : Nat) : State :=
  if s.pwr.mode = .off then s
  else
    let u := s.spanU n
    { s with
      clk := { s.clk with ed := s.clk.ed + n, fab := (s.clk.fab + u) % 2 ^ 80, opt := s.clk.opt + u }
      parts := Vector.ofFn fun p =>
        { s.parts[p] with credit := s.parts[p].credit - u * s.runningOf p } }

/-! Severity by counting (R472, R473). -/

/-- Severity source of a slot (R175). -/
def srcSlot (k : Nat) : Nat := k

/-- Severity source of a port (R175). -/
def srcPort (p : Nat) : Nat := 192 + p

/-- Severity source of an error line (R472). -/
def srcLine (n : Nat) : Nat := 256 + n

/-- Severity source of a coded fault: SNODE, SUBSYS, KIND and PART together (R472). -/
def srcFault (node sub kind part : Nat) : Nat := 1024 + ((node * 32 + sub) * 256 + kind) * 8 + part

/-- The counting record of a source. -/
def State.source (s : State) (k : Nat) : Source := tblGet { times := [], severe := false, window := 0 } k s.obs.sources

/-- The window W in the unit of `Clock.opt` (R473). -/
def State.sevWindow (s : State) : Nat := s.obs.sevW * 65536000000

/-- An event of source `k`: its last N instants are kept, and it becomes severe when N of them fall within W. -/
def State.countSource (s : State) (k : Nat) : State :=
  let n := max s.obs.sevN 2
  let ts := (s.clk.opt :: (s.source k).times).take n
  let sev := (s.source k).severe || (ts.length = n && s.clk.opt - ts.getLast?.getD s.clk.opt ≤ s.sevWindow)
  { s with obs := { s.obs with sources := tblPut k { times := ts, severe := sev, window := s.sevWindow } s.obs.sources } }

/-! Error lines and cuffs (R463 to R468). -/

/-- The cuff of subsystem `n`. -/
def State.cuff (s : State) (n : SubId) : Cuff :=
  tblGet { kind := 0, more := false, seen := false, cnt := 0, now := 0 } n s.obs.cuffs

/-- A 6-bit count one higher, saturating at 63. -/
def satInc6 (c : BitVec 6) : BitVec 6 := if c = 63 then 63 else c + 1

/-- The error line of subsystem `n` rises for an error of kind `kind`: STICKY sets or the cuff counts a further
rise, HW.HPI_INT.FSW sets, and the rise counts toward severity (R463, R466). A line that is high already does not
rise. -/
def State.lineRise (s : State) (n : SubId) (kind : Byte) : State :=
  if s.obs.live.getLsbD n.val then s
  else
    let c := s.cuff n
    let c' : Cuff :=
      if s.obs.sticky.getLsbD n.val then { c with more := true, cnt := satInc6 c.cnt, now := kind }
      else { kind := kind, more := false, seen := false, cnt := 1, now := kind }
    ({ s with
       obs := { s.obs with
         live := s.obs.live ||| (1#20 <<< n.val)
         sticky := s.obs.sticky ||| (1#20 <<< n.val)
         cuffs := tblPut n c' s.obs.cuffs }
       hpi := { s.hpi with int := if s.obs.sticky.getLsbD n.val then s.hpi.int else s.hpi.int ||| 0x20 } }).countSource
         (srcLine n)

/-- The error line of subsystem `n` falls: GONE sets if STICKY is 1 and the cuff has not been read (R463, R464). -/
def State.lineFall (s : State) (n : SubId) : State :=
  if s.obs.live.getLsbD n.val then
    { s with obs := { s.obs with
        live := s.obs.live &&& ~~~(1#20 <<< n.val)
        gone := if s.obs.sticky.getLsbD n.val && !(s.cuff n).seen then s.obs.gone ||| (1#20 <<< n.val)
                else s.obs.gone } }
  else s

/-- An error with no lasting condition: the line is high for one cycle of its own domain (chapter 18). -/
def State.linePulse (s : State) (n : SubId) (kind : Byte) : State :=
  if s.obs.live.getLsbD n.val then s else (s.lineRise n kind).lineFall n

/-- Clears STICKY of the subsystems in `mask`, with GONE and the cuffs; where the line is still high, STICKY sets
again at once and the cuff latches the error still in force (R465). -/
def State.stickyClear (s : State) (mask : BitVec 20) : State :=
  let relatch : Nat → Cuff → Cuff := fun n c =>
    if mask.getLsbD n then
      if s.obs.live.getLsbD n then { kind := c.now, more := false, seen := false, cnt := 1, now := c.now }
      else { kind := 0, more := false, seen := false, cnt := 0, now := 0 }
    else c
  { s with
    obs := { s.obs with
      sticky := (s.obs.sticky &&& ~~~mask) ||| (s.obs.live &&& mask)
      gone := s.obs.gone &&& ~~~mask
      cuffs := tblMap relatch s.obs.cuffs }
    hpi := { s.hpi with int := if s.obs.live &&& mask = 0 then s.hpi.int else s.hpi.int ||| 0x20 } }

/-! Event records (R474 to R478). -/

/-- The token bucket of event code `c`, full at reset (R478). -/
def State.bucket (s : State) (c : Nat) : Bucket := tblGet { tokens := 32, supp := 0, last := 0 } c s.obs.buckets

/-- The instants since reset at which buckets gain a token, one every 125 ms (R478). -/
def State.tokenClock (s : State) : Nat := s.clk.ed / edMs 125

/-- A record takes a token; a full bucket gains the next one with the next instant (R478). -/
def Bucket.take (b : Bucket) (now : Nat) : Bucket :=
  { b with tokens := b.tokens - 1, last := if 32 ≤ b.tokens then now else b.last }

/-- The flags of a record besides PERM and LOST. -/
structure RecFlags where
  nest : Bool
  prog : Bool
  deriving DecidableEq, Repr

/-- A record in the layout of R474, DONE set (R477). -/
def State.record (s : State) (code : Nat) (fl : RecFlags) (node : NodeId) (part : Nat) (p0 p1 p2 p3 : Nat) :
    BitVec 256 :=
  BitVec.ofNat 256
    (code % 2 ^ 16 + flagN s.obs.lostNext 17 + flagN fl.nest 18 + flagN fl.prog 19
      + min (s.bucket code).supp 255 * 2 ^ 24
      + node.toNat * 2 ^ 32 + part % 8 * 2 ^ 43
      + s.obs.next.toNat * 2 ^ 48 + 2 ^ 63
      + s.opMs % 2 ^ 40 * 2 ^ 64 + s.obs.pcc % 2 ^ 24 * 2 ^ 104
      + p0 % 2 ^ 32 * 2 ^ 128 + p1 % 2 ^ 32 * 2 ^ 160 + p2 % 2 ^ 32 * 2 ^ 192 + p3 % 2 ^ 32 * 2 ^ 224)

/-- Writes an event record, through the code's token bucket and the queue of 64 (R477, R478). -/
def State.logFull (s : State) (code : Nat) (fl : RecFlags) (node : NodeId) (part : Nat) (p0 p1 p2 p3 : Nat) :
    State :=
  let b := s.bucket code
  if b.tokens = 0 then
    { s with obs := { s.obs with
        suppF := true, buckets := tblPut code { b with supp := b.supp + 1 } s.obs.buckets } }
  else if s.obs.queue.length ≥ 64 then
    ({ s with obs := { s.obs with
        lostNext := true, qovr := true
        buckets := tblPut code (b.take s.tokenClock) s.obs.buckets } }).linePulse 19 0xA8
  else
    { s with obs := { s.obs with
        queue := s.obs.queue ++ [s.record code fl node part p0 p1 p2 p3]
        next := s.obs.next + 1
        lostNext := false
        buckets := tblPut code { b.take s.tokenClock with supp := 0 } s.obs.buckets } }

/-- A hardware event of this node with parameters P0 to P2 (R524). -/
def State.log (s : State) (code : Nat) (p0 p1 p2 : Nat) : State :=
  s.logFull code { nest := false, prog := false } s.selfNode 0 p0 p1 p2 0

/-! Messages (R355) and wake-ups are with the tasks below. -/

/-- The mailbox `m` of partition `p`. -/
def mailKey (p m : Nat) : Nat := p * 8 + m

/-- The messages in the mailbox with key `k`, oldest first. -/
def State.box (s : State) (k : Nat) : List Msg := tblGet [] k s.mail

/-- `s` with the mailbox `k` replaced. -/
def State.setBox (s : State) (k : Nat) (l : List Msg) : State := { s with mail := tblPut k l s.mail }

/-! Coded fault messages (R469 to R471). -/

/-- The 16 bytes of a coded fault message (R469). -/
def faultMsg (node : NodeId) (sub kind part : Nat) (nest sev : Bool) (count time : Nat) (addr : Word) : BitVec 128 :=
  BitVec.ofNat 128
    (node.toNat + sub * 2 ^ 11 + kind * 2 ^ 16 + part * 2 ^ 24 + flagN nest 27 + flagN sev 28
      + min count 65535 * 2 ^ 32 + time % 2 ^ 16 * 2 ^ 48 + addr.toNat * 2 ^ 64)

/-- The event record of a coded fault message (R525). -/
def State.logFault (s : State) (m : BitVec 128) (nestKind : Byte) : State :=
  let w := m.toNat
  s.logFull (0x0100 + fieldN w 23 16) { nest := bitN w 27, prog := false } (BitVec.ofNat 11 (fieldN w 10 0))
    (fieldN w 26 24) (fieldN w 31 0) (fieldN w 95 64) (fieldN w 127 96)
    (nestKind.toNat + fieldN w 47 32 * 2 ^ 8)

/-- Places a coded fault message in mailbox 6 of P0 and writes its event record; a full mailbox discards it
(R470). -/
def State.placeFault (s : State) (m : BitVec 128) (nestKind : Byte) : State :=
  let k := mailKey 0 6
  let s1 :=
    if (s.box k).length ≥ 16 then
      ({ s with obs := { s.obs with fdrop := true } }).linePulse 19 0xAA
    else
      s.setBox k (s.box k ++ [{ body := natToBytes m.toNat 16, srcNode := s.selfNode, srcPart := 0, seen := [], seq := none }])
  s1.logFault m nestKind

/-- The key under which reports merge: source node, subsystem and kind (R218). -/
def faultKey (m : BitVec 128) : Nat := fieldN m.toNat 23 0

/-- The earlier of two operating times of which the low 16 bits are known (R218). -/
def earlierTime (a b : Nat) : Nat := if (b + 65536 - a) % 65536 < 32768 then a else b

/-- Two reports of one key merged: counts add and saturate, the highest severity and the earliest operating time are kept
(R218). -/
def mergeFault (a b : BitVec 128) : BitVec 128 :=
  let c := min (fieldN a.toNat 47 32 + fieldN b.toNat 47 32) 65535
  let t := earlierTime (fieldN a.toNat 63 48) (fieldN b.toNat 63 48)
  (a &&& ~~~(0xFFFFFFFF#128 <<< 32)) ||| (BitVec.ofNat 128 (t * 65536 + c) <<< 32) ||| (b &&& (1#128 <<< 28))

/-- A report toward the head enters the node's queue: held, or merged into the held report of its key, which
restarts the hold (R218). -/
def State.holdFault (s : State) (m : BitVec 128) (via : Option ChainId) : State :=
  let merge : HeldFault → HeldFault := fun h =>
    if faultKey h.msg = faultKey m then { h with msg := mergeFault h.msg m, at' := s.clk.ed } else h
  if s.fab.held.any (fun h => faultKey h.msg = faultKey m) then
    ({ s with fab := { s.fab with held := s.fab.held.map merge } }).count 141
  else
    { s with fab := { s.fab with
        held := s.fab.held ++ [{ msg := m, since := s.clk.ed, at' := s.clk.ed, nestKind := 0, via := via }] } }

/-- Marks a held report as nested (R471): NEST sets, COUNT increments. -/
def nestFault (m : BitVec 128) : BitVec 128 :=
  let c := min (fieldN m.toNat 47 32 + 1) 65535
  ((m &&& ~~~(0xFFFF#128 <<< 32)) ||| (BitVec.ofNat 128 c <<< 32)) ||| (1#128 <<< 27)

/-- Subsystem and partition of a message, by which nesting is decided (R471). -/
def faultOrigin (m : BitVec 128) : Nat := fieldN m.toNat 15 11 * 8 + fieldN m.toNat 26 24

/-- The node a global reference names (R362). -/
def refNode (w : Word) : NodeId := BitVec.ofNat 11 (fieldN w.toNat 61 51)

/-- The node a coded fault names as its source: a home that does not answer or is unreachable is observed at fault by the node
that reports it (R218); every other fault is this node's own. -/
def State.faultNode (s : State) (kind : Nat) (addr : Word) (exc : Option Nat) : Option NodeId :=
  let n := refNode addr
  if exc.isSome && (decide (kind = 3) || decide (kind = 4)) && decide (n.toNat < 2046) && decide (some n ≠ s.fab.addr) then some n
  else none

/-- A coded fault arises at this node (R469 to R471): it merges as a nested error into the exception message still
being handled for the same subsystem and partition, or, while a report of another kind of that origin is held, into
that; otherwise it is placed here and, unless the node is head or headless, held toward the head. -/
def State.codedFaultN (s : State) (sub kind part : Nat) (addr : Word) (n : Nat) (exc : Option Nat) : State :=
  let here := (s.faultNode kind addr exc).getD s.selfNode
  let s0 := s.countSource (srcFault here.toNat sub kind part)
  let sev := (s0.source (srcFault here.toNat sub kind part)).severe
  let m := faultMsg here sub kind part false sev n (s.opMs % 65536) addr
  let link := faultMsg ((s.faultNode kind addr exc).getD s.senderNode) sub kind part false sev n (s.opMs % 65536) addr
  let nest : HeldFault → HeldFault := fun x =>
    if faultOrigin x.msg = faultOrigin m then { x with msg := nestFault x.msg, nestKind := BitVec.ofNat 8 kind }
    else x
  match s0.obs.handling.find? (fun h => faultOrigin h.2.msg = faultOrigin m) with
  | some (k, h) =>
    let h' := { h with msg := nestFault h.msg, nestKind := BitVec.ofNat 8 kind }
    ({ s0 with
       obs := { s0.obs with handling := tblPut k h' s0.obs.handling }
       fab := { s0.fab with held := s0.fab.held.map nest } }).logFault h'.msg h'.nestKind
  | none =>
    if s0.fab.held.any (fun x => faultOrigin x.msg = faultOrigin m && faultKey x.msg ≠ faultKey link) then
      ({ s0 with fab := { s0.fab with held := s0.fab.held.map nest } }).logFault
        (nestFault m) (BitVec.ofNat 8 kind)
    else
      let s1 := s0.placeFault m 0
      let s2 := match exc with
        | some t => { s1 with obs := { s1.obs with
            handling := tblPut t { msg := m, since := s.clk.ed, at' := s.clk.ed, nestKind := 0, via := none } s1.obs.handling } }
        | none => s1
      if s2.fab.isHead || s2.fab.headless then s2 else s2.holdFault link none

/-- A coded fault of count 1 that is no task's exception. -/
def State.codedFault (s : State) (sub kind part : Nat) (addr : Word) : State :=
  s.codedFaultN sub kind part addr 1 none

/-! Violations (R298, R299). -/

/-- Partition `p`'s violation counter one higher, saturating, with the kind of the access (R291, R298). -/
def State.violation (s : State) (p : PartId) (kind : Byte) : State :=
  (s.mapPart p fun x =>
    { x with viol := if x.viol = 0xFFFFFFFF then x.viol else x.viol + 1, lastK := kind }).countFor p 11

/-! Pages and memory (R360 to R382). -/

/-- Bytes in a page: 4 KiB or 2 MiB (R360). -/
def Page.size (p : Page) : Nat := if p.peck then 0x200000 else 0x1000

/-- Gills in a page (chapter 14). -/
def Page.gills (p : Page) : Nat := if p.peck then 512 else 1

/-- The page holds the virtual address `va` of partition `part`. -/
def Page.holds (p : Page) (part : PartId) (va : Nat) : Bool :=
  p.part = part && p.va ≤ va && va < p.va + p.size

/-- The page of partition `part` at virtual address `va`. -/
def State.pageAt (s : State) (part : PartId) (va : Nat) : Option Page := s.ms.pages.find? (·.holds part va)

/-- `va` is allocated to `part` (R299, R360). -/
def State.allocated (s : State) (part : PartId) (va : Nat) : Bool := (s.pageAt part va).isSome

/-- Every one of the `n` bytes from `va` is allocated to `part`; an access of at most a page's length touches at
most the pages of its first and its last byte. -/
def State.allocatedRange (s : State) (part : PartId) (va n : Nat) : Bool :=
  s.allocated part va && s.allocated part (va + (n - 1))

/-- The key of a byte in this node's memory. -/
def memKey (part : PartId) (va : Nat) : Nat := part.val * 2 ^ 48 + va

/-- Some byte of the `n` from key `a` lies in a poisoned block of 32 bytes (R381, R382). -/
def State.poisoned (s : State) (a n : Nat) : Bool :=
  s.ms.poison.any fun b => decide (b * 32 < a + n) && decide (a < b * 32 + 32)

/-- A tier's code corrects `wrong` wrong bits of a code word, in DRAM wrong symbols: one, in MRAM two (R379). -/
def eccCorrects (tier : Nat) (wrong : Nat) : Bool := decide (wrong ≤ if tier = 2 then 2 else 1)

/-- The tier whose frame holds a copy of the page: its MRAM copy, or the frame that accesses reach (R379). -/
def Page.copyTier (p : Page) (copy : Bool) : Nat := if copy then 2 else p.tier.toNat

/-- The blocks of 32 bytes with wrong bits among the `n` bytes from key `a`, in the frame that accesses reach or in the MRAM copy. -/
def State.flawsAt (s : State) (copy : Bool) (a n : Nat) : List Flaw :=
  s.ms.flaws.filter fun f => f.copy = copy && decide (f.block * 32 < a + n) && decide (a < f.block * 32 + 32)

/-- The page has a sound MRAM copy of block `b` beside its working copy (R367, R369, R381). -/
def State.soundCopy (s : State) (p : Page) (b : Nat) : Bool :=
  p.keep && decide (p.tier ≠ 2) && (s.flawsAt true (b * 32) 32).all fun f => eccCorrects 2 f.wrong

/-- A load of the `n` bytes at `va` meets an error that neither its code nor a keep page's MRAM copy repairs, or a poisoned block
(R381, R382). -/
def State.badRead (s : State) (part : PartId) (va n : Nat) : Bool :=
  s.poisoned (memKey part va) n || (s.flawsAt false (memKey part va) n).any fun f =>
    match s.pageAt part (f.block * 32 - memKey part 0) with
    | some p => !eccCorrects p.tier.toNat f.wrong && !s.soundCopy p f.block
    | none => false

/-! Frames of the three tiers, their errors and the pager's moves (R358, R369, R370, R372, R379 to R384). A count is in gills. -/

/-- 24 hours in ms (R179, R380). -/
def dayMs : Nat := 86400000

/-- Gills available to pages in tier `t`: 30 MiB, 7,936 MiB, 448 MiB (R358). -/
def tierGills (t : Nat) : Nat := if t = 0 then 7680 else if t = 1 then 2031616 else 114688

/-- The gills of the pages `f` holds of. -/
def gillsOf (l : List Page) (f : Page → Bool) : Nat := ((l.filter f).map Page.gills).sum

/-- Gills of DRAM that replicas hold (R372). -/
def State.replicaGills (s : State) : Nat := (s.ms.replicas.map fun r => (r.data.length + 4095) / 4096).sum

/-- Gills of tier `t` that the pages of a list take: where they are placed, and in MRAM every keep page's copy (R367). -/
def tierOf (l : List Page) (t : Nat) : Nat := gillsOf l fun p => decide (p.tier.toNat = t) || (decide (t = 2) && p.keep)

/-- Gills of tier `t` in use: pages placed there, those released whose replicas are not all discarded (R364), in DRAM the replicas
held (R372), in MRAM every keep page's copy, that of an absent partition among them (R367, R368). -/
def State.usedGills (s : State) (t : Nat) : Nat :=
  tierOf s.ms.pages t + tierOf s.ms.freeing t + (if t = 1 then s.replicaGills else 0)
    + (if t = 2 then gillsOf s.ms.keptMram (fun _ => true) else 0)

/-- Free frames of tier `t` in gills (R384), retired frames aside (R380). -/
def State.freeGills (s : State) (t : Nat) : Nat := tierGills t - tblGet 0 t s.ms.retired - s.usedGills t

/-- Gills of tier `t` that this node's own pages can take: those free, and in DRAM those of replicas, which are dropped for
them (R372). -/
def State.roomGills (s : State) (t : Nat) : Nat := s.freeGills t + (if t = 1 then s.replicaGills else 0)

/-- The coldest replica is dropped (R372). -/
def State.dropColdReplica (s : State) : State :=
  let least := s.ms.replicas.foldl (fun (m : Nat) (r : Replica) => min m r.heat) 65535
  match s.ms.replicas.find? fun (r : Replica) => r.heat ≤ least with
  | some r =>
    ({ s with ms := { s.ms with replicas := s.ms.replicas.filter fun (x : Replica) => x.ref ≠ r.ref } }).count 71
  | none => s

/-- Replicas are dropped, coldest first, until `g` gills of DRAM are free or none is left (R372). -/
def State.makeRoom (s : State) (g : Nat) : State :=
  (List.range s.ms.replicas.length).foldl (fun s _ => if g ≤ s.freeGills 1 then s else s.dropColdReplica) s

/-- Page `p`, as its page table entry stands now, is replaced. -/
def State.mapPage (s : State) (p : Page) (f : Page → Page) : State :=
  let g : Page → Page := fun q => if q.part = p.part && q.va = p.va then f q else q
  { s with ms := { s.ms with pages := s.ms.pages.map g } }

/-- The errors among `l` that count toward retirement: those of the last 24 hours (R380). -/
def State.recentErrors (s : State) (l : List Nat) : List Nat := l.filter fun t => decide (s.opMs < t + dayMs)

/-- A frame of `g` gills of tier `t` is retired: the tier has it less, for good (R380). -/
def State.frameGone (s : State) (t g : Nat) : State :=
  ((({ s with ms := { s.ms with
      retire := true, retired := tblPut t (tblGet 0 t s.ms.retired + g) s.ms.retired } }).count 76).linePulse 14 0x81).log
    0x1E00 t 0 0

/-- A frame is free again; the errors that it has shown are kept with it, and three within 24 hours retire it (R380). -/
def State.leaveFrame (s : State) (t g : Nat) (ce : List Nat) : State :=
  let l := s.recentErrors ce
  if 3 ≤ l.length then s.frameGone t g
  else if l.isEmpty then s
  else { s with ms := { s.ms with worn := s.ms.worn ++ [{ tier := t, gills := g, ce := l }] } }

/-- A free frame of `g` gills of tier `t` is taken, one that has shown no error while there is one (DESIGN CHOICE, log 24), with the
errors it has shown. -/
def State.takeFrame (s : State) (t g : Nat) : State × List Nat :=
  let mine := s.ms.worn.filter fun w => w.tier = t
  if g + (mine.map (·.gills)).sum ≤ s.freeGills t then (s, [])
  else
    match mine.find? fun w => w.gills = g with
    | some w => ({ s with ms := { s.ms with worn := s.ms.worn.erase w } }, w.ce)
    | none => (s, [])

/-- An uncorrectable error of partition `part` at `va` is reported (R381). -/
def State.uncorrected (s : State) (part : PartId) (va : Nat) : State :=
  let s1 := { s with ms := { s.ms with ue := true } }
  ((s1.count 68).linePulse 14 0x80).codedFault 14 0x80 part.val (BitVec.ofNat 64 va)

/-- The block of 32 bytes of partition `part` at `va` is poisoned (R381, R382). -/
def State.poisonBlock (s : State) (part : PartId) (va : Nat) : State :=
  let b := memKey part va / 32
  let s1 := { s with ms := { s.ms with poison := if s.ms.poison.contains b then s.ms.poison else b :: s.ms.poison } }
  (s1.mapPart part fun x => { x with poison := true }).uncorrected part va

/-- A corrected error: the corrected data is written back and the correction counted (R379, R380, R383). -/
def State.corrected (s : State) : State := ({ s with ms := { s.ms with ce := true } }).count 67

/-- The wrong bits recorded in `f` are gone: rewritten or carried away. -/
def State.dropFlaw (s : State) (f : Flaw) : State := { s with ms := { s.ms with flaws := s.ms.flaws.erase f } }

/-- The address of the block of a flaw in partition `part`. -/
def Flaw.va (f : Flaw) (part : PartId) : Nat := f.block * 32 - memKey part 0

/-- The pager or the scrub meets wrong bits in a frame of tier `t` of partition `part`: they are corrected, or the block is poisoned,
whatever another copy holds (R379, R381). -/
def State.carryFlaw (s : State) (part : PartId) (t : Nat) (f : Flaw) : State :=
  if eccCorrects t f.wrong then (s.dropFlaw f).corrected else (s.dropFlaw f).poisonBlock part (f.va part)

/-- The pager reads a page's frame, or its MRAM copy, as a whole (R379, R381); with how many errors were corrected. -/
def State.carryFlaws (s : State) (p : Page) (copy : Bool) : State × Nat :=
  let fs := s.flawsAt copy (memKey p.part p.va) p.size
  let t := p.copyTier copy
  (fs.foldl (fun s f => s.carryFlaw p.part t f) s, (fs.filter fun f => eccCorrects t f.wrong).length)

/-- The working copy of a keep page is released: an error of the MRAM copy that its code does not correct is repaired from it before
(R369, R381); from then on accesses reach the MRAM copy. -/
def State.releaseCopy (s : State) (p : Page) : State :=
  let a := memKey p.part p.va
  let here : Flaw → Bool := fun f => decide (a ≤ f.block * 32) && decide (f.block * 32 < a + p.size)
  let sound : Flaw → Bool := fun f => (s.flawsAt false (f.block * 32) 32).all fun g => eccCorrects p.tier.toNat g.wrong
  let bad := s.ms.flaws.filter fun f => here f && f.copy && !eccCorrects 2 f.wrong && sound f
  let s1 := bad.foldl (fun s f => (s.dropFlaw f).uncorrected p.part (f.va p.part)) s
  { s1 with ms := { s1.ms with
      flaws := (s1.ms.flaws.filter fun f => !(here f && !f.copy)).map fun f => if here f then { f with copy := false } else f } }

/-- The page goes into another frame, in tier `tier`, its content, address and keep attribute unchanged (R369, R370); its old frame is
free, or retired where `gone` says so (R380). A keep page that goes to MRAM gives its working copy up; one that comes from there
keeps its MRAM copy. -/
def State.reframe (s : State) (p : Page) (tier : BitVec 2) (gone : Bool) : State :=
  let out : State → Nat → List Nat → State := fun s t ce => if gone then s.frameGone t p.gills else s.leaveFrame t p.gills ce
  if p.keep && decide (tier = 2) && decide (p.tier ≠ 2) then
    (out ((s.releaseCopy p).mapPage p fun q => { q with tier := 2, ce := p.ceCopy, ceCopy := [], evicted := false }) p.tier.toNat
      p.ce)
  else
    let r := s.carryFlaws p false
    let ce := s.recentErrors (List.replicate r.2 s.opMs ++ p.ce)
    let new := r.1.takeFrame tier.toNat p.gills
    if p.keep && decide (p.tier = 2) && decide (tier ≠ 2) then
      new.1.mapPage p fun q => { q with tier := tier, ce := new.2, ceCopy := ce, evicted := false }
    else
      out (new.1.mapPage p fun q => { q with tier := tier, ce := new.2, evicted := false }) p.tier.toNat ce

/-- The frames of a page are free: its own, and that of a keep page's MRAM copy beside it. -/
def State.freeFrames (s : State) (p : Page) : State :=
  let s1 := s.leaveFrame p.tier.toNat p.gills p.ce
  if p.keep && decide (p.tier ≠ 2) then s1.leaveFrame 2 p.gills p.ceCopy else s1

/-- The pager moves the page to tier `tier`; the line accesses of the move count as heat (R369, R370); replicas give their DRAM
frames up for it (R372). -/
def State.movePage (s0 : State) (p : Page) (tier : BitVec 2) : State :=
  let s := if tier = 1 then s0.makeRoom p.gills else s0
  ((s.reframe p tier false).mapPage p fun q => { q with heat := min (q.heat + q.size / 64) 65535 }).count 69

/-- The tier with room for a page whose frame is to be retired (R380): its own, for a keep page its MRAM copy alone, else another;
none where no frame is free. -/
def State.refuge (s : State) (p : Page) : Option (BitVec 2) :=
  if p.gills ≤ s.freeGills p.tier.toNat then some p.tier
  else if p.keep then (if p.tier ≠ 2 then some 2 else none)
  else if decide (p.tier ≠ 1) && decide (p.gills ≤ s.roomGills 1) then some 1
  else if decide (p.tier ≠ 2) && decide (p.gills ≤ s.freeGills 2) then some 2
  else none

/-- The frame of page `p`, or that of its MRAM copy, is retired: the page moves. Where no frame is free for it the retirement waits for
the frame's next corrected error (R380; DESIGN CHOICE, log 24). -/
def State.retireFrame (s : State) (p : Page) (copy : Bool) : State :=
  if copy then
    if p.gills ≤ s.freeGills 2 then
      let s1 := (s.carryFlaws p true).1
      let new := s1.takeFrame 2 p.gills
      (new.1.mapPage p fun q => { q with ceCopy := new.2 }).frameGone 2 p.gills
    else s
  else
    match s.refuge p with
    | some t => ((if t = 1 then s.makeRoom p.gills else s).reframe p t true).count 69
    | none => s

/-- A corrected error in a frame of the page, or in that of its MRAM copy: three of them within 24 hours retire the frame (R379, R380). -/
def State.correctedError (s : State) (p : Page) (copy : Bool) : State :=
  let times := s.recentErrors (s.opMs :: if copy then p.ceCopy else p.ce)
  let s1 := s.corrected.mapPage p fun q => if copy then { q with ceCopy := times } else { q with ce := times }
  if 3 ≤ times.length then s1.retireFrame { p with ce := if copy then p.ce else times } copy else s1

/-- An access reads a block of partition `part` with wrong bits (R379, R381): corrected and written back, or reported, and repaired from
a keep page's sound MRAM copy. -/
def State.meetFlaw (s : State) (part : PartId) (f : Flaw) : State :=
  match s.pageAt part (f.va part) with
  | none => s
  | some p =>
    if eccCorrects p.tier.toNat f.wrong then (s.dropFlaw f).correctedError p false
    else
      let s1 := s.uncorrected part (f.va part)
      if s.soundCopy p f.block then s1.dropFlaw f else s1

/-- An access of partition `part` reads the `n` bytes at `va` (R379, R381). -/
def State.readErrors (s : State) (part : PartId) (va n : Nat) : State :=
  (s.flawsAt false (memKey part va) n).foldl (fun s f => s.meetFlaw part f) s

/-- The wrong bits of the blocks that the `n` bytes from key `a` fill are overwritten, in the frames that `copy` tells. -/
def State.overwrite (s : State) (copies : Bool) (a n : Nat) : State :=
  { s with ms := { s.ms with
      flaws := s.ms.flaws.filter fun f =>
        !(decide (a ≤ f.block * 32) && decide (f.block * 32 + 32 ≤ a + n) && (copies || !f.copy)) } }

/-- One line access to a page: heat rises by one, saturating at 65,535, and its tier's counter counts (R369, R526). -/
def State.touch (s : State) (part : PartId) (va : Nat) : State :=
  match s.pageAt part va with
  | none => s
  | some p =>
    let heat : Page → Page := fun q =>
      if q.holds part va then { q with heat := min (q.heat + 1) 65535 } else q
    ({ s with ms := { s.ms with pages := s.ms.pages.map heat } }).count (64 + min p.tier.toNat 2)

/-- The 64-byte lines that the `n` bytes from key `a` touch. -/
def linesOf (a n : Nat) : List Nat :=
  (List.range ((a + n + 63) / 64 - a / 64)).map fun i => a / 64 + i

/-- An access of `n` bytes at `va`: one line access for each line it touches (R318, R369). -/
def State.touchRange (s : State) (part : PartId) (va n : Nat) : State :=
  (linesOf va n).foldl (fun s l => s.touch part (l * 64)) s

/-- The 64-byte lines of keep pages that the `n` bytes at `va` touch, each as its number in this node's memory (R367). -/
def State.keepLines (s : State) (part : PartId) (va n : Nat) : List Nat :=
  (linesOf (memKey part va) n).filter fun l =>
    match s.pageAt part (l * 64 - memKey part 0) with | some p => p.keep | none => false

/-- The keep write buffer with line `l` of memory `m` as its newest entry (R367). -/
def kwbPut (m : List Host.Cell) (kwb : List (Nat × List Byte)) (l : Nat) : List (Nat × List Byte) :=
  (kwb.filter fun e => e.1 ≠ l) ++ [(l, memBytes m (l * 64) 64)]

/-- The partition of a line of this node's memory. -/
def linePart (l : Nat) : Nat := l * 64 / 2 ^ 48

/-- The keep write buffer's entries for a partition: of the 256, 32 are reserved for each (R367, R397). -/
def kwbOf (p : PartId) (kwb : List (Nat × List Byte)) : List (Nat × List Byte) := kwb.filter fun e => linePart e.1 = p.val

/-- Entries for a partition beyond its 32: of what enters the buffer at once these have reached the MRAM copies already (R367). -/
def kwbSpill (p : PartId) (kwb : List (Nat × List Byte)) : List (Nat × List Byte) :=
  (kwbOf p kwb).take ((kwbOf p kwb).length - 32)

/-- Entries of the keep write buffer reach the MRAM copies (R367). -/
def putLines (es : List (Nat × List Byte)) (m : List Host.Cell) : List Host.Cell :=
  es.foldl (fun m e => memPutBytes (e.1 * 64) e.2 m) m

/-- What those lines replace in the MRAM copies had wrong bits; they are gone. -/
def putFlaws (es : List (Nat × List Byte)) (l : List Flaw) : List Flaw :=
  l.filter fun f => !(f.copy && es.any fun e => e.1 = f.block / 2)

/-- Puts the bytes `bs` at address `va`: blocks wholly written lose their poison (R382) and wrong bits; the lines of keep pages enter
the keep write buffer (R367); the lines touched count as heat (R369). -/
def State.storeBytes (s : State) (part : PartId) (va : Nat) (bs : List Byte) : State :=
  let a := memKey part va
  let m := memPutBytes a bs s.ms.mem
  let kwb := (s.keepLines part va bs.length).foldl (kwbPut m) s.ms.kwb
  let out := kwbSpill part kwb
  let s1 := { s with ms := { s.ms with
      mem := m
      mram := putLines out s.ms.mram
      flaws := putFlaws out s.ms.flaws
      poison := s.ms.poison.filter fun b => !(a ≤ b * 32 && b * 32 + 32 ≤ a + bs.length)
      kwb := kwb.filter fun e => !out.contains e } }
  (s1.overwrite false a bs.length).touchRange part va bs.length

/-- The page that holds the byte has replicas that holders have not discarded yet (R373). -/
def State.replicated (s : State) (part : PartId) (va : Nat) : Bool :=
  match s.pageAt part va with
  | some q => (tblFind (memKey part q.va) s.ms.directory).isSome
  | none => false

/-- A store of `n` bytes at `va` must wait: some line of a keep page does not fit the partition's part of the keep write buffer (R367,
R397), or a page it reaches has replicas (R373). -/
def State.rangeBlocked (s : State) (p : PartId) (va n : Nat) : Bool :=
  let fresh := ((s.keepLines p va n).filter fun l => !(s.ms.kwb.any fun x => x.1 = l)).length
  (decide (0 < fresh) && decide (32 < (kwbOf p s.ms.kwb).length + min fresh 32)) || s.replicated p va || s.replicated p (va + (n - 1))

/-- The store of an entry must wait (R367, R373). -/
def State.storeBlocked (s : State) (part : PartId) (e : StoreEntry) : Bool := s.rangeBlocked part e.va e.bytes

/-- The cells that a packet's body takes, 56 bytes in each (R213). -/
def PktBody.cells (b : PktBody) : Nat :=
  let f : Nat → Nat := fun n => max ((n + 55) / 56) 1
  match b with
  | .message body _ _ => f body.length
  | .replicaData _ image => f image.bytes.length
  | .frame x => f x.len
  | .ptp x _ _ => f (x.len + 12)
  | _ => 1

/-- The code of a link state (R199). -/
def LState.code (st : LState) : Nat :=
  match st with
  | .down => 0
  | .train => 1
  | .up => 2
  | .lull => 3
  | .blocked => 4

/-- The link carries packet cells: UP, or LULL, which a queued cell ends (R199, R200). -/
def Link.carries (x : Link) : Bool := x.st = .up || x.st = .lull

/-- A chain port's link. -/
def chainLink (l : ChainId) : LinkId := l.castLE (by decide)

/-- 10 µs in ED cycles (R215, R218). -/
def tenUs : Nat := 9831

/-- The output queue of a link direction is full: an empty one never is (R216). -/
def State.queueFull (s : State) (l : ChainId) : Bool :=
  let q := s.fab.out.filter fun p => p.link = l
  !q.isEmpty && decide (Config.queueRoom < q.length)

/-- A cell that is forwarded, its packet's room being found with the first one (R216). -/
def PktBody.isForwarded : PktBody → Bool
  | .forwarded _ => true
  | _ => false

/-- A packet joins the queue of its link; one of priority 6 or lower that finds it full is discarded whole and counted (R216). -/
def State.enqueue (s : State) (p : TxPacket) : State :=
  if p.pri ≠ 7 && !p.body.isForwarded && s.queueFull p.link then s.count 137
  else { s with fab := { s.fab with out := s.fab.out ++ [p] } }

/-- A packet joins its link's queue at the priority it keeps: of a packet of priority 7 as many cells as 1.0 Gb/s over 10 µs still
allows (19 cells of 512 bits), the cells beyond at priority 6, counted (R215). -/
def State.queuePri (s : State) (p : TxPacket) : State :=
  let n := p.body.cells
  let recent := (s.links[chainLink p.link].p7).filter fun t => decide (s.clk.ed < t + tenUs)
  let keep := min n (19 - recent.length)
  let use : State → State := fun s =>
    s.mapLink (chainLink p.link) fun x => { x with p7 := List.replicate keep s.clk.ed ++ recent }
  if p.pri ≠ 7 then s.enqueue p
  else if keep = n then use (s.enqueue p)
  else if keep = 0 then (s.enqueue { p with pri := 6 }).countBy 136 n
  else
    let rest : TxPacket := { p with pri := 6, span := some (keep, n - keep) }
    let s1 := s.enqueue { p with span := some (0, keep) }
    (use { s1 with fab := { s1.fab with out := s1.fab.out ++ [rest] } }).countBy 136 (n - keep)

/-- A packet is queued for one link, which leaves LULL for it (R200, R215). -/
def State.queueOn (s : State) (p : TxPacket) : State :=
  (if s.links[chainLink p.link].st = .lull then s.mapLink (chainLink p.link) fun x => { x with askUp := true } else s).queuePri p

/-- The chain ports that carry packet cells. -/
def State.openPorts (s : State) : List ChainId := (List.finRange 3).filter fun l => s.links[chainLink l].carries

/-- A split next to this node has cut node `n` off (R210). -/
def State.cutOff (s : State) (n : NodeId) : Bool := decide (n ≠ 2047) && s.fab.lost.getLsbD n.toNat

/-- A packet that cannot travel on is discarded and counted: for a node that holds no fabric address per packet (R532), else
by its cells where this node stands next to a break (R210). A broadcast ends here, and so does, uncounted, a copy that has gone
the other way to the end of a chain. -/
def State.deadEnd (s : State) (dst : NodeId) (cells : Nat) (first : Bool) : State :=
  if dst = 2047 then s
  else if s.fab.members.getLsbD dst.toNat then
    if s.cutOff dst || (List.finRange 3).any fun l => s.links[chainLink l].broken then s.countBy 133 cells else s
  else if first then s.count 143
  else s

/-- Sends a packet of this node on the chain ports `ports` (R213). A node with no fabric address sends none of its own but
fault reports (R206). -/
def State.sendOnPorts (s : State) (ports : List ChainId) (dst : NodeId) (pri : BitVec 3) (typ : BitVec 4) (part : PartId)
    (body : PktBody) : State :=
  if (s.fab.addr.isNone || s.fab.noAddr) && decide (typ ≠ 5) then s
  else if ports.isEmpty || s.cutOff dst then s.deadEnd dst body.cells true
  else
    let q : ChainId → TxPacket := fun l =>
      { dst := dst, src := s.senderNode, pri := pri, part := part, typ := typ, seq := s.fab.ownSeq, body := body, link := l, span := none }
    ports.foldl (fun s l => s.queueOn (q l)) { s with fab := { s.fab with ownSeq := s.fab.ownSeq + 1 } }

/-- Sends a packet of this node on every chain port that carries cells, both ways round a ring (R208). -/
def State.sendPacket (s : State) (dst : NodeId) (pri : BitVec 3) (typ : BitVec 4) (part : PartId) (body : PktBody) : State :=
  s.sendOnPorts s.openPorts dst pri typ part body

/-- The global reference of this node's page with memory key `key` (R362). -/
def State.refOf (s : State) (key : Nat) : Word := BitVec.ofNat 64 (key + s.selfNode.toNat * 2 ^ 51)

/-- A page with replicas is about to be written: every holder is told to discard, once (R373). -/
def State.askDiscard (s : State) (key : Nat) : State :=
  match tblFind key s.ms.directory with
  | none => s
  | some hs =>
    if s.ms.asked.contains key then s
    else
      hs.foldl (fun s h => s.sendPacket (BitVec.ofNat 11 h) 5 0 0 (.discard (s.refOf key)))
        { s with ms := { s.ms with asked := key :: s.ms.asked } }

/-- The holders of replicas of the pages that the `n` bytes at `va` reach are told to discard them (R373). -/
def State.askDiscardAt (s : State) (part : PartId) (va n : Nat) : State :=
  let at' : Nat → Option Nat := fun a => (s.pageAt part a).map fun p => memKey part p.va
  let first := match at' va with | some k => s.askDiscard k | none => s
  if at' (va + (n - 1)) = at' va then first
  else match at' (va + (n - 1)) with | some k => first.askDiscard k | none => first

/-- Two stores reach one gill. -/
def StoreEntry.meets (e d : StoreEntry) : Bool := decide (e.va / 4096 = d.va / 4096)

/-- Drains at most `n` entries of a store queue, oldest first, to memory. One that must wait joins `held` and holds the later ones of
its gill there, so that the order at each location stays; others are not delayed (R319, R325, R367, R373). -/
def drainList (part : PartId) (n : Nat) (held : List StoreEntry) : List StoreEntry → State → State × List StoreEntry
  | [], s => (s, held)
  | e :: es, s =>
    if n = 0 || held.any fun d => d.meets e then drainList part n (held ++ [e]) es s
    else if s.storeBlocked part e then drainList part n (held ++ [e]) es (s.askDiscardAt part e.va e.bytes)
    else drainList part (n - 1) held es (s.storeBytes part e.va (natToBytes e.value.toNat e.bytes))

/-- Drains at most `n` stores of task `t` into memory. -/
def State.drainSome (s : State) (t n : Nat) : State :=
  match s.task? t with
  | none => s
  | some k =>
    let (s1, rest) := drainList k.part n [] k.sq s
    s1.setTask t { k with sq := rest }

/-- Drains the store queue of task `t` into memory, as far as it can be (R319, R326). -/
def State.drain (s : State) (t : Nat) : State :=
  match s.task? t with
  | none => s
  | some k => s.drainSome t k.sq.length

/-- The stores that tasks have left behind whose index has been freed reach memory (R295, R319). -/
def State.drainLate (s : State) : State :=
  (List.finRange 8).foldl (fun s p =>
    let mine := (s.ms.late.filter fun e => e.1 = p).map (·.2)
    let r := drainList p mine.length [] mine s
    { r.1 with ms := { r.1.ms with late := (s.ms.late.filter fun e => e.1 ≠ p) ++ r.2.map fun e => (p, e) } }) s

/-- The byte at a local address as task `k` sees it: its own latest store, else memory (R319). -/
def State.readByte (s : State) (k : Task) (va : Nat) : Byte :=
  match k.sq.reverse.find? (fun e => decide (e.va ≤ va) && decide (va < e.va + e.bytes)) with
  | some e => BitVec.ofNat 8 (e.value.toNat / 256 ^ (va - e.va))
  | none => memRead (memKey k.part va) s.ms.mem

/-- The `n` bytes from a local address as task `k` sees them. -/
def State.readLocal (s : State) (k : Task) (va : Nat) : Nat → List Byte
  | 0 => []
  | n + 1 => s.readByte k va :: s.readLocal k (va + 1) n

/-! Tasks: placement, completion, exceptions (R278, R279, R286 to R297, R392 to R395). -/

/-- Programs run in this mode (R23's table; in WATCH while the Warden pair runs, R21). -/
def State.programsRun (s : State) : Bool :=
  match s.pwr.mode with
  | .quiet | .survey | .isolate | .relay | .silenced | .doze | .hibernate | .watch => s.cpu.wrun
  | _ => false

/-- A task occupies context `c`. -/
def State.ctxBusy (s : State) (c : Nat) : Bool :=
  s.cpu.tasks.any fun (_, k) => k.st = .running c

/-- A free context for a task of partition `p`: one of the Warden's for P0, a context bound to `p` on a running
core, while the partition has credit, for a tenant (R282, R393, R394). -/
def State.freeCtx (s : State) (p : PartId) : Option Nat :=
  if p = 0 then [32, 33, 34, 35].find? fun c => !s.ctxBusy c
  else if s.parts[p].life = .active ∧ 0 < s.parts[p].credit then
    (s.cpu.bound.find? fun (c, q) => q = p.val && s.cpu.coreUp.getLsbD (c / 4) && !s.ctxBusy c).map (·.1)
  else none

/-- Task `t` with the record `k` goes on context `c` (R278); a move from another context first drains its store
queue (R319), and waits while that cannot be. -/
def State.placeOn (s : State) (t c : Nat) : State :=
  match s.task? t with
  | none => s
  | some k =>
    if k.lastCtx.isNone ∨ k.lastCtx = some c then
      { s with cpu := { s.cpu with
          tasks := tblPut t { k with st := .running c, placedAt := s.clk.ed, lastCtx := some c } s.cpu.tasks
          ready := s.cpu.ready.erase t } }
    else
      let s1 := s.drain t
      match s1.task? t with
      | none => s1
      | some k1 =>
        if k1.sq.isEmpty then
          ({ s1 with cpu := { s1.cpu with
              tasks := tblPut t { k1 with st := .running c, placedAt := s.clk.ed, lastCtx := some c } s1.cpu.tasks
              ready := s1.cpu.ready.erase t } }).countFor k.part 13
        else s1

/-- Places READY tasks on free contexts, first in first out (R394, R395). -/
def placeList : List Nat → State → State
  | [], s => s
  | t :: ts, s =>
    match s.task? t with
    | some k =>
      match s.freeCtx k.part with
      | some c => placeList ts (s.placeOn t c)
      | none => placeList ts s
    | none => placeList ts { s with cpu := { s.cpu with ready := s.cpu.ready.erase t } }

/-- HSC places what it can (R395). -/
def State.place (s : State) : State := if s.programsRun then placeList s.cpu.ready s else s

/-- Task `t` becomes READY, at the back of the queue, and HSC places it if it can (R353, R395). -/
def State.makeReady (s : State) (t : Nat) : State :=
  match s.task? t with
  | none => s
  | some k =>
    ({ s with cpu := { s.cpu with
        tasks := tblPut t { k with st := .ready } s.cpu.tasks
        ready := s.cpu.ready ++ [t] } }).place

/-- Task `t` waits; its context is free for another (R277, R279). -/
def State.makeWait (s : State) (t : Nat) (w : Wait) : State :=
  match s.task? t with
  | none => s
  | some k => (s.setTask t { k with st := .waiting w }).place

/-! What tasks know of one another (R301, R345). -/

/-- What task `t` has stored and learned. -/
def State.know (s : State) (t : Nat) : Know := tblGet { wrote := [], seen := [] } t s.cpu.know

/-- What task `t` has stored and learned is `k`. -/
def State.setKnow (s : State) (t : Nat) (k : Know) : State := { s with cpu := { s.cpu with know := tblPut t k s.cpu.know } }

/-- Two ranges of keys overlap. -/
def overlaps (a n b m : Nat) : Bool := decide (a < b + m) && decide (b < a + n)

/-- Task `t` learns what `l` tells of commits (R345). -/
def State.taught (s : State) (t : Nat) (l : List (Nat × Nat)) : State :=
  if l.isEmpty then s
  else
    let more : List (Nat × Nat) → Nat × Nat → List (Nat × Nat) := fun m x => if tblGet 0 x.1 m < x.2 then tblPut x.1 x.2 m else m
    s.setKnow t { s.know t with seen := l.foldl more (s.know t).seen }

/-- Task `t` reads the `n` bytes from key `a`, and learns what their writers published with a fence (R345). -/
def State.taughtAt (s : State) (t a n : Nat) : State :=
  (s.ms.shown.filter fun x => overlaps a n x.key x.bytes).foldl (fun s x => s.taught t x.seen) s

/-- Task `t` stores to the `n` bytes from key `a`. -/
def State.noteStore (s : State) (t a n : Nat) : State :=
  let k := s.know t
  s.setKnow t { k with wrote := (a, n) :: k.wrote.erase (a, n) }

/-- A fence of task `t` publishes what it has stored (R326, R345). -/
def State.publish (s : State) (t : Nat) : State :=
  let k := s.know t
  if k.wrote.isEmpty then s
  else
    let fresh : List Shown := if k.seen.isEmpty then [] else k.wrote.map fun x => { key := x.1, bytes := x.2, seen := k.seen }
    let old := s.ms.shown.filter fun x => !k.wrote.contains (x.key, x.bytes)
    { s.setKnow t { k with wrote := [] } with ms := { s.ms with shown := old ++ fresh } }

/-- Another task of partition `p` that has not been joined has stored to some of the `n` bytes from key `a` and published none of it: what
task `t` reads there is case 11 of R301 (R352; DEDUCED, log 23). -/
def State.unjoined (s : State) (t : Nat) (p : PartId) (a n : Nat) : Bool :=
  s.cpu.tasks.any fun x => decide (x.1 ≠ t) && decide (x.2.part = p) && (s.know x.1).wrote.any fun w => overlaps a n w.1 w.2

/-- Discards the pending sets that task `t` holds (R19, R338). -/
def State.dropPend (s : State) (t : Nat) : State :=
  let drop : Nat → Slot → Slot := fun _ x =>
    match x.pend with
    | some p => if p.task = t then { x with pend := none } else x
    | none => x
  { s with rad := { s.rad with slots := tblMap drop s.rad.slots } }

/-- The deadline of a request issued now: TTO µs on (R214, R340). -/
def State.newDeadline (s : State) : Nat := s.fabNs + s.fab.tto * 1000

/-- The commit that task `t` waits with for lane blocks is discarded with the task: its request if it has not left, the answer if that
is held; else the answer that is still to come, for as long as it may take (R19; DEDUCED, log 36). -/
def State.dropAsk (s : State) (k : Nat) : State :=
  let mine : LaneRequest → Bool := fun q => q.slot.val = k && !q.leave
  let unsent := s.fab.asks.any mine && !s.fab.isHead
  let held := s.rad.laneAns.any fun e => e.1 = k
  { s with
    fab := { s.fab with asks := s.fab.asks.filter fun q => !mine q }
    rad := { s.rad with
      laneAns := s.rad.laneAns.filter fun e => e.1 ≠ k
      dropAns := if unsent || held then s.rad.dropAns else s.rad.dropAns ++ [(k, s.newDeadline)] } }

/-- What a task waits for with the lane head is dropped (R19). -/
def State.dropWait (s : State) (t : Nat) : State :=
  match s.task? t with
  | some k => match k.st with
    | .waiting (.commit _ c _ _) => s.dropAsk c
    | _ => s
  | none => s

/-- The task index is freed: its generation increments, wrapping (R280). A request of the task that is still outstanding
keeps its tag and reaches no task; its stores reach memory still (R295, R319). -/
def State.freeIndex (s : State) (t : Nat) : State :=
  let orphan : Nat → Tag → Tag := fun _ g => if g.task = t then { g with task := 512 } else g
  let left : List (PartId × StoreEntry) := match s.task? t with | some k => k.sq.map fun e => (k.part, e) | none => []
  { s with
    ms := { s.ms with late := s.ms.late ++ left }
    cpu := { s.cpu with
      tasks := tblDel t s.cpu.tasks
      gens := tblPut t (tblGet 0 t s.cpu.gens + 1) s.cpu.gens
      know := tblDel t s.cpu.know
      ready := s.cpu.ready.erase t }
    fab := { s.fab with tags := tblMap orphan s.fab.tags } }

/-- Index `t` has a new task, which knows nothing of others yet. -/
def State.newIndex (s : State) (t : Nat) : State :=
  { s with cpu := { s.cpu with stale := tblDel t s.cpu.stale, know := tblDel t s.cpu.know } }

/-- The handle of the task at index `t` (R280). -/
def State.taskHandle (s : State) (t : Nat) (p : PartId) : Word :=
  BitVec.ofNat 64 (t + p.val * 2 ^ 16 + (tblGet 0 t s.cpu.gens).toNat * 2 ^ 24)

/-- The performance counters of a completed instruction of a task (R526). -/
def State.countInstr (s : State) (k : Task) : State :=
  let s1 := s.countFor k.part (if k.part = 0 then 2 else 1)
  match k.st with
  | .running c => if c < 32 then s1.countFor k.part (16 + c) else s1
  | _ => s1

/-- The task ends with an exit value: DONE, its pending sets and a commit that waits discarded (R19, R279, R338). -/
def State.endTask0 (s : State) (t : Nat) (value : Word) : State :=
  match s.task? t with
  | none => s
  | some k =>
    ({ s.dropWait t with
        cpu := { (s.dropWait t).cpu with
          tasks := tblPut t { k with st := .done value } s.cpu.tasks
          ready := s.cpu.ready.erase t }
        obs := { s.obs with handling := tblDel t s.obs.handling } }).dropPend t

/-- The subsystem an exception is reported with: 12 for a P0 task, 11 for a tenant's (R523). -/
def excSub (p : PartId) : Nat := if p = 0 then 12 else 11

/-- The exit value of a task that an exception ended (R352). -/
def excExit (cause : Byte) : Word := 0xFFFFFFFFFFFFFF00#64 ||| cause.setWidth 64

/-- The instruction at `a` may be fetched for partition `p`: allocated (R293) and with no uncorrectable error (R381). -/
def State.fetchOk (s : State) (p : PartId) (a : Word) : Bool :=
  s.allocatedRange p a.toNat 4 && !s.badRead p a.toNat 4

/-- An exception that no handler takes ends the task with the exit value of R352, NEST set if ACTIVE was 1 (R297). -/
def State.exceptionEnd (s : State) (t : Nat) (cause : Byte) (pc addr : Word) (n : Nat) : State :=
  match s.task? t with
  | none => s
  | some k =>
    let s1 := (s.codedFaultN (excSub k.part) cause.toNat k.part.val addr n (some t)).countFor k.part 10
    (s1.setTask t { k with cause := cause, excPc := pc, excAddr := addr, nest := k.nest || k.active,
                           pc := pc }).endTask0 t (excExit cause)

/-- Exception entry (R295, R297): CAUSE, SW.EXC_PC and SW.EXC_ADDR are written; with a handler and ACTIVE at 0 the
task continues at the handler with ACTIVE set; otherwise it ends. A coded fault message with count `n` is formed,
nested while ACTIVE was 1. A handler address outside the partition's rights, or poisoned, is an exception again. -/
def State.exception0 (s : State) (t : Nat) (cause : Byte) (pc addr : Word) (n : Nat) : State :=
  match s.task? t with
  | none => s
  | some k =>
    if k.evec ≠ 0 ∧ k.active = false ∧ cause ≠ 5 then
      let s1 := ((s.codedFaultN (excSub k.part) cause.toNat k.part.val addr n (some t)).countFor k.part 10).dropPend t
      let s2 := s1.setTask t
        { k with cause := cause, excPc := pc, excAddr := addr, active := true, pc := k.evec }
      if s2.fetchOk k.part k.evec then s2.readErrors k.part k.evec.toNat 4
      else if s2.allocatedRange k.part k.evec.toNat 4 then s2.exceptionEnd t 2 k.evec k.evec 1
      else (s2.violation k.part 8).exceptionEnd t 1 k.evec k.evec 1
    else s.exceptionEnd t cause pc addr n

/-- Task `t` goes on at `target`, whose fetch is checked: an address outside the partition's rights raises FETCH,
with SW.EXC_PC and SW.EXC_ADDR both the target, and counts kind 0x08; an uncorrectable error raises ECC, and a correctable one is
corrected (R293, R315, R379, R381). -/
def State.goto0 (s : State) (t : Nat) (target : Word) : State :=
  match s.task? t with
  | none => s
  | some k =>
    if s.fetchOk k.part target then (s.setTask t { k with pc := target }).readErrors k.part target.toNat 4
    else if s.allocatedRange k.part target.toNat 4 then (s.readErrors k.part target.toNat 4).exception0 t 2 target target 1
    else (s.violation k.part 8).exception0 t 1 target target 1

/-- Register `r` of task `t` takes `v` (R286). -/
def State.putReg (s : State) (t : Nat) (r : Reg) (v : Word) : State :=
  match s.task? t with
  | none => s
  | some k => s.setTask t (k.put r v)

/-- A waiting task completes its instruction: gd and gb out take their values, the program counter moves on, and
the task is READY if it still waits (R353). -/
def State.wakeRaw (s : State) (t : Nat) (gd gb : Reg) (v w : Word) : State :=
  match s.task? t with
  | none => s
  | some k =>
    let s1 := ((s.putReg t gd v).putReg t gb w).goto0 t (k.pc + 4)
    match s1.task? t with
    | some k1 => match k1.st with
      | .waiting _ => s1.makeReady t
      | _ => s1
    | none => s1

/-- The tasks that wait to join the task with handle `h`, with their registers (R352). -/
def joiners (h : Word) : List (Nat × Task) → List (Nat × Reg × Reg × PartId)
  | [] => []
  | (j, k) :: ks =>
    match k.st with
    | .waiting (.join gd gb h') => if h' = h then (j, gd, gb, k.part) :: joiners h ks else joiners h ks
    | _ => joiners h ks

/-- The joins of task `t`, if it is DONE, complete (R352): the first waiting joiner takes the exit value and the
index is freed; every other one becomes a violation of kind 0x04. A joiner that ends in turn is served likewise;
there are at most 512 tasks. -/
def State.serveJoins (s : State) (t : Nat) : Nat → State
  | 0 => s
  | fuel + 1 =>
    match s.task? t with
    | none => s
    | some k =>
      match k.st with
      | .done v =>
        match joiners (s.taskHandle t k.part) s.cpu.tasks with
        | [] => s
        | (j, gd, gb, _) :: rest =>
          let s1 := ((((s.freeIndex t).taught j (s.know t).seen).countFor k.part (if k.part = 0 then 2 else 1)).wakeRaw j gd gb 1 v).serveJoins j fuel
          rest.foldl (fun s x => (((s.violation x.2.2.2 4).wakeRaw x.1 x.2.1 x.2.2.1 0 0)).serveJoins x.1 fuel) s1
      | _ => s

/-- After an exception of task `t`: its context is free and its joins are served if it has ended. -/
def State.afterEnd (s : State) (t : Nat) : State := (s.serveJoins t 512).place

/-- The task ends with an exit value (R279, R352). -/
def State.endTask (s : State) (t : Nat) (value : Word) : State := (s.endTask0 t value).afterEnd t

/-- An exception of task `t` at `pc` whose coded fault message has count `n` (R295 to R297, R322). -/
def State.exceptionN (s : State) (t : Nat) (cause : Byte) (pc addr : Word) (n : Nat) : State :=
  (s.exception0 t cause pc addr n).afterEnd t

/-- An exception of task `t` at `pc` (R295 to R297). -/
def State.exception (s : State) (t : Nat) (cause : Byte) (pc addr : Word) : State := s.exceptionN t cause pc addr 1

/-- Task `t` goes on at `target` where its fetch may (R293, R315); an exception may end the task. -/
def State.goto (s : State) (t : Nat) (target : Word) : State :=
  match s.task? t with
  | none => s
  | some k =>
    if s.fetchOk k.part target then (s.setTask t { k with pc := target }).readErrors k.part target.toNat 4
    else (s.goto0 t target).afterEnd t

/-- Task `t` goes on at the next instruction (R313). -/
def State.next (s : State) (t : Nat) : State :=
  match s.task? t with
  | none => s
  | some k => (s.countInstr k).goto t (k.pc + 4)

/-- An instruction completes with the result `v` in gd. -/
def State.finish (s : State) (t : Nat) (gd : Reg) (v : Word) : State := (s.putReg t gd v).next t

/-- An instruction completes with a code in gd and a second result in gb (R334). -/
def State.finish2 (s : State) (t : Nat) (gd gb : Reg) (v w : Word) : State :=
  ((s.putReg t gd v).putReg t gb w).next t

/-- Task `t` passes over an instruction that did not complete: a refusal or a violation (R292). -/
def State.pass (s : State) (t : Nat) : State :=
  match s.task? t with
  | none => s
  | some k => s.goto t (k.pc + 4)

/-- An instruction of task `t` is refused with a code in gd; nothing else changes (R292, R294). -/
def State.refuse (s : State) (t : Nat) (gd : Reg) (code : Word) : State := (s.putReg t gd code).pass t

/-- An instruction of task `t` ends as a violation: the counter of its partition, zero in gd (R292, R298). -/
def State.violate (s : State) (t : Nat) (kind : Byte) (gd : Reg) : State :=
  match s.task? t with
  | none => s
  | some k => ((s.violation k.part kind).putReg t gd 0).pass t

/-- A violation of an instruction with two results: zero in both (R334). -/
def State.violate2 (s : State) (t : Nat) (kind : Byte) (gd gb : Reg) : State :=
  match s.task? t with
  | none => s
  | some k => (((s.violation k.part kind).putReg t gd 0).putReg t gb 0).pass t

/-- A task that waited ends its instruction with one result, a completion or not (R353). -/
def State.wakeWith (s : State) (t : Nat) (gd gb : Reg) (v w : Word) : State := (s.wakeRaw t gd gb v w).afterEnd t

/-- The completion of a waiting task's instruction counts (R526). -/
def State.countDone (s : State) (t : Nat) : State :=
  match s.task? t with
  | some k => s.countInstr k
  | none => s

/-- A task that waited completes with one result (R353). -/
def State.wake (s : State) (t : Nat) (gd : Reg) (v : Word) : State := (s.countDone t).wakeWith t gd 0 v 0

/-- A task that waited completes with a code and a second result. -/
def State.wake2 (s : State) (t : Nat) (gd gb : Reg) (v w : Word) : State := (s.countDone t).wakeWith t gd gb v w

/-- A task that waited is refused with a code (R294). -/
def State.wakeRefuse (s : State) (t : Nat) (gd : Reg) (code : Word) : State := s.wakeWith t gd 0 code 0

/-- A waiting task ends its instruction in an exception at its own address; if a handler takes it, it is READY
(R295, R297). -/
def State.wakeException (s : State) (t : Nat) (cause : Byte) (addr : Word) (n : Nat) : State :=
  match s.task? t with
  | none => s
  | some k =>
    let s1 := s.exceptionN t cause k.pc addr n
    match s1.task? t with
    | some k1 => match k1.st with
      | .waiting _ => s1.makeReady t
      | _ => s1
    | none => s1

/-! Events of wait.ev (R354). -/

/-- The pending events of partition `p`: mailbox levels in bits 0 to 7 and the sticky events. -/
def State.pendingEvents (s : State) (p : PartId) : BitVec 16 :=
  s.parts[p].events |||
    BitVec.ofNat 16 ((List.range 8).foldl
      (fun a m => a + if (s.box (mailKey p m)).isEmpty then 0 else 2 ^ m) 0)

/-- The tasks of partition `p` that wait for one of the events `ev`, with their masks. -/
def eventWaiters (p : PartId) (ev : BitVec 16) : List (Nat × Task) → List (Nat × Reg × BitVec 16)
  | [] => []
  | (t, k) :: ks =>
    match k.st with
    | .waiting (.event gd mask _) =>
      if k.part = p ∧ mask &&& ev ≠ 0 then (t, gd, mask) :: eventWaiters p ev ks else eventWaiters p ev ks
    | _ => eventWaiters p ev ks

/-- Wakes every task of partition `p` that waits for a pending event; each reports the pending events in its mask,
and the sticky events that woke a task clear (R354). -/
def State.wakeEvents (s : State) (p : PartId) : State :=
  let ev := s.pendingEvents p
  let ws := eventWaiters p ev s.cpu.tasks
  let used := ws.foldl (fun a x => a ||| (x.2.2 &&& ev)) 0
  ws.foldl (fun s x => s.wake x.1 x.2.1 ((x.2.2 &&& ev).setWidth 64))
    (s.mapPart p fun x => { x with events := x.events &&& ~~~used })

/-- The sticky event `bit` arises for partition `p` (R354). -/
def State.event (s : State) (p : PartId) (bit : Nat) : State :=
  (s.mapPart p fun x => { x with events := x.events ||| (1#16 <<< bit) }).wakeEvents p

/-- The sticky event `bit` arises for every active partition and P0 (R354: mode, epoch). -/
def State.eventAll (s : State) (bit : Nat) : State :=
  (List.finRange 8).foldl
    (fun s p => if p = 0 ∨ s.parts[p].life = .active then s.event p bit else s) s

/-- A task of the given index is RUNNING and may issue an instruction, which uses an issue cycle of a worker core
(R526), unless it was held and is carried out now; otherwise the command names no instruction that is issued and
nothing happens (log 3). -/
def onRunning (t : TaskId) (s : State) (f : Task → State → State) : Out :=
  match s.task? t with
  | some k => match k.st with
    | .running c => .next (f k (if k.part = 0 ∨ 64 ≤ c then s else s.countFor k.part 0))
    | _ => .next s
  | none => .next s

/-- An instruction of task `t` for an engine that partitions share: issued by a task that a partition reset has ended, it is of the old
generation, and counts a violation of kind `kind` against that partition (R300; the kind is that of the resource it would use, DESIGN
CHOICE, log 28). -/
def onEngine (t : TaskId) (kind : Byte) (s : State) (f : Task → State → State) : Out :=
  match s.task? t, tblFind t.val s.cpu.stale with
  | none, some p => .next (s.violation p kind)
  | _, _ => onRunning t s f

/-- The engine is in WATCH (R21, R342). -/
def State.inWatch (s : State) : Bool := s.pwr.mode = .watch

/-- The engine dozes or hibernates (R437). -/
def State.dozing (s : State) : Bool := s.pwr.mode = .doze || s.pwr.mode = .hibernate

/-- An instruction of task `t` is held and its task waits (R342, R439). -/
def State.hold (s : State) (t : Nat) (i : Instr) : State :=
  { s with cpu := { s.cpu with heldQ := s.cpu.heldQ ++ [(t, i)] } }.makeWait t .held

/-- An unannounced event has come: it ends HIBERNATE (R436, R439). -/
def State.unannounced (s : State) : State :=
  { s with pwr := { s.pwr with unann := s.pwr.unann || decide (s.pwr.mode = .hibernate) } }

/-- DOZE and HIBERNATE are to be left (R439). -/
def State.wakePower (s : State) : State :=
  if s.dozing then { s with pwr := { s.pwr with wakeReq := true } } else s

/-- A hardware event whose condition holds has its effect; one whose condition does not hold does not take place
(log 4). -/
def whenDo (c : Bool) (s : State) (f : State) : Out := .next (if c then f else s)

end Sys2Proof.Machine
end

