-- ==== Sys2Proof/Machine/Flags.lean ====
section
/-! DEFINITION. The results of the arithmetic the manual defines for every operand: saturation, division corners
and the 32-bit forms (R309 to R311). The engine keeps no condition flags (R310). -/

namespace Sys2Proof.Machine

/-- The `n`-bit result of a signed value, saturated (R310, R311). -/
def satS (n : Nat) (x : Int) : BitVec n := BitVec.ofInt n (clampInt x (-(2 ^ (n - 1) : Nat)) ((2 ^ (n - 1) : Nat) - 1))

/-- The `n`-bit result of an unsigned value, saturated (R310, R311). -/
def satU (n : Nat) (x : Int) : BitVec n := BitVec.ofInt n (clampInt x 0 ((2 ^ n : Nat) - 1))

/-- Signed saturated sum (R310). -/
def aluAdds (n : Nat) (a b : BitVec n) : BitVec n := satS n (a.toInt + b.toInt)

/-- Signed saturated difference (R310). -/
def aluSubs (n : Nat) (a b : BitVec n) : BitVec n := satS n (a.toInt - b.toInt)

/-- Unsigned saturated sum (R310). -/
def aluAddus (n : Nat) (a b : BitVec n) : BitVec n := satU n ((a.toNat : Int) + b.toNat)

/-- Unsigned saturated difference (R310). -/
def aluSubus (n : Nat) (a b : BitVec n) : BitVec n := satU n ((a.toNat : Int) - b.toNat)

/-- High half of the signed product (R309). -/
def aluMulh (a b : Word) : Word := BitVec.ofInt 64 (a.toInt * b.toInt / 2 ^ 64)

/-- High half of the unsigned product (R309). -/
def aluMulhu (a b : Word) : Word := BitVec.ofNat 64 (a.toNat * b.toNat / 2 ^ 64)

/-- Signed quotient toward zero; all ones on division by zero; the most negative number by −1 is itself (R310). -/
def aluDiv (n : Nat) (a b : BitVec n) : BitVec n :=
  if b = 0 then BitVec.allOnes n else BitVec.ofInt n (a.toInt.tdiv b.toInt)

/-- Unsigned quotient; all ones on division by zero (R310). -/
def aluDivu (n : Nat) (a b : BitVec n) : BitVec n :=
  if b = 0 then BitVec.allOnes n else BitVec.ofNat n (a.toNat / b.toNat)

/-- Signed remainder with the sign of `a`; `a` on division by zero (R310). -/
def aluRem (n : Nat) (a b : BitVec n) : BitVec n :=
  if b = 0 then a else BitVec.ofInt n (a.toInt.tmod b.toInt)

/-- Unsigned remainder; `a` on division by zero (R310). -/
def aluRemu (n : Nat) (a b : BitVec n) : BitVec n :=
  if b = 0 then a else BitVec.ofNat n (a.toNat % b.toNat)

/-- A 32-bit operation of the low halves, sign-extended (R311). -/
def aluW (f : BitVec 32 → BitVec 32 → BitVec 32) (a b : Word) : Word :=
  (f (a.setWidth 32) (b.setWidth 32)).signExtend 64

end Sys2Proof.Machine
end

