-- ==== Sys2Proof/Machine/Operands.lean ====
section
/-! DEFINITION. The operand forms: register-register, register-immediate and branch instructions of a task, local
addresses, global references and handles. -/

namespace Sys2Proof.Machine

/-- A register-register instruction: gd takes `f` of ga and gb (R306, R309). -/
def regReg (t : TaskId) (gd ga gb : Reg) (f : Word → Word → Word) (s : State) : Out :=
  onRunning t s fun k s => s.finish t gd (f (k.get ga) (k.get gb))

/-- A register-immediate instruction: gd takes `f` of ga (R312). -/
def regImm (t : TaskId) (gd ga : Reg) (f : Word → Word) (s : State) : Out :=
  onRunning t s fun k s => s.finish t gd (f (k.get ga))

/-- A compare and branch: taken to pc + sext(off16) × 4, else on at pc + 4 (R313, R314). -/
def branch (t : TaskId) (ga gb : Reg) (off : BitVec 16) (c : Word → Word → Bool) (s : State) : Out :=
  onRunning t s fun k s =>
    if c (k.get ga) (k.get gb) then ((s.countInstr k).countFor k.part 9).goto t (k.pc + off.signExtend 64 * 4) else s.next t

/-- The effective address of a local access (R316). -/
def localEA (k : Task) (ga : Reg) (imm : BitVec 16) : Word := k.get ga + imm.signExtend 64

/-- A 48-bit local address inside allocated pages, all `n` bytes (R316, R318). -/
def State.localOk (s : State) (p : PartId) (ea : Word) (n : Nat) : Bool :=
  decide (ea.toNat < 2 ^ 48) && s.allocatedRange p ea.toNat n

/-- The pseudo-context on which an instruction held under R342 or R439 is carried out while its task waits. -/
def heldCtx : Nat := 64

/-- An instruction whose effect on its task is undefined (case 5 of R301): its registers, its program counter and its
exception addresses take free values; nothing else changes (R302). -/
def State.undefTask (s : State) (t : Nat) : State :=
  match s.task? t with
  | none => s
  | some k =>
    (s.setTask t { k with
      regs := Vector.ofFn fun i => if i = 0 then 0 else s.freeAt i.val
      pc := s.freeAt 0 &&& ~~~3#64
      excPc := s.freeAt 32
      excAddr := s.freeAt 33 }).useFree 34

/-- The partition a global reference names (R362). -/
def refPart (w : Word) : PartId := ⟨fieldN w.toNat 50 48, Nat.mod_lt _ (by decide)⟩

/-- The virtual address a global reference names (R362). -/
def refVa (w : Word) : Nat := w.toNat % 2 ^ 48

/-- A global reference with sext(imm16) added to its virtual address, modulo 2^48 (R320). -/
def refAdd (w : Word) (imm : BitVec 16) : Word :=
  (w &&& ~~~0xFFFFFFFFFFFF#64) ||| ((w + imm.signExtend 64) &&& 0xFFFFFFFFFFFF#64)

/-- The least number below the limit for which `ok` holds, searching upward from `i`. -/
def firstFree (ok : Nat → Bool) : Nat → Nat → Option Nat
  | 0, _ => none
  | fuel + 1, i => if ok i then some i else firstFree ok fuel (i + 1)

/-- The slot a channel handle names, if the handle is valid for partition `p` (R281). -/
def State.chan (s : State) (p : PartId) (h : Word) : Option Nat :=
  let k := fieldN h.toNat 7 0
  let x := s.slot k
  if k < 192 ∧ x.phase = .owned ∧ fieldN h.toNat 15 8 = x.gen.toNat
      ∧ fieldN h.toNat 18 16 = x.owner.val ∧ x.owner = p then some k
  else none

/-- The task a task handle names, if the handle is current and of partition `p` (R280). -/
def State.taskOf (s : State) (p : PartId) (h : Word) : Option (Nat × Task) :=
  let i := fieldN h.toNat 8 0
  match s.task? i with
  | none => none
  | some k =>
    if k.part = p ∧ fieldN h.toNat 18 16 = p.val ∧ fieldN h.toNat 31 24 = (tblGet 0 i s.cpu.gens).toNat then some (i, k)
    else none

end Sys2Proof.Machine
end

