-- ==== Sys2Proof/Machine/Alu.lean ====
section
/-! DEFINITION. The 64-bit ALU group (R309, R310). -/

namespace Sys2Proof.Machine

/-- add (R309): 64-bit sum modulo 2^64. -/
def execAddR (t : TaskId) (gd ga gb : Reg) (s : State) : Out := regReg t gd ga gb (fun a b => a + b) s

/-- sub (R309): 64-bit difference modulo 2^64. -/
def execSubR (t : TaskId) (gd ga gb : Reg) (s : State) : Out := regReg t gd ga gb (fun a b => a - b) s

/-- adds (R309, R310): signed saturated sum. -/
def execAdds (t : TaskId) (gd ga gb : Reg) (s : State) : Out := regReg t gd ga gb (fun a b => aluAdds 64 a b) s

/-- subs (R309, R310): signed saturated difference. -/
def execSubs (t : TaskId) (gd ga gb : Reg) (s : State) : Out := regReg t gd ga gb (fun a b => aluSubs 64 a b) s

/-- addus (R309, R310): unsigned saturated sum. -/
def execAddus (t : TaskId) (gd ga gb : Reg) (s : State) : Out := regReg t gd ga gb (fun a b => aluAddus 64 a b) s

/-- subus (R309, R310): unsigned saturated difference. -/
def execSubus (t : TaskId) (gd ga gb : Reg) (s : State) : Out := regReg t gd ga gb (fun a b => aluSubus 64 a b) s

/-- mul (R309): low 64 bits of the product. -/
def execMulR (t : TaskId) (gd ga gb : Reg) (s : State) : Out := regReg t gd ga gb (fun a b => a * b) s

/-- mulh (R309): high 64 bits of the signed product. -/
def execMulh (t : TaskId) (gd ga gb : Reg) (s : State) : Out := regReg t gd ga gb (fun a b => aluMulh a b) s

/-- mulhu (R309): high 64 bits of the unsigned product. -/
def execMulhu (t : TaskId) (gd ga gb : Reg) (s : State) : Out := regReg t gd ga gb (fun a b => aluMulhu a b) s

/-- div (R309, R310): signed quotient. -/
def execDivS (t : TaskId) (gd ga gb : Reg) (s : State) : Out := regReg t gd ga gb (fun a b => aluDiv 64 a b) s

/-- divu (R309, R310): unsigned quotient. -/
def execDivu (t : TaskId) (gd ga gb : Reg) (s : State) : Out := regReg t gd ga gb (fun a b => aluDivu 64 a b) s

/-- rem (R309, R310): signed remainder. -/
def execRemS (t : TaskId) (gd ga gb : Reg) (s : State) : Out := regReg t gd ga gb (fun a b => aluRem 64 a b) s

/-- remu (R309, R310): unsigned remainder. -/
def execRemu (t : TaskId) (gd ga gb : Reg) (s : State) : Out := regReg t gd ga gb (fun a b => aluRemu 64 a b) s

/-- min (R309): signed minimum. -/
def execMinS (t : TaskId) (gd ga gb : Reg) (s : State) : Out := regReg t gd ga gb (fun a b => if a.toInt ≤ b.toInt then a else b) s

/-- max (R309): signed maximum. -/
def execMaxS (t : TaskId) (gd ga gb : Reg) (s : State) : Out := regReg t gd ga gb (fun a b => if a.toInt ≤ b.toInt then b else a) s

/-- and (R309): AND. -/
def execAndR (t : TaskId) (gd ga gb : Reg) (s : State) : Out := regReg t gd ga gb (fun a b => a &&& b) s

/-- or (R309): OR. -/
def execOrR (t : TaskId) (gd ga gb : Reg) (s : State) : Out := regReg t gd ga gb (fun a b => a ||| b) s

/-- xor (R309): XOR. -/
def execXorR (t : TaskId) (gd ga gb : Reg) (s : State) : Out := regReg t gd ga gb (fun a b => a ^^^ b) s

/-- andn (R309): ga AND NOT gb. -/
def execAndn (t : TaskId) (gd ga gb : Reg) (s : State) : Out := regReg t gd ga gb (fun a b => a &&& ~~~b) s

/-- slt (R309): signed compare. -/
def execSlt (t : TaskId) (gd ga gb : Reg) (s : State) : Out := regReg t gd ga gb (fun a b => boolWord (decide (a.toInt < b.toInt))) s

/-- sltu (R309): unsigned compare. -/
def execSltu (t : TaskId) (gd ga gb : Reg) (s : State) : Out := regReg t gd ga gb (fun a b => boolWord (decide (a.toNat < b.toNat))) s

/-- sll (R309, R310): left shift by gb[5:0]. -/
def execSll (t : TaskId) (gd ga gb : Reg) (s : State) : Out := regReg t gd ga gb (fun a b => a <<< (b.toNat % 64)) s

/-- srl (R309, R310): zero-filled right shift by gb[5:0]. -/
def execSrl (t : TaskId) (gd ga gb : Reg) (s : State) : Out := regReg t gd ga gb (fun a b => a >>> (b.toNat % 64)) s

/-- sra (R309, R310): sign-filled right shift by gb[5:0]. -/
def execSra (t : TaskId) (gd ga gb : Reg) (s : State) : Out := regReg t gd ga gb (fun a b => a.sshiftRight (b.toNat % 64)) s

/-- slli (R309): left shift by the shift field. -/
def execSlli (t : TaskId) (gd ga : Reg) (sh : Fin 64) (s : State) : Out := regImm t gd ga (fun a => a <<< sh.val) s

/-- srli (R309): zero-filled right shift by the shift field. -/
def execSrli (t : TaskId) (gd ga : Reg) (sh : Fin 64) (s : State) : Out := regImm t gd ga (fun a => a >>> sh.val) s

/-- srai (R309): sign-filled right shift by the shift field. -/
def execSrai (t : TaskId) (gd ga : Reg) (sh : Fin 64) (s : State) : Out := regImm t gd ga (fun a => a.sshiftRight sh.val) s

end Sys2Proof.Machine
end

