-- ==== Sys2Proof/Machine/AluW.lean ====
section
/-! DEFINITION. The 32-bit ALU group: a 32-bit result of bits [31:0], sign-extended (R311). -/

namespace Sys2Proof.Machine

/-- add.w (R311): 32-bit sum. -/
def execAddW (t : TaskId) (gd ga gb : Reg) (s : State) : Out :=
  regReg t gd ga gb (aluW (fun a b => a + b)) s

/-- sub.w (R311): 32-bit difference. -/
def execSubW (t : TaskId) (gd ga gb : Reg) (s : State) : Out :=
  regReg t gd ga gb (aluW (fun a b => a - b)) s

/-- adds.w (R311): 32-bit signed saturated sum. -/
def execAddsW (t : TaskId) (gd ga gb : Reg) (s : State) : Out :=
  regReg t gd ga gb (aluW (aluAdds 32)) s

/-- subs.w (R311): 32-bit signed saturated difference. -/
def execSubsW (t : TaskId) (gd ga gb : Reg) (s : State) : Out :=
  regReg t gd ga gb (aluW (aluSubs 32)) s

/-- addus.w (R311): 32-bit unsigned saturated sum. -/
def execAddusW (t : TaskId) (gd ga gb : Reg) (s : State) : Out :=
  regReg t gd ga gb (aluW (aluAddus 32)) s

/-- subus.w (R311): 32-bit unsigned saturated difference. -/
def execSubusW (t : TaskId) (gd ga gb : Reg) (s : State) : Out :=
  regReg t gd ga gb (aluW (aluSubus 32)) s

/-- mul.w (R311): 32-bit product. -/
def execMulW (t : TaskId) (gd ga gb : Reg) (s : State) : Out :=
  regReg t gd ga gb (aluW (fun a b => a * b)) s

/-- div.w (R311): 32-bit signed quotient. -/
def execDivW (t : TaskId) (gd ga gb : Reg) (s : State) : Out :=
  regReg t gd ga gb (aluW (aluDiv 32)) s

/-- divu.w (R311): 32-bit unsigned quotient. -/
def execDivuW (t : TaskId) (gd ga gb : Reg) (s : State) : Out :=
  regReg t gd ga gb (aluW (aluDivu 32)) s

/-- rem.w (R311): 32-bit signed remainder. -/
def execRemW (t : TaskId) (gd ga gb : Reg) (s : State) : Out :=
  regReg t gd ga gb (aluW (aluRem 32)) s

/-- remu.w (R311): 32-bit unsigned remainder. -/
def execRemuW (t : TaskId) (gd ga gb : Reg) (s : State) : Out :=
  regReg t gd ga gb (aluW (aluRemu 32)) s

/-- sll.w (R311): 32-bit left shift by gb[4:0]. -/
def execSllW (t : TaskId) (gd ga gb : Reg) (s : State) : Out :=
  regReg t gd ga gb (aluW (fun a b => a <<< (b.toNat % 32))) s

/-- srl.w (R311): 32-bit zero-filled right shift by gb[4:0]. -/
def execSrlW (t : TaskId) (gd ga gb : Reg) (s : State) : Out :=
  regReg t gd ga gb (aluW (fun a b => a >>> (b.toNat % 32))) s

/-- sra.w (R311): 32-bit sign-filled right shift by gb[4:0]. -/
def execSraW (t : TaskId) (gd ga gb : Reg) (s : State) : Out :=
  regReg t gd ga gb (aluW (fun a b => a.sshiftRight (b.toNat % 32))) s

/-- slli.w (R311): 32-bit left shift by the shift field. -/
def execSlliW (t : TaskId) (gd ga : Reg) (sh : Fin 32) (s : State) : Out :=
  regImm t gd ga (fun a => sext64 32 (a.setWidth 32 <<< sh.val)) s

/-- srli.w (R311): 32-bit zero-filled right shift by the shift field. -/
def execSrliW (t : TaskId) (gd ga : Reg) (sh : Fin 32) (s : State) : Out :=
  regImm t gd ga (fun a => sext64 32 (a.setWidth 32 >>> sh.val)) s

/-- srai.w (R311): 32-bit sign-filled right shift by the shift field. -/
def execSraiW (t : TaskId) (gd ga : Reg) (sh : Fin 32) (s : State) : Out :=
  regImm t gd ga (fun a => sext64 32 ((a.setWidth 32).sshiftRight sh.val)) s

end Sys2Proof.Machine
end

