-- ==== Sys2Proof/Machine/Crypto.lean ====
section
/-! DEFINITION. SHA-256 and the verification of ECDSA P-256 signatures, by which charters and images are accepted (R181,
R182, R492, R527). The manual names both algorithms; their constants are those of FIPS 180-4 and of FIPS 186-4, curve
P-256 (PRESUMED, log 14); SHA-256's constants are computed from the primes they are roots of. -/

namespace Sys2Proof.Machine

/-- The largest `x` below `lo + 2 ^ n` with `x ^ k ≤ v`, found bit by bit from the top. -/
def rootFrom (k v : Nat) : Nat → Nat → Nat
  | 0, lo => lo
  | n + 1, lo => rootFrom k v n (if (lo + 2 ^ n) ^ k ≤ v then lo + 2 ^ n else lo)

/-- The first 32 bits of the fractional part of the `k`-th root of `q`. -/
def rootBits (k q : Nat) : Nat := rootFrom k (q * 2 ^ (32 * k)) 40 0 % 2 ^ 32

/-- No number from 2 up to `d` divides `n`. -/
def noDivisor (n : Nat) : Nat → Bool
  | 0 => true
  | d + 1 => (d = 0 || n % (d + 1) ≠ 0) && noDivisor n d

/-- The primes up to 311, the 64th. -/
def firstPrimes : List Nat := ((List.range 312).drop 2).filter fun n => noDivisor n (n - 1)

/-- The constant of each of the 64 rounds: the fractional part of the cube root of its prime. -/
def hashRoundConsts : List Nat := firstPrimes.map (rootBits 3)

/-- The chaining value before the first block, most recent word first: the fractional parts of the square roots of the
first eight primes. -/
def hashStart : List Nat := (firstPrimes.take 8).map (rootBits 2)

/-- A 32-bit number turned right by `n`. -/
def turn (x n : Nat) : Nat := (x / 2 ^ n + x * 2 ^ (32 - n)) % 2 ^ 32

/-- The sum modulo 2 of a word under three turns. -/
def turn3 (x i j k : Nat) : Nat := turn x i ^^^ turn x j ^^^ turn x k

/-- The schedule's next word from the words so far, newest first. -/
def nextWord (ws : List Nat) : Nat :=
  let u := ws.getD 14 0
  let v := ws.getD 1 0
  (ws.getD 15 0 + (turn u 7 ^^^ turn u 18 ^^^ u / 8) + ws.getD 6 0 + (turn v 17 ^^^ turn v 19 ^^^ v / 1024)) % 2 ^ 32

/-- The schedule after `n` more words, newest first. -/
def schedule : Nat → List Nat → List Nat
  | 0, ws => ws
  | n + 1, ws => schedule n (nextWord ws :: ws)

/-- Where the bits of `x` are set those of `y`, elsewhere those of `z`: `z` changed by the selected differences. -/
def choose (x y z : Nat) : Nat := z ^^^ (x &&& (y ^^^ z))

/-- The eight words of the hash after a round that takes `kw`, the sum of its constant and its schedule word. A list that
does not hold eight words stays as it is. -/
def hashRound (kw : Nat) : List Nat → List Nat
  | [a, b, c, d, e, f, g, h] =>
    let t := h + turn3 e 6 11 25 + choose e f g + kw
    [(t + turn3 a 2 13 22 + choose (a ^^^ b) c a) % 2 ^ 32, a, b, c, (d + t) % 2 ^ 32, e, f, g]
  | l => l

/-- A number from bytes, most significant first. -/
def beNat (b : List Byte) : Nat := b.foldl (fun a x => a * 256 + x.toNat) 0

/-- A number in `n` bytes, most significant first. -/
def beBytes (n x : Nat) : List Byte := (natToBytes x n).reverse

/-- The chaining value after one block of 64 bytes. -/
def hashBlock (v : List Nat) (b : List Byte) : List Nat :=
  let ws := (schedule 48 ((List.range 16).reverse.map fun i => beNat ((b.drop (4 * i)).take 4))).reverse
  let r := (List.zipWith (· + ·) hashRoundConsts ws).foldl (fun x kw => hashRound kw x) v
  List.zipWith (fun x y => (x + y) % 2 ^ 32) v r

/-- The 64-byte blocks of `m` under the padding that ends it: a one bit, zeros, and its length in bits on 64 bits. -/
def hashBlocks (m : List Byte) : List (List Byte) :=
  let n := (m.length + 72) / 64
  let p := m ++ 0x80 :: List.replicate (64 * n - 9 - m.length) 0 ++ beBytes 8 (8 * m.length)
  (List.range n).map fun i => (p.drop (64 * i)).take 64

/-- SHA-256 of bytes, as a number whose most significant byte is the first of the digest. -/
def sha256 (m : List Byte) : BitVec 256 :=
  BitVec.ofNat 256 (((hashBlocks m).foldl hashBlock hashStart).foldl (fun a x => a * 2 ^ 32 + x) 0)

/-! P-256. -/

/-- The field prime. -/
def p256P : Nat := 0xffffffff00000001000000000000000000000000ffffffffffffffffffffffff

/-- The order of the base point. -/
def p256N : Nat := 0xffffffff00000000ffffffffffffffffbce6faada7179e84f3b9cac2fc632551

/-- The coefficient b; a is −3. -/
def p256B : Nat := 0x5ac635d8aa3a93e7b3ebbd55769886bc651d06b0cc53b0f63bce3c3e27d2604b

/-- The base point. -/
def p256G : Nat × Nat :=
  (0x6b17d1f2e12c4247f8bce6e563a440f277037d812deb33a0f4a13945d898c296,
   0x4fe342e2fe1a7f9b8ee7eb4a7c0f9e162bce33576b315ececbb6406837bf51f5)

/-- Powers modulo `m` by the bits of the exponent, lowest first. -/
def powMod (m : Nat) : Nat → Nat → Nat → Nat → Nat
  | 0, _, _, acc => acc
  | n + 1, b, e, acc => powMod m n (b * b % m) (e / 2) (if e % 2 = 1 then acc * b % m else acc)

/-- The inverse modulo a prime of at most 256 bits. -/
def invMod (m x : Nat) : Nat := powMod m 256 (x % m) (m - 2) 1

/-- A point of the curve in Jacobian coordinates: `(x / z², y / z³)`; `z = 0` is the point at infinity. -/
structure Pt where
  x : Nat
  y : Nat
  z : Nat
  deriving DecidableEq, Repr

/-- The point at infinity. -/
def ptZero : Pt := { x := 1, y := 1, z := 0 }

/-- A point from its affine coordinates. -/
def affine (a : Nat × Nat) : Pt := { x := a.1, y := a.2, z := 1 }

/-- A product in the field. -/
def fMul (a b : Nat) : Nat := a * b % p256P

/-- A difference in the field, of two reduced numbers. -/
def fSub (a b : Nat) : Nat := (a + (p256P - b)) % p256P

/-- Twice a point. -/
def ptDouble (a : Pt) : Pt :=
  if a.z = 0 then a
  else
    let yy := fMul a.y a.y
    let zz := fMul a.z a.z
    let b := fMul (4 * a.x) yy
    let m := fMul (3 * fSub a.x zz) (a.x + zz)
    let x := fSub (fMul m m) (2 * b % p256P)
    { x := x, y := fSub (fMul m (fSub b x)) (fMul (8 * yy) yy), z := fMul (2 * a.y) a.z }

/-- The sum of two points. -/
def ptAdd (a b : Pt) : Pt :=
  if a.z = 0 then b
  else if b.z = 0 then a
  else
    let za := fMul a.z a.z
    let zb := fMul b.z b.z
    let u := fMul a.x zb
    let v := fMul a.y (fMul zb b.z)
    let h := fSub (fMul b.x za) u
    let r := fSub (fMul b.y (fMul za a.z)) v
    if h = 0 then if r = 0 then ptDouble a else ptZero
    else
      let hh := fMul h h
      let w := fMul u hh
      let k := fMul hh h
      let x := fSub (fSub (fMul r r) k) (2 * w % p256P)
      { x := x, y := fSub (fMul r (fSub w x)) (fMul v k), z := fMul h (fMul a.z b.z) }

/-- A multiple of a point by the bits of the factor, lowest first. -/
def ptMul : Nat → Nat → Pt → Pt → Pt
  | 0, _, _, acc => acc
  | n + 1, k, a, acc => ptMul n (k / 2) (ptDouble a) (if k % 2 = 1 then ptAdd acc a else acc)

/-- The affine x coordinate of a point that is not at infinity. -/
def Pt.affineX (a : Pt) : Nat :=
  let i := invMod p256P a.z
  fMul a.x (fMul i i)

/-- A public key of 65 bytes: 0x04, then the coordinates of a point of the curve (R527). -/
def keyPoint (key : List Byte) : Option Pt :=
  let x := beNat ((key.drop 1).take 32)
  let y := beNat ((key.drop 33).take 32)
  if key.length = 65 ∧ key.head? = some 4 ∧ x < p256P ∧ y < p256P
      ∧ (y * y) % p256P = (x * x * x + 3 * (p256P - x) + p256B) % p256P then some (affine (x, y))
  else none

/-- The signature of 64 bytes, r then s, verifies over `msg` against the key (R182, R492). -/
def ecdsaVerify (key msg sig : List Byte) : Bool :=
  let r := beNat (sig.take 32)
  let t := beNat ((sig.drop 32).take 32)
  match keyPoint key with
  | none => false
  | some q =>
    if r = 0 ∨ p256N ≤ r ∨ t = 0 ∨ p256N ≤ t ∨ sig.length ≠ 64 then false
    else
      let w := invMod p256N t
      let z := (sha256 msg).toNat
      let p := ptAdd (ptMul 256 (z * w % p256N) (affine p256G) ptZero) (ptMul 256 (r * w % p256N) q ptZero)
      decide (p.z ≠ 0 ∧ p.affineX % p256N = r)

end Sys2Proof.Machine
end

