-- ==== Sys2Proof/Machine/MemOps.lean ====
section
/-! DEFINITION. Operations shared by the global accesses, the fences and the home (R214, R320 to R327, R371 to
R375): transaction tags, service at the home, and the completion of a request. -/

namespace Sys2Proof.Machine

/-- The transaction tag `i`. -/
def State.tagAt (s : State) (i : Nat) : Tag :=
  tblGet { gen := 0, busy := false, task := 512, part := 0, pgen := 0, store := false, seq := 0, addr := 0, deadline := 0 } i
    s.fab.tags

/-- `s` with tag `i` replaced. -/
def State.setTag (s : State) (i : Nat) (x : Tag) : State :=
  { s with fab := { s.fab with tags := tblPut i x s.fab.tags } }

/-- The lowest tag that is not outstanding and whose last deadline has passed (R214). -/
def State.freeTag (s : State) : Option Nat :=
  firstFree (fun i => !(s.tagAt i).busy && decide ((s.tagAt i).deadline ≤ s.fabNs)) 4096 0

/-- The reference's home is this node: NODE 2,046, or this node's own address (R321, R375). -/
def State.isHere (s : State) (n : NodeId) : Bool := n = 2046 || (s.fab.addr = some n && !s.fab.noAddr)

/-- The reference's node holds a fabric address in the current epoch, and no split known here has cut it off: a node with no chain
link left has every other node in another part (R321, R375). -/
def State.reachable (s : State) (n : NodeId) : Bool :=
  n ≠ 2047 && s.fab.members.getLsbD n.toNat && !s.fab.lost.getLsbD n.toNat && !s.openPorts.isEmpty

/-- A posted store of task `t` has no response yet. -/
def State.posting (s : State) (t : Nat) : Bool := s.fab.tags.any fun x => x.2.busy && x.2.store && decide (x.2.task = t)

/-- The location of a reference, to the aligned 8 bytes that hold it: its home, this node under either name as one, its partition and
its address (R320, R325). -/
def State.location (s : State) (ref : Word) : NodeId × PartId × Nat :=
  (if s.isHere (refNode ref) then 2046 else refNode ref, refPart ref, refVa ref / 8)

/-- A posted store of task `t` to the location has no response yet; the task's later accesses there come after it (R325). -/
def State.postedAt (s : State) (t : Nat) (ref : Word) : Bool :=
  s.fab.tags.any fun x => x.2.busy && x.2.store && decide (x.2.task = t) && decide (s.location x.2.addr = s.location ref)

/-- A posted store of task `t` to some of the `n` bytes at `va` of partition `part` at this node waits at its home (R325). -/
def State.postedHere (s : State) (t : Nat) (part : PartId) (va n : Nat) : Bool :=
  s.fab.tags.any fun x =>
    let l := s.location x.2.addr
    x.2.busy && x.2.store && decide (x.2.task = t) && decide (l.1 = 2046) && decide (l.2.1 = part)
      && decide (l.2.2 * 8 < va + n) && decide (va < l.2.2 * 8 + 8)

/-- The store queue of task `t` is empty (R326). -/
def State.drained (s : State) (t : Nat) : Bool :=
  match s.task? t with
  | some k => k.sq.isEmpty
  | none => true

/-- A task that waits to issue its instruction again may: a tag is free, or its own earlier stores stand where they go (R321, R325). -/
def State.mayRetry (s : State) (t : Nat) (k : Task) : Bool :=
  match k.st with
  | .waiting (.retry tag) => if tag then s.freeTag.isSome else s.drained t && !s.posting t
  | _ => false

/-- The tasks that may issue their instruction again are READY at the same address (R214, R321). -/
def State.wakeRetries (s : State) : State :=
  (s.cpu.tasks.filter fun x => s.mayRetry x.1 x.2).foldl (fun s x => s.makeReady x.1) s

/-! Duplicates (R208). -/

/-- How far `b` lies behind `a`, modulo 2^16. -/
def seqBehind (a b : Nat) : Nat := (a + 65536 - b) % 65536

/-- A number is a duplicate where it is in the window and seen, or more than 1,024 behind the highest; the highest number
stands first (R208). -/
def seqSeen (l : List Nat) (n : Nat) : Bool :=
  match l with
  | [] => false
  | h :: _ => l.contains n || (decide (1024 < seqBehind h n) && decide (seqBehind h n < 32768))

/-- The window with a new number (R208). -/
def seqAdd (l : List Nat) (n : Nat) : List Nat :=
  match l with
  | [] => [n]
  | h :: t =>
    if seqBehind h n < 32768 then h :: n :: t
    else n :: l.filter fun x => decide (seqBehind n x < 1024)

/-- Packet `n` of node `src` arrives: whether this is its first copy, which enters the window; a later one is counted (R208). -/
def State.firstCopy (s : State) (src : NodeId) (n : Nat) : Bool × State :=
  let seen := tblGet [] src.toNat s.fab.seen
  if seqSeen seen n then (false, ({ s with fab := { s.fab with dup := true } }).count 132)
  else (true, { s with fab := { s.fab with seen := tblPut src.toNat (seqAdd seen n) s.fab.seen } })

/-- The page that holds a byte of the reference, by its memory key. -/
def State.pageKey (s : State) (part : PartId) (va : Nat) : Nat :=
  match s.pageAt part va with
  | some p => memKey part p.va
  | none => memKey part va

/-- The new value of an atomic (R323): 2 add, 3 swap, 4 compare and swap. -/
def atomicNew (op : Fin 5) (n old data cmp : Nat) : Nat :=
  if op = 2 then (old + data) % 2 ^ (8 * n)
  else if op = 3 then data % 2 ^ (8 * n)
  else if old = cmp % 2 ^ (8 * n) then data % 2 ^ (8 * n) else old

/-- What a home answers: error (0 none, 3 ECC, 4 violation) and data (R321, R324, R381). -/
structure HomeReply where
  err : Fin 5
  data : Word
  deriving DecidableEq, Repr

/-- The home carries a request out: allocation is checked (R321), a load or atomic of a poisoned block is an ECC
error (R382), its correctable errors are corrected (R379), and an atomic is indivisible (R324). -/
def State.serveHome (s : State) (q : MemRequest) : State × HomeReply :=
  let p := refPart q.ref
  let va := refVa q.ref
  if !s.allocatedRange p va q.bytes then (s, { err := 4, data := 0 })
  else if q.op = 1 then (s.storeBytes p va (natToBytes q.data.toNat q.bytes), { err := 0, data := 0 })
  else if s.badRead p va q.bytes then (s.readErrors p va q.bytes, { err := 3, data := 0 })
  else
    let old := memWord s.ms.mem (memKey p va) q.bytes
    if q.op = 0 then ((s.readErrors p va q.bytes).touch p va, { err := 0, data := old })
    else
      ((s.readErrors p va q.bytes).storeBytes p va (natToBytes (atomicNew q.op q.bytes old.toNat q.data.toNat q.cmp.toNat) q.bytes),
        { err := 0, data := old })

/-- A store or atomic must wait at its home: for replica holders (R373), behind an earlier one of its page, or for
room in the keep write buffer (R367). -/
def State.homeBlocked (s : State) (q : MemRequest) : Bool :=
  decide (q.op ≠ 0) &&
    (s.storeBlocked (refPart q.ref) { va := refVa q.ref, bytes := q.bytes, value := 0 }
      || s.ms.homeWait.any fun w => w.page = s.pageKey (refPart q.ref) (refVa q.ref))

/-- A request waits at its home until every holder of a replica has acknowledged (R373). -/
def State.homePark (s : State) (q : MemRequest) : State :=
  let key := s.pageKey (refPart q.ref) (refVa q.ref)
  let s1 := s.askDiscard key
  { s1 with ms := { s1.ms with
      homeWait := s1.ms.homeWait ++ [{ req := q, page := key }] } }

/-- A loaded value of `n` bytes as gd takes it. -/
def extLoad (n : Nat) (signed : Bool) (w : Word) : Word :=
  if signed then (w <<< (64 - 8 * n)).sshiftRight (64 - 8 * n) else w

/-- A posted store of task `t` has failed: the earliest in program order is kept, the others are counted (R322). -/
def State.storeError (s : State) (t seq : Nat) (cause : Byte) (addr : Word) : State :=
  match s.task? t with
  | none => s
  | some k =>
    let e : StoreError := match k.gerr with
      | none => { seq := seq, cause := cause, addr := addr, more := 0 }
      | some e =>
        if seq < e.seq then { seq := seq, cause := cause, addr := addr, more := e.more + 1 }
        else { e with more := e.more + 1 }
    s.setTask t { k with gerr := some e }

/-- Task `t` has an access or atomic whose response has not arrived (R327). -/
def State.outstanding (s : State) (t : Nat) : Bool := s.fab.tags.any fun x => x.2.busy && x.2.task = t

/-- A waiting fence or exit of task `t` is examined again (R326, R327, R352): it completes, or raises the pending
store error at its own address (R295, R322), or goes on waiting. -/
def State.fenceStep (s : State) (t : Nat) : State :=
  match s.task? t with
  | none => s
  | some k =>
    let s1 := s.drain t
    match k.st with
    | .waiting .fenceL => if s1.drained t then (s1.publish t).wake t 0 0 else s1
    | .waiting .fenceI => if s1.drained t then s1.wake t 0 0 else s1
    | .waiting .fenceG =>
      if s1.drained t && !s1.outstanding t then
        match k.gerr with
        | some e =>
          (match s1.task? t with
            | some k1 => s1.setTask t { k1 with gerr := none }
            | none => s1).wakeException t e.cause e.addr (e.more + 1)
        | none => (s1.publish t).wake t 0 0
      else s1
    | .waiting (.exitG v) =>
      if s1.drained t && !s1.outstanding t then
        match k.gerr with
        | some e =>
          (match s1.task? t with
            | some k1 => s1.setTask t { k1 with gerr := none }
            | none => s1).wakeException t e.cause e.addr (e.more + 1)
        | none => (s1.countDone t).endTask t v
      else s1
    | _ => s

/-- A task waits on a fence or an exit. -/
def isFence (k : Task) : Bool :=
  match k.st with
  | .waiting .fenceL => true
  | .waiting .fenceI => true
  | .waiting .fenceG => true
  | .waiting (.exitG _) => true
  | _ => false

/-- Every waiting fence and exit is examined again. -/
def State.fences (s : State) : State :=
  (s.cpu.tasks.filter fun x => isFence x.2).foldl (fun s x => s.fenceStep x.1) s

/-- The exception cause of a failed request: 1 HOME, 2 TIMEOUT, 3 ECC (R296, R322). -/
def errCause (err : Fin 5) : Byte := if err = 1 then 3 else if err = 2 then 4 else 2

/-- The outcome of a request reaches its task (R322, R324): a load or atomic completes, is a violation, or raises its
exception; a failed store is kept for the next fence.g. Nothing reaches a task of an older generation (R402). -/
def State.deliver (s : State) (g : Tag) (r : HomeReply) : State :=
  match s.task? g.task with
  | none => s
  | some k =>
    if s.parts[k.part].gen ≠ g.pgen then s
    else if g.store then
      if r.err = 0 then s
      else if r.err = 4 then s.violation k.part 1
      else s.storeError g.task g.seq (errCause r.err) g.addr
    else
      match k.st with
      | .waiting (.tag _ gd bytes signed) =>
        if r.err = 0 then s.wake g.task gd (extLoad bytes signed r.data)
        else if r.err = 4 then (s.violation k.part 1).wakeWith g.task gd 0 0 0
        else s.wakeException g.task (errCause r.err) g.addr 1
      | _ => s

/-- The request of tag `i` ends with a reply: the tag is free again after its deadline (R214), and waiting fences and
tag seekers go on. -/
def State.completeTag (s : State) (i : Nat) (r : HomeReply) : State :=
  let g := s.tagAt i
  (((s.setTag i { g with busy := false }).deliver g r).fences).wakeRetries

/-- A home answers another node's request; a response past the request's deadline is discarded and counted here (R214). -/
def State.respond (s : State) (q : MemRequest) (r : HomeReply) : State :=
  let s1 := s.count 74
  if q.deadline < s.fabNs then s1.count 135
  else s1.sendPacket q.node 5 1 q.part (.response { tag := q.tag, gen := q.gen, deadline := q.deadline, data := r.data, err := r.err })

/-- Requests that wait at this home are examined in order: those no longer blocked are served, this node's own
completing at once and another node's by a response (R373). -/
def homeDrain : List HomeWait → State → State
  | [], s => s
  | w :: ws, s =>
    if s.storeBlocked (refPart w.req.ref) { va := refVa w.req.ref, bytes := w.req.bytes, value := 0 } then
      homeDrain ws { s with ms := { s.ms with homeWait := s.ms.homeWait ++ [w] } }
    else
      let (s1, r) := s.serveHome w.req
      if w.req.node = 2046 then
        homeDrain ws (if (s1.tagAt w.req.tag).gen = w.req.gen then s1.completeTag w.req.tag.val r else s1)
      else homeDrain ws (s1.respond w.req r)

/-- Everything that waits for room in the keep write buffer or for replicas is examined again. -/
def State.homeRetry (s : State) : State :=
  let ws := s.ms.homeWait
  (homeDrain ws { s with ms := { s.ms with homeWait := [] } }).fences

/-- The outstanding request of a task: tag `i`, its record and its request message. -/
def State.openTag (s : State) (t : Nat) (k : Task) (i : Nat) (ref : Word) (store : Bool) : State :=
  (s.setTag i { gen := (s.tagAt i).gen, busy := true, task := t, part := k.part, pgen := s.parts[k.part].gen, store := store,
                seq := k.gseq, addr := ref, deadline := s.newDeadline })

end Sys2Proof.Machine
end

