-- ==== Sys2Proof/Machine/Chan.lean ====
section
/-! DEFINITION. Operations on channels shared by the radio families: profiles (R88), costs (R85, R145), state codes
(R107, R109), settings (R336, R337), charter coverage (R185), mutes, trims and fence requests. -/

namespace Sys2Proof.Machine

/-- A row of R88 with the canceller cost of R145 and the control sample of R119: channel rate in samples per second,
band edges in Hz, cost in 1 M MAC/s, group delay in ns, canceller cost, control sample in rounds. -/
structure Profile where
  rate : Nat
  pass : Nat
  stop : Nat
  cost : Nat
  delay : Nat
  can : Nat
  m : Nat
  deriving DecidableEq, Repr

/-- The profiles of R88. The reserved codes are never in force. -/
def profileOf (c : Nat) : Profile :=
  match c with
  | 0 => { rate := 9600, pass := 2000, stop := 3125, cost := 12, delay := 2100000, can := 1, m := 128 }
  | 1 => { rate := 19200, pass := 4000, stop := 6250, cost := 15, delay := 1050000, can := 2, m := 64 }
  | 2 => { rate := 38400, pass := 8000, stop := 12500, cost := 20, delay := 540000, can := 3, m := 32 }
  | 3 => { rate := 240000, pass := 90000, stop := 110000, cost := 90, delay := 74000, can := 15, m := 4 }
  | 4 => { rate := 1920000, pass := 540000, stop := 770000, cost := 400, delay := 12800, can := 116, m := 1 }
  | 5 => { rate := 3840000, pass := 1350000, stop := 1650000, cost := 750, delay := 6500, can := 231, m := 1 }
  | 6 => { rate := 7680000, pass := 2250000, stop := 2750000, cost := 1200, delay := 4100, can := 461, m := 1 }
  | 7 => { rate := 15360000, pass := 4500000, stop := 5500000, cost := 2300, delay := 2300, can := 922, m := 1 }
  | 8 => { rate := 23040000, pass := 6750000, stop := 8250000, cost := 3300, delay := 1700, can := 1383, m := 1 }
  | 9 => { rate := 30720000, pass := 9000000, stop := 11000000, cost := 4300, delay := 1350, can := 1844, m := 1 }
  | 10 => { rate := 61440000, pass := 19080000, stop := 22000000, cost := 8400, delay := 1020, can := 3687, m := 1 }
  | 11 => { rate := 76800000, pass := 29160000, stop := 33000000, cost := 12400, delay := 840, can := 4608, m := 1 }
  | 12 => { rate := 122880000, pass := 39060000, stop := 44000000, cost := 16500, delay := 700, can := 7373, m := 1 }
  | _ => { rate := 122880000, pass := 49140000, stop := 55000000, cost := 20500, delay := 620, can := 7373, m := 1 }

/-- The profile of a channel's settings. -/
def Settings.prof (c : Settings) : Profile := profileOf c.filt.profile.toNat

/-- The name of a lane as a table key: anchor node and slot (R224). -/
def laneKey (node : NodeId) (chan : Nat) : Nat := node.toNat * 256 + chan

/-- The channel's receive port, unless a trunk lane (R81). -/
def Settings.rxPort (c : Settings) : Option PortId :=
  if h : c.filt.rxSide.toNat < 4 then some ⟨c.filt.rxSide.toNat, h⟩ else none

/-- The channel's transmit port, unless a trunk lane (R81). -/
def Settings.txPort (c : Settings) : Option PortId :=
  if h : c.filt.txSide.toNat < 4 then some ⟨c.filt.txSide.toNat, h⟩ else none

/-- Both sides are RF ports (R139). -/
def Settings.loop (c : Settings) : Bool := c.rxPort.isSome && c.txPort.isSome

/-- Canceller cost of the settings (R140, R145). -/
def Settings.canCost (c : Settings) : Nat := if c.loop && c.canc.can then c.prof.can else 0

/-- LTGT in force: as written, or its default by transmit side (R336), in 0.1 dB. -/
def Settings.ltgtV (c : Settings) : Int :=
  match c.gain.ltgt with
  | some v => v
  | none => if c.txPort.isSome then 100 else -200

/-- DCMODE in force: as written, or ON for 1.4 MHz and wider, OFF for narrower (R98). -/
def Settings.dcModeV (c : Settings) : Nat :=
  match c.dcMode with
  | some v => v.toNat
  | none => if 4 ≤ c.filt.profile.toNat then 1 else 0

/-- The mode of the channel's DC-blocking stage: OFF where the receive side is a trunk lane, which has no stage (R98). -/
def Settings.dcStage (c : Settings) : Nat := if c.rxPort.isSome then c.dcModeV else 0

/-! States and costs (R85, R86, R107 to R109, R145). -/

/-- A mute is in force. -/
def Mutes.any (m : Mutes) : Bool := m.prog || m.dloss || m.nrise || m.trk || m.reset

/-- The two sets of mutes together. -/
def Mutes.join (a b : Mutes) : Mutes :=
  { prog := a.prog || b.prog, dloss := a.dloss || b.dloss, nrise := a.nrise || b.nrise, trk := a.trk || b.trk,
    reset := a.reset || b.reset }

/-- The channel's settings have been committed and its slot is not FREE. -/
def Slot.live (x : Slot) : Bool := x.committed && (x.phase = .owned || x.phase = .freeing)

/-- The TRIMMED condition of R132. -/
def Slot.trimmedNow (x : Slot) : Bool := x.glc.trimmed

/-- A fade whose cross-fade has not ended. -/
def Slot.fading (x : Slot) : Bool :=
  match x.fade with
  | some f => !f.ended
  | none => false

/-- The channel's output has fallen to zero: that of a MUTED, FENCED or freed channel once its ramp has ended, that of any
other where it contributes nothing (R97, R108, R171). -/
def Slot.silentNow (x : Slot) : Bool :=
  if x.guard.fenced || x.mutes.any || decide (x.phase = .freeing) then x.zero
  else (x.settling && (decide (0 < x.fill) || decide (x.ramp = 0))) || !x.committed || x.glc.applied.isNone

/-- A mute, a fence or a free begins: an output that is not zero ramps to zero from now (R108, R111, R171). -/
def Slot.rampDown (x : Slot) : Slot := { x with zero := x.silentNow }

/-- The samples for which a filter of the profile fills: twice the group delay (R89). The output's rise follows over 16 more
(R97). -/
def Profile.fillSamples (p : Profile) : Nat := (2 * p.delay * p.rate + 999999999) / 1000000000

/-- A filter begins to fill: the channel is in SETTLING with zero output (R97, R112). -/
def Slot.startFill (x : Slot) (p : Profile) : Slot := { x with settling := true, fill := p.fillSamples, ramp := 0 }

/-- The state code of R107 under the precedence of R109. -/
def Slot.code (x : Slot) : Nat :=
  match x.phase with
  | .free => 0
  | .reserved => 0
  | _ =>
    if !x.committed then 1
    else if x.guard.fenced then 7
    else if x.mutes.any then 6
    else if x.fading then 4
    else if x.settling then 2
    else if x.trimmedNow then 5
    else 3

/-- The channel is LIVE, TRIMMED or FADING (chapter 7). -/
def Slot.radiating (x : Slot) : Bool := x.code = 3 || x.code = 4 || x.code = 5

/-- The channel gives an output: committed, its filter full, not gated, and no mute, fence or free holds it silent (R97, R108,
R111, R126). -/
def Slot.opens (x : Slot) : Bool :=
  x.committed && decide (x.phase = .owned) && !x.guard.fenced && !x.mutes.any && decide (x.fill = 0) && x.glc.applied.isSome

/-- Engine cost charged (R85). -/
def Slot.cost (x : Slot) : Nat :=
  if x.live then x.set.prof.cost + (match x.fade with | some f => f.cfe | none => 0) else 0

/-- Canceller cost charged (R145). -/
def Slot.canCost (x : Slot) : Nat :=
  if x.live then x.set.canCost + (match x.fade with | some f => f.canc | none => 0) else 0

/-! Lanes of a channel (R224). -/

/-- The channel takes a DL lane: receive side the lane, direction DL (R224). -/
def Settings.dlMember (c : Settings) : Bool := c.rxPort.isNone && !c.filt.ul

/-- The channel feeds an UL lane: a contributor (R224). -/
def Settings.contributor (c : Settings) : Bool := c.txPort.isNone && c.filt.ul

/-- The channel is the anchor of an UL lane: its sink (R224). -/
def Settings.sink (c : Settings) : Bool := c.rxPort.isNone && c.filt.ul

/-- The channel is the anchor of a DL lane: its source (R224). -/
def Settings.source (c : Settings) : Bool := c.txPort.isNone && !c.filt.ul

/-- The channel is a member of a lane that another channel anchors: a DL member takes the lane, a UL member feeds it
(R224). -/
def Settings.member (c : Settings) : Bool := c.dlMember || c.contributor

/-- The channel anchors a lane (R224). -/
def Settings.anchor (c : Settings) : Bool := c.source || c.sink

/-- The anchor of the lane that the channel in slot `k` uses: itself, or the one its settings name (R224, R226). -/
def State.laneAnchor (s : State) (k : Nat) (c : Settings) : NodeId × Nat :=
  if c.anchor then (s.senderNode, k) else (c.trunk.laneNode, c.trunk.laneSlot)

/-- Two settings name the same receive and transmit side, port or lane (R105): a member's lane is the one that LANE names, an
anchor's its own, so that a change of direction on a trunk channel changes the lane (R224, R226). -/
def sameSides (a b : Settings) : Bool :=
  a.filt.rxSide = b.filt.rxSide && a.filt.txSide = b.filt.txSide && a.member == b.member
    && (!a.member || (a.trunk.laneNode = b.trunk.laneNode && a.trunk.laneSlot = b.trunk.laneSlot))

/-- The key of the lane that the channel in slot `k` uses. -/
def State.laneOf (s : State) (k : Nat) (c : Settings) : Nat := laneKey (s.laneAnchor k c).1 (s.laneAnchor k c).2

/-- The link direction out of a node's chain port, as a key of the head's maps (R198). -/
def dirKey (node : NodeId) (l : ChainId) : Nat := node.toNat * 4 + l.val

/-- The lanes that this node's outbound link directions carry, for the head to keep where they are (R212, R230). -/
def State.lanesKept (s : State) : List (Nat × Lane) :=
  (List.finRange 3).flatMap fun l => (s.links[chainLink l].lanesOut).map fun a => (dirKey s.senderNode l, a)

/-- A slot number as a request names it. -/
def slotOf (k : Nat) : SlotId := ⟨k % 192, Nat.mod_lt _ (by decide)⟩

/-- The channel in slot `k` anchors its lane already, with the grid that it fixed at the commit that created the lane (R238). -/
def State.anchorsNow (s : State) (k : Nat) (c : Settings) : Bool :=
  (s.slot k).live && c.anchor && (s.slot k).set.anchor && sameSides c (s.slot k).set

/-- The request for lane blocks of a channel with settings `c`; the directions and the path are gathered on its way to the head
(R198, R226, R238). -/
def State.laneRequest (s : State) (k : Nat) (c : Settings) (leave : Bool) : LaneRequest :=
  { node := s.senderNode, slot := slotOf k, anchorNode := (s.laneAnchor k c).1, anchorSlot := slotOf (s.laneAnchor k c).2
    uplink := c.filt.ul, profile := c.filt.profile, dirs := [], path := 0, join := 0
    ceil := psCycles (c.trunk.ceil * 1000000), ldel := c.trunk.ldel, ta0 := if s.anchorsNow k c then (s.slot k).trunk.ta0 else s.fabNs, leave := leave, kept := s.lanesKept }

/-- The request goes to the head. -/
def State.askHead (s : State) (q : LaneRequest) : State := { s with fab := { s.fab with asks := s.fab.asks ++ [q] } }

/-- A commit of `r` asks for a fade that changes a filter setting and no side (R102, R105). -/
def Slot.fades (x : Slot) (r : CommitReq) : Bool :=
  r.fade && x.committed && decide (r.set.filt ≠ x.set.filt) && sameSides r.set x.set

/-- The state in which a fade is carried out as one: LIVE or TRIMMED (R105, R108). -/
def Slot.mayFade (x : Slot) : Bool := x.code = 3 || x.code = 5

/-- Engine cost once an accepted commit takes effect (R85, R103, R104). -/
def Slot.costNext (x : Slot) : Nat :=
  match x.req with
  | none => x.cost
  | some r =>
    if x.fades r && x.mayFade then r.set.prof.cost + x.set.prof.cost
    else r.set.prof.cost + (match x.fade with | some f => f.cfe | none => 0)

/-- Canceller cost once an accepted commit takes effect. -/
def Slot.canCostNext (x : Slot) : Nat :=
  match x.req with
  | none => x.canCost
  | some r =>
    if x.fades r && x.mayFade then r.set.canCost + x.set.canCost
    else r.set.canCost + (match x.fade with | some f => f.canc | none => 0)

/-- The sum of `f` over the slots. -/
def State.sumSlots (s : State) (f : Slot → Nat) : Nat := (s.rad.slots.map fun x => f x.2).sum

/-- The number of slots of which `f` holds. -/
def State.countSlots (s : State) (f : Slot → Bool) : Nat := (s.rad.slots.filter fun x => f x.2).length

/-- The slot belongs to partition `p` (R111: a freed slot to none). -/
def Slot.ownedBy (x : Slot) (p : PartId) : Bool := (x.phase = .owned || x.phase = .reserved) && x.owner = p

/-- The sum of a grant over the active tenant partitions (R386: an absent one counts as zero). -/
def State.sumTenants (s : State) (f : Part → Nat) : Nat :=
  (List.finRange 8).foldl (fun (a : Nat) (p : PartId) => if p ≠ 0 ∧ s.parts[p].life ≠ .absent then a + f s.parts[p] else a) 0

/-- A reserved resource as partition `p` holds it: P0 holds the node's total less the tenants' grants (R386). -/
def State.share (s : State) (p : PartId) (total : Nat) (f : Part → Nat) : Nat :=
  if p = 0 then total - s.sumTenants f else f s.parts[p]

/-! Settings (R336, R337, R118, R168, R226). -/

/-- The settings that exist for ch.set (R336). -/
def settingDefined (n : Nat) : Bool :=
  n ≤ 8 || (0x10 ≤ n && n ≤ 0x18) || (0x20 ≤ n && n ≤ 0x23) || (0x28 ≤ n && n ≤ 0x2D) || (0x30 ≤ n && n ≤ 0x35)

/-- A limit replacement (R337). -/
def limit (x lo hi : Nat) : Int := (clampNat x lo hi : Nat)

/-- The value a ch.set leaves pending: the field of the setting, replaced by the nearest limit; none for a reserved
code, which leaves the pending value unchanged (R337). -/
def replaceValue (n w : Nat) : Option Int :=
  match n with
  | 0x00 => if w % 16 < 14 then some (w % 16 : Nat) else none
  | 0x01 => some (w % 2 ^ 36 : Nat)
  | 0x02 => if w % 8 ≤ 4 then some (w % 8 : Nat) else none
  | 0x03 => if w % 8 ≤ 4 then some (w % 8 : Nat) else none
  | 0x04 => some (w % 2 : Nat)
  | 0x05 => some (w % 2 : Nat)
  | 0x06 => some (limit (w % 2 ^ 17) 16 65536)
  | 0x07 => if w % 4 < 3 then some (w % 4 : Nat) else none
  | 0x08 => some (limit (w % 32) 10 20)
  | 0x10 => some (limit (w % 2 ^ 16) 0 950)
  | 0x11 => some (limit (w % 2 ^ 16) 0 950)
  | 0x12 => some (clampInt (signedN 16 w) (-600) 330)
  | 0x13 => some (w % 2 : Nat)
  | 0x14 => some (limit (w % 2 ^ 16) 80 400)
  | 0x15 => some (limit (w % 2 ^ 16) 0 950)
  | 0x16 => some (limit (w % 2 ^ 16) 0 950)
  | 0x17 => some (w % 4 : Nat)
  | 0x18 => some (w % 4 : Nat)
  | 0x20 => some (w % 2 : Nat)
  | 0x21 => some (if w % 2 ^ 15 = 0x7FFF then 0x7FFF else limit (w % 2 ^ 15) 0 19660)
  | 0x22 => some (w % 4 : Nat)
  | 0x23 => some (w % 2 : Nat)
  | 0x28 => some (limit (w % 2 ^ 16) 30 120)
  | 0x29 => some (limit (w % 2 ^ 16) 10 100)
  | 0x2A => some (limit (w % 2 ^ 16) 30 300)
  | 0x2B => some (limit (w % 2 ^ 16) 1 10000)
  | 0x2C => some (limit (w % 2 ^ 16) 1 600)
  | 0x2D => some (limit (w % 2 ^ 16) 10 60000)
  | 0x30 => some (limit (fieldN w 26 16) 0 2045 * 65536 + limit (fieldN w 7 0) 0 191)
  | 0x31 => some (limit (w % 2 ^ 12) 1 4000)
  | 0x32 => some (limit (w % 2 ^ 22) 0 3932160)
  | 0x33 => some (w % 2 : Nat)
  | 0x34 => some (limit (w % 2 ^ 16) 30 200)
  | 0x35 => some (limit (w % 2 ^ 13) 16 4096)
  | _ => none

/-- Settings with setting `n` at the replaced value `v`. -/
def Settings.put (c : Settings) (n : Nat) (v : Int) : Settings :=
  match n with
  | 0x00 => { c with filt := { c.filt with profile := BitVec.ofInt 4 v } }
  | 0x01 => { c with filt := { c.filt with centre := v.toNat } }
  | 0x02 => { c with filt := { c.filt with rxSide := BitVec.ofInt 3 v } }
  | 0x03 => { c with filt := { c.filt with txSide := BitVec.ofInt 3 v } }
  | 0x04 => { c with filt := { c.filt with ul := v = 1 } }
  | 0x05 => { c with filt := { c.filt with align := v = 1 } }
  | 0x06 => { c with fadeLen := v.toNat }
  | 0x07 => { c with dcMode := some (BitVec.ofInt 2 v) }
  | 0x08 => { c with dck := v.toNat }
  | 0x10 => { c with gain := { c.gain with gmax := v } }
  | 0x11 => { c with gain := { c.gain with gmin := v } }
  | 0x12 => { c with gain := { c.gain with ltgt := some v } }
  | 0x13 => { c with gain := { c.gain with alc := v = 1 } }
  | 0x14 => { c with gain := { c.gain with brim := v } }
  | 0x15 => { c with gain := { c.gain with blo := v } }
  | 0x16 => { c with gain := { c.gain with bhi := v } }
  | 0x17 => { c with gain := { c.gain with ltab := BitVec.ofInt 2 v } }
  | 0x18 => { c with gain := { c.gain with btab := BitVec.ofInt 2 v } }
  | 0x20 => { c with canc := { c.canc with can := v = 1 } }
  | 0x21 => { c with canc := { c.canc with woff := v.toNat } }
  | 0x22 => { c with canc := { c.canc with stab := BitVec.ofInt 2 v } }
  | 0x23 => { c with canc := { c.canc with frz := v = 1 } }
  | 0x28 => { c with guard := { c.guard with ovm := v } }
  | 0x29 => { c with guard := { c.guard with nrth := v } }
  | 0x2A => { c with guard := { c.guard with dlth := v } }
  | 0x2B => { c with guard := { c.guard with dlhold := v.toNat } }
  | 0x2C => { c with guard := { c.guard with trel := v.toNat } }
  | 0x2D => { c with guard := { c.guard with hold := v.toNat } }
  | 0x30 => { c with trunk := { c.trunk with laneNode := BitVec.ofInt 11 (v / 65536), laneSlot := (v % 65536).toNat } }
  | 0x31 => { c with trunk := { c.trunk with ceil := v.toNat } }
  | 0x32 => { c with trunk := { c.trunk with ldel := v.toNat } }
  | 0x33 => { c with trunk := { c.trunk with gate := v = 1 } }
  | 0x34 => { c with trunk := { c.trunk with gth := v } }
  | 0x35 => { c with trunk := { c.trunk with ghang := v.toNat } }
  | _ => c

/-- The value of setting `n` in force (R337), as ch.get returns it. -/
def Settings.read (c : Settings) (n : Nat) : Word :=
  let i : Int → Word := fun v => BitVec.ofInt 64 v
  match n with
  | 0x00 => c.filt.profile.setWidth 64
  | 0x01 => BitVec.ofNat 64 c.filt.centre
  | 0x02 => c.filt.rxSide.setWidth 64
  | 0x03 => c.filt.txSide.setWidth 64
  | 0x04 => boolWord c.filt.ul
  | 0x05 => boolWord c.filt.align
  | 0x06 => BitVec.ofNat 64 c.fadeLen
  | 0x07 => BitVec.ofNat 64 c.dcModeV
  | 0x08 => BitVec.ofNat 64 c.dck
  | 0x10 => i c.gain.gmax
  | 0x11 => i c.gain.gmin
  | 0x12 => i c.ltgtV
  | 0x13 => boolWord c.gain.alc
  | 0x14 => i c.gain.brim
  | 0x15 => i c.gain.blo
  | 0x16 => i c.gain.bhi
  | 0x17 => c.gain.ltab.setWidth 64
  | 0x18 => c.gain.btab.setWidth 64
  | 0x20 => boolWord c.canc.can
  | 0x21 => BitVec.ofNat 64 c.canc.woff
  | 0x22 => c.canc.stab.setWidth 64
  | 0x23 => boolWord c.canc.frz
  | 0x28 => i c.guard.ovm
  | 0x29 => i c.guard.nrth
  | 0x2A => i c.guard.dlth
  | 0x2B => BitVec.ofNat 64 c.guard.dlhold
  | 0x2C => BitVec.ofNat 64 c.guard.trel
  | 0x2D => BitVec.ofNat 64 c.guard.hold
  | 0x30 => BitVec.ofNat 64 (c.trunk.laneNode.toNat * 65536 + c.trunk.laneSlot)
  | 0x31 => BitVec.ofNat 64 c.trunk.ceil
  | 0x32 => BitVec.ofNat 64 c.trunk.ldel
  | 0x33 => boolWord c.trunk.gate
  | 0x34 => i c.trunk.gth
  | 0x35 => BitVec.ofNat 64 c.trunk.ghang
  | _ => 0

/-- The replacements that relate one setting to another (R117, R118, R234): GMIN to GMAX, BLO to BHI, LTGT to the
transmit side, LDEL to CEIL in ED cycles. -/
def Settings.repair (c : Settings) : Settings :=
  let ceilCycles := c.trunk.ceil * 98304 / 100
  { c with
    gain := { c.gain with
      gmin := min c.gain.gmin c.gain.gmax
      blo := min c.gain.blo c.gain.bhi
      ltgt := c.gain.ltgt.map fun v => if c.txPort.isSome then v else min v 0 }
    trunk := { c.trunk with ldel := min c.trunk.ldel ceilCycles } }

/-- Settings with a pending set applied (R338), oldest first. -/
def Settings.apply (c : Settings) (vals : List (Nat × Int)) : Settings :=
  (vals.foldl (fun c v => c.put v.1 v.2) c).repair

/-! The charter (R181, R185). -/

/-- The stopband span `centre ± stop edge` of a channel lies within the range in kHz; the centre is in units of
491.52 MHz / 2^32 (R91). -/
def spanWithin (c : Settings) (flo fhi : Nat) : Bool :=
  decide (flo * 1000 * 2 ^ 32 + c.prof.stop * 2 ^ 32 ≤ c.filt.centre * 491520000)
    && decide (c.filt.centre * 491520000 + c.prof.stop * 2 ^ 32 ≤ fhi * 1000 * 2 ^ 32)

/-- An entitlement covers settings with an RF transmit side (R185). -/
def Ent.covers (e : Ent) (c : Settings) : Bool :=
  decide (e.port = c.filt.txSide.toNat) && e.ul == c.filt.ul && spanWithin c e.flo e.fhi
    && e.prof.getLsbD c.filt.profile.toNat && decide (c.gain.gmax ≤ e.gmax) && decide (c.ltgtV ≤ e.pmax)

/-- Index of the first entry for which `f` holds, counted from `i`. -/
def firstIdx {α : Type} (f : α → Bool) : List α → Nat → Option Nat
  | [], _ => none
  | a :: l, i => if f a then some i else firstIdx f l (i + 1)

/-- The entitlements of the charter in force, none while no charter is (R184). -/
def State.entitlements (s : State) : List Ent := if s.cht.force.isSome then s.cht.ents else []

/-- The covering entitlement of settings: the first, in record order (R185). -/
def State.coverOf (s : State) (c : Settings) : Option Nat := firstIdx (fun e => e.covers c) s.entitlements 0

/-- Settings pass the charter check: their transmit side is a trunk lane, or an entitlement covers them (R185). -/
def State.covered (s : State) (c : Settings) : Bool := c.txPort.isNone || (s.coverOf c).isSome

/-- The duty limit of a port in percent: the lowest among the entitlements for the port and the direction in which
its role transmits; none where there is no such entitlement (R43). -/
def State.dutyLimit (s : State) (p : PortId) : Option Nat :=
  ((s.entitlements.filter fun e => e.port = p.val && e.ul == s.ports[p].tune.donor).map (·.duty)).min?

/-- The duty limit of port `p` under a role. -/
def State.dutyLimitFor (s : State) (p : PortId) (donor : Bool) : Option Nat :=
  ((s.entitlements.filter fun e => e.port = p.val && e.ul == donor).map (·.duty)).min?

/-! Isolation and depth (R121, R140, R150, R155, R161). -/

/-- 150 dB, the open-loop isolation of R140. -/
def openLoopIso : Level := 192000

/-- The isolation estimate FBC reports: of a loop, as measured; without a loop, 150 dB once the engine has been in
ISOLATE (R140). -/
def State.isoOf (s : State) (x : Slot) : Option Level :=
  if x.set.loop then x.fbc.iso
  else if x.committed && s.rad.everIsolate then some openLoopIso else none

/-- The reported depth of R150 and R161: 0 with no valid model, else the raw depth less 3 dB, 0 to 40 dB, or the
seeded depth until 256 update steps. -/
def Slot.depth (x : Slot) : Level :=
  if x.set.loop && x.set.canc.can && x.fbc.valid then
    match x.fbc.seed with
    | some d => clampInt d 0 51200
    | none => clampInt (x.fbc.raw - 3840) 0 51200
  else 0

/-- WOFF in force: as set, or the AUTO value (R142). The AUTO value is a number of ED cycles that a commit keeps, also one
that changes the channel rate (DESIGN CHOICE, log 17: the manual forms it from 8 samples of the rate of the probe). -/
def Slot.woff (x : Slot) : Nat := if x.set.canc.woff = 0x7FFF then x.fbc.autoWoff else x.set.canc.woff

/-- N_rx of R155 in 1/1280 dBm: −174 dBm/Hz + 10 log10(B) + NF, the noise figure taken at the channel centre. -/
def noiseRx (p : PortId) (c : Settings) : Level :=
  -222720 + Config.tenLog10 (2 * c.prof.pass) + Config.noiseFigure p c.filt.centre

/-- The noise-funnel gate is held closed: the channel is not radiating, its receive samples are invalid, or RFKILL_N is
asserted (R243). -/
def State.gateHeld (s : State) (x : Slot) : Bool :=
  !x.radiating || s.pwr.rfkill || (match x.set.rxPort with | some p => !s.ports[p].rxv | none => false)

/-- The contributor adds into its lane: GATE off, or the gate open, and nothing holds it closed (R243). -/
def State.gateLive (s : State) (x : Slot) : Bool := (!x.set.trunk.gate || x.trunk.gateOpen) && !s.gateHeld x

/-- T in steps of 3 dB (R169). -/
def Guard.trimSteps (g : Guard) : Nat := g.tOsc + g.tOvr + g.tNrise + g.tAclr

/-! Actions of hardware on channels: trims, fences, mutes (R108, R169 to R172). -/

/-- A channel of a partition changed state by hardware: event bit 8 for its owner (R354), and an unannounced event (R436). -/
def State.chEvent (s : State) (k : Nat) : State :=
  let x := s.slot k
  if x.phase = .owned then (s.event x.owner 8).unannounced else s.unannounced

/-- A TRIM by detector 0 OSC, 1 OVR, 2 NRISE, 3 ACLR: one step of 3 dB in its share unless T stands at 30 dB; the
TREL interval restarts in either case (R169). -/
def State.trim (s : State) (k : Nat) (det : Nat) : State :=
  let now := s.clk.ed
  let add : Guard → Guard := fun g =>
    let n := if g.trimSteps < 10 then 1 else 0
    match det with
    | 0 => { g with tOsc := g.tOsc + n, atOsc := now, lastTrim := now }
    | 1 => { g with tOvr := g.tOvr + n, atOvr := now, lastTrim := now }
    | 2 => { g with tNrise := g.tNrise + n, atNrise := now, lastTrim := now }
    | _ => { g with tAclr := g.tAclr + n, atAclr := now, lastTrim := now }
  (((s.mapSlot k fun x => { x with guard := add x.guard }).count 200).chEvent k)

/-- NGD's device flag `b` sets (R188). -/
def State.ngdFlag (s : State) (b : Nat) : State :=
  { s with rad := { s.rad with ngd := s.rad.ngd ||| (1#6 <<< b) } }

/-- A fence by cause code `c` of R172 is asked for; it takes effect at the next round boundary (R110, R171). -/
def State.askFence (s : State) (k c : Nat) : State :=
  s.mapSlot k fun x => { x with guard := { x.guard with fenceReq := x.guard.fenceReq ||| (1#16 <<< c) } }

/-- A fence by ACLR of port `p` is asked for; the port is the source of the fence, whatever port the channel has later
(R173). -/
def State.askAclrFence (s : State) (k : Nat) (p : PortId) : State :=
  (s.mapSlot k fun x => { x with guard := { x.guard with aclrPort := some p } }).askFence k 3

/-- The slots that are LIVE, TRIMMED or FADING on transmit port `p`. -/
def State.radiatingOn (s : State) (p : PortId) : List Nat :=
  (s.rad.slots.filter fun x => x.2.radiating && x.2.set.txPort = some p).map (·.1)

/-- An error line held high by a lasting condition follows that condition (chapter 18). -/
def State.lineLevel (s : State) (n : SubId) (kind : Byte) (c : Bool) : State :=
  if c then s.lineRise n kind else s.lineFall n

end Sys2Proof.Machine
end

