-- ==== Sys2Proof/Machine/Channel.lean ====
section
/-! DEFINITION. The channel instructions (R335 to R345) and their completion events. -/

namespace Sys2Proof.Machine

/-- An instruction on the channel that a handle names: an invalid handle is a violation of kind 0x03 (R281, R299). -/
def onChannel (t : TaskId) (gd ga : Reg) (s : State) (f : Task → Nat → State → State) : Out :=
  onEngine t 3 s fun k s =>
    match s.chan k.part (k.get ga) with
    | some c => f k c s
    | none => s.violate t 3 gd

/-! ch.alloc and ch.free (R339, R111, R281). -/

/-- The handle of slot `k` (R281). -/
def State.handleOf (s : State) (k : Nat) : Word :=
  BitVec.ofNat 64 (k + (s.slot k).gen.toNat * 2 ^ 8 + (s.slot k).owner.val * 2 ^ 16)

/-- The slot that ch.alloc takes: the named one, or with 0xFF the lowest FREE one (R339). -/
def State.pickSlot (s : State) (n : Nat) : Option Nat :=
  if n = 0xFF then firstFree (fun k => (s.slot k).phase = .free) 192 0
  else if n < 192 ∧ (s.slot n).phase = .free then some n else none

/-- An empty slot in place of `x`: a fence that a partition reset left stays with the slot (R175, R401). -/
def Slot.emptied (x : Slot) : Slot :=
  { Slot.initial with
    gen := x.gen
    guard := { Guard.initial with
      fenced := x.guard.fenced, causes := x.guard.causes, aclrPort := x.guard.aclrPort, lastFence := x.guard.lastFence } }

/-- ch.alloc (R339): the quota first, then the slot; the slot is reserved and the task waits for the round boundary.
Held in WATCH (R342). -/
def execChAlloc (t : TaskId) (gd ga gb : Reg) (s : State) : Out :=
  onEngine t 3 s fun k s =>
    if s.inWatch then s.hold t (.chAlloc t gd ga gb)
    else if s.countSlots (fun x => x.ownedBy k.part) ≥ s.share k.part 192 (fun p => p.grants.chq) then
      s.refuse t gd 3
    else
      match s.pickSlot (fieldN (k.get ga).toNat 7 0) with
      | none => s.refuse t gd 2
      | some c =>
        (s.setSlot c { (s.slot c).emptied with phase := .reserved, owner := k.part }).makeWait t (.alloc gd gb c)

/-- The task that waits for slot `k` with ch.alloc. -/
def allocWaiter (k : Nat) : List (Nat × Task) → Option (Nat × Reg × Reg)
  | [] => none
  | (t, x) :: ts =>
    match x.st with
    | .waiting (.alloc gd gb c) => if c = k then some (t, gd, gb) else allocWaiter k ts
    | _ => allocWaiter k ts

/-- CH_ALLOC_RETURN (R108, R339): at a round boundary the channel becomes HELD, and its task takes OK and the handle. It does so in
WATCH too: the slot was reserved before WATCH began, and R21's "no channel is allocated" is read of ch.alloc itself (DEDUCED, log
31). -/
def execChAllocReturn (slot : SlotId) (s : State) : Out :=
  whenDo ((s.slot slot).phase = .reserved && s.atBoundary) s
    (let s1 := s.mapSlot slot fun x => { x with phase := .owned }
     match allocWaiter slot s1.cpu.tasks with
     | some (t, gd, gb) => s1.wake2 t gd gb 1 (s1.handleOf slot)
     | none => s1)

/-- The head takes lane `key` off every link direction and forgets it (R224). -/
def State.unmapLane (s : State) (key : Nat) : State :=
  let keep : Nat → List Lane → List Lane := fun _ l => l.filter fun x => laneKey x.node x.chan ≠ key
  { s with fab := { s.fab with headMap := tblMap keep s.fab.headMap, lanes := tblDel key s.fab.lanes } }

/-- The lane with key `key` is emptied on this node's link directions (R224). -/
def State.emptyLane (s : State) (key : Nat) : State :=
  let keep : List Lane → List Lane := fun l => l.filter fun x => laneKey x.node x.chan ≠ key
  { s with
    fab := { s.fab with homes := tblDel key s.fab.homes, sums := tblDel key s.fab.sums }
    links := Vector.ofFn fun i =>
      let x := s.links[i]
      { x with lanesIn := keep x.lanesIn, lanesOut := keep x.lanesOut } }

/-- At the head a channel leaves its lane: with its anchor the lane ends (R224), a member no longer counts toward D_L (R234). -/
def State.leaveAtHead (s : State) (q : LaneRequest) : State :=
  let key := laneKey q.anchorNode q.anchorSlot
  if q.node = q.anchorNode ∧ q.slot = q.anchorSlot then s.unmapLane key
  else
    let off : Nat → LaneRec → LaneRec := fun j r =>
      if j = key then { r with members := tblDel (laneKey q.node q.slot) r.members } else r
    { s with fab := { s.fab with lanes := tblMap off s.fab.lanes } }

/-- The channel in slot `k` with settings `c` no longer uses its lane: an anchor's lane is emptied here, and the head is told
(R224). -/
def State.leaveLane (s : State) (k : Nat) (c : Settings) : State :=
  if c.member || c.anchor then
    let s1 := if c.anchor then s.emptyLane (s.laneOf k c) else s
    let q := s.laneRequest k c true
    if s.fab.isHead then s1.leaveAtHead q else s1.askHead q
  else s

/-- Bursts queued for the channel in slot `k` are dropped. -/
def State.dropBursts (s : State) (k : Nat) : State :=
  s.mapPorts fun p => { p with probeQ := p.probeQ.filter fun c => c ≠ k }

/-- A slot is freed (R111): its generation rises, it has no owner, and its output ramps to zero. The model writes the owner as
P0, whose level and brim tables its loops then use until the slot is FREE (DESIGN CHOICE, log 16: R134 names the owner's). -/
def State.freeChannel (s : State) (k : Nat) : State :=
  let x := s.slot k
  let s1 := if x.committed then s.leaveLane k x.set else s
  (s1.mapSlot k fun x =>
    { x with phase := .freeing, gen := x.gen + 1, owner := 0, pend := none, zero := x.silentNow,
             guard := { x.guard with arm := .none }, fbc := Fbc.initial }).dropBursts k

/-- An instruction that WATCH holds before its checks (R342). -/
def onChannelHeld (t : TaskId) (gd ga : Reg) (i : Instr) (s : State) (f : Task → Nat → State → State) : Out :=
  onEngine t 3 s fun k s =>
    if s.inWatch then s.hold t i
    else
      match s.chan k.part (k.get ga) with
      | some c => f k c s
      | none => s.violate t 3 gd

/-- ch.free (R111, R341). Held in WATCH (R342). -/
def execChFree (t : TaskId) (gd ga : Reg) (s : State) : Out :=
  onChannelHeld t gd ga (.chFree t gd ga) s fun _ c s => (s.freeChannel c).finish t gd 1

/-- The slot a round operation acts on. -/
def RoundOp.slot : RoundOp → Nat
  | .commit k => k
  | .mute k => k
  | .unmute k => k
  | .rearm k => k

/-- CH_FREE_RELEASE (R111): at the first round boundary after the output has reached zero the slot is FREE and its
cost released; a commit accepted before the ch.free has taken effect at a boundary by then. -/
def execChFreeRelease (slot : SlotId) (s : State) : Out :=
  whenDo ((s.slot slot).phase = .freeing && (s.slot slot).zero && (s.slot slot).req.isNone && s.atBoundary) s
    { s with rad := { s.rad with
        slots := tblPut slot { Slot.initial with gen := (s.slot slot).gen } s.rad.slots
        roundQ := s.rad.roundQ.filter fun o => o.slot ≠ slot.val } }

/-! ch.set and ch.get (R336 to R338). -/

/-- Pending values with setting `n` at `v`. -/
def putPend (l : List (Nat × Int)) (n : Nat) (v : Int) : List (Nat × Int) :=
  (l.filter fun e => e.1 ≠ n) ++ [(n, v)]

/-- The settings numbers a free pending set writes (case 1 of R301). -/
def settingNumbers : List Nat := (List.range 54).filter settingDefined

/-- A free value for every setting, replaced as ch.set would (case 1 of R301). -/
def State.freeVals (s : State) : List (Nat × Int) :=
  settingNumbers.filterMap fun n => (replaceValue n (s.freeAt n).toNat).map fun v => (n, v)

/-- Settings keep within the device budgets and the charter if the channel in slot `k` takes them (R302). -/
def State.settingsBounded (s : State) (k : Nat) (c : Settings) : Bool :=
  let s1 := s.mapSlot k fun x => { x with set := c }
  s.covered c && decide (s1.sumSlots Slot.costNext ≤ 120000) && decide (s1.sumSlots Slot.canCostNext ≤ 64000)
    && decide ((s1.sumSlots fun x => if x.ownedBy (s.slot k).owner then x.costNext else 0) ≤
        s.share (s.slot k).owner 120000 (fun p => p.effEng))
    && decide ((s1.sumSlots fun x => if x.ownedBy (s.slot k).owner then x.canCostNext else 0) ≤
        s.share (s.slot k).owner 64000 (fun p => p.effCan))

/-- ch.set during a fade (case 1 of R301): the pending and committed settings become free values, within the charter
and the budgets (R302). -/
def State.setUndefined (s : State) (t k : Nat) : State :=
  let x := s.slot k
  let c := x.set.apply s.freeVals
  (s.setSlot k { x with
    pend := some { task := t, vals := s.freeVals }
    set := if s.settingsBounded k c then c else x.set }).useFree 54

/-- ch.set (R337, R338): the value, replaced by the nearest limit, joins the task's pending set; a reserved setting
is case 5 of R301. -/
def execChSet (t : TaskId) (gd ga gb : Reg) (n : BitVec 6) (s : State) : Out :=
  onChannel t gd ga s fun k c s =>
    let x := s.slot c
    if !settingDefined n.toNat then s.undefTask t
    else if x.fade.isSome then (s.setUndefined t c).finish t gd 1
    else
      let old := match x.pend with | some p => if p.task = t.val then p.vals else [] | none => []
      let vals := match replaceValue n.toNat (k.get gb).toNat with
        | some v => putPend old n.toNat v
        | none => old
      (s.setSlot c { x with pend := some { task := t, vals := vals } }).finish t gd 1

/-- ch.get (R337): the setting in force, or with 0x3F the state code. -/
def execChGet (t : TaskId) (gd ga gb : Reg) (n : BitVec 6) (s : State) : Out :=
  onEngine t 3 s fun k s =>
    match s.chan k.part (k.get ga) with
    | none => s.violate2 t 3 gd gb
    | some c =>
      if n = 0x3F then s.finish2 t gd gb 1 (BitVec.ofNat 64 (s.slot c).code)
      else if settingDefined n.toNat then s.finish2 t gd gb 1 ((s.slot c).set.read n.toNat)
      else s.undefTask t

/-! ch.commit (R102 to R106, R185, R340). -/

/-- The settings the pending set of task `t` gives, over those already admitted, and whether the whole is a fade: a
cut among the filter changes admitted before the boundary makes a cut (R103, R105). -/
def Slot.request (x : Slot) (t : Nat) (fade : Bool) : CommitReq :=
  let base := match x.req with | some r => r.set | none => x.set
  let new := match x.pend with
    | some p => if p.task = t then base.apply p.vals else base
    | none => base
  let f := match x.req with
    | none => fade
    | some r =>
      if r.set.filt = x.set.filt then fade
      else if new.filt = r.set.filt then r.fade else r.fade && fade
  { set := new, fade := f, task := t }

/-- A request tells the head of an anchor's new CEIL or LDEL, or has D_L set anew, without new lane blocks: every commit of an anchor
does (R226, R234). -/
def Slot.tellsHead (x : Slot) (r : CommitReq) : Bool := x.committed && r.set.anchor

/-- A request needs lane blocks: a side is a trunk lane and the lane, its direction or, of an anchor, its profile is new (R198,
R207, R225). -/
def Slot.needsLane (x : Slot) (r : CommitReq) : Bool :=
  (r.set.rxPort.isNone || r.set.txPort.isNone)
    && (!x.committed || !sameSides r.set x.set || (r.set.anchor && decide (r.set.filt.profile ≠ x.set.filt.profile))
      || r.set.filt.ul ≠ x.set.filt.ul)

/-- A member takes its lane's profile, whatever profile it asks for: while it keeps its lane, the one in force (R225). -/
def Slot.laneProfile (x : Slot) (r : CommitReq) : CommitReq :=
  if r.set.member && !x.needsLane r then
    { r with set := { r.set with filt := { r.set.filt with profile := x.set.filt.profile } } }
  else r

/-- The channel filter cost fits the device and the partition's engine share (R86). -/
def State.cfeFits (s : State) (k : Nat) (r : CommitReq) : Bool :=
  let p := (s.slot k).owner
  let s1 := s.mapSlot k fun x => { x with req := some r }
  decide (s1.sumSlots Slot.costNext ≤ 120000)
    && decide ((s1.sumSlots fun x => if x.ownedBy p then x.costNext else 0) ≤ s.share p 120000 (fun q => q.effEng))

/-- The canceller cost fits the device and the partition's canceller share (R145). -/
def State.canFits (s : State) (k : Nat) (r : CommitReq) : Bool :=
  let p := (s.slot k).owner
  let s1 := s.mapSlot k fun x => { x with req := some r }
  decide (s1.sumSlots Slot.canCostNext ≤ 64000)
    && decide ((s1.sumSlots fun x => if x.ownedBy p then x.canCostNext else 0) ≤ s.share p 64000 (fun q => q.effCan))

/-- The result code of a commit, lane blocks aside, in the order of R340: BUSY_FADE, CHARTER, NO_BUDGET, OK. -/
def State.commitCode (s : State) (k : Nat) (r : CommitReq) : Word :=
  if (s.slot k).fade.isSome then 5
  else if !s.covered r.set then 4
  else if !s.cfeFits k r || !s.canFits k r then 3
  else 1

/-- A refused commit's flags and counts (R86, R145, R190, R526). -/
def State.commitRefused (s : State) (k : Nat) (r : CommitReq) (code : Word) : State :=
  if code = 4 then ({ s with rad := { s.rad with refuse := true } }).count 198
  else if code = 3 then
    ({ s with rad := { s.rad with
        noBud := s.rad.noBud || !s.cfeFits k r
        fNoBud := s.rad.fNoBud || !s.canFits k r } }).count 197
  else s

/-- Two requests mixed: each part of the settings is the one or the other's as the bits of `w` say. -/
def CommitReq.mix (a b : CommitReq) (w : Word) : CommitReq :=
  let x := a.set
  let y := b.set
  let p : Nat → Bool := fun i => w.getLsbD i
  { set := { filt := if p 0 then x.filt else y.filt, fadeLen := if p 1 then x.fadeLen else y.fadeLen,
             dcMode := if p 2 then x.dcMode else y.dcMode, dck := if p 3 then x.dck else y.dck,
             gain := if p 4 then x.gain else y.gain, canc := if p 5 then x.canc else y.canc,
             guard := if p 6 then x.guard else y.guard, trunk := if p 7 then x.trunk else y.trunk }
    fade := if p 8 then a.fade else b.fade
    task := b.task }

/-- The name under which tasks learn of commits on the channel in slot `k`: the slot and its generation (R111, R345). -/
def State.commitKey (s : State) (k : Nat) : Nat := k + 256 * (s.slot k).gen.toNat

/-- A commit was accepted on the channel of whose return task `t` has not learned by join, by a message at this node, or by memory that
was written after it and published with a fence: the two are not ordered (case 2 of R301, R345; what other ways of learning there are
does not count, DEDUCED, log 8). -/
def State.unordered (s : State) (t k : Nat) : Bool :=
  decide (tblGet 0 (s.commitKey k) (s.know t).seen < (s.slot k).commits)

/-- The request that an admitted commit leaves waiting: its own, or, where it is not ordered after an earlier one, a free mixture of it
with what waits, or with the settings in force, that the charter covers and the budgets hold (case 2 of R301, R302). -/
def State.settleReq (s : State) (t k : Nat) (r : CommitReq) : CommitReq :=
  let old := match (s.slot k).req with
    | some r0 => r0
    | none => { set := (s.slot k).set, fade := r.fade, task := r.task }
  let m := old.mix r (s.freeAt 0)
  if s.unordered t k && decide (s.commitCode k m = 1)
      && (!(s.slot k).needsLane m || decide (m.set.filt = r.set.filt ∧ m.set.trunk = r.set.trunk)) then m else r

/-- Task `t` learns the return of its own commit on slot `k` (R345). -/
def State.knowCommit (s : State) (t k : Nat) : State :=
  let x := s.know t
  s.setKnow t { x with seen := tblPut (s.commitKey k) (s.slot k).commits x.seen }

/-- The request carries out its fade as one only in LIVE or TRIMMED, as the channel stands at acceptance; elsewhere it is a cut,
admitted with the new cost alone (R104, R105). -/
def Slot.settledFade (x : Slot) (r : CommitReq) : CommitReq := { r with fade := r.fade && x.mayFade }

/-- An admitted commit (R103, R338): it consumes the task's pending set, waits for its round boundary, and enters the
committed channel plan (R444). -/
def State.commitAdmit (s : State) (t k : Nat) (r0 : CommitReq) : State :=
  let r := (s.slot k).settledFade (s.settleReq t k r0)
  let drop : Slot → Slot := fun x =>
    match x.pend with
    | some p => if p.task = t then { x with pend := none } else x
    | none => x
  let s1 := s.mapSlot k fun x => { drop x with req := some r, commits := x.commits + 1 }
  let s2 := { s1 with rad := { s1.rad with
      roundQ := s1.rad.roundQ ++ [RoundOp.commit k], plan := tblPut k r.set s1.rad.plan } }
  ((s2.knowCommit t k).useFree (if s.unordered t k then 1 else 0)).count 196

/-- Some profile that a lane may have lets the charter cover the settings (R185, R225). -/
def State.coverable (s : State) (c : Settings) : Bool :=
  (List.range 14).any fun p => s.covered { c with filt := { c.filt with profile := BitVec.ofNat 4 p } }

/-- The code of a commit before the head is asked: of a new member BUSY_FADE, and CHARTER where no profile of its lane could be
covered, since what it is charged and covered for is the anchor's profile (R184, R225, R340). -/
def State.codeBefore (s : State) (k : Nat) (r : CommitReq) : Word :=
  if r.set.member && (s.slot k).needsLane r then
    (if (s.slot k).fade.isSome then 5 else if s.coverable r.set then 1 else 4)
  else s.commitCode k r

/-- A commit of the channel in slot `k` (R340). A request that needs lane blocks waits for the head, or is refused
where there is no head and no election (R207). -/
def commitOn (t : TaskId) (gd : Reg) (fade : Bool) (k : Nat) (s : State) : State :=
  let r := (s.slot k).laneProfile ((s.slot k).request t fade)
  let code := s.codeBefore k r
  if code ≠ 1 then (s.commitRefused k r code).refuse t gd code
  else if (s.slot k).needsLane r then
    if s.fab.headless ∧ s.fab.elect = false then (s.count 197).refuse t gd 3
    else (s.askHead (s.laneRequest k r.set false)).makeWait t (.commit gd k fade s.newDeadline)
  else
    let s1 := if (s.slot k).tellsHead r then s.askHead (s.laneRequest k r.set false) else s
    (s1.commitAdmit t k r).finish t gd 1

/-- A commit would put the channel in SETTLING or a radiating state, and so ends DOZE (R439). -/
def Slot.commitWakes (x : Slot) (r : CommitReq) : Bool :=
  decide (x.code ≠ 6) && decide (x.code ≠ 7) && !x.mutes.any && (!x.committed || decide (r.set.filt ≠ x.set.filt))

/-- A commit instruction: held in WATCH (R342), and in DOZE or HIBERNATE where it causes the exit (R439). -/
def commitInstr (t : TaskId) (gd ga : Reg) (fade : Bool) (i : Instr) (s : State) : Out :=
  onChannelHeld t gd ga i s fun _ c s =>
    if s.dozing && (s.slot c).commitWakes ((s.slot c).request t fade) then (s.hold t i).wakePower
    else commitOn t gd fade c s

/-- ch.commit.cut (R340). -/
def execChCommitCut (t : TaskId) (gd ga : Reg) (s : State) : Out :=
  commitInstr t gd ga false (.chCommitCut t gd ga) s

/-- ch.commit.fade (R340). -/
def execChCommitFade (t : TaskId) (gd ga : Reg) (s : State) : Out :=
  commitInstr t gd ga true (.chCommitFade t gd ga) s

/-- The task that waits for the lane blocks of slot `k`. -/
def commitWaiter (k : Nat) : List (Nat × Task) → Option (Nat × Reg × Bool)
  | [] => none
  | (t, x) :: ts =>
    match x.st with
    | .waiting (.commit gd c f _) => if c = k then some (t, gd, f) else commitWaiter k ts
    | _ => commitWaiter k ts

/-! ch.mute, ch.arm (R341, R173). -/

/-- An operation waits for the next round boundary, in issue order (R110). -/
def State.queueRound (s : State) (o : RoundOp) : State :=
  { s with rad := { s.rad with roundQ := s.rad.roundQ ++ [o] } }

/-- ch.mute (R341). -/
def execChMute (t : TaskId) (gd ga : Reg) (s : State) : Out :=
  onChannel t gd ga s fun _ c s => (s.queueRound (.mute c)).finish t gd 1

/-- ch.unmute: withdraws the program's own mute only (R341); it ends DOZE where the channel would radiate (R439). -/
def execChUnmute (t : TaskId) (gd ga : Reg) (s : State) : Out :=
  onChannel t gd ga s fun _ c s =>
    let s1 := if (s.slot c).committed && !(s.slot c).guard.fenced then s.wakePower else s
    (s1.queueRound (.unmute c)).finish t gd 1

/-- A severity source of the fence in force is severe: the slot, or for cause ACLR the port that fenced it (R173, R175). -/
def State.fenceSevere (s : State) (k : Nat) : Bool :=
  let x := s.slot k
  let aclr := x.guard.causes.getLsbD 3
  (decide (x.guard.causes ≠ 8) && (s.source (srcSlot k)).severe)
    || (aclr && (match x.guard.aclrPort with | some p => (s.source (srcPort p.val)).severe | none => false))

/-- HOLD has passed since the last fence of the channel (R173). -/
def State.holdPassed (s : State) (k : Nat) : Bool :=
  decide ((s.slot k).guard.lastFence + edMs (s.slot k).set.guard.hold ≤ s.clk.ed)

/-- A re-arm that passed its checks: it takes effect at the next round boundary, or is held until HOLD has passed or
WATCH is left (R173, R177). -/
def State.askArm (s : State) (k : Nat) (who : HeldArm) : State :=
  if (s.slot k).guard.arm ≠ .none then s
  else
    let s1 := s.mapSlot k fun x => { x with guard := { x.guard with arm := who } }
    if s.holdPassed k && !s.inWatch then s1.queueRound (.rearm k) else s1

/-- ch.arm (R173, R341): OK with no effect on a channel not FENCED, HELD on a fenced slot included; else NOT_OWNER for a severe source, CHARTER where the settings
are not covered, OK. -/
def execChArm (t : TaskId) (gd ga : Reg) (s : State) : Out :=
  onChannel t gd ga s fun _ c s =>
    if (s.slot c).code ≠ 7 then s.finish t gd 1
    else if s.fenceSevere c then s.refuse t gd 6
    else if !s.covered (s.slot c).set then ({ s with rad := { s.rad with refuse := true } }).refuse t gd 4
    else ((s.askArm c .tenant).wakePower).finish t gd 1

/-! ch.meas (R343, R137, R163, R192, R244). -/

/-- A level as ch.meas gives it, in 1/256 dB: exact where it is a whole number of them. -/
def meas256 (l : Level) : Int := if l % 5 = 0 then l / 5 else Config.meas256 l

/-- The value of an item while there is none: −32,768 × 256. -/
def measNone : Int := -8388608

/-- A port retunes, has no valid receive samples, or is in PROBE (R70, R148). -/
def Port.disturbed (q : Port) : Bool := q.retune.isSome || q.st = .probe

/-- The output lies below the receive noise floor referred to the output (R148). -/
def Slot.belowNoise (x : Slot) : Bool :=
  match x.set.rxPort with
  | some p => (match x.glc.applied with
    | some g => decide (x.glc.lastL < noiseRx p x.set + g)
    | none => false)
  | none => false

/-- Adaptation is stopped by a condition of R148. -/
def State.modelFrozen (s : State) (x : Slot) : Bool :=
  let rx := match x.set.rxPort with | some p => s.ports[p].disturbed || !s.ports[p].rxv | none => false
  let tx := match x.set.txPort with | some p => s.ports[p].disturbed || s.ports[p].bflt | none => false
  x.set.canc.frz || !x.radiating || x.glc.applied.isNone || s.pwr.rfkill || rx || tx || x.belowNoise

/-- The instant at which a model's present freeze began, brought up to date: at round boundaries, and when an event at a port
begins or ends a freeze (R148, R149). -/
def State.trackFreeze (s : State) : State :=
  let track : Nat → Slot → Slot := fun _ x =>
    let at' := if s.modelFrozen x then some (x.fbc.frozenAt.getD s.clk.ed) else none
    if x.live then { x with fbc := { x.fbc with frozenAt := at' } } else x
  { s with rad := { s.rad with slots := tblMap track s.rad.slots } }

/-- Air-to-air latency of R94 in ED cycles, rounded; 0 unless both sides are RF ports (R343). -/
def latency (k : Nat) (c : Settings) : Nat :=
  if c.loop then ((1130 + c.prof.delay) * 98304 + 50000) / 100000 + (if c.filt.align then 1146 else k * 6) else 0

/-- A GLC item of R137. Item 0x15 of a channel for which no margin has been formed yet reads as for a gated one (DESIGN CHOICE, log
16: R137 gives it no value then). -/
def measGlc (x : Slot) (n : Nat) : Int :=
  match n with
  | 0x10 => match x.glc.applied with | some g => meas256 g | none => measNone
  | 0x11 => meas256 x.glc.gLev
  | 0x12 => meas256 x.glc.gBrim
  | 0x13 => meas256 x.glc.gPerm
  | 0x14 => meas256 x.glc.lastL
  | 0x15 => match x.glc.margin with | some m => meas256 m | none => measNone
  | 0x16 => match x.glc.applied with | some _ => (x.glc.lim : Int) | none => 4
  | _ => 768 * (x.guard.trimSteps : Int)

/-- An FBC item of R163 on a channel with a loop. -/
def State.measFbc (s : State) (x : Slot) (n : Nat) : Int :=
  match n with
  | 0x20 => match s.isoOf x with | some i => meas256 i | none => measNone
  | 0x21 => meas256 x.depth
  | 0x22 => meas256 x.fbc.raw
  | 0x23 => meas256 x.fbc.srr
  | 0x24 => (x.woff : Int)
  | 0x25 =>
    if s.modelFrozen x then (if x.fbc.valid then 2 else 3) else (if x.fbc.valid then 1 else 0)
  | 0x26 => (x.fbc.pcode : Int)
  | 0x27 => meas256 x.fbc.coupling
  | 0x28 => (x.fbc.airDelay : Int)
  | _ => (min x.fbc.steps 2147483647 : Nat)

/-- Events of a source that still lie within the counting window (R472). -/
def State.inWindow (s : State) (k : Nat) : Nat :=
  ((s.source k).times.filter fun t => decide (s.clk.opt - t ≤ s.sevWindow)).length

/-- The severity source that item 0x32 and 0x33 report: the port for a fence by ACLR, else the slot (R175). -/
def Slot.measSource (x : Slot) (k : Nat) : Nat :=
  match x.guard.aclrPort with
  | some p => if x.guard.causes.getLsbD 3 then srcPort p.val else srcSlot k
  | none => srcSlot k

/-- A guard item of R192. -/
def State.measGuard (s : State) (k : Nat) (x : Slot) (n : Nat) : Int :=
  match n with
  | 0x30 => meas256 (x.guard.rho : Int)
  | 0x31 => (x.guard.causes.toNat : Int)
  | 0x32 => (s.inWindow (x.measSource k) : Int)
  | 0x33 => if (s.source (x.measSource k)).severe then 1 else 0
  | 0x34 => meas256 x.guard.nrise
  | _ => match x.guard.cover with | some i => (i : Int) | none => -1

/-- The cause code of item 0x43: what holds a member silent, the lane's loss first (R244). -/
def Trunk.causeCode (x : Trunk) : Nat :=
  if x.lost then 3 else if x.cause ≠ 0 then x.cause else if x.donorLost then 5 else if x.desc = 2 then 4 else 0

/-- A trunk item of R244. -/
def State.measTrunk (s : State) (k : Nat) (x : Slot) (n : Nat) : Int :=
  match n with
  | 0x40 => (x.trunk.dReq : Int)
  | 0x41 => (x.trunk.dL : Int)
  | 0x42 => x.trunk.align
  | 0x43 => (x.trunk.causeCode : Int)
  | 0x44 => if !x.set.trunk.gate then 2 else if s.gateLive x then 1 else 0
  | _ => ((tblGet { next := none, half := [], retn := 0 } (s.laneOf k x.set) s.fab.homes).retn : Int)

/-- A ch.meas item (R343): −2^31 for one not listed, 0 for one of a subsystem that does not act on the channel. -/
def State.measItem (s : State) (k : Nat) (n : Nat) : Int :=
  let x := s.slot k
  if n = 0 then (x.code : Int)
  else if n = 1 then (x.cost : Int)
  else if n = 2 then (x.canCost : Int)
  else if n = 3 then (min x.sats 2147483647 : Nat)
  else if n = 4 then meas256 x.glc.input
  else if n = 5 then (latency k x.set : Int)
  else if n = 6 then (if x.fade.isSome then 1 else 0)
  else if 0x10 ≤ n ∧ n ≤ 0x17 then (if x.committed then measGlc x n else 0)
  else if n = 0x20 then s.measFbc x n
  else if n = 0x26 then s.measFbc x n
  else if 0x21 ≤ n ∧ n ≤ 0x29 then (if x.set.loop then s.measFbc x n else 0)
  else if 0x30 ≤ n ∧ n ≤ 0x35 then s.measGuard k x n
  else if 0x40 ≤ n ∧ n ≤ 0x45 then (if x.set.rxPort.isNone || x.set.txPort.isNone then s.measTrunk k x n else 0)
  else -2147483648

/-- ch.meas (R343): OK, and the item as a signed 32-bit value, sign-extended, in gb. -/
def execChMeas (t : TaskId) (gd ga gb : Reg) (s : State) : Out :=
  onEngine t 3 s fun k s =>
    match s.chan k.part (k.get ga) with
    | none => s.violate2 t 3 gd gb
    | some c =>
      s.finish2 t gd gb 1 ((BitVec.ofInt 32 (s.measItem c (fieldN (k.get gb).toNat 7 0))).signExtend 64)

/-! ch.probe (R154 to R156, R341). -/

/-- An entitlement for the transmit port in the channel's direction covers the stopband span; the probe level never
exceeds its maximum conducted output (R154, R155). -/
def State.probeCovered (s : State) (c : Settings) : Bool :=
  s.entitlements.any fun e => decide (e.port = c.filt.txSide.toNat) && e.ul == c.filt.ul && spanWithin c e.flo e.fhi

/-- ch.probe outside ISOLATE (case 12 of R301, R303): the probe result is free; the estimate stays or is cleared. -/
def State.probeUndefined (s : State) (k : Nat) : State :=
  (s.mapSlot k fun x => { x with fbc := { x.fbc with
      pcode := (s.freeAt 0).toNat % 4
      coupling := (s.freeAt 1).toInt
      airDelay := (s.freeAt 2).toNat
      iso := if (s.freeAt 3).getLsbD 0 then x.fbc.iso else none
      band := if (s.freeAt 3).getLsbD 0 then x.fbc.band else none } }).useFree 4

/-- ch.probe on a committed channel with a loop fails its charter check: no entitlement covers a probe on the transmit port
(R154). -/
def State.probeRefused (s : State) (c : Settings) : Bool := c.txPort.isSome && !s.probeCovered c

/-- ch.probe can measure nothing on the channel: it has no loop, or was never committed (R154). -/
def Slot.noProbe (x : Slot) : Bool := !x.committed || !x.set.loop

/-- ch.probe (R154, R156, R184): with no charter in force it returns CHARTER; on a channel never committed or without a loop
it leaves an invalid result; else it queues k + 1 bursts on the channel's transmit port, or returns CHARTER where no entitlement
covers them. Held in WATCH (R342); it ends DOZE (R439). -/
def execChProbe (t : TaskId) (gd ga : Reg) (k : Fin 16) (s : State) : Out :=
  onChannelHeld t gd ga (.chProbe t gd ga k) s fun _ c s =>
    let x := s.slot c
    if s.pwr.mode ≠ .isolate then ((s.probeUndefined c).wakePower).finish t gd 1
    else if s.cht.force.isSome && x.noProbe then
      (s.mapSlot c fun x => { x with fbc := { x.fbc with pcode := 3 } }).finish t gd 1
    else if s.cht.force.isNone || s.probeRefused x.set then
      ({ s with rad := { s.rad with refuse := true } }).refuse t gd 4
    else
      match x.set.txPort with
      | none => s.finish t gd 1
      | some p =>
        if 0 < x.fbc.bursts then s.finish t gd 1
        else
          ((s.mapSlot c fun x => { x with fbc := { x.fbc with bursts := k.val + 1, asked := k.val + 1, pcode := 4 } }).mapPort
            p fun q => { q with probeQ := q.probeQ ++ List.replicate (k.val + 1) c }).finish t gd 1

end Sys2Proof.Machine
end

