-- ==== Sys2Proof/Machine/PortOps.lean ====
section
/-! DEFINITION. Operations on RF ports (R25 to R54): the states a mode permits, transmit start and stop, retunes,
bank and role changes, schedules. -/

namespace Sys2Proof.Machine

/-- 50 µs in ED cycles (R38, R52, R53). -/
def fiftyUs : Nat := 49152

/-- 20 µs in ED cycles, rounded up (R39, R52). -/
def twentyUs : Nat := 19661

/-- A duplex bank (R27). -/
def bankDuplex (b : BitVec 4) : Bool := 2 ≤ b.toNat && b.toNat ≤ 8

/-- A TDD bank (R27). -/
def bankTdd (b : BitVec 4) : Bool := 9 ≤ b.toNat && b.toNat ≤ 13

/-- The lower and the upper half of a duplex bank with fixed halves, each as its edges in kHz: the lower carries UL, the upper
DL (R27). -/
def bankHalves (b : BitVec 4) : Option ((Nat × Nat) × (Nat × Nat)) :=
  match b.toNat with
  | 3 => some ((410000, 415000), (420000, 425000))
  | 4 => some ((451000, 456000), (461000, 466000))
  | 5 => some ((703000, 748000), (758000, 803000))
  | 6 => some ((880000, 915000), (925000, 960000))
  | 7 => some ((1710000, 1785000), (1805000, 1880000))
  | 8 => some ((2500000, 2570000), (2620000, 2690000))
  | _ => none

/-- The passband of a TDD bank in kHz (R27). -/
def bandOfTdd (b : BitVec 4) : Option (Nat × Nat) :=
  match b.toNat with
  | 9 => some (380000, 470000)
  | 10 => some (1427000, 1518000)
  | 11 => some (2300000, 2400000)
  | 12 => some (2570000, 2620000)
  | 13 => some (3300000, 3800000)
  | _ => none

/-- The halves of bank 0x2: two 4 MHz passbands within 380 to 470 MHz, their centres 9 to 20 MHz apart (R27). port.tune places
them; its record names no place but the LOs, so the lower half lies about `lo`, the LO of the port's UL path, and the upper about
`hi`, that of its DL path, as near as the spacing allows (DEDUCED, log 20). -/
def lmrHalves (lo hi : Nat) : (Nat × Nat) × (Nat × Nat) :=
  let a := clampNat lo 382000 459000
  let b := clampNat hi (a + 9000) (min (a + 20000) 468000)
  ((a - 2000, a + 2000), (b - 2000, b + 2000))

/-- The halves of a record's duplex bank, the lower first (R27). -/
def TuneRec.halves (r : TuneRec) : Option ((Nat × Nat) × (Nat × Nat)) :=
  if r.bank = 2 then some (if r.donor then lmrHalves r.txlo r.rxlo else lmrHalves r.rxlo r.txlo) else bankHalves r.bank

/-- The passband in which a port receives, in kHz: of a duplex bank the half that its role does not transmit in (R27, R28). -/
def TuneRec.rxBand (r : TuneRec) : Option (Nat × Nat) :=
  if r.bank = 1 then some (380000, 3800000)
  else match r.halves with
    | some (lower, upper) => some (if r.donor then upper else lower)
    | none => bandOfTdd r.bank

/-- The passband in which a port transmits, in kHz: of a duplex bank UL, the lower half, for a donor-facing port and DL, the
upper half, for a service-facing one (R27, R28). -/
def TuneRec.txBand (r : TuneRec) : Option (Nat × Nat) :=
  if r.bank = 1 then none
  else match r.halves with
    | some (lower, upper) => some (if r.donor then lower else upper)
    | none => bandOfTdd r.bank

/-- The state transmits on a port of the role (R31). -/
def PState.transmits (st : PState) (donor : Bool) : Bool :=
  match st with
  | .tx => true
  | .rxtx => true
  | .probe => true
  | .tddUl => donor
  | .tddDl => !donor
  | .off => false
  | .standby => false
  | .rx => false

/-- The state receives on a port of the role (R31). -/
def PState.receives (st : PState) (donor : Bool) : Bool :=
  match st with
  | .rx => true
  | .rxtx => true
  | .probe => true
  | .tddUl => !donor
  | .tddDl => donor
  | .off => false
  | .standby => false
  | .tx => false

/-- A TDD state. -/
def PState.tdd (st : PState) : Bool := st = .tddUl || st = .tddDl

/-- The bank, with a loaded schedule or not, supports the state through port.tune (R27, R33). -/
def PState.supported (st : PState) (bank : BitVec 4) (loaded : Bool) : Bool :=
  match st with
  | .off => true
  | .standby => true
  | .rx => true
  | .tx => bank ≠ 1
  | .rxtx => bankDuplex bank
  | .tddUl => bankTdd bank && loaded
  | .tddDl => bankTdd bank && loaded
  | .probe => false

/-- The part of a state that a mode without transmission permits (R34). -/
def PState.rxPart (st : PState) (donor : Bool) : PState :=
  match st with
  | .off => .off
  | .standby => .standby
  | _ => if st.receives donor then .rx else .standby

/-- STANDBY, or OFF where only OFF is permitted (R29, R34). -/
def PState.holdStandby (lim : PState) : PState := if lim = .off then .off else .standby

/-- What a mode permits of a port's state (R34); WATCH permits what the mode it was entered from did. -/
def modeLimit (m from' : Mode) (st : PState) (donor : Bool) : PState :=
  let lim : Mode → PState := fun m =>
    match m with
    | .relay => st
    | .quiet => st.rxPart donor
    | .survey => st.rxPart donor
    | .silenced => st.rxPart donor
    | .isolate => st.rxPart donor
    | .doze => st.rxPart donor
    | _ => .off
  if m = .watch then lim from' else lim m

/-- The state of the schedule's present interval (R40). -/
def Port.schedState (q : Port) : PState :=
  match q.sched with
  | some sc =>
    match sc.points[q.schedIdx]? with
    | some pt => if pt.state = 1 then .tddUl else if pt.state = 2 then .tddDl else .standby
    | none => .standby
  | none => .standby

/-- The programmed state, the schedule followed (R31, R41). -/
def Port.programmed (q : Port) : PState :=
  if q.tune.state.tdd then (if q.schedRun then q.schedState else .standby) else q.tune.state

/-- The state port `p` is to run: the programmed state as the mode limits it (R34). -/
def State.goal (s : State) (p : PortId) : PState :=
  modeLimit s.pwr.mode s.pwr.watchFrom s.ports[p].programmed s.ports[p].tune.donor

/-- The output is held off: by RFKILL_N, a latched booster fault, or a lost synthesiser lock (R49, R53, R73). -/
def Port.blanked (q : Port) : Bool := q.killed || q.bflt || q.blank

/-- The port transmits or is starting to. -/
def Port.keyed (q : Port) : Bool := q.tx = .on || q.tx = .starting

/-- BSTn_EN is high for as long as a schedule runs that the mode lets transmit (R41). -/
def State.enHold (s : State) (p : PortId) : Bool :=
  let q := s.ports[p]
  q.schedRun && q.tune.state.tdd && q.tune.boost && !q.blanked && q.bankWait.isNone
    && decide (q.st ≠ .off) && decide (q.st ≠ .probe)
    && decide (modeLimit s.pwr.mode s.pwr.watchFrom .rxtx q.tune.donor = .rxtx)

/-- The stop sequence (R39), or a cut of R49, R53 or R73 as far as the pins show it: KEY falls, and EN later. -/
def Port.stopTx (q : Port) (now : Nat) (hold : Bool) : Port :=
  { q with
    tx := if q.ben && !hold then .stopping else .off
    keyAt := if q.bkey then now else q.keyAt
    bkey := false }

/-- The start sequence (R38): EN rises, or stays high from a stop not yet complete, whose earlier rise then counts. -/
def Port.startTx (q : Port) (now : Nat) : Port :=
  if q.tune.boost then { q with tx := .starting, ben := true, bkey := false, enAt := if q.ben then q.enAt else now }
  else { q with tx := .starting, bkey := false }

/-- BSTn_EN rises with the schedule that holds it, and the fall that a stop sequence still owed it is cancelled (R38, R41). -/
def Port.raiseEn (q : Port) (now : Nat) : Port :=
  { q with ben := true, enAt := if q.ben then q.enAt else now, tx := if q.tx = .stopping then .off else q.tx }

/-- KEY that had risen ahead of an interval falls again where the transmitter is not to start (R41). -/
def Port.dropKey (q : Port) (now : Nat) : Port :=
  if q.bkey && decide (q.tx ≠ .on) then { q with bkey := false, keyAt := now } else q

/-- The KEY lead in ED cycles (R38, R347). -/
def Port.leadCycles (q : Port) : Nat := if q.tune.boost then q.tune.klead * 49152 / 100 else 0

/-- The transmitter delivers output: it is on and its ramp has begun (R38). -/
def Port.outputs (q : Port) (now : Nat) : Bool := q.tx = .on && decide (q.rampAt ≤ now)

/-- The state that port `p` moves toward: STANDBY while a bank or role change waits, as far as the mode permits it (R26, R29,
R34). -/
def State.heading (s : State) (p : PortId) : PState :=
  let q := s.ports[p]
  if q.bankWait.isSome then (modeLimit s.pwr.mode s.pwr.watchFrom .rxtx q.tune.donor).holdStandby else s.goal p

/-- A start sequence is due: the transmitter rests, or starts without the booster that a port.tune has enabled meanwhile (R38). -/
def Port.startDue (q : Port) : Bool := !q.keyed || (decide (q.tx = .starting) && q.tune.boost && !q.ben)

/-- Port `p` moves toward the state it is to run (R33, R34, R37 to R39). A port in PROBE leaves it only when its burst
ends (R35, R36); a bank or role change holds the port in STANDBY (R26, R29); from OFF the start sequence waits for
STANDBY. Booster control that a port.tune enables on a port that already transmits leaves EN and KEY low and the output on until
the next start of the transmitter (DESIGN CHOICE, log 20: R38 names the pins at a start only). -/
def State.drive (s : State) (p : PortId) : State :=
  let q := s.ports[p]
  if q.st = .probe then s
  else
    let g := s.heading p
    let want := g.transmits q.tune.donor && !q.blanked
    let q1 :=
      if want && q.startDue && decide (q.st ≠ .off) then q.startTx s.clk.ed
      else if !want && (q.keyed || (q.ben && decide (q.tx ≠ .stopping) && !s.enHold p)) then
        q.stopTx s.clk.ed (s.enHold p)
      else if s.enHold p then q.raiseEn s.clk.ed
      else q.dropKey s.clk.ed
    s.mapPort p fun _ => { q1 with target := if g = q.st && !(want && decide (q.tx ≠ .on)) then none else some g }

/-- Every port moves toward the state it is to run (R34). -/
def State.driveAll (s : State) : State := (List.finRange 4).foldl (fun s p => s.drive p) s

/-- RFE's error line follows the latched booster faults (R53). -/
def State.rfeLine (s : State) : State := s.lineLevel 0 0x10 ((List.finRange 4).any fun p => s.ports[p].bflt)

/-- A booster fault: KEY falls, the output stops, BFLT latches, RFE's line rises and a record is written (R53). -/
def State.faultBooster (s : State) (p : PortId) : State :=
  (((s.mapPort p fun q => { q.stopTx s.clk.ed false with bflt := true }).trackFreeze).rfeLine).log 0x1001 p.val 0 0

/-- A running schedule's port takes the state of the interval that begins now; within a schedule the output starts at the
interval's opening point, KEY rises its lead earlier or, where it has not, now, and EN stays high (R41). With BSTn_FLT high
where KEY would rise, KEY stays low and BFLT sets (R53). -/
def State.enterInterval (s : State) (p : PortId) (fltHigh : Bool) : State :=
  let q := s.ports[p]
  let g := s.goal p
  let want := g.transmits q.tune.donor && !q.blanked
  let early := q.tune.boost && !q.bkey
  if want && q.tune.boost && !(q.ben && decide (q.enAt + fiftyUs ≤ s.clk.ed)) then
    s.mapPort p fun q => { q.startTx s.clk.ed with target := some g }
  else if want && early && fltHigh then (s.mapPort p fun q => { q with st := g, target := none }).faultBooster p
  else if want then
    s.mapPort p fun q =>
      { q with st := g, tx := .on, bkey := q.tune.boost, target := none
               rampAt := if early then s.clk.ed + q.leadCycles else s.clk.ed }
  else
    s.mapPort p fun _ =>
      let q1 := q.stopTx s.clk.ed (s.enHold p)
      { (if s.enHold p then q1.raiseEn s.clk.ed else q1) with st := g, target := none }

/-! The steering of the reference (R59, R79). -/

/-- A port is in a transmitting state, output or not (R59). -/
def State.anyTx (s : State) : Bool :=
  (List.finRange 4).any fun p => s.ports[p].st.transmits s.ports[p].tune.donor || decide (s.ports[p].tx = .on)

/-- A step of at most `m` from `x` toward `y`. -/
def slewTo (x y m : Int) : Int := x + clampInt (y - x) (-m) m

/-- The steering `ms` milliseconds after the last correction while a port transmits: it slews toward that correction by at most 0.01
ppb in each (R59). -/
def Syn.steerAt (y : Syn) (ms : Nat) : Int := slewTo y.steer y.target ms

/-- The steering in force: a pause of all transmitters lets it reach the last correction at once (R59, R79). -/
def State.steerNow (s : State) : Int :=
  if s.anyTx then s.syn.steerAt ((s.clk.ed - s.syn.slewAt) / edMs 1) else s.syn.target

/-! Record reads (R346, R355). -/

/-- The `n` bytes at a local address, read whole at issue: beyond the partition's rights a violation of kind 0x01, in a
poisoned block or one with an error that is not repaired an ECC exception (R346, R379, R381). -/
def State.withRecord (s : State) (t : Nat) (gd : Reg) (k : Task) (ea : Word) (n : Nat)
    (f : List Byte → State → State) : State :=
  if s.localOk k.part ea n then
    let s1 := s.readErrors k.part ea.toNat n
    if s.badRead k.part ea.toNat n then s1.exception t 2 k.pc ea else f (s1.readLocal k ea.toNat n) s1
  else s.violate t 1 gd

/-- The little-endian number in bytes `i` to `i + n − 1` of a record. -/
def recNat (bs : List Byte) (i n : Nat) : Nat := bytesToNat ((bs.drop i).take n)

/-- The port state of a code of R31; codes 0x8 and above are taken as STANDBY (R347). -/
def stateOfCode (c : Nat) : PState :=
  match c with
  | 0 => .off
  | 2 => .rx
  | 3 => .tx
  | 4 => .rxtx
  | 5 => .tddUl
  | 6 => .tddDl
  | 7 => .probe
  | _ => .standby

/-- The code of a port state (R31). -/
def PState.code (st : PState) : Nat :=
  match st with
  | .off => 0
  | .standby => 1
  | .rx => 2
  | .tx => 3
  | .rxtx => 4
  | .tddUl => 5
  | .tddDl => 6
  | .probe => 7

/-- A port.tune record after replacement (R347). -/
def tuneRecord (bs : List Byte) : TuneRec :=
  { rxlo := clampNat (recNat bs 0 4) 380000 3800000
    txlo := clampNat (recNat bs 4 4) 380000 3800000
    state := stateOfCode (recNat bs 8 1)
    ret := if recNat bs 9 1 < 4 then BitVec.ofNat 3 (recNat bs 9 1) else 0
    bank := if recNat bs 10 1 < 14 then BitVec.ofNat 4 (recNat bs 10 1) else 0
    donor := bitN (recNat bs 11 1) 0
    boost := bitN (recNat bs 11 1) 1
    klead := clampNat (recNat bs 12 1) 2 20
    clim := clampInt (signedN 16 (recNat bs 14 2)) 100 330
    aclr := clampInt (signedN 8 (recNat bs 16 1)) (-60) (-30) }

/-! port.tune (R26, R29, R33, R69, R347). -/

/-- The output of the channels of partition `part` on port `p`, either side, that are LIVE, TRIMMED or FADING is undefined until the
retune or the bank change ends (case 6 of R301, R71). -/
def State.freeOutputs (s : State) (p : PortId) (part : PartId) : State :=
  let mark : Nat → Slot → Slot := fun _ x =>
    if x.radiating && decide (x.owner = part) && (decide (x.set.txPort = some p) || decide (x.set.rxPort = some p)) then
      { x with outFree := x.outFree ||| BitVec.ofNat 4 (2 ^ p.val) }
    else x
  { s with rad := { s.rad with slots := tblMap mark s.rad.slots } }

/-- The retune or the bank change of port `p` is over: channels' outputs are defined again (R71, R301). -/
def State.fixOutputs (s : State) (p : PortId) : State :=
  let clear : Nat → Slot → Slot := fun _ x => { x with outFree := x.outFree &&& ~~~BitVec.ofNat 4 (2 ^ p.val) }
  { s with rad := { s.rad with slots := tblMap clear s.rad.slots } }

/-- The offset of a channel's centre from an LO in kHz, in Hz × 2^32 (R91). -/
def loOffset (c : Settings) (lo : Nat) : Int := (c.filt.centre : Int) * 491520000 - (lo : Int) * 1000 * 2 ^ 32

/-- A bank change lies inside the loop: every estimate through the port is cleared (R160). -/
def State.clearIso (s : State) (p : PortId) : State :=
  let clear : Nat → Slot → Slot := fun _ x =>
    if x.set.txPort = some p || x.set.rxPort = some p then { x with fbc := { x.fbc with iso := none, band := none, sent := none } } else x
  { s with rad := { s.rad with slots := tblMap clear s.rad.slots } }

/-- The channels' offsets from the LOs of their ports, derived again after a port.tune (R91). -/
def State.deriveOffsets (s : State) : State :=
  let off : Nat → Slot → Slot := fun _ x =>
    { x with
      rxOff := match x.set.rxPort with | some p => loOffset x.set s.ports[p].tune.rxlo | none => x.rxOff
      txOff := match x.set.txPort with | some p => loOffset x.set s.ports[p].tune.txlo | none => x.txOff }
  { s with rad := { s.rad with slots := tblMap (fun k x => if x.live then off k x else x) s.rad.slots } }

/-- The retune of R69 begins: samples invalid, the changed synthesisers relock. A LIVE channel makes the output until
its end undefined (case 6 of R301, R71). CONV clears, at a retune of the transmit LO alone or back to a stored combination
too, until CNV has adapted anew (DESIGN CHOICE, log 21: R65 says when CONV sets after a retune, not when it clears). -/
def State.startRetune (s : State) (p : PortId) : State :=
  ((s.freeOutputs p s.ports[p].asker).mapPort p fun q =>
    { q with retune := some .locking, lock := false, rxv := false, adapt := false, conv := false, adaptMs := 0,
             convMax := 200 }).trackFreeze

/-- A port that has reached STANDBY for a bank change begins the interval of R29: the LOs of the record that waits take effect
now, and the sequence of R69 runs inside the interval. A port that leaves STANDBY meanwhile begins it anew. -/
def State.beginBank (s : State) (p : PortId) : State :=
  let q := s.ports[p]
  match q.bankWait with
  | none => s
  | some r =>
    if q.st ≠ .standby then s.mapPort p fun q => { q with bankAt := none }
    else if r.bank = q.tune.bank ∨ q.bankAt.isSome then s
    else
      let s1 := s.mapPort p fun q =>
        { q with bankAt := some s.clk.ed, tune := { q.tune with rxlo := r.rxlo, txlo := r.txlo } }
      if r.rxlo ≠ q.tune.rxlo ∨ r.txlo ≠ q.tune.txlo then (s1.startRetune p).deriveOffsets else s1

/-- A record waits for STANDBY because it changes the bank or, outside OFF and STANDBY, the role (R26, R29). -/
def Port.recordWaits (q : Port) (r : TuneRec) : Bool :=
  decide (r.bank ≠ q.tune.bank)
    || (decide (r.donor ≠ q.tune.donor) && decide (q.st ≠ .off) && decide (q.st ≠ .standby))

/-- The bank for which a port retunes: that of a change that waits, else the one in its path. -/
def Port.bankAhead (q : Port) : BitVec 4 := match q.bankWait with | some r => r.bank | none => q.tune.bank

/-- The programmed state becomes `f` of itself, in a record that waits for STANDBY too (R26, R29). -/
def Port.mapState (q : Port) (f : PState → PState) : Port :=
  { q with
    tune := { q.tune with state := f q.tune.state }
    bankWait := q.bankWait.map fun r => { r with state := f r.state } }

/-- The run of the schedule ends: it stays loaded without running, and one that waited for a period start takes its place so
(R44). -/
def Port.endSched (q : Port) : Port :=
  { q with
    schedRun := false
    sched := match q.schedNext with | some (some x) => some x | _ => q.sched
    schedNext := match q.schedNext with | some (some _) => none | n => n }

/-- The schedule after a port.tune (R33, R41, R44): a TDD state, or return state SCHED on a schedule that does not run,
starts it at its next period where the bank is a TDD bank; another state ends its run, and what waited for a period start is
loaded without running. -/
def Port.schedTune (q : Port) (r : TuneRec) : Port :=
  let follows := bankTdd r.bank && (r.state.tdd || r.ret = 3)
  let start := q.sched.isSome && !q.schedRun && follows
  { q with
    sched := match q.schedNext with
      | some (some x) => if follows then q.sched else some x
      | _ => q.sched
    schedNext := if start then some q.sched
      else match q.schedNext with
        | some (some x) => if follows then some (some x) else none
        | n => n
    schedRun := q.schedRun && r.state.tdd }

/-- Booster control that a record disables leaves KEY low at once and EN after its 20 µs (R38, R52). -/
def Port.dropBoost (q : Port) (r : TuneRec) (now : Nat) : Port := if !r.boost && q.ben then q.stopTx now false else q

/-- Port `p` takes a record (R347). A bank change keeps the LOs in force until the port stands in STANDBY (R69). -/
def State.applyTune (s : State) (p : PortId) (r0 : TuneRec) : State :=
  let q := s.ports[p]
  let r := { r0 with state := if r0.state.supported r0.bank q.sched.isSome then r0.state else .standby }
  let rebanks := decide (r.bank ≠ q.tune.bank)
  let retunes := !rebanks && (decide (r.rxlo ≠ q.tune.rxlo) || decide (r.txlo ≠ q.tune.txlo))
  let s1 := if retunes then s.startRetune p else s
  let s2 := if rebanks then s1.freeOutputs p q.asker else s1
  let waits := q.recordWaits r
  let s3 := s2.mapPort p fun q =>
    let q1 := (q.schedTune r).dropBoost r s.clk.ed
    { q1 with
      bflt := false
      bankWait := if waits then some r else none
      bankAt := none
      tune := if rebanks then { r with donor := q.tune.donor, bank := q.tune.bank, rxlo := q.tune.rxlo, txlo := q.tune.txlo }
        else if waits then { r with donor := q.tune.donor }
        else r }
  ((s3.rfeLine.deriveOffsets).drive p).beginBank p

/-- The channel in a slot lies on the port and belongs to another partition than `part` while SETTLING, LIVE, TRIMMED or
FADING (R303). -/
def Slot.foreignOn (x : Slot) (p : PortId) (part : PartId) : Bool :=
  (x.set.txPort = some p || x.set.rxPort = some p) && (x.radiating || x.code = 2) && decide (x.owner ≠ part)

/-- Port `p` carries a channel of another partition (R303). -/
def State.foreignPort (s : State) (p : PortId) (part : PartId) : Bool := s.rad.slots.any fun x => x.2.foreignOn p part

/-- A record changes something of the port (R303, R347). -/
def Port.tuneChanges (q : Port) (r : TuneRec) : Bool :=
  decide (r ≠ q.tune) || q.bflt || q.bankWait.isSome || (q.sched.isSome && !q.schedRun && r.ret = 3)

/-! The return state (R35, R36, R44). -/

/-- The port's record with its return state programmed: SCHED resumes the schedule, from its next period if it does not run, and
any other ends its run (R32, R35, R44). -/
def Port.toReturn (q : Port) : Port :=
  let back := decide (q.tune.ret = 3) && q.sched.isSome && bankTdd q.bankAhead
  let st : PState :=
    if q.tune.ret = 1 then .rx
    else if q.tune.ret = 2 then (if bankDuplex q.bankAhead then .rxtx else .standby)
    else if back then .tddDl
    else .standby
  let q1 := if back then { q with schedNext := if q.schedRun then q.schedNext else some q.sched } else q.endSched
  q1.mapState fun _ => st

/-! The end of a probe burst at its port (R35, R36). -/

/-- Port `p` leaves PROBE by the stop sequence: a record that waits takes effect, its state in place of the return
state, or the port enters its return state as the mode limits it (R34 to R36). -/
def State.leaveProbe (s : State) (p : PortId) : State :=
  let q := s.ports[p]
  let q1 := { q.stopTx s.clk.ed false with st := .standby, probing := none, target := none }
  match q.probeWait with
  | some r => (s.mapPort p fun _ => { q1 with probeWait := none }).applyTune p r
  | none =>
    let s1 := s.mapPort p fun _ => q1.toReturn
    let g := s1.goal p
    (s1.mapPort p fun q => { q with st := g.rxPart q.tune.donor }).drive p

/-- The channel's probe yields an invalid result, ready at once, and its remaining bursts are dropped (R156). -/
def State.probeInvalid (s : State) (k : Nat) : State :=
  let s1 := (s.mapSlot k fun x => { x with fbc := { x.fbc with pcode := 3, bursts := 0 } }).dropBursts k
  if (s.slot k).phase = .owned then s1.event (s.slot k).owner 9 else s1

/-- A burst that runs on port `p` ends early (R36, R50, R73). -/
def State.abortBurst (s : State) (p : PortId) : State :=
  match s.ports[p].probing with
  | some k => (s.leaveProbe p).probeInvalid k
  | none => s

/-- Every burst that runs ends early and every queued burst is dropped, with invalid results (R36). -/
def State.abortProbes (s : State) : State :=
  let s1 := (List.finRange 4).foldl (fun s p => s.abortBurst p) s
  (s1.rad.slots.filter fun x => decide (0 < x.2.fbc.bursts)).foldl (fun s x => s.probeInvalid x.1) s1

/-! port.sched (R40, R42, R43, R348). -/

/-- Insertion of a switch point by offset, after those of equal offset. -/
def insertPoint (x : SwPoint) : List SwPoint → List SwPoint
  | [] => [x]
  | y :: ys => if x.offset < y.offset then x :: y :: ys else y :: insertPoint x ys

/-- Drops each point that lies less than 10 µs after the previous kept point at `last` (R348). -/
def dropClose (last : Nat) : List SwPoint → List SwPoint
  | [] => []
  | x :: xs => if x.offset < last + 10000 then dropClose last xs else x :: dropClose x.offset xs

/-- Drops last points while the interval from them to the first point of the next period is below 10 µs; the list is
given last point first (R348). -/
def dropLast (period first : Nat) : List SwPoint → List SwPoint
  | [] => []
  | x :: xs => if x.offset + 10000 > period + first then dropLast period first xs else x :: xs

/-- The points after repair: sorted, spaced, fewer than two taken as none (R348). -/
def repairPoints (period : Nat) (ps : List SwPoint) : List SwPoint :=
  match ps.foldl (fun l x => insertPoint x l) [] with
  | [] => []
  | x :: xs =>
    match (dropLast period x.offset (dropClose x.offset xs).reverse).reverse with
    | [] => []
    | ys => x :: ys

/-- A switch point's instant in ns after the period start: its offset rounded up to a sample instant of the SD domain, of
25,000 / 12,288 ns (R40). -/
def SwPoint.instant (x : SwPoint) : Nat := ((x.offset * 12288 + 24999) / 25000 * 25000 + 12287) / 12288

/-- The ns from fabric time `now` to switch point `x` of a schedule: its periods start at multiples of the period plus the
phase (R40). -/
def Sched.toPoint (sc : Sched) (x : SwPoint) (now : Nat) : Nat :=
  if sc.period = 0 then 0 else (x.instant + sc.phase + sc.period - now % sc.period) % sc.period

/-- The ns since the period start at fabric time `now` (R40). -/
def Sched.within (sc : Sched) (now : Nat) : Nat := (now + sc.period - sc.phase) % sc.period

/-- The point whose interval fabric time `now` lies in: the last that has come in the period, before the first the period's last
(R40). -/
def Sched.indexAt (sc : Sched) (now : Nat) : Nat :=
  let n := (sc.points.filter fun x => decide (x.instant ≤ sc.within now)).length
  if n = 0 then sc.points.length - 1 else n - 1

/-- Fabric time `now` is at a period start of the schedule, to an ED cycle (R40). -/
def Sched.starts (sc : Sched) (now : Nat) : Bool := decide (sc.within now < 11)

/-- The state that a switch point opens (R40, R348). -/
def SwPoint.opens (x : SwPoint) : PState := if x.state = 1 then .tddUl else if x.state = 2 then .tddDl else .standby

/-- A schedule from a record, repaired; none for N = 0. `fs` gives the state where a record's code is not listed, for
which the manual states none (R348, log 12). -/
def schedRecord (bs : List Byte) (fs : Nat → Nat) : Option Sched :=
  let period := clampNat (recNat bs 0 4) 125000 20000000
  let n := min (recNat bs 8 1) 32
  let point : Nat → SwPoint := fun i =>
    let b := recNat bs (16 + 8 * i + 4) 1
    { offset := recNat bs (16 + 8 * i) 4 % period
      state := BitVec.ofNat 2 (if b < 3 then b else fs i % 3)
      shot := bitN (recNat bs (16 + 8 * i + 5) 1) 0 }
  if n < 2 then none
  else
    match repairPoints period ((List.range n).map point) with
    | [] => none
    | ps => some { period := period, phase := recNat bs 4 4 % period, points := ps }

/-- The transmit time in one period: the intervals whose state transmits for the role, each to the next point round the
period (R41, R42). -/
def txTime (donor : Bool) (period first : Nat) : List SwPoint → Nat
  | [] => 0
  | x :: xs =>
    let next := match xs with
      | [] => period + first
      | y :: _ => y.offset
    (if x.opens.transmits donor then next - x.offset else 0) + txTime donor period first xs

/-- The schedule's duty for the role exceeds `limit` percent, or there is no limit to meet (R42, R43). -/
def Sched.overDuty (sc : Sched) (donor : Bool) (limit : Option Nat) : Bool :=
  match limit with
  | none => true
  | some d => decide (d * sc.period < 100 * txTime donor sc.period (sc.points.head?.map (·.offset)|>.getD 0) sc.points)

end Sys2Proof.Machine
end

