-- ==== Sys2Proof/Machine/Port.lean ====
section
/-! DEFINITION. The port instructions and the events of the RF ports and boosters (R25 to R54, R346 to R348). -/

namespace Sys2Proof.Machine

/-- The port that ga[1:0] names (R346). -/
def portOf (w : Word) : PortId := ⟨fieldN w.toNat 1 0, Nat.mod_lt _ (by decide)⟩

/-- port.tune (R347): NOT_OWNER where the port carries a channel of another partition that radiates or settles (R303),
else the record takes effect; a port in PROBE takes it when its burst ends (R36). Held in WATCH (R342). -/
def execPortTune (t : TaskId) (gd ga gb : Reg) (s : State) : Out :=
  onEngine t 3 s fun k s =>
    if s.inWatch then s.hold t (.portTune t gd ga gb)
    else
      s.withRecord t gd k (k.get gb) 32 fun bs s =>
        let p := portOf (k.get ga)
        let r := tuneRecord bs
        if s.ports[p].tuneChanges r && s.foreignPort p k.part then s.refuse t gd 6
        else
          let s := s.mapPort p fun q => { q with asker := k.part }
          if s.ports[p].st = .probe then (s.mapPort p fun q => { q with probeWait := some r }).finish t gd 1
          else (s.applyTune p r).finish t gd 1

/-- The schedule a port.sched leaves: it replaces a running one, or unloads, at the next period start; where none runs
it is loaded at once (R42, R348). -/
def Port.loadSched (q : Port) (sc : Option Sched) : Port :=
  match sc with
  | none => { q with schedNext := if q.sched.isSome then some none else none }
  | some x =>
    if q.schedRun then { q with schedNext := some (some x) }
    else { q with sched := some x, schedNext := match q.schedNext with
                                                | some (some _) => some (some x)
                                                | _ => none }

/-- A schedule record changes the port: it differs from what runs, is loaded or waits (R303, R348). -/
def Port.schedChanges (q : Port) (sc : Option Sched) : Bool :=
  match q.schedNext with
  | some x => decide (x ≠ sc)
  | none => decide (q.sched ≠ sc)

/-- port.sched (R348): the record is repaired; NOT_OWNER under R303 where it would change the port, CHARTER where its duty exceeds the port's limit
(R42, R43, R184). Held in WATCH (R342); it ends DOZE (R439). -/
def execPortSched (t : TaskId) (gd ga gb : Reg) (s : State) : Out :=
  onEngine t 3 s fun k s =>
    if s.inWatch then s.hold t (.portSched t gd ga gb)
    else
      s.withRecord t gd k (k.get gb) 16 fun hd s =>
        let n := if min (recNat hd 8 1) 32 < 2 then 0 else min (recNat hd 8 1) 32
        s.withRecord t gd k (k.get gb) (16 + 8 * n) fun bs s =>
          let p := portOf (k.get ga)
          let q := s.ports[p]
          let s := s.wakePower
          let rec? := schedRecord bs fun i => (s.freeAt i).toNat
          if q.schedChanges rec? && s.foreignPort p k.part then s.refuse t gd 6
          else
            match rec? with
            | none => (s.mapPort p fun q => { q.loadSched none with asker := k.part }).finish t gd 1
            | some sc =>
              if sc.overDuty q.tune.donor (s.dutyLimit p) then
                ({ s with rad := { s.rad with refuse := true } }).refuse t gd 4
              else ((s.mapPort p fun q => { q.loadSched (some sc) with asker := k.part }).useFree 32).finish t gd 1

/-- A role that waited for STANDBY takes effect (R26). -/
def State.applyRole (s : State) (p : PortId) : State :=
  match s.ports[p].bankWait with
  | some r =>
    if s.ports[p].st = .standby && decide (r.bank = s.ports[p].tune.bank) then
      ((s.mapPort p fun q => { q with tune := r, bankWait := none }).deriveOffsets).drive p
    else s
  | none => s

/-- The transition to `g` may complete: OFF only after the whole stop sequence, a keyed start at its KEY (R37, R38). -/
def Port.mayComplete (q : Port) (g : PState) : Bool :=
  if g = .off then decide (q.tx ≠ .stopping)
  else if q.st = .off then true
  else !(q.tx = .starting && q.tune.boost)

/-- PORT_TRANSITION_COMPLETE (R37): the port reaches its new state, from OFF through STANDBY, where a start begins. -/
def execPortTransitionComplete (port : PortId) (s : State) : Out :=
  .next (
    match s.ports[port].target with
    | none => s
    | some g =>
      if !s.ports[port].mayComplete g then s
      else if s.ports[port].st = .off ∧ g ≠ .off ∧ g ≠ .standby then
        (((s.mapPort port fun q => { q with st := .standby }).applyRole port).drive port).beginBank port
      else
        ((s.mapPort port fun q =>
          let starts := q.tx = .starting ∧ q.tune.boost = false
          { q with st := g, target := none, tx := if starts then .on else q.tx
                   rampAt := if starts then s.clk.ed else q.rampAt }).applyRole port).beginBank port)

/-- 40 µs in ED cycles, rounded up (R29). -/
def fortyUs : Nat := 39322

/-- The STANDBY interval of a bank change may end: it has lasted 40 µs, and the sequence of R69 inside it has completed (R29,
R69). -/
def Port.bankReady (q : Port) (now : Nat) : Bool :=
  decide (q.st = .standby) && q.retune.isNone && (match q.bankAt with | some t => decide (t + fortyUs ≤ now) | none => false)

/-- The set in force stands for the combination of `bank` and receive LO, the most recent of at most 16 (R65). -/
def Port.keepSet (q : Port) (bank : BitVec 4) : Port :=
  let c := (bank.toNat, q.tune.rxlo)
  { q with coefs := ((c, q.coef) :: q.coefs.filter fun x => decide (x.1 ≠ c)).take 16 }

/-- The coefficient set of the combination of `bank` and receive LO that a retune leads to: the one kept, or the factory set of the
nearest calibrated frequency; the combination is then the most recent (R65). -/
def Port.loadCoef (q : Port) (p : PortId) (bank : BitVec 4) : Port :=
  match q.coefs.find? fun e => decide (e.1 = (bank.toNat, q.tune.rxlo)) with
  | some e => { q with coef := e.2 }.keepSet bank
  | none => { q with coef := Config.factoryCoef p q.tune.rxlo }.keepSet bank

/-- BANK_CHANGE_COMPLETE (R29): the STANDBY interval ends, the bank is in the path, and the port enters its requested
state; isolation estimates through it are cleared (R160). -/
def execBankChangeComplete (port : PortId) (s : State) : Out :=
  .next (
    match s.ports[port].bankWait with
    | some r =>
      if s.ports[port].bankReady s.clk.ed ∧ r.bank ≠ s.ports[port].tune.bank then
        ((((s.mapPort port fun q => { q.loadCoef port r.bank with tune := r, bankWait := none, bankAt := none }).deriveOffsets).clearIso
          port).fixOutputs port).drive port
      else s
    | none => s)

/-! Boosters (R38, R39, R52, R53). -/

/-- The present interval of the running schedule is single-shot, so the port leaves the schedule at its end (R44). -/
def Port.lastShot (q : Port) : Bool :=
  match q.sched with
  | some sc => (match sc.points[q.schedIdx]? with | some x => x.shot && !q.schedFresh | none => false)
  | none => false

/-- The next interval of the running schedule that a port is in transmits, and KEY's lead before it has come (R41). -/
def State.keyDue (s : State) (p : PortId) : Bool :=
  let q := s.ports[p]
  match q.sched with
  | some sc =>
    match sc.points[(q.schedIdx + 1) % sc.points.length]? with
    | some x => s.enHold p && (decide (q.tx = .off) || decide (q.tx = .on)) && !q.lastShot && x.opens.transmits q.tune.donor
        && decide (sc.toPoint x s.fabNs ≤ 500 * q.tune.klead)
    | none => false
  | none => false

/-- A booster fault at a port: a burst that runs there, its output cut, ends early with an invalid result (DEDUCED, log 20: R53
cuts the output, R35 and R157 end the burst). -/
def State.portFault (s : State) (p : PortId) : State := (s.abortBurst p).faultBooster p

/-- BOOSTER_KEY_RISE (R38, R41, R52, R53): 50 µs after EN the booster is keyed, the output ramp follows after the KEY lead, and
the port enters its state; within a schedule KEY rises its lead before the interval that transmits. With the fault input
high KEY stays low and BFLT sets again; a burst then ends early (`State.portFault`). -/
def execBoosterKeyRise (port : PortId) (fltHigh : Bool) (s : State) : Out :=
  let q := s.ports[port]
  let starts := decide (q.tx = .starting)
  whenDo ((starts || s.keyDue port) && q.tune.boost && q.ben && !q.bkey && decide (q.enAt + fiftyUs ≤ s.clk.ed)) s
    (if fltHigh then s.portFault port
     else if starts then
       s.mapPort port fun q =>
        { q with tx := .on, bkey := true, rampAt := s.clk.ed + q.leadCycles, st := q.target.getD q.st, target := none }
     else s.mapPort port fun q => { q with bkey := true })

/-- BOOSTER_EN_FALL (R39, R52): at least 20 µs after KEY the booster supply is removed, also where booster control was disabled
with EN high. -/
def execBoosterEnFall (port : PortId) (s : State) : Out :=
  let q := s.ports[port]
  whenDo ((decide (q.tx = .stopping) || !q.tune.boost) && q.ben && !q.bkey && decide (q.keyAt + twentyUs ≤ s.clk.ed)) s
    (s.mapPort port fun q => { q with tx := if q.tx = .stopping then .off else q.tx, ben := false })

/-- BOOSTER_FAULT (R53): BSTn_FLT is ignored while EN is low and for 50 µs after its rise. -/
def execBoosterFault (port : PortId) (s : State) : Out :=
  let q := s.ports[port]
  whenDo (q.ben && decide (q.enAt + fiftyUs ≤ s.clk.ed)) s (s.portFault port)

/-! TDD schedules (R40 to R44). -/

/-- The port leaves its schedule after a single-shot interval: the schedule stays loaded without running and the port
enters its return state (R35, R44). -/
def State.leaveSched (s : State) (p : PortId) : State :=
  (s.mapPort p fun q => ({ q with schedRun := false }).toReturn).drive p

/-- The port follows its schedule's intervals: it is in no burst, not OFF, and no bank or role change holds it. -/
def Port.follows (q : Port) : Bool := decide (q.st ≠ .probe) && decide (q.st ≠ .off) && q.bankWait.isNone

/-- TDD_SWITCH_POINT (R40, R41, R44): fabric time has passed into another interval of the running schedule, which begins, whether
or not the port can follow it; a single-shot interval that its own switch point had opened ends the run. -/
def execTddSwitchPoint (pin : PortFlt) (s : State) : Out :=
  let port := pin.port
  let q := s.ports[port]
  .next (
    match q.sched with
    | none => s
    | some sc =>
      let i := sc.indexAt s.fabNs
      if !q.schedRun || !q.tune.state.tdd || decide (i = q.schedIdx) then s
      else if q.lastShot then s.leaveSched port
      else
        let s1 := s.mapPort port fun q => { q with schedIdx := i, schedFresh := false }
        if q.follows then s1.enterInterval port pin.fltHigh else s1)

/-- The schedule whose period starts count for what waits: the one that runs, else the one that waits or is loaded (DEDUCED,
log 20). -/
def Port.periods (q : Port) : Option Sched :=
  if q.schedRun then q.sched else match q.schedNext with | some (some x) => some x | _ => q.sched

/-- TDD_PERIOD_START (R33, R40, R42, R44): a newly loaded or restarted schedule begins on a TDD bank, in the interval that fabric
time lies in; an unloaded one ends. -/
def execTddPeriodStart (pin : PortFlt) (s : State) : Out :=
  let port := pin.port
  let q := s.ports[port]
  whenDo (match q.periods with | some sc => sc.starts s.fabNs | none => true) s (
    match q.schedNext with
    | none => s
    | some none =>
      (s.mapPort port fun q =>
        ({ q with sched := none, schedNext := none, schedRun := false }).mapState fun st => if st.tdd then .standby else st).drive port
    | some (some sc) =>
      if bankTdd q.bankAhead then
        let i := sc.indexAt s.fabNs
        let fresh := decide (sc.points.head?.map (·.instant) ≠ some 0)
        let s1 := s.mapPort port fun q =>
          ({ q with sched := some sc, schedNext := none, schedRun := true, schedIdx := i, schedFresh := fresh }).mapState
            fun st => if st.tdd then st else .tddDl
        if q.follows then s1.enterInterval port pin.fltHigh else s1
      else
        (s.mapPort port fun q =>
          ({ q with sched := some sc, schedNext := none, schedRun := false }).mapState
            fun st => if st.tdd then .standby else st).drive port)

/-! RFKILL_N (R48 to R51). -/

/-- RFKILL_ASSERT (R49, R50): every port stops without ramp, states and schedules go on, a burst in progress is ended,
and the assertion is recorded with the mask of transmitting ports. -/
def execRfkillAssert (s : State) : Out :=
  let mask : Nat := (List.finRange 4).foldl (fun (a : Nat) p => a + flagN (s.ports[p].tx = .on) p.val) 0
  whenDo (!s.pwr.rfkill) s
    (let s1 := s.mapPorts fun q => { q.stopTx s.clk.ed false with killed := true }
     let s2 := (List.finRange 4).foldl (fun s p => s.abortBurst p) s1
     ({ s2 with pwr := { s2.pwr with rfkill := true, rfHigh := false } }).trackFreeze.log 0x1000 mask 0 0)

/-- RFKILL_RELEASE (R51): the pin is high again and the wait of 1 ms starts. -/
def execRfkillRelease (s : State) : Out :=
  whenDo s.pwr.rfkill s
    ({ s with pwr := { s.pwr with rfkill := false, rfHigh := true, rfHighAt := s.clk.ed } }).trackFreeze

/-- RFKILL_RESTART (R51): after 1 ms high every port due to transmit starts again, but one blanked by a booster fault
(R54). -/
def execRfkillRestart (s : State) : Out :=
  whenDo (!s.pwr.rfkill && s.pwr.rfHigh && decide (s.pwr.rfHighAt + edMs 1 ≤ s.clk.ed)) s
    (({ s with pwr := { s.pwr with rfHigh := false } }).mapPorts fun q => { q with killed := false }).driveAll

/-! Composite limit (R46, R448). -/

/-- The composite limit in force: the larger of +10 dBm and the programmed limit less the throttle's backoff (R448). -/
def State.compositeLimit (s : State) (p : PortId) : Level :=
  tenths (max 100 (s.ports[p].tune.clim - 10 * (s.thm.backoff : Int)))

/-- The DAC word of a synthesis sum under the composite scaling: rounded half to even from 24 to 16 bits, then saturated (R46,
R100, R101). The first of the pair is one rail's word, the second says that it saturated. -/
def dacWord (scale : Nat) (x : Int) : Int × Bool :=
  shrinkWord 8 16 (if scale = 0 then x else Config.gainWord (-128 * (scale : Int)) x)

/-- COMPOSITE_LIMIT_SCALE (R46, R100, R101): where the window's composite power would exceed the limit, the whole window is
scaled down by the excess in steps of 0.1 dB, rounded up; no channel's gain or state changes. The synthesis sums of the
interval become DAC words, zero while the port delivers no output; each saturation sets SAT and counts against the channels
that radiate on the port. -/
def execCompositeLimitScale (port : PortId) (seen : CompositeSeen) (s : State) : Out :=
  let excess := seen.power - s.compositeLimit port
  let scale := max s.ports[port].scale ((excess + 127) / 128).toNat
  let words := if s.ports[port].outputs s.clk.ed then seen.sums.map fun x => (dacWord scale x.1, dacWord scale x.2)
    else seen.sums.map fun _ => ((0, false), (0, false))
  let sats := (words.filter fun x => x.1.2 || x.2.2).length
  let hit : Nat → Slot → Slot := fun _ x =>
    if x.radiating && x.set.txPort = some port then { x with sats := x.sats + sats } else x
  let s1 := s.mapPort port fun q =>
    { q with scale := scale, scaled := q.scaled || decide (0 < scale)
             dac := match words.getLast? with | some x => (x.1.1, x.2.1) | none => q.dac }
  .next (if sats = 0 then s1
    else { s1.countBy 199 sats with rad := { s1.rad with sat := true, slots := tblMap hit s1.rad.slots } })

/-- COMPOSITE_LIMIT_RESTORE (R46): once the excess has ended the scaling is restored by 0.1 dB. -/
def execCompositeLimitRestore (port : PortId) (s : State) : Out :=
  .next (s.mapPort port fun q => { q with scale := q.scale - 1 })

end Sys2Proof.Machine
end

