-- ==== Sys2Proof/Machine/Modes.lean ====
section
/-! DEFINITION. Operations on modes (R20 to R24, R178 to R180, R284, R429 to R432): entering a mode, the instructions held
in WATCH, SILENCED and its hold-off, the stop of every task. -/

namespace Sys2Proof.Machine

/-- What WATCH holds of the tasks that end: unmutes and re-arms (R177, R342). -/
def State.dropHeld (s : State) : State :=
  let drop : Nat → Slot → Slot := fun _ x => { x with guard := { x.guard with arm := .none } }
  if s.inWatch then
    { s with rad := { s.rad with
        slots := tblMap drop s.rad.slots
        roundQ := s.rad.roundQ.filter fun o => match o with
          | .unmute _ => false
          | .rearm _ => false
          | .commit _ => true
          | .mute _ => true } }
  else s

/-- Every task of every partition ends with no result; what they held is discarded (R19, R284, R338, R342). -/
def State.endAllTasks (s : State) : State :=
  let drop : Nat → Slot → Slot := fun _ x => { x with pend := none }
  let s1 := s.cpu.tasks.foldl (fun s x => (s.dropWait x.1).freeIndex x.1) s.dropHeld
  { s1 with
    cpu := { s1.cpu with ready := [], heldQ := [] }
    rad := { s1.rad with slots := tblMap drop s1.rad.slots }
    obs := { s1.obs with handling := [] } }

/-! Held instructions (R342, R439). -/

/-- The meaning of an instruction that may be held. -/
def heldExec (i : Instr) (s : State) : Out :=
  match i with
  | .chAlloc t gd ga gb => execChAlloc t gd ga gb s
  | .chFree t gd ga => execChFree t gd ga s
  | .chCommitCut t gd ga => execChCommitCut t gd ga s
  | .chCommitFade t gd ga => execChCommitFade t gd ga s
  | .chProbe t gd ga k => execChProbe t gd ga k s
  | .portTune t gd ga gb => execPortTune t gd ga gb s
  | .portSched t gd ga gb => execPortSched t gd ga gb s
  | _ => .next s

/-- A held instruction is carried out, and its task is READY unless the instruction itself waits or ends it (R342). -/
def State.runHeldOne (s : State) (t : Nat) (i : Instr) : State :=
  match s.task? t with
  | none => s
  | some k =>
    if k.st = .waiting .held then
      match heldExec i (s.setTask t { k with st := .running heldCtx }) with
      | .next s1 =>
        match s1.task? t with
        | some k1 => if k1.st = .running heldCtx then s1.makeReady t else s1
        | none => s1
      | _ => s
    else s

/-- Every held instruction is carried out, in issue order (R342, R439). -/
def State.runHeld (s : State) : State :=
  let q := s.cpu.heldQ
  q.foldl (fun s x => s.runHeldOne x.1 x.2) { s with cpu := { s.cpu with heldQ := [] } }

/-! Entering a mode. -/

/-- The mode `m` is in force: bursts end on a change out of ISOLATE (R36), the first ISOLATE after boot starts the
calibration of R497, ports follow (R34), and every partition sees the change (R354). -/
def State.enterMode (s : State) (m : Mode) : State :=
  let s1 := if s.pwr.mode = .isolate ∧ m ≠ .isolate then s.abortProbes else s
  let first : Bool := decide (m = .isolate) && decide (s1.pwr.calib = 0)
  (({ s1 with
      pwr := { s1.pwr with
        mode := m, req := none, wardenWait := false, unann := false, calib := if first then 1 else s1.pwr.calib,
        calibAt := if first then s1.clk.ed else s1.pwr.calibAt }
      rad := { s1.rad with everIsolate := s1.rad.everIsolate || decide (m = Mode.isolate) } }).driveAll).eventAll 10

/-- A tenant's re-arm held when WATCH begins is discarded (R177). -/
def State.dropArms (s : State) : State :=
  let drop : Nat → Slot → Slot := fun _ x =>
    if x.guard.arm = .tenant then { x with guard := { x.guard with arm := .none } } else x
  { s with rad := { s.rad with slots := tblMap drop s.rad.slots } }

/-- WATCH is entered (R20, R21): the ports keep the states held; SILENCED and HALT take precedence (R24); from DOZE and
HIBERNATE the exit of R439 comes first (R429). -/
def State.enterWatch (s : State) : State :=
  match s.pwr.mode with
  | .quiet | .survey | .isolate | .relay =>
    ({ s with pwr := { s.pwr with watchFrom := s.pwr.mode } }).dropArms.enterMode .watch
  | .doze | .hibernate =>
    { s with pwr := { s.pwr with wakeReq := true, wardenWait := true, req := none } }
  | _ => s

/-- A requested or hardware-entered mode takes effect; what WATCH held follows at the next round boundary (R342). Out of SILENCED into a
program-running mode with no worker core able to run tasks, the condition that SILENCED overrode has persisted, and WATCH is
entered (R24; DEDUCED, log 31). -/
def State.changeMode (s : State) (m : Mode) : State :=
  let s1 := s.enterMode m
  if s.pwr.mode = .silenced ∧ s.cpu.coreUp = 0 then s1.enterWatch
  else s1

/-- The Warden pair has stopped (R22, R284): a mode request of it is discarded (DEDUCED, log 31: the pair that runs again issues mode), and
with the entry to WATCH every task ends. In DOZE and HIBERNATE that entry waits for the exit of R439, and until then the threads of
the pair alone stand still. -/
def State.pairStopped (s : State) : State :=
  let s1 := { s with
    cpu := { s.cpu with wrun := false }, pwr := { s.pwr with req := none }, cht := { s.cht with heldMode := none } }
  let still : Nat → Task → Task := fun _ k =>
    match k.st with
    | .running c => if 32 ≤ c then { k with st := .ready } else k
    | _ => k
  let rest := (s.cpu.tasks.filter fun x => match x.2.st with | .running c => decide (32 ≤ c) | _ => false).map (·.1)
  match s.pwr.mode with
  | .doze | .hibernate =>
    ({ s1 with cpu := { s1.cpu with tasks := tblMap still s1.cpu.tasks, ready := s1.cpu.ready ++ rest } }).enterWatch
  | _ => s1.endAllTasks.enterWatch

/-! SILENCED (R178 to R180). -/

/-- A source is marked severe: NGD's SEV flag sets and its line rises (R175, R178, R188). -/
def State.markSevere (s : State) (src : Nat) : State :=
  if (s.source src).severe then s
  else
    (({ s with obs := { s.obs with
        sources := tblPut src { s.source src with severe := true } s.obs.sources } }).ngdFlag 5).linePulse 6 0x42

/-- The hold-off in seconds of the n-th entry within 24 hours (R179). -/
def holdOff (n : Nat) : Nat := if n ≤ 1 then 10 else if n = 2 then 60 else if n = 3 then 600 else 3600

/-- A mode from which hardware enters SILENCED: any program-running mode, WATCH, or SILENCED again (R180, R429). -/
def Mode.maySilence (m : Mode) : Bool :=
  match m with
  | .quiet | .survey | .isolate | .relay | .watch | .silenced | .doze | .hibernate => true
  | .off | .reset | .boot | .halt => false

/-- The engine enters SILENCED because of the channels `ks` (R178, R179): they stay FENCED with cause 0x8 beside their own
and their sources are severe; the hold-off starts; a pending request is discarded (R430), but one held in SILENCED stays held
(R180); the ports stop. -/
def State.enterSilenced (s : State) (ks : List Nat) : State :=
  if s.pwr.mode.maySilence then
    let now := s.opMs
    let entries := (now :: s.cht.silEntries).filter fun e => decide (now < e + dayMs)
    let secs := holdOff entries.length
    let involve : State → Nat → State := fun s k =>
      (s.mapSlot k fun x =>
        if x.guard.fenced then { x with guard := { x.guard with causes := x.guard.causes ||| 0x100 } }
        else { x with guard := { x.guard with fenceReq := x.guard.fenceReq ||| 0x100 } }).markSevere (srcSlot k)
    let s1 := ks.foldl involve s
    let s2 := { s1 with cht := { s1.cht with
        silEntries := entries, holdEnd := s.clk.ed + edMs (1000 * secs), oscFences := [],
        clamps := [] } }
    ((s2.changeMode .silenced).linePulse 6 0x41).log 0x1601 entries.length secs 0
  else s

/-- The hold-off runs (R180). -/
def State.holdOffRuns (s : State) : Bool := decide (s.clk.ed < s.cht.holdEnd)

/-! Tasks of P0 (R284, R530). -/

/-- A READY task at its start: every register zero but the given ones (R286, R290). -/
def Task.fresh (p : PartId) (pc evec : Word) : Task :=
  { part := p, st := .ready, regs := Vector.replicate 32 0, pc := pc, cause := 0, active := false, nest := false,
    excPc := 0, excAddr := 0, evec := evec, sq := [], gseq := 0, gerr := none, placedAt := 0, lastCtx := none }

/-- The lowest free task index (R278: up to 512 tasks). -/
def State.freeTask (s : State) : Option Nat := firstFree (fun i => (s.task? i).isNone) 512 0

/-- A new task at the lowest free index, READY. -/
def State.addTask (s : State) (k : Task) : State :=
  match s.freeTask with
  | none => s
  | some i => (((s.setTask i k).newIndex i).makeReady i)

/-- ENTRY of a program image, a multiple of 4 (R529). -/
def imageEntry (im : List Byte) : Word := BitVec.ofNat 64 (recNat im 32 8) &&& ~~~3#64

/-- P0's first task starts at ENTRY with the boot source in g1 (R530). -/
def State.startWarden (s : State) : State :=
  ({ s with cpu := { s.cpu with wrun := true } }).addTask
    ((Task.fresh 0 (imageEntry s.svc.image) 0).put 1 (BitVec.ofNat 64 s.svc.source))

end Sys2Proof.Machine
end

