-- ==== Sys2Proof/Machine/Guarding.lean ====
section
/-! DEFINITION. Operations shared by the round boundary, the guard and the trunks: fences and their counting, the mutes
of TRK, re-arms, clamps (R166 to R186, R210, R235, R236). -/

namespace Sys2Proof.Machine

/-- An NGD event of a source counts toward severity; becoming severe sets SEV (R175, R188). -/
def State.countFence (s : State) (src : Nat) : State :=
  let s1 := s.countSource src
  if (s1.source src).severe && !(s.source src).severe then (s1.ngdFlag 5).linePulse 6 0x42 else s1

/-! Mutes of TRK (R235, R236). -/

/-- TRK holds the member silent: lane lost, held under R235, or donor lost at the anchor (R236). -/
def Trunk.holds (x : Trunk) : Bool := x.lost || decide (x.cause ≠ 0) || x.donorLost

/-- TRK's mute follows its causes: a new one takes effect at the next round boundary, an ended one at once (R108, R110,
R235, R236). -/
def State.trkMute (s : State) (k : Nat) : State :=
  let x := s.slot k
  if x.trunk.holds then
    if x.mutes.trk then s else s.mapSlot k fun x => { x with muteReq := { x.muteReq with trk := true } }
  else if x.mutes.trk || x.muteReq.trk then
    (s.mapSlot k fun x =>
      { x with mutes := { x.mutes with trk := false }, muteReq := { x.muteReq with trk := false } }).chEvent k
  else s

/-- A member is held while its required delay, or the D_U that a contributor's place makes, exceeds the lane's ceiling (CEILING) or, on
a DL lane, its launch delay (LATE); a UL lane has no launch delay (R234, R235, R239). -/
def Trunk.heldCause (x : Trunk) (ul : Bool) : Nat :=
  if x.ceil < max x.dReq x.dU then 2 else if !ul && decide (x.dL < x.dReq) then 1 else 0

/-- R235 is examined for the channel in slot `k`: a newly held member is recorded. -/
def State.memberCheck (s : State) (k : Nat) : State :=
  let x := s.slot k
  let c := if x.set.member then x.trunk.heldCause x.set.filt.ul else 0
  if c = x.trunk.cause then s
  else
    let s1 := (s.mapSlot k fun x => { x with trunk := { x.trunk with cause := c } }).trkMute k
    if c = 0 then s1
    else (({ s1 with rad := { s1.rad with tCeil := true } }).linePulse 9 0x59).log 0x1900 k c x.trunk.dReq

/-! Re-arm (R173, R174, R176, R177). -/

/-- The checks of a re-arm at its boundary: a tenant's source must not be severe, and the settings must be covered. -/
def State.armPasses (s : State) (k : Nat) : Bool :=
  let x := s.slot k
  x.guard.fenced && s.covered x.set && (x.guard.arm = .warden || !s.fenceSevere k)

/-- A re-arm takes effect: the fence and every trim share end, and a channel that then radiates starts from GMIN
(R169, R174). -/
def Slot.rearm (x : Slot) : Slot :=
  let x1 := { x with guard := { x.guard with
      fenced := false, causes := 0, aclrPort := none, tOsc := 0, tOvr := 0, tNrise := 0, tAclr := 0, arm := .none } }
  if x1.radiating then
    { x1 with glc := { x1.glc with gLev := tenths x.set.gain.gmin, gBrim := tenths x.set.gain.gmin } }
  else x1

/-- A requested re-arm is examined at its round boundary (R173, R177). -/
def State.doRearm (s : State) (k : Nat) : State :=
  if (s.slot k).guard.arm = .none then s
  else if s.armPasses k then (s.mapSlot k Slot.rearm).chEvent k
  else s.mapSlot k fun x => { x with guard := { x.guard with arm := .none } }

/-! The Gauntlet's clamp (R178, R186). -/

/-- GNT clamps output on port `p`: CLAMP sets and its line rises (R186, R190). Clamps on two or more ports within 10 ms
enter SILENCED, because of the channels of all of them (R178); `ks` are those of this clamp. -/
def State.clamp (s : State) (p : PortId) (ks : List Nat) : State :=
  let recent := (s.clk.ed, (p.val, ks)) :: s.cht.clamps.filter fun c => decide (s.clk.ed ≤ c.1 + edMs 10)
  let s1 := ({ s with
      rad := { s.rad with clamp := true }
      cht := { s.cht with clamps := recent } }.count 203).linePulse 7 0x48
  if recent.any fun c => c.2.1 ≠ p.val then s1.enterSilenced (recent.flatMap fun c => c.2.2) else s1

/-- GNT's clamp self-check fails (R178, R186). -/
def State.clampFails (s : State) : State :=
  (({ s with rad := { s.rad with gchk := true } }).linePulse 7 0x49).enterSilenced []

end Sys2Proof.Machine
end

