-- ==== Sys2Proof/Machine/Glc.lean ====
section
/-! DEFINITION. Gain control at round and control-sample boundaries (R119 to R136): tables, loops, ceiling, gate, applied
gain, the TRIMMED condition. -/

namespace Sys2Proof.Machine

/-- The default table of an absent key. -/
def GTab.initial : GTab := { ent := [], eres := 1 }

/-- The default entry `i` of a level table, in 1/256 dB: (e_c / 4), e_c = (i − 32) · 0.5 + 0.25 dB (R134). -/
def levelDefault (i : Nat) : Int := ((i : Int) - 32) * 32 + 16

/-- The default entry `i` of a brim table, in 1/256 dB: −e_c / 8 (R134). -/
def brimDefault (i : Nat) : Int := -(((i : Int) - 32) * 16 + 8)

/-- Entry `i` of a table, in 1/256 dB (R134). -/
def GTab.entry (g : GTab) (brim : Bool) (i : Nat) : Int :=
  match tblFind i g.ent with
  | some w => w.toInt
  | none => if brim then brimDefault i else levelDefault i

/-- The error resolution of ERES (R135). -/
def eresLevel (e : BitVec 2) : Int := if e = 0 then 320 else if e = 1 then 640 else if e = 2 then 1280 else 2560

/-- The step of a loop with error `e`: the entry at 32 + floor(e / ERES), limited to 0 to 63, at most +6.0 dB (R122). -/
def GTab.step (g : GTab) (brim : Bool) (e : Level) : Level :=
  min (5 * g.entry brim (clampInt (32 + e / eresLevel g.eres) 0 63).toNat) 7680

/-- The active level or brim table of a channel: those of its owner (R134). -/
def State.gainTable (s : State) (x : Slot) (brim : Bool) : GTab :=
  let k := if brim then 4 + x.set.gain.btab.toNat else x.set.gain.ltab.toNat
  tblGet GTab.initial k s.parts[x.owner].tabs.gActive

/-- The ceiling g_perm = I + D − BRIM, I taken as 0 dB where there is no estimate (R121, R125). -/
def State.permOf (s : State) (x : Slot) : Level := (s.isoOf x).getD 0 + x.depth - tenths x.set.gain.brim

/-- A gain rounded down to a multiple of 0.1 dB (R126). -/
def floorTenth (g : Level) : Level := g / 128 * 128

/-- The limiting term's code: the first of g_lev, g_brim, g_perm and GMAX that equals the minimum (R126, R137). -/
def limitTerm (lev brim perm ctl : Level) : Nat :=
  if lev = ctl then 0 else if brim = ctl then 1 else if perm = ctl then 2 else 3

/-- The wanted gain exceeds `g` by more than `m` (R132): GMAX with ALC off, else min(GMAX, G(n) + LTGT − L(n)), where G(n)
is the mean of the gains applied in the last control sample. Before a channel's first control sample has ended, or after one
without any gain, there is no G(n), and the third case of R132 makes no comparison (DESIGN CHOICE, log 16: the manual gives no
wanted gain then). -/
def Slot.wantsMore (x : Slot) (g m : Level) : Bool :=
  let c := x.glc
  decide (g + m < tenths x.set.gain.gmax) &&
    (!x.set.gain.alc ||
      (decide (0 < c.lastN)
        && decide ((c.lastN : Int) * (g + m) < c.lastG + (c.lastN : Int) * (tenths x.set.ltgtV - c.lastL))))

/-- The control-loop gain g_ctl of the loop states `lev` and `brim` under the ceiling `perm` (R126). -/
def Slot.ctl (x : Slot) (lev brim perm : Level) : Level := min (min lev brim) (min perm (tenths x.set.gain.gmax))

/-- Steps 5 to 7 of R129 for the ceiling `perm`: g_brim is limited, the gate begins, holds or ends, the applied gain and
the TRIMMED condition follow (R124, R126, R127, R132). `valid` says that the channel has an isolation estimate. -/
def Slot.evaluate (x : Slot) (valid : Bool) (perm : Level) : Slot :=
  let c := x.glc
  let gmin := tenths x.set.gain.gmin
  let t := trimStep * (x.guard.trimSteps : Int)
  let lev0 := if x.set.gain.alc then c.gLev else tenths x.set.gain.gmax
  let brim0 := min c.gBrim perm
  let ends := valid && !c.gateHold && c.prevApplied.isNone && decide (gmin + 1280 ≤ perm)
    && decide (0 ≤ floorTenth (x.ctl (max lev0 gmin) gmin perm - t))
  let lev := if ends then max lev0 gmin else lev0
  let brim := if ends then gmin else brim0
  let g := x.ctl lev brim perm
  let open' := valid && !c.gateHold && decide (gmin ≤ g) && decide (0 ≤ floorTenth (g - t)) && (c.prevApplied.isSome || ends)
  let applied := if open' then some (floorTenth (g - t)) else none
  let lim := limitTerm lev brim perm g
  let trimmed := match applied with
    | none => true
    | some a =>
      decide (0 < x.guard.trimSteps)
        || ((lim = 1 || lim = 2) && x.wantsMore a (if c.prevTrimmed then 640 else 1280))
  { x with
    ramp := if applied.isNone then 0 else x.ramp
    glc := { c with
      gLev := lev, gBrim := brim, gPerm := perm, applied := applied, lim := lim, trimmed := trimmed, ctl := g
      margin := if applied.isNone then none else c.margin } }

/-- The round that ends joins the control sample in progress (R120, R123, R132, R133). -/
def Slot.foldRound (x : Slot) (scaled : Bool) : Slot :=
  let c := x.glc
  let c1 := match c.applied with
    | none => { c with csGated := true, csN := c.csN + 1 }
    | some g =>
      { c with
        csMax := if c.csG = 0 then g else max c.csMax g
        csSum := c.csSum + g
        csN := c.csN + 1
        csG := c.csG + 1
        csNotLev := c.csNotLev || decide (c.lim ≠ 0) }
  { x with glc := { c1 with
      csScaled := c1.csScaled || scaled, prevApplied := c.applied, prevTrimmed := c.trimmed, prevCtl := c.ctl } }

/-- The composite limit scaled the channel's transmit port at some time in the round that ends (R46, R123). -/
def State.portScaled (s : State) (x : Slot) : Bool :=
  match x.set.txPort with
  | some p => s.ports[p].scaled || decide (0 < s.ports[p].scale)
  | none => false

/-- g_perm is a term that sets g_ctl (R126, R138). -/
def Slot.ceilingBinds (x : Slot) : Bool := decide (x.ctl x.glc.gLev x.glc.gBrim x.glc.gPerm = x.glc.gPerm)

/-- g_perm has lowered the applied gain since the boundary before: it sets g_ctl, it has lowered g_ctl, and the applied gain
fell with it (R138). A trim that falls on an unchanged g_ctl lowers the gain without it. -/
def Slot.ceilingLowered (x : Slot) : Bool :=
  x.ceilingBinds && decide (x.glc.ctl < x.glc.prevCtl) && (match x.glc.applied, x.glc.prevApplied with
    | some a, some b => decide (a < b)
    | _, _ => false)

/-- The flags of a gate and of a falling ceiling (R128, R138), the count of a new gate (R526), and the owner's event when TRIMMED
begins or ends (R354). GATE is set at every boundary at which a channel is gated, so a clear does not hide a gate that
lasts. `ungated` says that the channel was not gated before. -/
def State.glcFlags (s : State) (k : Nat) (ungated : Bool) (old new : Slot) : State :=
  let gated := new.glc.applied.isNone
  let s1 := { s with rad := { s.rad with gate := s.rad.gate || gated, ceil := s.rad.ceil || new.ceilingLowered } }
  let s2 := if gated && ungated then s1.count 205 else s1
  if old.code ≠ new.code then s2.chEvent k else s2

/-- Every committed channel takes in the round that ends, before anything takes effect at its boundary (R120, R129). -/
def State.foldRounds (s : State) : State :=
  let fold : Nat → Slot → Slot := fun _ x => if x.live then x.foldRound (s.portScaled x) else x
  { s with
    rad := { s.rad with slots := tblMap fold s.rad.slots }
    ports := Vector.ofFn fun p => { s.ports[p] with scaled := decide (0 < s.ports[p].scale) } }

/-- A control sample of the channel ends at the present boundary (R119). Where a commit changes the profile, and so M, inside a
control sample, the rounds gathered so far go into the sample that ends at the next multiple of the new M (DESIGN CHOICE, log
16: the manual does not say which sample is in progress then). -/
def State.sampleDue (s : State) (x : Slot) : Bool :=
  s.atBoundary && decide (s.roundNo % x.set.prof.m = 0) && decide (0 < x.glc.csN)

/-- A committed channel's gain at a round boundary: steps 2, 3 and 5 to 7 of R129. Where a control sample ends here, step 4 comes
with that sample's own command, which takes the loop states as the boundary found them, repeats steps 5 to 7 and raises the
boundary's flags. -/
def State.glcRound (s : State) (k : Nat) : State :=
  let x := s.slot k
  if x.live then
    let x0 := { x with glc := { x.glc with levIn := x.glc.gLev, brimIn := x.glc.gBrim } }
    let x1 := x0.evaluate (s.isoOf x).isSome (s.permOf x)
    let s1 := s.setSlot k x1
    if s.sampleDue x then s1 else s1.glcFlags k x.glc.prevApplied.isSome x x1
  else s

/-- The channel as a disagreement of its gain paths leaves it: gated until its next commit (R131). -/
def Slot.disagreed (x : Slot) : Slot :=
  { x with
    ramp := 0
    glc := { x.glc with gateHold := true, applied := none, trimmed := true, margin := none } }

/-- The two gain paths disagree on the channel (R131). The gate gives it the TRIMMED condition of R132 at once: R131's "the
channel's state is not changed" is read of what the disagreement itself does beyond that gate (DESIGN CHOICE, log 16), and the
gate counts as one under R126, whose step it takes (DEDUCED, log 16). -/
def State.gainDisagree (s : State) (k : Nat) : State :=
  let x := s.slot k
  if x.live then
    let s1 := (s.setSlot k x.disagreed).glcFlags k x.glc.applied.isSome x x.disagreed
    (({ s1 with rad := { s1.rad with chk := true } }).linePulse 4 0x30).log 0x1400 k 0 0
  else s

/-! Control samples (R119, R120, R122 to R124, R133). -/

/-- The loops of a radiating channel step over a control sample of level `m`, in which it was never gated, from the states that
the boundary found (R122 to R124, R129, R133). -/
def State.glcStep (s : State) (x : Slot) (m : ControlSample) : Slot :=
  let c := { x.glc with gLev := x.glc.levIn, gBrim := x.glc.brimIn }
  let margin := (s.isoOf x).getD 0 + x.depth - c.csMax
  let step := (s.gainTable x false).step false (tenths x.set.ltgtV - m.level)
  let drop := decide (0 < step) && (c.csNotLev || decide (0 < m.satWords) || c.csScaled)
  let lev := if drop then c.gLev else clampInt (c.gLev + step) (tenths x.set.gain.gmin) (tenths x.set.gain.gmax)
  let bstep := (s.gainTable x true).step true (tenths x.set.gain.brim - margin)
  let brim := clampInt (c.gBrim + bstep) (tenths x.set.gain.blo) (tenths x.set.gain.bhi)
  if x.radiating then { x with glc := { c with gLev := lev, gBrim := brim, margin := some margin } }
  else { x with glc := { c with margin := some margin } }

/-- The control sample that ends is recorded, with the sum and the number of the gains applied in it (R120, R132). -/
def Slot.endSample (x : Slot) (m : ControlSample) : Slot :=
  let c := x.glc
  { x with
    sats := x.sats + m.satWords
    glc := { c with
      lastL := m.level, input := m.input
      lastG := c.csSum, lastN := c.csG
      csMax := 0, csSum := 0, csN := 0, csG := 0, csSat := 0, csGated := false, csNotLev := false, csScaled := false } }

/-- The OVR detector over a control sample (R166): level or saturation beyond its limit in two successive ones trims, and
fences once its share has reached 12 dB. -/
def State.ovrCheck (s : State) (k : Nat) (m : ControlSample) (skip : Bool) : State :=
  let x := s.slot k
  if skip || x.set.txPort.isNone then s
  else if tenths (x.set.ltgtV + x.set.guard.ovm) < m.level ∨ m.words < 100 * m.satWords then
    let s1 := s.mapSlot k fun x => { x with guard := { x.guard with ovrHits := min (x.guard.ovrHits + 1) 2 } }
    if 1 ≤ x.guard.ovrHits then
      if 4 ≤ x.guard.tOvr then (s1.askFence k 2).ngdFlag 1 else (s1.trim k 1).ngdFlag 1
    else s1
  else s.mapSlot k fun x => { x with guard := { x.guard with ovrHits := 0 } }

/-- A detector skips the channel: a port retunes or has no valid samples, a burst runs on one, RFKILL_N is asserted, the
transmit port is blanked, or the channel is gated (R166). -/
def State.detectorSkips (s : State) (x : Slot) : Bool :=
  let rx := match x.set.rxPort with | some p => s.ports[p].disturbed || !s.ports[p].rxv | none => false
  let tx := match x.set.txPort with | some p => s.ports[p].disturbed || s.ports[p].bflt | none => false
  rx || tx || s.pwr.rfkill || x.glc.applied.isNone

/-- The control sample with its saturated words, of which the sample path itself has seen `seen` (R101). -/
def sampleAtLeast (m : ControlSample) (seen : Nat) : ControlSample := { m with satWords := max m.satWords seen }

/-- The channel as the boundary found it, for a control sample that ends with it. -/
def Slot.boundaryStart (x : Slot) : Slot :=
  { x with glc := { x.glc with gLev := x.glc.levIn, gBrim := x.glc.brimIn } }

/-- CONTROL_SAMPLE_BOUNDARY (R119 to R133): at a round boundary whose number is a multiple of M the loops step from the
control sample just ended, then g_brim is limited and the gain of the boundary computed (R129); then OVR runs. -/
def execControlSampleBoundary (slot : SlotId) (m0 : ControlSample) (s : State) : Out :=
  let x := s.slot slot
  let m := sampleAtLeast m0 x.glc.csSat
  whenDo (x.live && s.sampleDue x && !s.engineHeld) s
    (let gated := x.glc.csGated
     let skip := s.detectorSkips x || !x.radiating || gated
     let x1 := if gated then x.boundaryStart else s.glcStep x m
     let x2 := (x1.endSample m).evaluate (s.isoOf x).isSome (s.permOf x)
     let old := { x with glc := { x.glc with trimmed := x.glc.prevTrimmed } }
     let s1 := (s.setSlot slot x2).glcFlags slot x.glc.prevApplied.isSome old x2
     let s2 := if m.satWords = 0 then s1 else { s1.countBy 199 m.satWords with rad := { s1.rad with sat := true } }
     (s2.ovrCheck slot m skip).trackFreeze)

end Sys2Proof.Machine
end

