-- ==== Sys2Proof/Machine/Path.lean ====
section
/-! DEFINITION. The sample path of a channel through the engine (R14, R15, R98 to R101, R141): the channel filter's
accumulators become channel words, lose their mean in the DC-blocking stage, take the channel's gain, lose the modelled
leakage, and leave for the port's synthesis or the lane. The order of R14 is the order of `Slot.passSample`. -/

namespace Sys2Proof.Machine

/-- One rail through the DC-blocking stage of mode 0 OFF, 1 ON or 2 FROZEN with time constant 2^k: the estimate after the
sample, in 2^-20 of a word, and the sample without it (R98). `held` says that the engine freezes the stage (R99). The
manual states neither the estimate's word nor its rounding (DESIGN CHOICE, log 51). -/
def dcStep (mode k : Nat) (held : Bool) (est w : Int) : Int × Int :=
  if mode = 0 then (est, w)
  else
    let e := if mode = 1 && !held then est + roundHalfEven (w * 2 ^ 20 - est) k else est
    (e, w - roundHalfEven e 20)

/-- The engine freezes the channel's DC-blocking stage: samples of its receive port are invalid, a burst runs on it, or RFKILL_N
is asserted (R99). -/
def State.dcHeld (s : State) (x : Slot) : Bool :=
  match x.set.rxPort with
  | some p => !s.ports[p].rxv || decide (s.ports[p].st = .probe) || s.pwr.rfkill
  | none => false

/-- The echo delay of tap 0, the air-to-air latency of slot `k` plus the window offset, in whole channel samples, at least one, and
the fraction in 1/65,536 of a sample (R141, R142). -/
def Slot.echoDelay (x : Slot) (k : Nat) : Nat × Nat :=
  let t := (latency k x.set + x.woff) * x.set.prof.rate
  (max 1 (t / 983040000), t * 65536 / 983040000 % 65536)

/-- Words of one rail, newest first, delayed by a fraction of a sample in 1/65,536 (R92, R141). -/
def delayRail (frac : Nat) : List Int → List Int
  | [] => []
  | w :: ws => (if frac = 0 then w else Config.resampleRail (1, 1) frac (w :: ws)) :: delayRail frac ws

/-- A channel's words delayed by a fraction of a sample, both rails. -/
def delayWords (frac : Nat) (l : List (Int × Int)) : List (Int × Int) :=
  if frac = 0 then l else (delayRail frac (l.map (·.1))).zip (delayRail frac (l.map (·.2)))

/-- The sum of taps times past outputs, `out` being newest first from the delay of tap `i` (R141, R152): both rails in 2^-24 of
a word. -/
def leakSum (taps : List (Nat × (Int × Int))) : Nat → Nat → List (Int × Int) → Int × Int
  | 0, _, _ => (0, 0)
  | _ + 1, _, [] => (0, 0)
  | n + 1, i, y :: ys =>
    let t := tblGet (0, 0) i taps
    let r := leakSum taps n (i + 1) ys
    (t.1 * y.1 - t.2 * y.2 + r.1, t.1 * y.2 + t.2 * y.1 + r.2)

/-- The modelled leakage of the channel's own output at the present sample (R14, R141). -/
def Slot.leakage (x : Slot) (k : Nat) : Int × Int :=
  if x.set.loop && x.set.canc.can then
    let d := x.echoDelay k
    let r := leakSum x.fbc.taps 48 0 (delayWords d.2 ((x.out.drop (d.1 - 1)).take 64))
    (roundHalfEven r.1 24, roundHalfEven r.2 24)
  else (0, 0)

/-- A word under a gain: 0 dB leaves it as it is. -/
def gainWord (g : Level) (w : Int) : Int := if g = 0 then w else Config.gainWord g w

/-- How many output samples a channel holds: the longest echo of the widest profile within the window (R141). -/
def historyLen : Nat := 4096

/-- How many words the resampler looks back on (DESIGN CHOICE, log 51: the manual gives the length of none of its phases). -/
def resampleLen : Nat := 64

/-- The rate ratio and the fractional delay of a channel's resampler (R92): 1 and 0 but for a DL member, which follows the stamps of
its lane and the alignment in force (R232, R233), and a contributor, whose samples stand on the lane's grid (R238). -/
def Slot.resampler (x : Slot) : (Nat × Nat) × Nat :=
  if x.set.dlMember then (x.trunk.ratio, (x.trunk.alignNow % 65536).toNat)
  else if x.set.contributor then ((1, 1), x.trunk.frac)
  else ((1, 1), 0)

/-- The resampler changes nothing: the ratio is 1, or no stamps have given another, and there is no fractional delay (R92). -/
def resamplesNothing (rate : Nat) (r : (Nat × Nat) × Nat) : Bool :=
  r.2 = 0 && (decide (r.1.1 * rate = r.1.2 * 10 ^ 9) || decide (r.1 = (1, 1)))

/-- A channel word through the fractional resampler (R92). -/
def Slot.resampled (x : Slot) (w : Int × Int) : Slot × (Int × Int) :=
  let r := x.resampler
  let l := (w :: x.inp).take resampleLen
  ({ x with inp := l },
    if resamplesNothing x.set.prof.rate r then w
    else (Config.resampleRail r.1 r.2 (l.map (·.1)), Config.resampleRail r.1 r.2 (l.map (·.2))))

/-- A value that exceeds the channel output word saturates, and whether it did (R101). -/
def satWord (w : Int) : Int × Bool := (clampInt w (-524288) 524287, decide (w < -524288) || decide (524287 < w))

/-- A sample of which a rail saturated joins the channel's saturation count (R101). -/
def Slot.saturate (x : Slot) (c : Bool) : Slot :=
  if c then { x with glc := { x.glc with csSat := x.glc.csSat + 1 } } else x

/-- A rail at a place of the rise: full from 16 on (R97, R108, R127). -/
def riseRail (place : Nat) (w : Int) : Int := if place = 0 then 0 else if 16 ≤ place then w else Config.riseWord place w

/-- The channel's output of the word `y`, and where its ramps stand after it. An output that may be open rises over 16 samples;
one that a mute, a fence or a free has caught falls until it has reached zero; any other is zero: a filter that fills, a gate, a
channel that was never committed (R97, R108, R111, R126, R127). -/
def Slot.rampWord (x : Slot) (y : Int × Int) : Slot × (Int × Int) :=
  if x.opens then
    let n := min 16 (x.ramp + 1)
    ({ x with ramp := n, fell := 0 }, (riseRail n y.1, riseRail n y.2))
  else if x.live && !x.zero && x.fill = 0 && x.glc.applied.isSome then
    ({ x with fell := x.fell + 1 }, (Config.fallWord x.fell y.1, Config.fallWord x.fell y.2))
  else ({ x with fill := x.fill - 1, ramp := 0, fell := 0 }, (0, 0))

/-- One channel word through the path of R14 from the DC-blocking stage on: gain, cancellation, output. -/
def Slot.passWord (x : Slot) (k : Nat) (held : Bool) (w : Int × Int) : Slot :=
  let i := dcStep x.set.dcStage x.set.dck held x.dc.1 w.1
  let q := dcStep x.set.dcStage x.set.dck held x.dc.2 w.2
  let si := satWord i.2
  let sq := satWord q.2
  let x1 := ({ x with dc := (i.1, q.1) }).saturate (si.2 || sq.2)
  let y : Int × Int := match x.glc.applied with
    | some g =>
      let l := x.leakage k
      (gainWord g si.1 - l.1, gainWord g sq.1 - l.2)
    | none => (0, 0)
  let z := x1.rampWord y
  { z.1 with out := (z.2 :: x.out).take historyLen }

/-- The word of a fade from the old filter's word and the new one's, and the fade after it: the old filter's while the new one
fills, then crossing over the fade length, then the new one's (R103). The fade length counts samples of the slower profile. -/
def Fade.mix (f : Fade) (len rate : Nat) (old new : Int × Int) : Fade × (Int × Int) :=
  let n := len * rate / min rate f.rate
  if 0 < f.fill then ({ f with fill := f.fill - 1 }, old)
  else if f.ended || decide (n ≤ f.place) then (f, new)
  else ({ f with place := f.place + 1 }, (Config.fadeWord f.place n old.1 new.1, Config.fadeWord f.place n old.2 new.2))

/-- The channel's word of the two filters' words (R103). -/
def Slot.fadeWords (x : Slot) (old new : Int × Int) : Slot × (Int × Int) :=
  match x.fade with
  | none => (x, new)
  | some f =>
    let r := f.mix x.set.fadeLen x.set.prof.rate old new
    ({ x with fade := some r.1 }, r.2)

/-- One sample of the channel filter, `old` being that of the old filter of a fade: accumulators become 20-bit words, rounded half
to even and saturated (R100, R101), and go on through the resampler and the path (R92). -/
def Slot.passSample (x : Slot) (k : Nat) (held : Bool) (old acc : Int × Int) : Slot :=
  let i := shrinkWord 28 20 acc.1
  let q := shrinkWord 28 20 acc.2
  let oi := shrinkWord 28 20 old.1
  let oq := shrinkWord 28 20 old.2
  let f := (x.saturate (i.2 || q.2 || oi.2 || oq.2)).fadeWords (oi.1, oq.1) (i.1, q.1)
  let r := f.1.resampled f.2
  r.1.passWord k held r.2

/-- The samples of a round pass: each with the old filter's word that stands at its instant (R103; which of that filter's words,
where the two rates differ, is DESIGN CHOICE, log 51). -/
def Slot.passCut (x : Slot) (k : Nat) (held : Bool) (c : ChannelCut) : Slot :=
  let old : Nat → Int × Int := fun i =>
    match x.fade with
    | some f => (c.old[i * f.rate / x.set.prof.rate]?).getD (0, 0)
    | none => (0, 0)
  (c.acc.foldl (fun (y : Slot × Nat) a => (y.1.passSample k held (old y.2) a, y.2 + 1)) (x, 0)).1

/-- What the channel filter delivered of one channel over a round passes through the engine; a saturation sets SAT (R14, R15, R101). The
output of a channel left unmuted in a retune is free (case 6 of R301). -/
def State.carryCut (s : State) (c : ChannelCut) : State :=
  let x := s.slot c.slot
  if x.live && x.set.rxPort.isSome then
    let x1 := x.passCut c.slot.val (s.dcHeld x) c
    let n := if x.outFree = 0 then 0 else c.acc.length
    let word : Nat → Int := fun i => ((s.freeAt i).setWidth 20).toInt
    let words := (List.range n).map fun i => (word (2 * i), word (2 * i + 1))
    let s1 := (s.setSlot c.slot { x1 with out := words ++ x1.out.drop n }).useFree (2 * n)
    if x.glc.csSat < x1.glc.csSat then { s1 with rad := { s1.rad with sat := true } } else s1
  else s

end Sys2Proof.Machine
end

