-- ==== Sys2Proof/Machine/Lanes.lean ====
section
/-! DEFINITION. Trunk lanes inside the node: their rates and delays, the blocks and stamps, the samples that wait for their
instants, the contributions of uplink channels, and the lanes that begin here (R92, R96, R225 to R243). -/

namespace Sys2Proof.Machine

/-! Rates and delays (R96, R229, R233, R234, R239). -/

/-- The frame divisor of R229: the largest power of two up to 256 for which p × 327.68 ns ≤ 3 Ts, else 1. -/
def laneDivisor (rate : Nat) : Nat :=
  match [256, 128, 64, 32, 16, 8, 4, 2].find? (fun p => decide (p * 32768 * rate ≤ 300000000000)) with
  | some p => p
  | none => 1

/-- The position count of R229: the least that carries the channel rate and one stamp in 257 blocks. -/
def laneCount (rate : Nat) : Nat :=
  (rate * 257 * laneDivisor rate * 32768 + 76799999999999) / 76800000000000

/-- `n` sample periods of a profile, in ps. -/
def Profile.periods (p : Profile) (n : Nat) : Nat := n * 10 ^ 12 / p.rate

/-- Half the group delay of R88, in ps. -/
def Profile.halfDelay (p : Profile) : Nat := p.delay * 500

/-- The packing allowance Q of R229, in ps. -/
def Profile.packing (p : Profile) : Nat := p.periods 3 + laneDivisor p.rate * 327680

/-- What follows the longest path until the antenna: the receive stage, half the group delay, 0.125 µs, ALIGN and the transmit
half, in ps (R234, R239). -/
def Profile.tail (p : Profile) : Nat := 100000 + p.halfDelay + 125000 + 1166000 + 470000

/-- D_req of a DL member over a path of `path` ps, in ED cycles (R234). -/
def Profile.required (p : Profile) (path : Nat) : Nat := psCycles (p.packing + path + p.tail)

/-- U0 of R239, in ps. -/
def Profile.uplinkStart (p : Profile) : Nat := 410000 + 125000 + p.halfDelay + 1166000 + 100000 + p.periods 16

/-- D_U of a lane whose longest arrival path is `path` ps, in ED cycles (R239). -/
def Profile.uplinkDelay (p : Profile) (path : Nat) : Nat := psCycles (p.uplinkStart + p.packing + path + p.tail)

/-- D_arr of a copy over a path of `path` ps, in ED cycles (R233). -/
def Profile.arrival (p : Profile) (path : Nat) : Nat := psCycles (p.packing + path + 100000)

/-- A channel's release offset or ALIGN in ED cycles (R93). -/
def releaseOffset (k : Nat) (c : Settings) : Nat := if c.filt.align then 1146 else k * 6

/-- S_loc in ED cycles: half the group delay, 0.125 µs and the transmit half of 0.47 µs, and the release offset or ALIGN
(R47, R93, R233). -/
def synthDelay (k : Nat) (c : Settings) : Nat := psCycles (c.prof.halfDelay + 125000 + 470000) + releaseOffset k c

/-- The receive half, the analysis part and the release point of a channel that feeds a lane, in ED cycles (R47, R96). -/
def analysisDelay (k : Nat) (c : Settings) : Nat := psCycles (410000 + 125000 + c.prof.halfDelay) + releaseOffset k c

/-- The alignment delay A = D_L − D_arr − S_loc of a copy over a path of `path` ps (R233). -/
def alignDelay (k : Nat) (x : Slot) (path : Nat) : Int :=
  (x.trunk.dL : Int) - x.set.prof.arrival path - synthDelay k x.set

/-- A delay in ED cycles as 1/65,536 of a sample (R233). -/
def alignParts (p : Profile) (a : Int) : Int := a * 65536 * p.rate / 983040000

/-- Fabric time in ps. -/
def State.fabPs (s : State) : Nat := s.clk.fab * 1000 / 65536

/-- A span of ED cycles in ps. -/
def cyclesPs (n : Nat) : Nat := n * 10 ^ 8 / 98304

/-- TA(n) of a grid that starts at `ta0` ns, in ps (R238). -/
def gridAt (p : Profile) (ta0 n : Nat) : Nat := ta0 * 1000 + p.periods n

/-- The number of the last grid sample up to `now` ps (R238). -/
def gridFloor (p : Profile) (ta0 now : Nat) : Nat := (now - ta0 * 1000) * p.rate / 10 ^ 12

/-- The grid sample nearest to `now` ps of which `n` gives the last 24 bits: lanes number their samples modulo 2^24 (R228, R238). -/
def gridNum (p : Profile) (ta0 now n : Nat) : Nat :=
  let g := gridFloor p ta0 now
  let d := (n + 2 ^ 24 - g % 2 ^ 24) % 2 ^ 24
  if d < 2 ^ 23 then g + d else g + d - 2 ^ 24

/-- The number of the first grid sample from `now` ps on, and how far before it `now` lies in 1/65,536 of a sample: the
contributor's fractional delay (R92, R238). -/
def gridFrom (p : Profile) (ta0 now : Nat) : Nat × Nat :=
  let t := (now - ta0 * 1000) * p.rate
  let n := (t + (10 ^ 12 - 1)) / 10 ^ 12
  (n, (n * 10 ^ 12 - t) * 65536 / 10 ^ 12)

/-! Blocks (R227, R228, R241). -/

/-- Lane full scale: the largest value of type 10 (R227). -/
def laneMax : Int := 523264

/-- The least value of type 10 (R227). -/
def laneMin : Int := -524288

/-- The three samples of a block; a zero block spells zeros (R227). -/
def decodeBlock (b : BitVec 64) : List LaneSample :=
  let w := b.toNat
  let t := fieldN w 63 60
  (List.range 3).map fun i =>
    let f := w / 2 ^ (20 * i)
    if t ≤ 10 then { i := signedN 10 f * 2 ^ t, q := signedN 10 (f / 1024) * 2 ^ t } else { i := 0, q := 0 }

/-- The mantissa fits 10 bits. -/
def fits10 (x : Int) : Bool := decide (-512 ≤ x) && decide (x ≤ 511)

/-- Every mantissa of the samples fits at type `t`, each rounded under R100. -/
def typeFits (l : List LaneSample) (t : Nat) : Bool :=
  l.all fun x => fits10 (roundHalfEven x.i t) && fits10 (roundHalfEven x.q t)

/-- A mantissa at type `t`: a value beyond type 10 saturates (R100, R101). -/
def mantissa (t : Nat) (x : Int) : Nat := toUnsignedN 10 (clampInt (roundHalfEven x t) (-512) 511)

/-- A block of three samples: the smallest type for which all mantissas fit (R227), type 10 where a value lies beyond it. -/
def encodeBlock (l : List LaneSample) : BitVec 64 :=
  let t := ((List.range 11).find? fun t => typeFits (l.take 3) t).getD 10
  let m : LaneSample → Nat := fun x => mantissa t x.i + mantissa t x.q * 1024
  BitVec.ofNat 64 (t * 2 ^ 60 + bytesOfSamples m (l.take 3))
where
  /-- The samples packed in time order, the first lowest. -/
  bytesOfSamples (m : LaneSample → Nat) : List LaneSample → Nat
    | [] => 0
    | x :: xs => m x + 2 ^ 20 * bytesOfSamples m xs

/-- A stamp block: SNUM and TREF in ns (R228). -/
def stampBlock (num tref : Nat) : BitVec 64 := BitVec.ofNat 64 (14 * 2 ^ 60 + tref % 2 ^ 36 * 2 ^ 24 + num % 2 ^ 24)

/-- A rail sum saturates to the largest value of its sign (R241). -/
def satRail (x : Int) : Int := clampInt x laneMin laneMax

/-- Two blocks' samples added, rail by rail. -/
def addSamples : List LaneSample → List LaneSample → List LaneSample
  | a :: as, b :: bs => { i := a.i + b.i, q := a.q + b.q } :: addSamples as bs
  | as, [] => as
  | [], bs => bs

/-- Some rail of the samples lies beyond lane full scale (R241). -/
def overScale (l : List LaneSample) : Bool := l.any fun x => decide (satRail x.i ≠ x.i) || decide (satRail x.q ≠ x.q)

/-- The samples saturated. -/
def satSamples (l : List LaneSample) : List LaneSample := l.map fun x => { i := satRail x.i, q := satRail x.q }

/-- A sum beyond lane full scale sets SAT (R241, R523). -/
def State.laneSat (s : State) (full : Bool) : State :=
  if full then ({ s with rad := { s.rad with tSat := true } }).linePulse 9 0x5A else s

/-- A block of number `n` is not behind number `m`, both modulo 2^24: it has not been taken yet (R232). -/
def notBehind (n m : Nat) : Bool := decide ((n + 2 ^ 24 - m % 2 ^ 24) % 2 ^ 24 < 2 ^ 23)

/-- The number of the block after number `n`. -/
def nextBlock (n : Nat) : Nat := (n + 3) % 2 ^ 24

/-! Lanes on the links. -/

/-- The lane that arrives by lane slot `i` of link `l` (R198). -/
def State.laneIn (s : State) (l : ChainId) (i : Nat) : Option Lane := s.links[chainLink l].lanesIn.find? fun a => a.slot = i

/-- The lane with key `key` as the link sends it. -/
def Link.laneTo (x : Link) (key : Nat) : Option Lane :=
  if x.carries then x.lanesOut.find? fun a => laneKey a.node a.chan = key else none

/-- The lane with key `key` arrives on the link. -/
def Link.laneFrom (x : Link) (key : Nat) : Bool := x.carries && x.lanesIn.any fun a => laneKey a.node a.chan = key

/-- A lane slot of which nothing has been sent. -/
def LaneOut.initial : LaneOut := { next := 0, count := none, kept := [] }

/-- What is held of lane slot `i` as the link sends it. -/
def Link.outOf (x : Link) (i : Nat) : LaneOut := tblGet LaneOut.initial i x.outs

/-- The link's fibre delay in ps: the mean of the link delay over the last 1,024 exchanges, 0 before the first; its rounding is
DESIGN CHOICE, log 37 (R253). -/
def Link.fibre (x : Link) : Nat := x.delays.sum.toNat * 125 / (2 * max 1 x.delays.length)

/-- How long the node keeps each UL block it sends, in ED cycles: 2 µs and twice the link's fibre delay (R240). -/
def Link.keepSpan (x : Link) : Nat := 1966 + psCycles (2 * x.fibre)

/-- A block leaves by lane `a` of the link (R228, R232, R240). -/
def Link.sendBlock (x : Link) (a : Lane) (now : Nat) (b : BitVec 64) : Link :=
  let o := x.outOf a.slot
  let stamp := decide (fieldN b.toNat 63 60 = 14)
  let span := if a.uplink then x.keepSpan else 0
  let sent : LaneOut :=
    { next := if stamp then fieldN b.toNat 23 0 else nextBlock o.next
      count := if stamp then some 0 else o.count.map fun n => n + 1
      kept := (now, b) :: o.kept.filter fun e => decide (now < e.1 + span) }
  { x with outs := tblPut a.slot sent x.outs }

/-- A block of a lane that begins at this node leaves, behind a stamp where one is due: the first block of the lane and every 256th
(R228). -/
def Link.startBlock (x : Link) (a : Lane) (now num tref : Nat) (xs : List LaneSample) : Link :=
  let due : Bool := match (x.outOf a.slot).count with | none => true | some n => decide (255 ≤ n)
  let x1 := if due then x.sendBlock a now (stampBlock num tref) else x
  x1.sendBlock a now (encodeBlock xs)

/-- Lane `key` is sent on by the links that `pick` chooses. -/
def State.sendLane (s : State) (key : Nat) (pick : ChainId → Lane → Bool) (f : Link → Lane → Link) : State :=
  (List.finRange 3).foldl (fun s m =>
    match s.links[chainLink m].laneTo key with
    | some a => if pick m a then s.mapLink (chainLink m) fun x => f x a else s
    | none => s) s

/-! Samples that wait for their instants (R233, R239). -/

/-- The delay in force moves toward D_L − S_loc by 1/65,536 of a sample at most, for each sample (R233). -/
def Trunk.slewAlign (t : Trunk) (p : Profile) : Trunk :=
  { t with alignNow := t.alignNow + clampInt (alignParts p t.rel - t.alignNow) (-1) 1 }

/-- A sample of a lane-fed channel passes on: through the resampler, at the delay in force, and the channel; such a channel has no DC
estimate of a receive port to freeze (R16, R92, R99, R233). -/
def Slot.passLane (x : Slot) (k : Nat) (e : LaneSample) : Slot :=
  let r := x.resampled (e.i, e.q)
  ({ r.1 with trunk := r.1.trunk.slewAlign x.set.prof }).passWord k false r.2

/-- The samples of a lane-fed channel whose instants have come pass on. -/
def Slot.release (x : Slot) (k now : Nat) : Slot :=
  let go := x.trunk.fifo.filter fun e => decide (e.1 ≤ now)
  go.foldl (fun y e => y.passLane k e.2) { x with trunk := { x.trunk with fifo := x.trunk.fifo.filter fun e => decide (now < e.1) } }

/-- Every lane-fed channel releases what is due. -/
def State.releaseLanes (s : State) : State :=
  let go : Nat → Slot → Slot := fun k x => if x.live && x.set.rxPort.isNone then x.release k s.clk.ed else x
  { s with rad := { s.rad with slots := tblMap go s.rad.slots } }

/-! What a DL member takes (R228, R232, R233, R236). -/

/-- The instant of sample `n` in ps by a lane's last stamp, at the rate of the samples between its stamps (R228, R232). -/
def Trunk.refPs (t : Trunk) (p : Profile) (n : Nat) : Int :=
  let d := signedN 24 ((n + 2 ^ 24 - t.snum % 2 ^ 24) % 2 ^ 24)
  (t.tref : Int) * 1000 + (if t.ratio.2 = 0 then d * 10 ^ 12 / p.rate else d * t.ratio.1 * 1000 / t.ratio.2)

/-- The ED cycle at which sample `n` of a DL lane is released: TREF(n) and the whole samples of the delay in force, whose fraction
the resampler holds; one that comes too late goes at once (R233). TREF is known modulo 2^36 ns (R228). -/
def State.releaseAt (s : State) (t : Trunk) (p : Profile) (n : Nat) : Nat :=
  let d := (t.refPs p n + t.alignNow / 65536 * 10 ^ 12 / p.rate - s.fabPs) % 68719476736000
  s.clk.ed + (if 2 * d < 68719476736000 then d.toNat * 98304 / 10 ^ 8 else 0)

/-- Samples from number `n` on with the instants at which they pass on, `due` of each. -/
def dueSamples (due : Nat → Nat) : Nat → List LaneSample → List (Nat × LaneSample)
  | _, [] => []
  | n, x :: xs => (due n, x) :: dueSamples due (n + 1) xs

/-- A DL member takes a block, each sample until its instant; under descriptor 0x2 it takes zeros (R233, R236). -/
def State.takeDl (s : State) (k : Nat) (via : Option ChainId) (n : Nat) (xs : List LaneSample) : State :=
  let x := s.slot k
  let ys := if x.trunk.desc = 2 then xs.map fun _ => { i := 0, q := 0 } else xs
  s.setSlot k { x with trunk := { x.trunk with
      next := some (nextBlock n), via := via, last := ys
      fifo := x.trunk.fifo ++ dueSamples (s.releaseAt x.trunk x.set.prof) n ys } }

/-- The slots whose channels take lane `key`: DL members and the anchor of an UL lane (R224). -/
def State.takers (s : State) (key : Nat) : List Nat :=
  (s.rad.slots.filter fun x =>
    x.2.live && (x.2.set.dlMember || x.2.set.sink) && decide (s.laneOf x.1 x.2.set = key)).map (·.1)

/-- The slots whose channels are DL members of lane `key`. -/
def State.members (s : State) (key : Nat) : List Nat := (s.takers key).filter fun k => (s.slot k).set.dlMember

/-- The alignment of the DL member in slot `k` is set anew for a copy over a path of `path` ps (R233), to a free value while the
timing of trunk channels is undefined (case 9 of R301). What is measured from TREF does not move with the copy. -/
def State.realign (s : State) (k path : Nat) : State :=
  let x := s.slot k
  let a := if s.rad.laneTimingFree then ((s.freeAt 0).setWidth 32).toInt else alignDelay k x path
  let rel := a + x.set.prof.arrival path
  (if s.rad.laneTimingFree then s.useFree 1 else s).setSlot k
    { x with trunk := { x.trunk with
        align := a, rel := rel, alignNow := if x.trunk.next.isNone then alignParts x.set.prof rel else x.trunk.alignNow } }

/-- A stamp is known: the resampler of a member follows the anchor's rate, the span in ns and the count of samples between two
stamps (R92, R228, R232). -/
def Trunk.stamp (t : Trunk) (num tref now : Nat) : Trunk :=
  { t with
    stamped := true, stampAt := if t.stamped then t.stampAt else now, snum := num, tref := tref
    next := some (t.next.getD num)
    ratio := if t.stamped && decide (num ≠ t.snum) then
        ((tref + 2 ^ 36 - t.tref % 2 ^ 36) % 2 ^ 36, (num + 2 ^ 24 - t.snum % 2 ^ 24) % 2 ^ 24)
      else t.ratio }

/-- A DL member follows its lane's descriptor: at 0x3 the donor is lost at the anchor, until the descriptor is 0x1 again; a valid
descriptor after none counts from now (R236). -/
def Trunk.follow (t : Trunk) (code : BitVec 4) (now : Nat) : Trunk :=
  { t with
    desc := code
    stampAt := if t.desc = 0 && code ≠ 0 then now else t.stampAt
    donorLost := if code = 3 then true else if code = 1 then false else t.donorLost }

/-- The DL member in slot `k` follows its lane's descriptor (R236). -/
def State.followOn (s : State) (k : Nat) (code : BitVec 4) : State :=
  (s.mapSlot k fun x => { x with trunk := x.trunk.follow code s.clk.ed }).trkMute k

/-- A block of a DL lane that begins at this node reaches the members here, over no path at all (R224, R232). -/
def State.takeHere (s : State) (key num tref : Nat) (xs : List LaneSample) : State :=
  (s.members key).foldl (fun s k =>
    let first := !(s.slot k).trunk.stamped
    let s1 := if first then s.realign k 0 else s
    let s2 := if first then s1.mapSlot k fun x => { x with trunk := x.trunk.stamp num tref s.clk.ed } else s1
    (s2.memberCheck k).takeDl k none num xs) s

/-! The channel's own samples (R238, R242). -/

/-- How many of its own samples a channel keeps for its lane. -/
def ownLen : Nat := 8192

/-- One more sample of the channel's own. -/
def Trunk.putOwn (t : Trunk) (y : Int × Int) : Trunk :=
  let n := t.ownNext.getD 0
  { t with own := ((n, { i := y.1, q := y.2 }) :: t.own).take ownLen, ownNext := some (n + 1) }

/-- A contributor's samples begin on the lane's grid: the number of the first one and the fractional delay that puts it there, both by
the instants at the connector; the round's `n` samples end their analysis with the boundary (R92, R96, R238). -/
def State.startGrid (s : State) (k n : Nat) : State :=
  let x := s.slot k
  if x.live && x.set.contributor && x.trunk.ownNext.isNone then
    let p := x.set.prof
    let g := gridFrom p x.trunk.ta0 (s.fabPs - p.periods n - (535000 + p.halfDelay))
    s.setSlot k { x with trunk := { x.trunk with ownNext := some g.1, window := g.1, frac := g.2 } }
  else s

/-- The last `n` outputs of a channel that feeds a lane become samples of the lane, an UL lane's on the grid (R224, R238). -/
def State.feedLane (s : State) (k n : Nat) : State :=
  let x := s.slot k
  if x.live && (x.set.contributor || x.set.source) then
    s.setSlot k { x with trunk := (x.out.take n).reverse.foldl (fun t y => t.putOwn y) x.trunk }
  else s

/-- The samples of the round that ends pass, each channel's under the gain that stood during it; those of channels that feed a
lane become the lane's. -/
def State.carryCuts (s : State) (cs : List ChannelCut) : State :=
  cs.foldl (fun s c => ((s.startGrid c.slot c.acc.length).carryCut c).feedLane c.slot c.acc.length) s

/-- A rail at a place of the gate's ramp (R242). -/
def rampRail (step : Nat) (v : Int) : Int := if step = 0 then v else if 17 ≤ step then 0 else Config.gateRamp step v

/-- The place of sample `n` on the ramp of the channel's gate: full while it is open, closed before it has ever opened (R242). -/
def Trunk.placeAt (t : Trunk) (gate : Bool) (n : Nat) : Nat :=
  if !gate then 0
  else
    match t.gates.find? fun e => decide (e.1 ≤ n) with
    | some e => if e.2 = 0 then 0 else min 17 (e.2 + (n - e.1))
    | none => 17

/-- The channel's own sample of number `n` modulo 2^24. -/
def Trunk.ownOf (t : Trunk) (n : Nat) : Option (Nat × LaneSample) := t.own.find? fun e => decide (e.1 % 2 ^ 24 = n % 2 ^ 24)

/-- What the channel adds to the lane's sample `n`: its own, at its place on the gate's ramp, zero where it has none. -/
def Slot.ownAt (x : Slot) (n : Nat) : LaneSample :=
  match x.trunk.ownOf n with
  | some e =>
    let p := x.trunk.placeAt x.set.trunk.gate e.1
    { i := rampRail p e.2.i, q := rampRail p e.2.q }
  | none => { i := 0, q := 0 }

/-- The three samples from number `n` on. -/
def Slot.ownBlock (x : Slot) (n : Nat) : List LaneSample := [x.ownAt n, x.ownAt (n + 1), x.ownAt (n + 2)]

/-- The gate lets the channel add to some sample of the block of number `n` (R241, R242). -/
def Slot.addsTo (x : Slot) (n : Nat) : Bool :=
  (List.range 3).any fun i =>
    match x.trunk.ownOf (n + i) with
    | some e => decide (x.trunk.placeAt x.set.trunk.gate e.1 < 17)
    | none => false

/-- The contributors at this node to the block of number `n` of lane `key` whose gates let them add (R238, R243). -/
def State.adders (s : State) (key n : Nat) : List Slot :=
  (s.rad.slots.filter fun x =>
    x.2.live && x.2.set.contributor && decide (s.laneOf x.1 x.2.set = key) && !s.gateHeld x.2 && x.2.addsTo n).map (·.2)

/-- The branches of lane `key` that have gathered for the block of number `n` (R238). -/
def State.branchSum (s : State) (key n : Nat) : List LaneSample :=
  match (tblGet [] key s.fab.sums).find? fun e => e.num = n with
  | some e => e.sum
  | none => []

/-- What this node adds to the block of number `n` of an UL lane: its contributors' samples and the branches (R238). -/
def State.additions (s : State) (key n : Nat) : List LaneSample :=
  ((s.adders key n).map fun x => x.ownBlock n).foldl addSamples (s.branchSum key n)

/-- Nothing is added: the block passes bit for bit (R241). -/
def State.addsNothing (s : State) (key n : Nat) : Bool := (s.adders key n).isEmpty && (s.branchSum key n).isEmpty

/-! Lanes that begin here (R224, R228, R231, R238 to R240). -/

/-- The descriptor of a DL lane that the channel anchors: donor lost, radiating, or not (R231). -/
def Slot.anchorDesc (x : Slot) : BitVec 4 :=
  if x.mutes.dloss then 3 else if x.radiating && x.glc.applied.isSome then 1 else 2

/-- The anchor of a DL lane sends its samples in blocks of three, to the members at its own node too (R224, R227, R232). TREF is the
instant at which the sample left the channel filter at its release point (R96): the round's samples end with the boundary and the
release offset. -/
def State.sourceLane (s : State) (k : Nat) : State :=
  let x := s.slot k
  if x.live && x.set.source then
    let key := s.laneOf k x.set
    let n := x.trunk.own.length
    let s0 := (s.members key).foldl (fun s m => if (s.slot m).trunk.desc = x.anchorDesc then s else s.followOn m x.anchorDesc) s
    let s1 := (List.range (n / 3)).foldl (fun s j =>
      let xs := ((x.trunk.own.reverse.drop (3 * j)).take 3).map (·.2)
      let num := (x.trunk.ownNext.getD 0) - n + 3 * j
      let tref := (s.fabPs + cyclesPs (releaseOffset k x.set) - x.set.prof.periods (n - 3 * j)) / 1000
      (s.takeHere key (num % 2 ^ 24) (tref % 2 ^ 36) xs).sendLane key (fun _ _ => true) fun y a => y.startBlock a s.clk.ed num tref xs) s0
    s1.mapSlot k fun x => { x with trunk := { x.trunk with own := x.trunk.own.take (n % 3) } }
  else s

/-- The lane leaves the ring at this node toward its anchor, or ends here: its copies start here (R240). -/
def State.ringHome (s : State) (key : Nat) : Bool :=
  (s.rad.slots.any fun x => x.2.live && x.2.set.sink && decide (s.laneOf x.1 x.2.set = key))
    || (List.finRange 3).any fun m => !s.links[chainLink m].ring && (s.links[chainLink m].laneTo key).isSome

/-- An UL lane begins at this node on link `l`: no branch of it arrives, or its copies start here (R238, R240). -/
def State.startsHere (s : State) (key : Nat) (l : ChainId) : Bool :=
  if s.links[chainLink l].ring then s.ringHome key
  else !((List.finRange 3).any fun m => decide (m ≠ l) && s.links[chainLink m].laneFrom key)
    && !((List.finRange 3).any fun m => s.links[chainLink m].ring && s.links[chainLink m].laneFrom key)

/-- The next block of a lane that begins here: after the one before, or, of a lane of which nothing has been sent, the last whose
instant has come (R228, R239). -/
def nextStart (p : Profile) (ta0 join now : Nat) (sent : Option Nat) : Nat :=
  match sent with
  | some n => gridNum p ta0 now n
  | none => gridFloor p ta0 (now - p.uplinkStart - join)

/-- The blocks of an UL lane that begins here, from the next one on, whose instants TA(n) + U0 + B have come (R239). -/
def startLane (a : Lane) (l : ChainId) : Nat → State → State
  | 0, s => s
  | fuel + 1, s =>
    let p := profileOf a.profile.toNat
    let o := s.links[chainLink l].outOf a.slot
    let n := nextStart p a.ta0 a.join s.fabPs (o.count.map fun _ => o.next)
    if gridAt p a.ta0 n + p.uplinkStart + a.join ≤ s.fabPs then
      let sum := s.additions (laneKey a.node a.chan) n
      let xs := addSamples [⟨0, 0⟩, ⟨0, 0⟩, ⟨0, 0⟩] sum
      startLane a l fuel
        ((s.mapLink (chainLink l) fun x =>
          x.startBlock a s.clk.ed n (gridAt p a.ta0 n / 1000) (satSamples xs)).laneSat (overScale xs))
    else s

/-- Every UL lane that begins here goes on: 64 blocks are more than a round carries (R239). -/
def State.startLanes (s : State) : State :=
  (List.finRange 3).foldl (fun s l =>
    if s.links[chainLink l].carries then
      (s.links[chainLink l].lanesOut.filter fun a => a.uplink && !a.returned).foldl (fun s a =>
        if s.startsHere (laneKey a.node a.chan) l then startLane a l 64 s else s) s
    else s) s

/-! Lanes that end here (R238 to R240). -/

/-- The UL lane that ends here. -/
def State.home (s : State) (key : Nat) : LaneHome := tblGet { next := none, half := [], retn := 0 } key s.fab.homes

/-- The anchor of an UL lane takes the block of number `n`: sample n leaves at TA(n) + D_U (R239). -/
def State.sinkTake (s : State) (k n : Nat) (xs : List LaneSample) : State :=
  let x := s.slot k
  let p := x.set.prof
  let due : Nat → Nat := fun i =>
    s.clk.ed + s.cyclesTo (gridAt p x.trunk.ta0 (gridNum p x.trunk.ta0 s.fabPs i) / 1000) + x.trunk.dReq - synthDelay k x.set
  s.setSlot k { x with trunk := { x.trunk with
      next := some (nextBlock n), last := xs, fifo := x.trunk.fifo ++ dueSamples due n xs } }

/-- The block of number `n` of UL lane `key` is complete here: the anchor takes it, or it goes on toward the anchor (R238, R240). -/
def State.deliverUl (s : State) (key n : Nat) (xs : List LaneSample) : State :=
  let s1 := s.laneSat (overScale xs)
  let ys := satSamples xs
  let s2 := ((s1.takers key).filter fun k => (s1.slot k).set.sink).foldl (fun s k => s.sinkTake k n ys) s1
  s2.sendLane key (fun m _ => !s2.links[chainLink m].ring) fun x a => x.sendBlock a s2.clk.ed (encodeBlock ys)

/-- The blocks of an UL lane that begins and ends at its anchor's node, whose contributors here have no branch to join, as their
instants come (R238, R239). -/
def startHome (k key : Nat) : Nat → State → State
  | 0, s => s
  | fuel + 1, s =>
    let x := s.slot k
    let p := x.set.prof
    let n := nextStart p x.trunk.ta0 x.trunk.join s.fabPs (s.home key).next
    if gridAt p x.trunk.ta0 n + p.uplinkStart + x.trunk.join ≤ s.fabPs then
      let s1 := { s with fab := { s.fab with homes := tblPut key { s.home key with next := some (nextBlock (n % 2 ^ 24)) } s.fab.homes } }
      startHome k key fuel (s1.deliverUl key (n % 2 ^ 24) (addSamples [⟨0, 0⟩, ⟨0, 0⟩, ⟨0, 0⟩] (s.additions key n)))
    else s

/-- Every UL lane that no link brings to its anchor here goes on, where a channel of this node contributes to it (R238). -/
def State.startHomes (s : State) : State :=
  (s.rad.slots.filter fun x => x.2.live && x.2.set.sink).foldl (fun s x =>
    let key := s.laneOf x.1 x.2.set
    let fed := s.rad.slots.any fun y => y.2.live && y.2.set.contributor && decide (s.laneOf y.1 y.2.set = key)
    let comes := (List.finRange 3).any fun m => s.links[chainLink m].laneFrom key
    if fed && !comes then startHome x.1 key 64 s else s) s

/-- The trunks' work at a round boundary: samples whose instants have come are released, and the lanes that begin here go on. -/
def State.laneRound (s : State) : State :=
  let s1 := s.releaseLanes
  (((s1.rad.slots.map (·.1)).foldl (fun s k => s.sourceLane k) s1).startLanes).startHomes

/-! The head's answer (R19, R21, R198, R207, R212, R225, R234, R340). -/

/-- The channel takes the delays and the grid of an answer: D_req, or D_U at the anchor of an UL lane, and of a contributor the D_U
that its place makes (R234, R238, R239, R244). -/
def Slot.answered (x : Slot) (c : Settings) (a : LaneAnswer) : Slot :=
  { x with trunk := { x.trunk with
      dReq := if c.sink then c.prof.uplinkDelay a.path else c.prof.required a.path
      dU := if c.contributor then c.prof.uplinkDelay a.path else 0
      dL := a.dL, ceil := a.ceil, ta0 := a.ta0, join := a.join
      own := if a.ta0 = x.trunk.ta0 then x.trunk.own else []
      ownNext := if a.ta0 = x.trunk.ta0 then x.trunk.ownNext else none } }

/-- The answer that reaches the channel in slot `k`: at the head the one it has formed itself (R198). -/
def State.answerFor (s : State) (k : Nat) (a : LaneAnswer) : LaneAnswer :=
  if s.fab.isHead then tblGet a (laneKey s.senderNode k) s.fab.answers else a

/-- The requests of the channel in slot `k` are answered. -/
def State.answerDone (s : State) (k : Nat) : State :=
  { s with fab := { s.fab with
      asks := s.fab.asks.filter fun q => !(q.slot.val = k && !q.leave)
      answers := tblDel (laneKey s.senderNode k) s.fab.answers } }

/-- A lane that cannot be mapped any more keeps its channel silent, and the cause is recorded (R212). -/
def State.laneGone (s : State) (k : Nat) : State :=
  let s1 := s.mapSlot k fun x => { x with trunk := { x.trunk with lost := true, stamped := false, desc := 0 } }
  (s1.trkMute k).log (0x1900 + (Config.eventCode 1).toNat) k 3 0

/-- Settings with another profile. -/
def Settings.withProfile (c : Settings) (p : BitVec 4) : Settings := { c with filt := { c.filt with profile := p } }

/-- The member in slot `k` follows its anchor to another profile: a cut at the next round boundary, of what waits for it too (R225;
without a test of the budgets, DESIGN CHOICE, log 36). -/
def State.followProfile (s : State) (k : Nat) (p : BitVec 4) : State :=
  let x := s.slot k
  let c := match x.req with | some r => r.set | none => x.set
  if x.live && c.member && decide (p.toNat < 14) && decide (p ≠ c.filt.profile) then
    let r : CommitReq := match x.req with
      | some r => { r with set := r.set.withProfile p, fade := false }
      | none => { set := c.withProfile p, fade := false, task := 512 }
    let s1 := s.mapSlot k fun x => { x with req := some r }
    { s1 with rad := { s1.rad with
        roundQ := if x.req.isSome then s1.rad.roundQ else s1.rad.roundQ ++ [RoundOp.commit k]
        plan := tblPut k r.set s1.rad.plan } }
  else s

/-- The lane's map is issued again by the head, or follows what its anchor has changed (R212, R225, R226, R234): the channel takes the
anchor's profile and the delays and is examined under R235, or stays silent where the lane is not mapped. -/
def State.laneAgain (s : State) (k : Nat) (a : LaneAnswer) : State :=
  let x := s.slot k
  if !(x.live && (x.set.member || x.set.anchor)) then s
  else if a.granted then
    let c := if x.set.member && decide (a.profile.toNat < 14) then x.set.withProfile a.profile else x.set
    ((s.setSlot k (x.answered c a)).followProfile k a.profile).memberCheck k
  else s.laneGone k

/-- The head's answer to the commit of task `t` on slot `k`, or its absence by the timeout: the channel takes the anchor's profile
(R225) and its delays (R234). A refused lane returns NO_BUDGET, behind the charter (R184, R340). -/
def State.commitAnswered (s : State) (k : Nat) (a : LaneAnswer) (t : Nat) (gd : Reg) (fade : Bool) : State :=
  let r0 := (s.slot k).request t fade
  let known := decide (a.profile.toNat < 14)
  let r := if r0.set.member && known then { r0 with set := r0.set.withProfile a.profile } else r0
  let code := s.commitCode k r
  if code = 1 && a.granted then
    ((s.commitAdmit t k r).mapSlot k fun x => x.answered r.set a).wake t gd 1
  else if code = 1 || (code = 3 && !a.granted) then (s.count 197).wakeRefuse t gd 3
  else (s.commitRefused k r code).wakeRefuse t gd code

/-- The next answer for slot `k` is that of a commit that was discarded or has timed out (R19, R340). -/
def State.dropsAnswer (s : State) (k : Nat) : Bool := s.rad.dropAns.any fun e => decide (e.1 = k) && decide (s.fabNs ≤ e.2)

/-- Such an answer has come. -/
def State.dropped (s : State) (k : Nat) : State :=
  match s.rad.dropAns.find? fun e => decide (e.1 = k) && decide (s.fabNs ≤ e.2) with
  | some e => { s with rad := { s.rad with dropAns := s.rad.dropAns.erase e } }
  | none => s

/-- The head's answer for the channel in slot `k`: dropped where the commit was discarded with its task (R19), of a commit that waits,
or of a lane issued again. -/
def State.laneResult (s0 : State) (k : Nat) (a0 : LaneAnswer) : State :=
  let a := s0.answerFor k a0
  let s := s0.answerDone k
  if s.dropsAnswer k then s.dropped k
  else
    match commitWaiter k s.cpu.tasks with
    | none => s.laneAgain k a
    | some (t, gd, fade) => s.commitAnswered k a t gd fade

/-- WATCH and an election hold the head's answer to a commit that waits; lanes that the head issues again are TRK's own and go on
(R21, R207). -/
def State.holdsAnswers (s : State) (k : Nat) : Bool :=
  (s.inWatch || s.fab.elect) && (commitWaiter k s.cpu.tasks).isSome

/-- Answers that WATCH or an election held take effect once neither stands. -/
def State.releaseAnswers (s : State) : State :=
  if s.inWatch || s.fab.elect then s
  else s.rad.laneAns.foldl (fun s e => s.laneResult e.1 e.2) { s with rad := { s.rad with laneAns := [] } }

/-- What the lack of an answer comes to (R340). -/
def noAnswer : LaneAnswer :=
  { granted := false, profile := 15, path := 0, dL := 0, ceil := 0, ta0 := 0, join := 0 }

/-- SW.FAB_TTO has passed for a commit of slot `k` that waits for the head (R340). -/
def State.answerLate (s : State) (k : Nat) : Bool :=
  s.cpu.tasks.any fun x => match x.2.st with
    | .waiting (.commit _ c _ due) => decide (c = k) && decide (due < s.fabNs)
    | _ => false

/-- A commit whose answer has not come within SW.FAB_TTO returns NO_BUDGET (R340); in WATCH it goes on waiting (R21). -/
def State.timeCommits (s : State) : State :=
  if s.inWatch then s
  else
    s.cpu.tasks.foldl (fun s x =>
      match x.2.st with
      | .waiting (.commit gd k f due) =>
        if decide (due < s.fabNs) && !(s.rad.laneAns.any fun e => e.1 = k) then (s.dropAsk k).commitAnswered k noAnswer x.1 gd f else s
      | _ => s) s

end Sys2Proof.Machine
end

