-- ==== Sys2Proof/Machine/Round.lean ====
section
/-! DEFINITION. The engine round boundary: fences, mutes and instructions in the order of R110, commits and their effect on
filter, model and estimate, table swaps, GLC's and the Gauntlet's work, and the ends of settling, fades and ramps. -/

namespace Sys2Proof.Machine

/-! The effect of a commit (R97, R102 to R106, R144, R160, R161). -/

/-- The stopband span of settings, in Hz × 2^32 (R185, R160). -/
def Settings.span (c : Settings) : Int × Int :=
  ((c.filt.centre : Int) * 491520000 - (c.prof.stop : Int) * 2 ^ 32,
   (c.filt.centre : Int) * 491520000 + (c.prof.stop : Int) * 2 ^ 32)

/-- Both settings use the same ports (R144, R160). -/
def samePorts (a b : Settings) : Bool := a.filt.rxSide = b.filt.rxSide && a.filt.txSide = b.filt.txSide

/-- The new span lies within the probed band (R144, R160). -/
def Fbc.holdsSpan (f : Fbc) (c : Settings) : Bool :=
  match f.band with
  | some (lo, hi) => decide (lo ≤ c.span.1) && decide (c.span.2 ≤ hi)
  | none => false

/-- A model cleared to zero taps, not valid (R144). -/
def Fbc.clearModel (f : Fbc) : Fbc := 
  { f with taps := [], valid := false, steps := 0, proof := 0, raw := 0, seed := none }

/-- A model seeded from the old one at a new channel rate: valid at once, its depth the old one's less 6 dB until 256
update steps; an old model that is not valid is cleared (R161). -/
def Fbc.seedModel (f : Fbc) (oldRate newRate : Nat) (d : Level) : Fbc :=
  if f.valid then
    let old := (List.range 48).map fun i => tblGet (0, 0) i f.taps
    let taps := if oldRate = newRate then f.taps
      else (List.range 48).map fun i => (i, Config.resampleTap old oldRate newRate i)
    { f with taps := taps, proof := 0, seed := some (min d (d - 7680)) }
  else f.clearModel

/-- The model and the estimate once settings `c` are committed over those of `x`; `cut` says that a filter setting
changes (R144, R160, R161). A change of WOFF is judged on the offset in force, so that a number equal to the AUTO value in force
does not clear the model; and turning CAN off keeps the raw depth and the valid flag of the model it stops, until CAN is turned
on again. Where a fade or a cut that keeps both ports also changes WOFF or leaves the probed band, R144 clears the model and R161
does not seed it (DESIGN CHOICE, log 17: the manual states none of the three). -/
def Slot.commitFbc (x : Slot) (c : Settings) (cut : Bool) : Fbc :=
  let f := x.fbc
  let x1 := { x with set := c }
  let keeps := samePorts c x.set && x.committed
  let clears := !keeps || (c.canc.can && !x.set.canc.can) || decide (x1.woff ≠ x.woff)
    || (decide (c.filt.centre ≠ x.set.filt.centre) && !f.holdsSpan c)
  let g := if clears then f.clearModel
    else if cut then f.seedModel x.set.prof.rate c.prof.rate x.depth
    else f
  if keeps && f.holdsSpan c then g else { g with iso := none, band := none }

/-- The fade that begins: the old filter stays, with its costs, until the new one is full and the outputs have crossed (R103). -/
def Slot.startFade (x : Slot) (c : Settings) : Fade :=
  { cfe := x.set.prof.cost, canc := x.set.canCost, rate := x.set.prof.rate, fill := c.prof.fillSamples, place := 0, ended := false }

/-- An accepted commit takes effect: as a fade, as a cut, or with no change of state (R97, R102, R103, R105). -/
def Slot.takeCommit (x : Slot) (r : CommitReq) (cover : Option Nat) : Slot :=
  let change := !x.committed || decide (r.set.filt ≠ x.set.filt) || !sameSides r.set x.set
  let fade := x.fades r && x.mayFade
  let first := !x.committed
  let fbc := x.commitFbc r.set change
  { x with
    committed := true
    set := r.set
    req := none
    fade := if fade then some (x.startFade r.set) else x.fade
    settling := x.settling || (change && !fade)
    fill := if change && !fade then r.set.prof.fillSamples else x.fill
    ramp := if change && !fade then 0 else x.ramp
    sats := 0
    fbc := fbc
    guard := { x.guard with cover := cover }
    glc := { x.glc with
      gateHold := false
      gLev := if first then tenths r.set.gain.gmin else x.glc.gLev
      gBrim := if first then tenths r.set.gain.gmin else x.glc.gBrim
      prevApplied := if first then some 0 else x.glc.prevApplied
      prevTrimmed := if first then false else x.glc.prevTrimmed } }

/-- The first control sample of a channel starts gated unless a control sample begins at the boundary of its commit (R119,
R133). -/
def Slot.startSamples (x : Slot) (first : Bool) (roundNo : Nat) : Slot :=
  if first then { x with glc := { x.glc with csGated := decide (roundNo % x.set.prof.m ≠ 0) } } else x

/-- The channel's offsets from the LOs of its ports (R91). -/
def State.placeOffsets (s : State) (x : Slot) : Slot :=
  { x with
    rxOff := match x.set.rxPort with | some p => loOffset x.set s.ports[p].tune.rxlo | none => 0
    txOff := match x.set.txPort with | some p => loOffset x.set s.ports[p].tune.txlo | none => 0 }

/-- The commit that waits on slot `k` takes effect; the channel's offsets are derived (R91), its model flag follows (R149), a
lane it used before is left (R224), and R235 is examined. -/
def State.effectCommit (s : State) (k : Nat) : State :=
  let x := s.slot k
  match x.req with
  | none => s
  | some r =>
    if x.phase = .owned ∨ x.phase = .freeing then
      let x1 := s.placeOffsets ((x.takeCommit r (s.coverOf r.set)).startSamples (!x.committed) s.roundNo)
      let moved := x.committed && (!sameSides x1.set x.set || decide (x1.set.filt.ul ≠ x.set.filt.ul))
      let s1 := (if moved then s.leaveLane k x.set else s).setSlot k x1
      ({ s1 with rad := { s1.rad with inval := s1.rad.inval || (x.fbc.valid && !x1.fbc.valid) } }).memberCheck k
    else s.setSlot k { x with req := none }

/-! Hardware at the boundary (R110, R171, R172, R175, R178). -/

/-- A channel that may be fenced or muted: committed and neither FREE nor HELD (R108). -/
def Slot.fenceable (x : Slot) : Bool := x.live

/-- The fence that hardware asked for on slot `k` takes effect (R171, R172): the causes are recorded together; a channel
that was not FENCED is counted against its slot unless the cause is ACLR alone, recorded, and its owner told. -/
def State.fenceSlot (s : State) (k : Nat) : State :=
  let x := s.slot k
  let req := x.guard.fenceReq
  if req = 0 then s
  else if !x.fenceable then s.mapSlot k fun x => { x with guard := { x.guard with fenceReq := 0 } }
  else
    let x0 := x.rampDown
    let s1 := s.setSlot k { x0 with guard := { x.guard with
      fenced := true, causes := x.guard.causes ||| req, fenceReq := 0
      aclrPort := if req.getLsbD 3 || x.guard.fenced then x.guard.aclrPort else none
      lastFence := if x.guard.fenced then x.guard.lastFence else s.clk.ed } }
    if x.guard.fenced then s1
    else
      let s2 := if req = 8 then s1 else s1.countFence (srcSlot k)
      let n := s2.inWindow ((s2.slot k).measSource k)
      let osc := req.getLsbD 1 || req.getLsbD 2
      let s3 := match x.set.txPort with
        | some p =>
          if osc then { s2 with cht := { s2.cht with
            oscFences := { at' := s.clk.ed, slot := k, gen := x.gen, port := p.val } :: s2.cht.oscFences } } else s2
        | none => s2
      (((s3.count 201).linePulse 6 0x40).log 0x1600 k (x.guard.causes ||| req).toNat n).chEvent k

/-- The ports whose channels are fenced by ACLR at this boundary: each counts once (R173, R175). -/
def State.aclrPorts (s : State) : List PortId :=
  (List.finRange 4).filter fun p =>
    s.rad.slots.any fun x => x.2.guard.fenceReq.getLsbD 3 && x.2.fenceable && !x.2.guard.fenced && x.2.guard.aclrPort = some p

/-- The hardware mutes that wait on slot `k` take effect (R108, R110). -/
def State.muteSlot (s : State) (k : Nat) : State :=
  let x := s.slot k
  if x.muteReq.any = false then s
  else if !x.fenceable then s.mapSlot k fun x => { x with muteReq := Mutes.none }
  else
    let g := if x.muteReq.nrise then x.glc.applied.getD 0 else x.guard.muteGain
    let x0 := x.rampDown
    (s.setSlot k { x0 with
      mutes := x.mutes.join x.muteReq, muteReq := Mutes.none
      guard := { x.guard with muteGain := g } }).chEvent k

/-- The mutes of resetting partitions (R110, R401). -/
def State.resetMutes (s : State) : State :=
  let mute : Nat → Slot → Slot := fun _ x =>
    if x.phase = .owned ∧ s.parts[x.owner].resetMuted then { x.rampDown with mutes := { x.mutes with reset := true } } else x
  { s with rad := { s.rad with slots := tblMap mute s.rad.slots } }

/-- The fences by OSC or OVR of the last 10 ms (R178). -/
def State.recentOsc (s : State) : List OscFence := s.cht.oscFences.filter fun e => decide (s.clk.ed ≤ e.at' + edMs 10)

/-- Two of the ports differ. -/
def spansTwo : List Nat → Bool
  | [] => false
  | p :: ps => ps.any fun q => q ≠ p

/-- Fences by OSC or OVR within 10 ms on channels whose transmit sides, as they stood at the fence, span two or more ports enter SILENCED
(R178); a channel freed since is not involved any more. -/
def State.silencedCheck (s : State) : State :=
  let recent := s.recentOsc
  let s1 := { s with cht := { s.cht with oscFences := recent } }
  if spansTwo (recent.map (·.port)) then
    s1.enterSilenced ((recent.filter fun e => (s.slot e.slot).gen = e.gen).map (·.slot))
  else s1

/-- A fence by OSC or OVR takes effect on the channel at this boundary. -/
def Slot.fencesOsc (x : Slot) : Bool :=
  x.fenceable && !x.guard.fenced && (x.guard.fenceReq.getLsbD 1 || x.guard.fenceReq.getLsbD 2) && x.set.txPort.isSome

/-- The fences by OSC or OVR that take effect now and those of the last 10 ms span two or more ports (R178). -/
def State.oscSpans (s : State) : Bool :=
  let now := (s.rad.slots.filter fun x => x.2.fencesOsc).filterMap fun x => x.2.set.txPort.map (·.val)
  spansTwo (now ++ s.recentOsc.map (·.port))

/-- Fences that bring the engine into SILENCED carry that cause beside their own in their records (R172, R178). -/
def State.joinSilenced (s : State) : State :=
  if s.pwr.mode.maySilence && s.oscSpans then
    let join : Nat → Slot → Slot := fun _ x =>
      if x.fencesOsc then { x with guard := { x.guard with fenceReq := x.guard.fenceReq ||| 0x100 } } else x
    { s with rad := { s.rad with slots := tblMap join s.rad.slots } }
  else s

/-- Fences and mutes by hardware, then the mutes of partition resets (R110). -/
def State.hardwareRound (s : State) : State :=
  let ks := s.rad.slots.map (·.1)
  let ps := s.aclrPorts
  let s1 := ks.foldl (fun s k => s.fenceSlot k) s.joinSilenced
  let s2 := ps.foldl (fun s p => s.countFence (srcPort p.val)) s1
  let s3 := ks.foldl (fun s k => s.muteSlot k) s2
  s3.resetMutes.silencedCheck

/-! Instructions at the boundary (R110, R341, R342). -/

/-- One operation of a program takes effect; an unmute or a re-arm issued in WATCH waits for its end (R177, R342). -/
def State.runRoundOp (s : State) (o : RoundOp) : State :=
  match o with
  | .commit k => s.effectCommit k
  | .mute k => s.mapSlot k fun x => { x.rampDown with mutes := { x.mutes with prog := true } }
  | .unmute k =>
    if s.inWatch then s.queueRound o
    else s.mapSlot k fun x => { x with mutes := { x.mutes with prog := false } }
  | .rearm k => if s.inWatch then s.queueRound o else s.doRearm k

/-- The operations that wait for the boundary take effect in issue order (R110). -/
def State.runRoundOps (s : State) : State :=
  let q := s.rad.roundQ
  q.foldl (fun s o => s.runRoundOp o) { s with rad := { s.rad with roundQ := [] } }

/-! Table swaps (R136, R147) and grants (R389). -/

/-- The pending swaps of a partition's tables take effect (R136, R147). -/
def Tables.swap (t : Tables) : Tables :=
  let g := (List.range 8).foldl
    (fun l i => if t.gPend.getLsbD i then tblPut i (tblGet GTab.initial i t.gShadow) l else l) t.gActive
  let f := (List.range 4).foldl
    (fun l i => if t.fPend.getLsbD i then tblPut i (tblGet [] i t.fShadow) l else l) t.fActive
  { t with gActive := g, fActive := f, gPend := 0, fPend := 0 }

/-- Swaps and the engine and canceller grants come into force (R136, R147, R389). -/
def State.partRound (s : State) : State :=
  { s with parts := Vector.ofFn fun p =>
      { s.parts[p] with
        tabs := s.parts[p].tabs.swap
        effEng := s.parts[p].grants.eng
        effCan := s.parts[p].grants.can } }

/-- The old filter of each fade that has ended is released (R103). -/
def State.releaseFades (s : State) : State :=
  let release : Nat → Slot → Slot := fun _ x =>
    match x.fade with
    | some f => if f.ended then { x with fade := none } else x
    | none => x
  { s with rad := { s.rad with slots := tblMap release s.rad.slots } }

/-! The Gauntlet at the boundary (R186). -/

/-- The centre, profile and transmit port in force agree with the slot's covering entitlement (R186). -/
def State.entitled (s : State) (x : Slot) : Bool :=
  match x.guard.cover with
  | some i =>
    match s.entitlements[i]? with
    | some e => decide (e.port = x.set.filt.txSide.toNat) && spanWithin x.set e.flo e.fhi
        && e.prof.getLsbD x.set.filt.profile.toNat
    | none => false
  | none => false

/-- GNT's comparison of slot `k`: a radiating slot that fails it is clamped to zero and fenced with cause 0x5 (R186). -/
def State.gntRound (s : State) (k : Nat) : State :=
  let x := s.slot k
  match x.set.txPort with
  | some p => if x.radiating && !s.entitled x then (s.askFence k 5).clamp p [k] else s
  | none => s

/-! The boundary. -/

/-- The ED clock at the next round boundary (R82). -/
def State.toBoundary (s : State) : State := s.advance (roundLen - s.roundPos)

/-- RFE switches every port to the PA bias table of the temperature band (R451). -/
def State.biasRound (s : State) : State := s.mapPorts fun q => { q with bias := s.ms.band }

/-- What WATCH held is carried out at the first round boundary after its end, in issue order (R342). -/
def State.releaseHeld (s : State) : State := if s.inWatch || s.dozing then s else s.runHeld

/-- The work of a round boundary in order (R14, R110, R129, R131, R136, R186, R451): the samples `cuts` of the round that ends
pass first; then the lanes go on. -/
def State.round (s : State) (disagree : List SlotId) (cuts : List ChannelCut) : State :=
  let s0 := (s.toBoundary.carryCuts cuts).laneRound
  let s1 := s0.foldRounds.releaseFades.partRound.biasRound.hardwareRound.runRoundOps
  let ks := s1.rad.slots.map (·.1)
  let s2 := ks.foldl (fun s k => s.glcRound k) s1
  let s3 := disagree.foldl (fun s k => s.gainDisagree k.val) s2
  (ks.foldl (fun s k => s.gntRound k) s3).trackFreeze.releaseAnswers.releaseHeld

/-- The filter engine processes rounds: the main clock is locked, from BOOT on (R74, R82). -/
def State.roundsRun (s : State) : Bool :=
  s.syn.mainLk && decide (s.pwr.mode ≠ .off) && decide (s.pwr.mode ≠ .reset)

/-- ENGINE_ROUND_BOUNDARY (R110). -/
def execEngineRoundBoundary (seen : RoundSeen) (s : State) : Out :=
  whenDo s.roundsRun s (s.round seen.disagree seen.cuts)

/-- The state at the next round boundary, its work done where the filter engine processes rounds: what a command that takes
effect at a round boundary finds there (R103, R110, log 53). -/
def State.nextBoundary (s : State) : State := if s.roundsRun then s.round [] [] else s.toBoundary

/-- Time passes by `n` cycles to the instant of a command that stands later than the next round boundary: that boundary's work is
done on the way, so that what waits for it takes effect; the sender sends the later ones as commands of their own (log 53). -/
def State.passTime (s : State) (n : Nat) : State :=
  let d := roundLen - s.roundPos
  if s.roundsRun && decide (d ≤ n) then (s.round [] []).advance (n - d) else s.advance n

/-- The filter is full and the ramp done, the channel's own or, while its output is held at zero, that of what it refills
(R97, R105). -/
def Slot.settled (x : Slot) : Slot :=
  { x with settling := false, fill := 0, ramp := if { x with fill := 0 }.opens then 16 else x.ramp }

/-- SETTLING_COMPLETE (R97): the filter is full and the ramp done. -/
def execSettlingComplete (slot : SlotId) (s : State) : Out :=
  whenDo ((s.slot slot).live && (s.slot slot).settling && !s.engineHeld) s
    ((s.mapSlot slot Slot.settled).trackFreeze)

/-- FADE_END (R103): the cross-fade ends; the old filter and its cost go at the next boundary. -/
def execFadeEnd (slot : SlotId) (s : State) : Out :=
  whenDo ((s.slot slot).fading && !s.engineHeld) s
    (s.mapSlot slot fun x => { x with fade := x.fade.map fun f => { f with ended := true } })

/-- MUTE_RAMP_COMPLETE (R108, R111): the output of a muted, fenced or freed channel has reached zero. -/
def execMuteRampComplete (slot : SlotId) (s : State) : Out :=
  let x := s.slot slot
  whenDo (!x.zero && !s.engineHeld && (x.mutes.any || x.guard.fenced || decide (x.phase = .freeing))) s
    (s.mapSlot slot fun x => { x with zero := true, ramp := 0 })

end Sys2Proof.Machine
end

