-- ==== Sys2Proof/Machine/Fbc.lean ====
section
/-! DEFINITION. The feedback canceller: adaptation, validity, isolation refresh, probes (R141 to R162). -/

namespace Sys2Proof.Machine

/-- The default entry of a step table: floor(16,384 · 2^(−j/4)) (R146). -/
def stepDefault (j : Nat) : Nat :=
  ([16384, 13777, 11585, 9741] : List Nat).getD (j % 4) 0 / 2 ^ (j / 4)

/-- Entry `j` of the channel's active step table, μ × 65,536 (R146, R147). -/
def State.stepEntry (s : State) (x : Slot) (j : Nat) : Nat :=
  match tblFind j (tblGet [] x.set.canc.stab.toNat s.parts[x.owner].tabs.fActive) with
  | some w => w.toNat
  | none => stepDefault j

/-- The step table's index of an SRR: floor((SRR + 10 dB) / 2 dB), limited to 0 to 31 (R146). -/
def stepIndex (srr : Level) : Nat := (clampInt ((srr + 12800) / 2560) 0 31).toNat

/-- The taps after one NLMS update (R146). -/
def nlmsTaps (mu : Nat) (old : List (Nat × (Int × Int))) : List (Int × Int) → Nat → List (Nat × (Int × Int))
  | [], _ => old
  | g :: gs, i =>
    if i < 48 then
      let t := tblGet (0, 0) i old
      nlmsTaps mu (tblPut i (t.1 + Config.nlmsStep mu g.1, t.2 + Config.nlmsStep mu g.2) old) gs (i + 1)
    else old

/-- A model runs on the channel: a loop with CAN on (R139, R143). -/
def Slot.hasModel (x : Slot) : Bool := x.live && x.set.loop && x.set.canc.can

/-- A model becomes not valid: INVAL sets and 256 further steps are due (R149). -/
def State.invalidate (s : State) (k : Nat) : State :=
  if (s.slot k).fbc.valid then
    let s1 := s.mapSlot k fun x => { x with fbc := { x.fbc with valid := false, proof := 0 } }
    { s1 with rad := { s1.rad with inval := true } }
  else s

/-- FBC_UPDATE_STEP (R146, R149, R150): the taps adapt with the step size of the SRR, the raw depth takes the larger of
the two residuals, and validity follows. -/
def execFbcUpdateStep (slot : SlotId) (m : UpdateStep) (s : State) : Out :=
  let x := s.slot slot
  whenDo (x.hasModel && !s.modelFrozen x && s.syn.mainLk) s
    (let f := x.fbc
     let raw := min m.ratio16 m.ratio256
     let proof := f.proof + 1
     let f1 := { f with
       taps := nlmsTaps (s.stepEntry x (stepIndex m.srr)) f.taps m.grad 0
       steps := min (f.steps + 1) 2147483647
       proof := proof
       raw := raw
       srr := m.srr
       seed := if proof < 256 then f.seed else none }
     if f.valid then
       let s1 := s.setSlot slot { x with fbc := f1 }
       if raw < 7680 then s1.invalidate slot else s1
     else s.setSlot slot { x with fbc := { f1 with valid := decide (256 ≤ proof) && decide (7680 ≤ raw) } })

/-- MODEL_FREEZE_TIMEOUT (R149): a freeze that has lasted 10 ms makes the model not valid; it keeps its taps. Without the main clock the canceller holds its state
(R74). -/
def execModelFreezeTimeout (slot : SlotId) (s : State) : Out :=
  let x := s.slot slot
  let long := match x.fbc.frozenAt with | some t => decide (t + edMs 10 ≤ s.clk.ed) | none => false
  whenDo (x.hasModel && s.modelFrozen x && long && !s.engineHeld) s (s.invalidate slot)

/-- MODEL_PARITY_ERROR (R523): the channel's model is cleared. -/
def execModelParityError (slot : SlotId) (s : State) : Out :=
  whenDo (s.slot slot).hasModel s
    (((s.invalidate slot).mapSlot slot fun x => { x with fbc := x.fbc.clearModel }).linePulse 5 0x38)

/-- The summed power of a model's taps, the sum of the squares of their rails, in 2^-48 (R152, R159). -/
def tapSum : List (Nat × (Int × Int)) → Nat
  | [] => 0
  | (_, i, q) :: r => i.natAbs * i.natAbs + q.natAbs * q.natAbs + tapSum r

/-- The model coupling C_m: the applied gain `g` less 10 log10 of the summed tap power, corrected by the calibrated gains of the two
ports (R159). -/
def Slot.modelCoupling (x : Slot) (g gains : Level) : Level := g - Config.tapPower (tapSum x.fbc.taps) + gains

/-- ISOLATION_REFRESH (R159): the model coupling less 2 dB lowers the estimate at once or raises it by at most 0.5 dB, never
above the last probe's by more than 10 dB. -/
def execIsolationRefresh (slot : SlotId) (gains : Level) (s : State) : Out :=
  let x := s.slot slot
  .next (
    match x.fbc.iso, x.glc.applied with
    | some i, some g =>
      if x.hasModel && x.fbc.valid && !s.modelFrozen x && !s.engineHeld then
        let c := x.modelCoupling g gains - 2560
        if c < i then
          let s1 := s.mapSlot slot fun x => { x with fbc := { x.fbc with iso := some c } }
          if 3840 < i - c then
            ({ s1 with rad := { s1.rad with isoDrop := true } }).log 0x1500 slot.val
              (toUnsignedN 32 (meas256 i)) (toUnsignedN 32 (meas256 c))
          else s1
        else
          s.mapSlot slot fun x =>
            { x with fbc := { x.fbc with iso := some (max i (min c (min (i + 640) (x.fbc.probeIso + 12800)))) } }
      else s
    | _, _ => s)

/-! Probes (R154 to R158). -/

/-- A port on which no burst can be sent: OFF, blanked by a booster fault, or its synthesiser's lock lost (R156). -/
def Port.noProbe (q : Port) : Bool := decide (q.st = .off) || q.bflt || (q.blank && !q.lock)

/-- A port for which a burst waits: it runs the sequence of R69 (R156). A bank change, also one without an LO change, and the
1 ms after RFKILL_N is released make a burst wait in the same way (DESIGN CHOICE, log 17: R156 names only the sequence of R69
and the calibration of R497). -/
def Port.probeWaits (q : Port) : Bool := q.retune.isSome || q.bankWait.isSome || q.killed

/-- One of the two ports of the settings satisfies `f`. -/
def State.eitherPort (s : State) (c : Settings) (f : Port → Bool) : Bool :=
  (match c.rxPort with | some p => f s.ports[p] | none => false)
    || (match c.txPort with | some p => f s.ports[p] | none => false)

/-- The maximum conducted output of the entitlement that covers a probe's span (R154, R155): where several do, that of the first
in record order, without the profile and gain tests of R185 (DESIGN CHOICE, log 19: R154 and R155 name the port, the
direction and the span only). -/
def State.probePmax (s : State) (c : Settings) : Level :=
  match s.entitlements.find? (fun e => decide (e.port = c.filt.txSide.toNat) && e.ul == c.filt.ul
      && spanWithin c e.flo e.fhi) with
  | some e => tenths e.pmax
  | none => tenths (-600)

/-- The probe level (R155). -/
def State.probeLevel (s : State) (c : Settings) : Level :=
  match c.rxPort, c.txPort with
  | some r, some t =>
    min (noiseRx r c + tenths c.gain.gmax - 25600) (min (s.compositeLimit t) (s.probePmax c))
  | _, _ => 0

/-- The 8 µs after which a transmitter without a booster ramps up, in ED cycles, rounded up (R38). -/
def eightUs : Nat := 7865

/-- PROBE_BURST_START (R156): the next queued burst of a port that is ready is dropped with the channel's other bursts and an
invalid result where it cannot be sent, waits (`Port.probeWaits`, or the calibration of R497), or starts. A burst that starts
fixes the settings and the level that its probe measures (R155). -/
def execProbeBurstStart (port : PortId) (s : State) : Out :=
  let q := s.ports[port]
  .next (
    match q.probeQ with
    | [] => s
    | k :: rest =>
      let x := s.slot k
      if q.st = .probe || q.ben || decide (q.tx ≠ .off) then s
      else if s.pwr.rfkill || q.noProbe || s.eitherPort x.set Port.noProbe || decide (s.pwr.mode ≠ .isolate) then s.probeInvalid k
      else if q.probeWaits || s.eitherPort x.set Port.probeWaits || decide (s.pwr.calib = 1) then s
      else
        (((s.mapSlot k fun x =>
          { x with fbc := { x.fbc with sent := some x.set, sentLevel := s.probeLevel x.set } }).mapPort port fun q =>
          let q1 := q.startTx s.clk.ed
          { q1 with probeQ := rest, probing := some k, st := .probe, target := none
                    tx := if q.tune.boost then .starting else .on, rampAt := s.clk.ed + eightUs }).trackFreeze).count 204)

/-- The burst on the port has run its 2 ms from the instant its ramp began (R155, R156). -/
def Port.burstOver (q : Port) (now : Nat) : Bool := decide (q.tx = .on) && decide (q.rampAt + edMs 2 ≤ now)

/-- PROBE_BURST_END (R35, R155): the burst ends after its 2 ms and the port enters its return state. -/
def execProbeBurstEnd (port : PortId) (s : State) : Out :=
  .next (
    match s.ports[port].probing with
    | none => s
    | some k =>
      if s.ports[port].burstOver s.clk.ed then
        ((s.leaveProbe port).mapSlot k fun x => { x with fbc := { x.fbc with bursts := x.fbc.bursts - 1 } }).trackFreeze
      else s)

/-- The processing gain of `n` bursts: 10 log10(2 ms × rate × n), the product taken in thousandths (R157). -/
def processingGain (c : Settings) (n : Nat) : Level := Config.tenLog10 (2 * c.prof.rate * n) - 38400

/-- The AUTO window offset of an air delay: less 8 channel samples, to the nearest ED cycle, never negative (R142). -/
def autoWindow (c : Settings) (air : Nat) : Nat :=
  (2 * (air * c.prof.rate - 8 * 983040000) + c.prof.rate) / (2 * c.prof.rate)

/-- The estimate that a probe of the burst's settings gives holds for the settings in force: both ports are unchanged and
the stopband span lies within the probe's (R160). -/
def Slot.probeHolds (x : Slot) : Bool :=
  match x.fbc.sent with
  | some c => samePorts c x.set && decide (c.span.1 ≤ x.set.span.1) && decide (x.set.span.2 ≤ c.span.2)
  | none => false

/-- PROBE_RESULT (R142, R157, R158): at a round boundary after the channel's last burst the result is measured or a lower bound, and the isolation
estimate is the coupling less 2 dB, unless the ports or the span have changed since the burst (R160); a measured path sets
the AUTO window, which clears a model whose window moves (R142). A lower bound finds no path and keeps the air delay of the path
found earlier (DESIGN CHOICE, log 17: the manual does not say what item 0x28 reads then). -/
def execProbeResult (slot : SlotId) (o : ProbeObs) (s : State) : Out :=
  let x := s.slot slot
  whenDo (x.live && x.set.loop && decide (x.fbc.pcode = 4) && decide (x.fbc.bursts = 0) && s.atBoundary) s
    (let sent := x.fbc.sent.getD x.set
     let level := x.fbc.sentLevel
     let nrx := match sent.rxPort with | some p => noiseRx p sent | none => 0
     let found := decide (25600 ≤ o.peak)
     let c := if found then level - o.rxPower
       else level - max o.noise nrx + processingGain sent x.fbc.asked - 25600
     let w := if found then autoWindow x.set o.airDelay else x.fbc.autoWoff
     let moved := decide (x.set.canc.woff = 0x7FFF) && decide (w ≠ x.fbc.autoWoff)
     let s1 := if moved then
         (s.invalidate slot).mapSlot slot fun x => { x with fbc := x.fbc.clearModel } else s
     let s2 := s1.mapSlot slot fun x => { x with fbc := { x.fbc with
         pcode := if found then 1 else 2
         coupling := c
         airDelay := if found then o.airDelay else x.fbc.airDelay
         autoWoff := w } }
     let s3 := if x.probeHolds then
         s2.mapSlot slot fun x => { x with fbc := { x.fbc with
           iso := some (c - 2560), probeIso := c - 2560, band := some sent.span } }
       else s2
     if x.phase = .owned then s3.event x.owner 9 else s3)

end Sys2Proof.Machine
end

