-- ==== Sys2Proof/Machine/Guard.lean ====
section
/-! DEFINITION. The network guard's detectors, trim release, re-arms, SILENCED, and the Gauntlet's output checks (R166 to
R186). -/

namespace Sys2Proof.Machine

/-- OSC_WINDOW_END (R166): on a radiating loop channel the largest ρ of the window, in 1/1280, trims from 0.40 and fences
from 0.70. -/
def execOscWindowEnd (slot : SlotId) (rho : Nat) (s : State) : Out :=
  let x := s.slot slot
  whenDo (x.radiating && x.set.loop && !s.detectorSkips x) s
    (let s1 := s.mapSlot slot fun x => { x with guard := { x.guard with rho := rho } }
     if 896 ≤ rho then (s1.askFence slot 1).ngdFlag 0
     else if 512 ≤ rho then (s1.trim slot 0).ngdFlag 0
     else s1)

/-- NRISE_ESTIMATE (R166, R170): on a UL channel with an RF receive side the rise of the output noise over N_rx + gain
trims, mutes once T stands at 30 dB, and under its own mute ends it at half the threshold, each in two successive
estimates. The TREL interval of T starts anew when the mute ends (DESIGN CHOICE, log 18: T stays at 30 dB then, R170). -/
def execNriseEstimate (slot : SlotId) (noise : Level) (s : State) : Out :=
  let x := s.slot slot
  .next (
    match x.set.rxPort, x.glc.applied with
    | some p, some g =>
      if !x.live || !x.set.filt.ul || s.detectorSkips x || !(x.radiating || x.mutes.nrise) then s
      else
        let rise := noise - (noiseRx p x.set + (if x.mutes.nrise then x.guard.muteGain else g))
        let hit := if x.mutes.nrise then decide (2 * rise ≤ tenths x.set.guard.nrth)
          else decide (tenths x.set.guard.nrth < rise)
        let hits := if hit then min (x.guard.nriseHits + 1) 2 else 0
        let s1 := s.mapSlot slot fun x => { x with guard := { x.guard with nrise := rise, nriseHits := hits } }
        if hits < 2 then s1
        else if x.mutes.nrise then
          (s1.mapSlot slot fun x =>
            { x with mutes := { x.mutes with nrise := false }
                     guard := { x.guard with nriseHits := 0, lastTrim := s.clk.ed } }).chEvent slot
        else if 10 ≤ x.guard.trimSteps then
          (s1.mapSlot slot fun x =>
            { x with muteReq := { x.muteReq with nrise := true }, guard := { x.guard with nriseHits := 0 } }).ngdFlag 2
        else (s1.trim slot 2).ngdFlag 2
    | _, _ => s)

/-- The threshold of DLOSS: N_rx + DLTH (R166). -/
def Slot.donorFloor (x : Slot) : Level :=
  match x.set.rxPort with
  | some p => noiseRx p x.set + tenths x.set.guard.dlth
  | none => 0

/-- DLOSS_MUTE (R166): the donor input of a DL channel stayed below the threshold throughout DLHOLD; a hardware mute. -/
def execDlossMute (slot : SlotId) (input : Level) (s : State) : Out :=
  let x := s.slot slot
  whenDo (x.radiating && x.set.rxPort.isSome && !x.set.filt.ul && !s.detectorSkips x && decide (input < x.donorFloor)) s
    (((s.mapSlot slot fun x => { x with muteReq := { x.muteReq with dloss := true } }).ngdFlag 3).count 202)

/-- DLOSS_UNMUTE (R170): the input stood at the threshold + 3 dB for 10 ms; the mute ends. -/
def execDlossUnmute (slot : SlotId) (input : Level) (s : State) : Out :=
  let x := s.slot slot
  whenDo (x.live && x.mutes.dloss && !s.detectorSkips x && decide (x.donorFloor + 3840 ≤ input)) s
    ((s.mapSlot slot fun x => { x with mutes := { x.mutes with dloss := false } }).chEvent slot)

/-- ACLR of port `p` acts on a radiating channel: a trim, or a fence once its share has reached 12 dB (R166). -/
def State.aclrAct (s : State) (p : PortId) (k : Nat) : State :=
  if 4 ≤ (s.slot k).guard.tAclr then s.askAclrFence k p else s.trim k 3

/-- The radiating channels of the port on which ACLR acts: those no condition of R166 makes it skip, gating included. -/
def State.aclrChannels (s : State) (p : PortId) : List Nat :=
  (s.radiatingOn p).filter fun k => !s.detectorSkips (s.slot k)

/-- ACLR_MEASURE (R166): the adjacent leakage of a transmitting port above its threshold in two successive measurements
acts on every radiating channel of the port; a measurement counts only where some radiating channel of the port is not skipped. The
detector skips the port while it retunes, its samples are invalid, a burst
runs on it, RFKILL_N is asserted or a booster fault blanks it (R70, R166). -/
def execAclrMeasure (port : PortId) (ratio : Level) (s : State) : Out :=
  let q := s.ports[port]
  whenDo (decide (q.tx = .on) && !q.bflt && !s.pwr.rfkill && !q.disturbed && q.rxv && !(s.aclrChannels port).isEmpty) s
    (if 1280 * q.tune.aclr < ratio then
       let s1 := s.mapPort port fun q => { q with aclrHits := min (q.aclrHits + 1) 2 }
       if 1 ≤ q.aclrHits then
         ((s.aclrChannels port).foldl (fun s k => s.aclrAct port k) s1).ngdFlag 4
       else s1
     else s.mapPort port fun q => { q with aclrHits := 0 })

/-- One step of 3 dB off the share, among those not zero, whose detector's last trim is the oldest (R169). -/
def Guard.release (g : Guard) (now : Nat) : Guard :=
  let ages : List (Nat × Nat) :=
    (if g.tOsc = 0 then [] else [(g.atOsc, 0)]) ++ (if g.tOvr = 0 then [] else [(g.atOvr, 1)])
      ++ (if g.tNrise = 0 then [] else [(g.atNrise, 2)]) ++ (if g.tAclr = 0 then [] else [(g.atAclr, 3)])
  let oldest := ages.foldl (fun (a : Option (Nat × Nat)) e => match a with
    | some b => if e.1 < b.1 then some e else some b
    | none => some e) none
  match oldest with
  | some (_, 0) => { g with tOsc := g.tOsc - 1, lastTrim := now }
  | some (_, 1) => { g with tOvr := g.tOvr - 1, lastTrim := now }
  | some (_, 2) => { g with tNrise := g.tNrise - 1, lastTrim := now }
  | some (_, _) => { g with tAclr := g.tAclr - 1, lastTrim := now }
  | none => g

/-- TRIM_RELEASE (R169, R170): TREL after the last trim or release T falls by 3 dB, but not during an NRISE mute. -/
def execTrimRelease (slot : SlotId) (s : State) : Out :=
  let x := s.slot slot
  whenDo (decide (0 < x.guard.trimSteps) && !x.mutes.nrise && decide (x.guard.lastTrim + edMs (100 * x.set.guard.trel) ≤ s.clk.ed)) s
    ((s.mapSlot slot fun x => { x with guard := x.guard.release s.clk.ed }).chEvent slot)

/-! Re-arms (R173, R176, R177). -/

/-- A held re-arm may take effect: WATCH has been left and HOLD has passed since the last fence (R173, R177). -/
def State.rearmDue (s : State) (k : Nat) : Bool := !s.inWatch && s.holdPassed k && decide ((s.slot k).code = 7)

/-- HELD_REARM_EFFECT (R173, R177): HOLD has passed and WATCH has been left; at the next round boundary, if that still holds there, the
held re-arm is checked again and takes effect, or is discarded. -/
def execHeldRearmEffect (slot : SlotId) (s : State) : Out :=
  whenDo (s.rearmDue slot) s
    (let s1 := s.nextBoundary
     if s1.rearmDue slot then s1.doRearm slot else s1)

/-- A Warden re-arm of slot `k`: it replaces a tenant's, and obeys HOLD and WATCH (R176, R177). -/
def State.wardenArm (s : State) (k : Nat) : State :=
  (s.mapSlot k fun x => { x with guard := { x.guard with arm := .none } }).askArm k .warden

/-- A write of SW.NGD_SARM (R176): with GO the source's severity and count clear at once, and every FENCED channel of the
source is re-armed: that of the slot, or every channel that the port's ACLR fenced. A SLOT above 191 names no source. -/
def State.writeSarm (s : State) (v : Word) : State :=
  let w := v.toNat
  let s1 := { s with rad := { s.rad with sarm := BitVec.ofNat 11 w } }
  if !bitN w 16 then s1
  else
    let port := bitN w 10
    let src := if port then srcPort (fieldN w 9 8) else srcSlot (fieldN w 7 0)
    let mine : Nat × Slot → Bool := fun x =>
      decide (x.2.code = 7) &&
        (if port then x.2.guard.causes.getLsbD 3 && decide (x.2.guard.aclrPort.map (·.val) = some (fieldN w 9 8))
         else decide (x.1 = fieldN w 7 0) && decide (x.2.guard.causes ≠ 8))
    let s2 := if !port && decide (192 ≤ fieldN w 7 0) then s1
      else { s1 with obs := { s1.obs with sources := tblDel src s1.obs.sources } }
    let s3 := (s.rad.slots.filter mine).foldl (fun s x => s.wardenArm x.1) s2
    if s.rad.slots.any mine then s3.wakePower else s3

/-- A system word write of a Warden word by task `t`: kind 0x02 at tenant privilege (R288, R299). -/
def wardenWrite (t : TaskId) (f : State → State) (s : State) : Out :=
  onRunning t s fun k s => if k.part = 0 then (f s).next t else s.violate t 2 0

/-- NGD_SARM_GO (R176): the write with GO set. -/
def execNgdSarmGo (t : TaskId) (v : Word) (s : State) : Out :=
  wardenWrite t (fun s => s.writeSarm (v ||| 0x10000)) s

/-! SILENCED (R179, R180). -/

/-- A held mode request may take effect: the hold-off has ended and the Warden pair runs (R180). -/
def State.heldReady (s : State) : Bool := decide (s.pwr.mode = .silenced) && !s.holdOffRuns && s.cpu.wrun

/-- SILENCED_HOLDOFF_END (R24, R180, R429): a held mode request takes effect at the next round boundary, while the Warden pair runs;
a boundary that brings a new hold-off leaves it held. -/
def execSilencedHoldoffEnd (s : State) : Out :=
  .next (
    match s.cht.heldMode with
    | some m =>
      if s.heldReady then
        let s1 := s.nextBoundary
        if s1.heldReady then ({ s1 with cht := { s1.cht with heldMode := none } }).changeMode m else s1
      else s
    | none => s)

/-- SILENCED_COUNT_EXPIRE (R179): entries older than 24 hours of operating time leave the count. -/
def execSilencedCountExpire (s : State) : Out :=
  .next { s with cht := { s.cht with silEntries := s.cht.silEntries.filter fun e => decide (s.opMs < e + dayMs) } }

/-! The Gauntlet (R186). -/

/-- GNT_POWER_CHECK (R186): a slot's power more than 0.5 dB above its entitlement's maximum is clamped and the slot fenced
with cause 0x4; a failed self-check of the clamp enters SILENCED. -/
def execGntPowerCheck (slot : SlotId) (power : Level) (clampOk : Bool) (s : State) : Out :=
  let x := s.slot slot
  let limit := match x.guard.cover with
    | some i => (s.entitlements[i]?).map fun e => tenths e.pmax
    | none => none
  .next (
    match x.set.txPort, limit with
    | some p, some m =>
      let s1 := if x.radiating && decide (m + 640 < power) then (s.askFence slot 4).clamp p [slot.val] else s
      if clampOk then s1 else s1.clampFails
    | _, _ => if clampOk then s else s.clampFails)

/-- GNT_DUTY_CHECK (R186): a port whose transmit time over a schedule period passes its duty limit by more than one point
is clamped to zero and every radiating channel of it fenced with cause 0x6. -/
def execGntDutyCheck (port : PortId) (txNs : Nat) (clampOk : Bool) (s : State) : Out :=
  let q := s.ports[port]
  .next (
    match q.sched with
    | some sc =>
      let limit := (s.dutyLimit port).getD 0
      let s1 := if q.schedRun && decide ((limit + 1) * sc.period < 100 * txNs) then
          ((s.radiatingOn port).foldl (fun s k => s.askFence k 6) s).clamp port (s.radiatingOn port) else s
      if clampOk then s1 else s1.clampFails
    | none => if clampOk then s else s.clampFails)

end Sys2Proof.Machine
end

