-- ==== Sys2Proof/Machine/Mail.lean ====
section
/-! DEFINITION. Mailboxes: delivery of a message, the receivers and event waiters it wakes, and the host-bound mailbox
(R354 to R356, R413, R414). -/

namespace Sys2Proof.Machine

/-- Mailbox `m` of partition `p` is host-bound (R414). -/
def State.hostBound (s : State) (p : PartId) (m : Fin 8) : Bool :=
  s.hpi.mben && decide (s.hpi.mbpart = p) && decide (s.hpi.mbbox = m)

/-- Partition `p` exists at this node and is not being reset: its mailboxes take messages (R283, R388). -/
def State.partActive (s : State) (p : PartId) : Bool := p = 0 || decide (s.parts[p].life = .active)

/-- A mailbox holds 16 messages (R355). -/
def State.boxFull (s : State) (key : Nat) : Bool := 16 ≤ (s.box key).length

/-- The first task that waits to receive from the mailbox with key `key`. -/
def recvWaiter (key : Nat) : List (Nat × Task) → Option (Nat × Reg × Reg × Word)
  | [] => none
  | (t, k) :: ks =>
    match k.st with
    | .waiting (.recv gd gb buf key') => if key' = key then some (t, gd, gb, buf) else recvWaiter key ks
    | _ => recvWaiter key ks

/-- The second result of recv: length, source node and source partition (R356). -/
def Msg.info (m : Msg) : Word :=
  BitVec.ofNat 64 (m.body.length + m.srcNode.toNat * 2 ^ 16 + m.srcPart.val * 2 ^ 28)

/-- Task `t` takes the oldest message of a mailbox: into its buffer, where the whole buffer is allocated and its store need
not wait (R356). `run` tells how the instruction then ends. -/
def State.takeMsg (s : State) (t key : Nat) (p : PartId) (buf : Word) (run viol wait : State → State)
    (done : Msg → State → State) : State :=
  match s.box key with
  | [] => run s
  | m :: rest =>
    if !(decide (buf.toNat < 2 ^ 48) && s.allocatedRange p buf.toNat 2048) then viol s
    else
      let s1 := s.drain t
      if !s1.drained t || s1.rangeBlocked p buf.toNat m.body.length then wait s1
      else done m ((s1.storeBytes p buf.toNat m.body).setBox key rest)

/-- A waiting receiver is served from its mailbox (R353, R356). -/
def State.serveRecvOne (s : State) (t key : Nat) (gd gb : Reg) (buf : Word) : State :=
  match s.task? t with
  | none => s
  | some k =>
    s.takeMsg t key k.part buf id (fun s => (s.violation k.part 1).wakeWith t gd gb 0 0)
      id (fun m s => (s.taught t m.seen).wake2 t gd gb 1 m.info)

/-- Receivers that wait on a mailbox are served while it holds messages. -/
def State.serveRecv (s : State) (key : Nat) : Nat → State
  | 0 => s
  | fuel + 1 =>
    if (s.box key).isEmpty then s
    else
      match recvWaiter key s.cpu.tasks with
      | none => s
      | some (t, gd, gb, buf) => (s.serveRecvOne t key gd gb buf).serveRecv key fuel

/-- Message `a` of another node bears a later packet sequence number than `b` of the same node (R208, R355). -/
def Msg.after (a b : Msg) : Bool :=
  decide (a.srcNode = b.srcNode) &&
    (match a.seq, b.seq with
     | some m, some n => decide (m ≠ n) && decide (seqBehind m n < 32768)
     | _, _ => false)

/-- A message takes its place in a mailbox: last, but before those of its node that bear later numbers (R355). -/
def placeMsg (x : Msg) : List Msg → List Msg
  | [] => [x]
  | y :: r => if y.after x then x :: y :: r else y :: placeMsg x r

/-- A message enters a mailbox that has room: it wakes a receiver, else the tasks that wait for its event (R354 to
R356). -/
def State.deliverMsg (s : State) (p : PartId) (m : Fin 8) (x : Msg) : State :=
  let key := mailKey p m
  let s1 := s.setBox key (placeMsg x (s.box key))
  (if s.hostBound p m then s1 else s1.serveRecv key 17).wakeEvents p

/-- Every receiver and event waiter whose mailbox holds a message is served: what hardware places in mailbox 6 of P0
wakes them within the time of R353. -/
def State.serveBoxes (s : State) : State :=
  let serve : State → Nat × List Msg → State := fun s e =>
    if e.2.isEmpty then s
    else if s.hostBound ⟨e.1 / 8 % 8, Nat.mod_lt _ (by decide)⟩ ⟨e.1 % 8, Nat.mod_lt _ (by decide)⟩ then s
    else s.serveRecv e.1 17
  (List.finRange 8).foldl (fun s p => s.wakeEvents p) (s.mail.foldl serve s)

/-- A message for this node from the links or the host: delivered, or discarded and counted where the mailbox is full
(R355); a partition that does not exist owns no mailbox (R283). -/
def State.arriveMsg (s : State) (p : PartId) (m : Fin 8) (x : Msg) : State :=
  if !s.partActive p then s
  else if s.boxFull (mailKey p m) then s.count 140
  else s.deliverMsg p m x

/-- An earlier-numbered message of the same node to the mailbox with key `box` is still arriving (R208, R355). -/
def State.earlierComes (s : State) (box : Nat) (x : Msg) : Bool :=
  s.fab.partial'.any fun e => decide (e.2.box = some box) && decide (e.1 / 65536 % 2048 = x.srcNode.toNat) &&
    (match x.seq with
     | some n => decide (e.1 % 65536 ≠ n) && decide (seqBehind n (e.1 % 65536) < 32768)
     | none => false)

/-- A message that waited for an earlier-numbered one enters its mailbox once none is still arriving (R355). -/
def State.releaseOne (s : State) (e : Nat × Msg) : State :=
  if s.earlierComes e.1 e.2 then s
  else
    ({ s with fab := { s.fab with late := s.fab.late.erase e } }).arriveMsg
      ⟨e.1 / 8 % 8, Nat.mod_lt _ (by decide)⟩ ⟨e.1 % 8, Nat.mod_lt _ (by decide)⟩ e.2

/-- The messages that need wait no longer enter their mailboxes. -/
def State.releaseLate (s : State) : State := s.fab.late.foldl State.releaseOne s

/-- A message from the links is complete: messages from one node to one mailbox enter it in the order of their packet sequence
numbers, so it waits for an earlier-numbered one that is still arriving (R355; DEDUCED, log 33: an earlier-numbered one of which
nothing has come yet is not waited for, but stands before the later ones that are still unread when it comes). -/
def State.messageRx (s : State) (p : PartId) (m : Fin 8) (x : Msg) : State :=
  if s.earlierComes (mailKey p m) x then { s with fab := { s.fab with late := s.fab.late ++ [(mailKey p m, x)] } }
  else (s.arriveMsg p m x).releaseLate

/-- What was arriving by chain link `l` when it broke is not completed, and what waited for it goes on. -/
def State.dropArriving (s : State) (l : ChainId) : State :=
  ({ s with fab := { s.fab with partial' := s.fab.partial'.filter fun e => e.1 / 134217728 ≠ l.val } }).releaseLate

end Sys2Proof.Machine
end

