-- ==== Sys2Proof/Machine/Pages.lean ====
section
/-! DEFINITION. Pages, frames and quotas: alloc, free and keep (R349, R358 to R368, R384). -/

namespace Sys2Proof.Machine

/-- A page of zeros for `part` at `va`: its working frame in DRAM while that has room, for which replicas give their frames up, else in
MRAM, where a keep page has its copy in any case; none where no frame is free (R358, R363, R369, R372). -/
def State.addPage (s0 : State) (part : PartId) (va : Nat) (peck keep : Bool) : State :=
  let g := if peck then 512 else 1
  let s := s0.makeRoom g
  let tier : BitVec 2 := if g ≤ s.freeGills 1 && (!keep || decide (g ≤ s.freeGills 2)) then 1 else 2
  if g ≤ s.freeGills tier.toNat then
    let r := s.takeFrame tier.toNat g
    let c := if keep && decide (tier = 1) then r.1.takeFrame 2 g else (r.1, [])
    let page : Page :=
      { part := part, va := va, peck := peck, keep := keep, tier := tier, heat := 0, coldAt := s.clk.ed, ce := r.2, ceCopy := c.2,
        evicted := false }
    { c.1 with ms := { c.1.ms with pages := c.1.ms.pages ++ [page] } }
  else s

/-- Memory with zeros in the `n` bytes at `va` of `part`, in every copy, and no error or poison there (R364, R382). -/
def State.zeroRange (s : State) (part : PartId) (va n : Nat) : State :=
  let a := memKey part va
  { s with ms := { s.ms with
      mem := memZero a n s.ms.mem
      mram := memZero a n s.ms.mram
      kwb := s.ms.kwb.filter fun e => !(decide (a ≤ e.1 * 64) && decide (e.1 * 64 < a + n))
      flaws := s.ms.flaws.filter fun f => !(decide (a ≤ f.block * 32) && decide (f.block * 32 < a + n))
      poison := s.ms.poison.filter fun b => !(decide (a ≤ b * 32) && decide (b * 32 < a + n)) } }

/-! Quotas (R363, R365, R366, R390). -/

/-- Gills allocated to partition `p` (USED). -/
def State.usedOf (s : State) (p : PartId) : Nat := gillsOf s.ms.pages fun q => q.part = p

/-- Gills of partition `p` with keep set (KEPT). -/
def State.keptOf (s : State) (p : PartId) : Nat := gillsOf s.ms.pages fun q => q.part = p && q.keep

/-- `n` more gills stay within the memory quota; P0 is never capped (R386). -/
def State.memqFits (s : State) (p : PartId) (n : Nat) : Bool :=
  p = 0 || decide (s.usedOf p + n ≤ s.parts[p].grants.memq)

/-- `n` more keep gills stay within the keep quota. -/
def State.keepqFits (s : State) (p : PartId) (n : Nat) : Bool :=
  p = 0 || decide (s.keptOf p + n ≤ s.parts[p].grants.keepq)

/-! alloc (R361, R363). -/

/-- `x` rounded up to a multiple of `n`. -/
def roundUp (x n : Nat) : Nat := (x + n - 1) / n * n

/-- No page of partition `p` overlaps the `n` bytes from `va`. -/
def State.rangeFree (s : State) (p : PartId) (va n : Nat) : Bool :=
  s.ms.pages.all fun q => q.part ≠ p || decide (va + n ≤ q.va) || decide (q.va + q.size ≤ va)

/-- The lowest free address for `n` bytes of pages of `size` bytes (R361): the lowest aligned one at or above 0x1_0000, or
the first aligned one after some page. -/
def State.lowestFree (s : State) (p : PartId) (n size : Nat) : Option Nat :=
  let starts := roundUp 0x10000 size :: (s.ms.pages.filter fun q => q.part = p).map fun q => roundUp (q.va + q.size) size
  let ok := starts.filter fun a => decide (0x10000 ≤ a) && decide (a + n ≤ 2 ^ 48) && s.rangeFree p a n
  ok.foldl (fun m a => match m with | none => some a | some b => some (min a b)) none

/-- The frames condition of R363 for `n` pages of `g` gills: keep pages take MRAM frames, others DRAM or MRAM frames. -/
def State.framesFit (s : State) (n g : Nat) (keep : Bool) : Bool :=
  if keep then decide (n * g ≤ s.freeGills 2) else decide (n ≤ s.roomGills 1 / g + s.freeGills 2 / g)

/-- An allocation of `n` pages at `va`: every byte reads as zero (R363). -/
def State.addPages (s : State) (p : PartId) (va : Nat) (peck keep : Bool) (n : Nat) : State :=
  let size := if peck then 0x200000 else 0x1000
  ((List.range n).foldl (fun s i => s.addPage p (va + size * i) peck keep) s).zeroRange p va (size * n)

/-- alloc of `len` bytes for partition `p`, with its result code and base; what failed sets QFULL and KFULL (R363). -/
def State.allocFor (s : State) (p : PartId) (len : Nat) (peck keep : Bool) : State × Word × Nat :=
  let size := if peck then 0x200000 else 0x1000
  let g := if peck then 512 else 1
  let n := (max len 1 + size - 1) / size
  let kfail := keep && (!s.keepqFits p (n * g) || !s.framesFit n g keep)
  match (if s.memqFits p (n * g) && (!keep || s.keepqFits p (n * g)) && s.framesFit n g keep
          then s.lowestFree p (size * n) size else none) with
  | some va => (s.addPages p va peck keep n, 1, va)
  | none => (s.mapPart p fun x => { x with qfull := true, kfull := x.kfull || kfail }, 3, 0)

/-- alloc (R349, R363). -/
def execAllocP (t : TaskId) (gd ga gb : Reg) (s : State) : Out :=
  onEngine t 1 s fun k s =>
    let m := (k.get gb).toNat
    let r := s.allocFor k.part (k.get ga).toNat (bitN m 0) (bitN m 1)
    if r.2.1 = 1 then r.1.finish2 t gd gb 1 (BitVec.ofNat 64 r.2.2) else r.1.refuse t gd r.2.1

/-! free, keep (R364, R365). -/

/-- The page touches the `n` bytes from `va` of partition `p`. -/
def Page.touches (q : Page) (p : PartId) (va n : Nat) : Bool :=
  q.part = p && decide (q.va < va + n) && decide (va < q.va + q.size)

/-- The bytes that the page and the `n` bytes from `va` have in common. -/
def Page.overlap (q : Page) (va n : Nat) : Nat := min (q.va + q.size) (va + n) - max q.va va

/-- The `n` bytes from `va` are wholly allocated to `p` (R349): its pages do not overlap one another, so their shares of
the range sum to its length. -/
def State.rangeAllocated (s : State) (p : PartId) (va n : Nat) : Bool :=
  decide (((s.ms.pages.filter fun q => q.touches p va n).map fun q => q.overlap va n).sum = n)

/-- Stores that wait in queues for the `n` bytes at `va` of partition `part` are void: the memory is released. -/
def State.voidStores (s : State) (part : PartId) (va n : Nat) : State :=
  let out : StoreEntry → Bool := fun e => decide (va ≤ e.va) && decide (e.va < va + n)
  let task : Nat → Task → Task := fun _ k => if k.part = part then { k with sq := k.sq.filter fun e => !out e } else k
  { s with
    cpu := { s.cpu with tasks := tblMap task s.cpu.tasks }
    ms := { s.ms with late := s.ms.late.filter fun e => !(decide (e.1 = part) && out e.2) } }

/-- A page is released: its frames are zeroed, and free once the holders of its replicas, who are told to discard them, have done so
(R364, R374). -/
def State.releasePage (s : State) (q : Page) : State :=
  let key := memKey q.part q.va
  let s1 := (s.askDiscard key).voidStores q.part q.va q.size
  let s2 := { s1 with ms := { s1.ms with
      pages := s1.ms.pages.filter fun x => !(x.part = q.part && x.va = q.va) } }
  let s3 := if (tblFind key s.ms.directory).isSome then { s2 with ms := { s2.ms with freeing := s2.ms.freeing ++ [q] } }
    else s2.freeFrames q
  s3.zeroRange q.part q.va q.size

/-- Frames of released pages whose replicas are all discarded are free (R364, R374). -/
def State.freeReleased (s : State) : State :=
  let done : Page → Bool := fun q => (tblFind (memKey q.part q.va) s.ms.directory).isNone
  (s.ms.freeing.filter done).foldl State.freeFrames
    { s with ms := { s.ms with freeing := s.ms.freeing.filter fun q => !done q } }

/-- free (R349, R364): releases every page its range touches, after the task's own global stores there (R325), or is a violation. -/
def execFreeP (t : TaskId) (gd ga gb : Reg) (s : State) : Out :=
  onEngine t 1 s fun k s =>
    let va := (k.get ga).toNat
    let n := max (k.get gb).toNat 1
    let pages := s.ms.pages.filter fun q => q.touches k.part va n
    if s.rangeAllocated k.part va n then
      if pages.any fun q => s.postedHere t k.part q.va q.size then s.makeWait t (.retry false)
      else ((pages.foldl State.releasePage s).homeRetry).finish t gd 1
    else s.violate t 1 gd

/-- A page takes the keep attribute: its content goes to its MRAM copy (R365, R367). -/
def State.setKeep (s0 : State) (q : Page) : State :=
  let a := memKey q.part q.va
  let r := if q.tier = 2 then (s0, []) else (s0.carryFlaws q false).1.takeFrame 2 q.gills
  let s := r.1.mapPage q fun x => { x with keep := true, ceCopy := r.2 }
  { s with ms := { s.ms with
      mram := (s.ms.mem.filter fun c => decide (a ≤ c.1) && decide (c.1 < a + q.size)).foldl
        (fun m c => memWrite c.1 c.2 m) (memZero a q.size s.ms.mram) } }

/-- A page loses the keep attribute: its MRAM copy is released and the working copy carries on (R368). -/
def State.clearKeep (s : State) (q : Page) : State :=
  let a := memKey q.part q.va
  let s1 := s.mapPage q fun x => { x with keep := false, ceCopy := [] }
  let s2 := if q.tier = 2 then s1 else s1.leaveFrame 2 q.gills q.ceCopy
  { s2 with ms := { s2.ms with
      mram := memZero a q.size s2.ms.mram
      flaws := s2.ms.flaws.filter fun f => !(f.copy && decide (a ≤ f.block * 32) && decide (f.block * 32 < a + q.size))
      kwb := s2.ms.kwb.filter fun e => !(decide (a ≤ e.1 * 64) && decide (e.1 * 64 < a + q.size)) } }

/-- keep (R349, R365): a set that does not fit changes no page and sets KFULL; a clear always takes effect. -/
def execKeepP (t : TaskId) (gd ga gb : Reg) (s : State) : Out :=
  onEngine t 1 s fun k s =>
    let va := (k.get ga).toNat
    let w := (k.get gb).toNat
    let n := max (fieldN w 47 0) 1
    let pages := s.ms.pages.filter fun q => q.touches k.part va n
    if !s.rangeAllocated k.part va n then s.violate t 1 gd
    else if bitN w 63 then
      (((pages.filter fun q => q.keep).foldl State.clearKeep s).homeRetry).finish t gd 1
    else
      let fresh := pages.filter fun q => !q.keep
      let gills := gillsOf fresh fun _ => true
      let mram := gillsOf fresh fun q => q.tier ≠ 2
      if s.keepqFits k.part gills && decide (mram ≤ s.freeGills 2) then (fresh.foldl State.setKeep s).finish t gd 1
      else (s.mapPart k.part fun x => { x with kfull := true }).finish t gd 1

end Sys2Proof.Machine
end

