-- ==== Sys2Proof/Machine/Charter.lean ====
section
/-! DEFINITION. Charters and program images: layout, verification, the charter in force, and the slot operations (R181 to
R185, R491 to R496, R527 to R530). -/

namespace Sys2Proof.Machine

/-- Bytes `i` to `i + n − 1` are all zero. -/
def zeroBytes (b : List Byte) (i n : Nat) : Bool := ((b.drop i).take n).all fun x => x = 0

/-! Charters (R527, R528). -/

/-- The MAGIC of a charter (R527). -/
def charterMagic : Nat := 0x48435244

/-- The MAGIC of an image (R529). -/
def imageMagic : Nat := 0x4D495244

/-- Entitlement `i` of a charter (R527). -/
def charterEnt (b : List Byte) (i : Nat) : Ent :=
  let o := 24 + 16 * i
  { port := fieldN (recNat b o 1) 1 0
    ul := bitN (recNat b o 1) 2
    duty := recNat b (o + 1) 1
    prof := BitVec.ofNat 16 (recNat b (o + 2) 2)
    flo := recNat b (o + 4) 4
    fhi := recNat b (o + 8) 4
    gmax := recNat b (o + 12) 2
    pmax := signedN 16 (recNat b (o + 14) 2) }

/-- The number of entitlements, NENT. -/
def charterCount (b : List Byte) : Nat := recNat b 5 1

/-- The bytes of a charter of `n` entitlements (R527). -/
def charterLen (n : Nat) : Nat := 153 + 16 * n

/-- The sequence number of a charter. -/
def charterSeq (b : List Byte) : BitVec 32 := BitVec.ofNat 32 (recNat b 8 4)

/-- The fields of an entitlement lie in their ranges (R527, R528). -/
def entOk (b : List Byte) (i : Nat) : Bool :=
  let e := charterEnt b i
  decide (recNat b (24 + 16 * i) 1 < 8) && decide (e.duty ≤ 100) && decide (e.prof.toNat < 2 ^ 14)
    && decide (380000 ≤ e.flo) && decide (e.fhi ≤ 3800000) && decide (e.flo ≤ e.fhi)
    && decide (e.gmax ≤ 950) && decide (-600 ≤ e.pmax) && decide (e.pmax ≤ 330)

/-- The layout of a charter (R527, R528). -/
def charterForm (b : List Byte) : Bool :=
  let n := charterCount b
  decide (b.length = charterLen n) && decide (recNat b 0 4 = charterMagic) && decide (recNat b 4 1 = 1)
    && decide (n ≤ 64) && zeroBytes b 6 2 && zeroBytes b 12 4 && (List.range n).all fun i => entOk b i

/-- The public key of a charter. -/
def charterKey (b : List Byte) : List Byte := (b.drop (24 + 16 * charterCount b)).take 65

/-- A charter passes every test of R182 and R528 but that of its sequence number. -/
def State.charterSound (s : State) (b : List Byte) : Bool :=
  let n := charterCount b
  charterForm b
    && (s.cht.fuse = some (sha256 (charterKey b)))
    && ecdsaVerify (charterKey b) (b.take (89 + 16 * n)) ((b.drop (89 + 16 * n)).take 64)
    && (recNat b 16 8 = 0 || recNat b 16 8 = Config.serial.toNat)

/-- A charter verifies (R182). -/
def State.charterVerifies (s : State) (b : List Byte) : Bool :=
  s.charterSound b && decide (s.cht.highest.toNat ≤ (charterSeq b).toNat)

/-- A charter slot is empty: its first four bytes are not the MAGIC (R183). -/
def slotEmpty (b : List Byte) : Bool := decide (recNat b 0 4 ≠ charterMagic)

/-- The slot not in force: the other one, or A while no charter is in force (R183). -/
def Charter.idleB (c : Charter) : Bool := c.force = some false

/-- The content of charter slot A or B. -/
def Charter.slotBytes (c : Charter) (b : Bool) : List Byte := if b then c.slotB else c.slotA

/-- The charter of slot `b` comes into force (R183). -/
def State.chartInForce (s : State) (b : Bool) : State :=
  let c := s.cht.slotBytes b
  { s with cht := { s.cht with
      force := some b
      ents := (List.range (charterCount c)).map fun i => charterEnt c i
      seq := charterSeq c
      highest := if s.cht.highest.toNat ≤ (charterSeq c).toNat then charterSeq c else s.cht.highest } }

/-- VFAIL sets at boot for a slot that is not empty and fails a test other than that of its sequence number (R183). -/
def State.bootVfail (s : State) (b : Bool) : Bool :=
  !slotEmpty (s.cht.slotBytes b) && !s.charterSound (s.cht.slotBytes b)

/-- Both slots are verified at boot; the one of the higher sequence number is in force, A at equal numbers (R183). -/
def State.bootCharter (s : State) : State :=
  let a := s.charterVerifies s.cht.slotA
  let b := s.charterVerifies s.cht.slotB
  let fail := s.bootVfail false || s.bootVfail true
  let s0 := { s with
    cht := { s.cht with force := none, ents := [], seq := 0, actReq := false }
    rad := { s.rad with vfail := s.rad.vfail || fail } }
  let s1 := if fail then s0.linePulse 7 0x4A else s0
  if a && b then s1.chartInForce (decide ((charterSeq s.cht.slotA).toNat < (charterSeq s.cht.slotB).toNat))
  else if a then s1.chartInForce false
  else if b then s1.chartInForce true
  else s1

/-- Every committed channel's covering entitlement under the charter in force. -/
def State.recover (s : State) : State :=
  let cover : Nat → Slot → Slot := fun _ x =>
    if x.live then { x with guard := { x.guard with cover := s.coverOf x.set } } else x
  { s with rad := { s.rad with slots := tblMap cover s.rad.slots } }

/-- A committed channel that the charter no longer covers is FENCED with cause 0x7 (R183). -/
def State.fenceUncovered (s : State) (k : Nat) : State :=
  let x := s.slot k
  if x.live && !s.covered x.set then (s.askFence k 7).fenceSlot k else s

/-- A running schedule over its port's new duty limit stops, and the port goes to STANDBY (R43, R183). -/
def State.stopOverDuty (s : State) (p : PortId) : State :=
  let q := s.ports[p]
  match q.sched with
  | some sc =>
    if q.schedRun && sc.overDuty q.tune.donor (s.dutyLimit p) then
      (s.mapPort p fun q => { q with schedRun := false, tune := { q.tune with state := .standby } }).drive p
    else s
  | none => s

/-- CHARTER_ACTIVATE (R183): the slot not in force is verified and comes into force with everything that follows from it at
one round boundary; where it fails the charter in force stays and VFAIL sets. -/
def execCharterActivate (s : State) : Out :=
  whenDo s.cht.actReq s
    (let s := s.nextBoundary
     let b := s.cht.idleB
     let s0 := { s with
       cht := { s.cht with actReq := false }
       svc := { s.svc with op := if s.svc.op = SlotOp.actcht then SlotOp.none else s.svc.op } }
     if s.charterVerifies (s.cht.slotBytes b) then
       let s1 := (({ s0 with svc := { s0.svc with res := 1, replicaOut := true } }).chartInForce b).recover
       let s2 := (s1.rad.slots.map (·.1)).foldl (fun s k => s.fenceUncovered k) s1
       let s3 := (List.finRange 4).foldl (fun s p => s.stopOverDuty p) s2
       s3.log 0x1700 s3.cht.seq.toNat (if b then 1 else 0) 0
     else
       ({ s0 with svc := { s0.svc with res := 2 }, rad := { s0.rad with vfail := true } }).linePulse 7 0x4A)

/-! Images (R492, R529, R530). -/

/-- LENGTH, VERSION and LOADVA of an image. -/
def imageLength (b : List Byte) : Nat := recNat b 12 4

/-- VERSION of an image. -/
def imageVersion (b : List Byte) : BitVec 32 := BitVec.ofNat 32 (recNat b 8 4)

/-- LOADVA of an image. -/
def imageLoad (b : List Byte) : Nat := recNat b 24 8

/-- The public key of an image. -/
def imageKey (b : List Byte) : List Byte := (b.drop 48).take 65

/-- The layout of an image (R529). -/
def imageForm (b : List Byte) : Bool :=
  decide (recNat b 0 4 = imageMagic) && decide (recNat b 4 1 = 1) && zeroBytes b 5 3
    && decide (imageLength b ≤ 16777024) && decide (b.length = 192 + imageLength b)
    && decide (imageLoad b % 0x1000 = 0) && decide (0x10000 ≤ imageLoad b) && decide (recNat b 32 8 % 4 = 0)
    && zeroBytes b 40 8 && zeroBytes b 113 15

/-- A program image verifies against the key hash `h` (R492). -/
def State.imageVerifiesBy (s : State) (h : Option (BitVec 256)) (b : List Byte) : Bool :=
  imageForm b && (h = some (sha256 (imageKey b)))
    && ecdsaVerify (imageKey b) (b.take (128 + imageLength b)) (b.drop (128 + imageLength b))
    && (recNat b 16 8 = 0 || recNat b 16 8 = Config.serial.toNat)
    && decide (s.svc.confirmed.toNat ≤ (imageVersion b).toNat)

/-- A program image verifies (R492). -/
def State.imageVerifies (s : State) (b : List Byte) : Bool := s.imageVerifiesBy s.svc.fuse b

/-- The content of image slot A or B. -/
def Svc.slotBytes (v : Svc) (b : Bool) : List Byte := if b then v.imgB else v.imgA

/-- The slot is marked rejected (R499). -/
def Svc.rejected (v : Svc) (b : Bool) : Bool := if b then v.rejB else v.rejA

/-- Every one of the `n` bytes from `va` is allocated to `part`, page by page. -/
def State.allocatedAll (s : State) (part : PartId) (va n : Nat) : Bool :=
  s.allocatedRange part va n && (List.range (n / 0x1000)).all fun i => s.allocated part (va + 0x1000 * i)

/-- A non-keep gill of P0 is made at `va`, in place of one that is there; a peck that is there stays and loses keep (R530; DEDUCED,
log 40). -/
def State.ensureGill (s : State) (va : Nat) : State :=
  match s.pageAt 0 va with
  | none => s.addPage 0 va false false
  | some q =>
    if q.peck then (if q.keep then s.clearKeep q else s)
    else (s.releasePage q).addPage 0 va false false

/-- The body of the image in force is placed in gills of P0 at LOADVA, the rest of the last gill zero (R530). -/
def State.placeImage (s : State) : State :=
  let b := s.svc.image
  let va := imageLoad b
  let n := imageLength b
  let gills := (n + 0xFFF) / 0x1000
  let s1 := (List.range gills).foldl (fun s i => s.ensureGill (va + 0x1000 * i)) s
  let m := memPutBytes (memKey 0 va) ((b.drop 128).take n) (memZero (memKey 0 va) (0x1000 * gills) s1.ms.mem)
  ({ s1 with ms := { s1.ms with mem := m } }).overwrite false (memKey 0 va) (0x1000 * gills)

/-! Slot operations (R495, R496). -/

/-- A record staged in P0's memory: its bytes, where all of it is allocated (R495). -/
def State.staged (s : State) (n : Nat) : Option (List Byte) :=
  let a := s.svc.src.toNat
  if s.allocatedAll 0 a n then some (memBytes s.ms.mem (memKey 0 a) n) else none

/-- The staged charter, of the length its NENT gives. -/
def State.stagedCharter (s : State) : Option (List Byte) :=
  match s.staged 24 with
  | some h => s.staged (charterLen (charterCount h))
  | none => none

/-- The staged image, of the length its header gives, cut to the largest an image may have (R492). -/
def State.stagedImage (s : State) : Option (List Byte) :=
  match s.staged 128 with
  | some h => s.staged (192 + min (imageLength h) 16777025)
  | none => none

/-- The record an operation stages. -/
def State.setRes (s : State) (r : BitVec 3) : State := { s with svc := { s.svc with op := .none, res := r } }

/-- WRIMG's work: the staged image verifies and is copied into the slot that is not running, whose rejected mark clears
(R496, R499). -/
def State.doWrimg (s : State) : State :=
  match s.stagedImage with
  | none => s.setRes 4
  | some b =>
    if s.imageVerifies b then
      let v := s.svc
      ({ s with svc := if v.run then { v with imgA := b, rejA := false } else { v with imgB := b, rejB := false } }).setRes 1
    else s.setRes 2

/-- WRCHT's work: the staged charter is copied into the slot not in force (R496). -/
def State.doWrcht (s : State) : State :=
  match s.stagedCharter with
  | none => s.setRes 4
  | some b =>
    let c := s.cht
    ({ s with cht := if c.idleB then { c with slotB := b } else { c with slotA := b } }).setRes 1

/-- FUSE's work: the digest of the staged record's public key is fused once (R182, R496). -/
def State.doFuse (s : State) : State :=
  match s.staged 4 with
  | none => s.setRes 4
  | some h =>
    if recNat h 0 4 = charterMagic then
      match s.stagedCharter with
      | none => s.setRes 4
      | some b =>
        if s.cht.fuse.isSome then s.setRes 3
        else ({ s with cht := { s.cht with fuse := some (sha256 (charterKey b)) } }).setRes 1
    else if recNat h 0 4 = imageMagic then
      match s.stagedImage with
      | none => s.setRes 4
      | some b =>
        if s.svc.fuse.isSome then s.setRes 3
        else ({ s with svc := { s.svc with fuse := some (sha256 (imageKey b)) } }).setRes 1
    else s.setRes 2

/-- CONFIRM's work: the trial ends and the confirmed version rises to the running image's (R496). -/
def State.doConfirm (s : State) : State :=
  let v := imageVersion s.svc.image
  ({ s with svc := { s.svc with
      trial := false
      confirmed := if s.svc.confirmed.toNat ≤ v.toNat then v else s.svc.confirmed } }).setRes 1

/-- RESTART's work: the slot that is not running verifies, every task ends, the engine enters WATCH and the new image is in
force on trial, its body placed; the pair then restarts (R499, R530). -/
def State.doRestart (s : State) : State :=
  let other := !s.svc.run
  let b := s.svc.slotBytes other
  if s.imageVerifies b && !s.svc.rejected other then
    let s1 := s.pairStopped
    let s2 := { s1 with
      svc := { s1.svc with image := b, run := other, source := if other then 1 else 0, trial := true } }
    s2.placeImage.setRes 1
  else s.setRes 2

/-- SLOT_OP_COMPLETE (R496): the operation that runs finishes, BUSY clears and RES tells its result. Activation ends with
CHARTER_ACTIVATE. -/
def execSlotOpComplete (s : State) : Out :=
  .next (
    match s.svc.op with
    | .none => s
    | .actcht => s
    | .wrimg => s.doWrimg
    | .wrcht => s.doWrcht
    | .fuse => s.doFuse
    | .confirm => s.doConfirm
    | .restart => s.doRestart)

/-- A write of OP: ignored while an operation runs (R496). -/
def State.startOp (s : State) (o : SlotOp) : State :=
  if s.svc.op ≠ .none then s
  else { s with
    svc := { s.svc with op := o }
    cht := { s.cht with actReq := s.cht.actReq || decide (o = SlotOp.actcht) } }

/-- WRIMG (R496). -/
def execWrimg (t : TaskId) (s : State) : Out := wardenWrite t (fun s => s.startOp .wrimg) s

/-- WRCHT (R496). -/
def execWrcht (t : TaskId) (s : State) : Out := wardenWrite t (fun s => s.startOp .wrcht) s

/-- ACTCHT (R183, R496). -/
def execActcht (t : TaskId) (s : State) : Out := wardenWrite t (fun s => s.startOp .actcht) s

/-- RESTART (R496, R499). -/
def execRestart (t : TaskId) (s : State) : Out := wardenWrite t (fun s => s.startOp .restart) s

/-- CONFIRM (R496). -/
def execConfirm (t : TaskId) (s : State) : Out := wardenWrite t (fun s => s.startOp .confirm) s

/-- FUSE (R496). -/
def execFuse (t : TaskId) (s : State) : Out := wardenWrite t (fun s => s.startOp .fuse) s

end Sys2Proof.Machine
end

