-- ==== Sys2Proof/Machine/Paging.lean ====
section
/-! DEFINITION. The pager and the home: the keep write buffer, heat and placement, replicas, the scrub, band 4, memory
requests and responses (R214, R321, R367 to R382, R402). -/

namespace Sys2Proof.Machine

/-- Whatever waits for room, for a holder or for a tag is examined again. -/
def State.memWake (s : State) : State := s.homeRetry.wakeRetries

/-- KEEP_BUFFER_WRITE (R367): the oldest entry of the keep write buffer reaches its page's MRAM copy. -/
def execKeepBufferWrite (s : State) : Out :=
  .next (
    match s.ms.kwb with
    | [] => s
    | (l, bs) :: rest =>
      ({ s with ms := { s.ms with
          kwb := rest, mram := putLines [(l, bs)] s.ms.mram, flaws := putFlaws [(l, bs)] s.ms.flaws } }).memWake)

/-! Heat and placement (R369, R370, R398). -/

/-- The pager works: in HIBERNATE it stops (R438), and it is none of what goes on in HALT (R432). -/
def State.pagerRuns (s : State) : Bool :=
  match s.pwr.mode with
  | .off | .reset | .hibernate | .halt => false
  | _ => true

/-- A page's heat halves; the instant at which it became 0 is kept (R369). -/
def Page.cool (p : Page) (now : Nat) : Page :=
  { p with heat := p.heat / 2, coldAt := if p.heat ≠ 0 ∧ p.heat / 2 = 0 then now else p.coldAt }

/-- HEAT_DECAY (R369): every heat halves, that of remote pages and replicas too (R372). -/
def execHeatDecay (s : State) : Out :=
  whenDo s.pagerRuns s
    { s with ms := { s.ms with
        pages := s.ms.pages.map fun p => p.cool s.clk.ed
        replicas := s.ms.replicas.map fun r => { r with heat := r.heat / 2 }
        readHeat := tblMap (fun _ h => h / 2) s.ms.readHeat } }

/-- Near-memory share of a partition in gills: NEARQ MiB, for P0 what the tenants leave (R385, R386). -/
def State.nearShare (s : State) (p : PartId) : Nat := s.share p 30 (fun x => x.grants.nearq) * 256

/-- The near gills of partition `p`. -/
def State.nearGills (s : State) (p : PartId) : List Page := s.ms.pages.filter fun q => q.part = p && q.tier = 0

/-- The page of least heat, the first of those. -/
def coldest : List Page → Option Page
  | [] => none
  | p :: ps => match coldest ps with
    | none => some p
    | some q => if p.heat ≤ q.heat then some p else some q

/-- The page has stood at heat 0 for 60 s (R369). -/
def State.coldPage (s : State) (p : Page) : Bool := decide (p.heat = 0) && decide (p.coldAt + edMs 60000 ≤ s.clk.ed)

/-- A page that band 4 has evicted stays in MRAM while the band lasts (R378). -/
def State.heldOut (s : State) (p : Page) : Bool := p.evicted && decide (s.ms.band = 4)

/-- A gill moves into near memory where its partition's share has room for it, or in place of that share's coldest gill where it is
more than twice as hot; that one moves out to DRAM, where the other's own frame is free if it came from there (R369, R398). -/
def State.moveNear (s : State) (p : Page) : State :=
  if p.peck || decide (p.heat = 0) || s.heldOut p then s
  else if (s.nearGills p.part).length < s.nearShare p.part ∧ 0 < s.freeGills 0 then s.movePage p 0
  else
    match coldest (s.nearGills p.part) with
    | some c =>
      if 2 * c.heat < p.heat ∧ 0 < s.nearShare p.part ∧ (p.tier = 1 ∨ 0 < s.roomGills 1) then (s.movePage p 0).movePage c 1 else s
    | none => s

/-- PAGE_MIGRATE (R369, R370): the pager moves the page to a tier where the placement rules call for it: into near memory
by heat; to MRAM after 60 s at heat 0, where a keep page only releases its working copy; back to DRAM at a heat above
64, or out of near memory where the share has been lowered (R390, R398). -/
def execPageMigrate (part : PartId) (va : BitVec 48) (tier : BitVec 2) (s : State) : Out :=
  .next (
    match s.pageAt part va.toNat with
    | none => s
    | some p =>
      if p.tier = tier || !s.pagerRuns then s
      else if tier = 0 then s.moveNear p
      else if tier = 2 then
        if s.coldPage p && (p.keep || (decide (p.tier = 1) && decide (p.gills ≤ s.freeGills 2))) then s.movePage p 2 else s
      else if tier = 1 then
        if p.gills ≤ s.roomGills 1 ∧
            ((p.tier = 2 ∧ 64 < p.heat ∧ s.heldOut p = false)
              ∨ (p.tier = 0 ∧ s.nearShare part < (s.nearGills part).length)) then s.movePage p 1
        else s
      else s)

/-- BAND4_EVICT (R378): in band 4 the coldest non-keep page in DRAM that the free MRAM frames can hold moves there; EVICT tells whether
eviction runs. -/
def execBand4Evict (s : State) : Out :=
  .next (
    let stop := { s with ms := { s.ms with evict := false } }
    if s.ms.band ≠ 4 || !s.pagerRuns then stop
    else
      match coldest (s.ms.pages.filter fun p => p.tier = 1 && !p.keep && decide (p.gills ≤ s.freeGills 2)) with
      | none => stop
      | some p =>
        (({ s with ms := { s.ms with evict := true } }.movePage p 2).mapPage p fun q => { q with evicted := true }).count 73)

/-! Replicas (R372 to R374). -/

/-- This node's reads of a remote page of `n` bytes at `base` (R372). -/
def State.remoteHeat (s : State) (base n : Nat) : Nat :=
  ((s.ms.readHeat.filter fun e => overlaps base n (e.1 * 4096) 4096).map (·.2)).sum

/-- REPLICA_REQUEST (R372): this node's reads of the remote page that holds the reference have reached a heat of 256, and
the page's content comes to be held here where DRAM has a frame for it, colder replicas dropped; or, at the home, node `node` asks for one: it is sent and the holder
recorded. -/
def execReplicaRequest (node : NodeId) (ref : Word) (data : PageImage) (s : State) : Out :=
  .next (
    let part := refPart ref
    if s.isHere (refNode ref) then
      match s.pageAt part (refVa ref) with
      | none => s
      | some p =>
        let key := memKey part p.va
        let holders := tblGet [] key s.ms.directory
        let bad := (s.ms.poison.filter fun b => overlaps key p.size (b * 32) 32).map fun b => b - key / 32
        if s.isHere node || !s.reachable node || s.ms.asked.contains key then s
        else
          ({ s with ms := { s.ms with
              directory := tblPut key (if holders.contains node.toNat then holders else holders ++ [node.toNat])
                s.ms.directory } }).sendPacket node 5 1 0
            (.replicaData (s.refOf key) { bytes := memBytes s.ms.mem key p.size, bad := bad })
    else
      let n := max data.bytes.length 1
      let base := ref.toNat % 2 ^ 62 / n * n
      let heat := min (s.remoteHeat base n) 65535
      if 256 ≤ heat ∧ s.isHere node ∧ s.reachable (refNode ref) then
        let s1 := s.makeRoom ((n + 4095) / 4096)
        let rep : Replica := { ref := base, data := data.bytes, bad := data.bad, heat := heat }
        let others := s1.ms.replicas.filter fun (r : Replica) => r.ref ≠ base
        if (n + 4095) / 4096 ≤ ({ s1 with ms := { s1.ms with replicas := others } }).freeGills 1 then
          let s2 := s1.sendPacket (refNode ref) 5 0 0 (.replicaAsk ref)
          ({ s2 with ms := { s2.ms with replicas := others ++ [rep] } }).count 70
        else s
      else s)

/-- REPLICA_DISCARD_RX (R373): the holder serves no load from the replica any more and acknowledges to the home. -/
def execReplicaDiscardRx (ref : Word) (s : State) : Out :=
  let w := ref.toNat % 2 ^ 62
  let hit : Replica → Bool := fun r => decide (r.ref ≤ w) && decide (w < r.ref + r.data.length)
  .next (
    (({ s with ms := { s.ms with replicas := s.ms.replicas.filter fun r => !hit r } }).countBy 71
      (s.ms.replicas.filter hit).length).sendPacket (refNode ref) 5 1 0 (.discardAck ref))

/-- REPLICA_ACK_RX (R364, R373): a holder has discarded its replica; once every holder has, what waits on the page goes on, and the
frames of a released page are free. -/
def execReplicaAckRx (node : NodeId) (ref : Word) (s : State) : Out :=
  .next (
    let key := s.pageKey (refPart ref) (refVa ref)
    match tblFind key s.ms.directory with
    | none => s
    | some hs =>
      let rest := hs.filter fun h => h ≠ node.toNat
      (({ s with ms := { s.ms with
          directory := if rest.isEmpty then tblDel key s.ms.directory else tblPut key rest s.ms.directory
          asked := if rest.isEmpty then s.ms.asked.erase key else s.ms.asked } }).freeReleased).memWake)

/-! ECC and scrubbing (R379 to R382). -/

/-- The modes in which the patrol scrub runs (R380). -/
def State.scrubs (s : State) : Bool :=
  match s.pwr.mode with
  | .off | .reset | .boot | .hibernate | .halt => false
  | _ => true

/-- The address is in the last block of the last page: with it a patrol pass ends, which goes in the order of partitions and addresses
(R383; DESIGN CHOICE, log 24). -/
def State.lastBlock (s : State) (p : Page) (va : Nat) : Bool :=
  (s.ms.pages.all fun q => decide (memKey q.part q.va ≤ memKey p.part p.va)) && decide (p.va + p.size < va + 33)

/-- The scrub reads a block of a page's frame, or of its MRAM copy, that has `n` wrong bits in a code word: a corrected error counts
toward retirement of the frame; one that is not correctable poisons the block, whatever another copy holds (R379 to R381). -/
def State.scrubPage (s : State) (p : Page) (va : Nat) (copy : Bool) (n : Nat) : State :=
  let old := s.flawsAt copy (memKey p.part va / 32 * 32) 32
  let wrong := n + (old.map (·.wrong)).sum
  let s1 := old.foldl (fun s f => s.dropFlaw f) s
  if wrong = 0 then s1
  else if eccCorrects (p.copyTier copy) wrong then s1.correctedError p copy
  else s1.poisonBlock p.part va

/-- The scrub reads a free frame with wrong bits: corrected, the error counts toward the frame's retirement (R380); not correctable, it
is reported, and there is no data to poison. -/
def State.scrubFree (s : State) (tier : Fin 3) (nth wrong : Nat) : State :=
  let worn := (s.ms.worn.filter fun w => w.tier = tier.val)[nth]?
  if wrong = 0 || decide (s.freeGills tier = 0) then s
  else if eccCorrects tier wrong then
    match worn with
    | some w => ({ s with ms := { s.ms with worn := s.ms.worn.erase w } }).corrected.leaveFrame tier w.gills (s.opMs :: w.ce)
    | none => s.corrected.leaveFrame tier 1 [s.opMs]
  else s.uncorrected 0 0

/-- PATROL_SCRUB (R380, R381, R383): a block of a frame is read, corrected and rewritten. -/
def execPatrolScrub (part : PartId) (va : BitVec 48) (read : ScrubRead) (s : State) : Out :=
  whenDo s.scrubs s
    (let on : Bool → State := fun b => { s with ms := { s.ms with scrub := b } }
     match read.frame, s.pageAt part va.toNat with
     | .free tier nth, _ => (on true).scrubFree tier nth read.wrong.toNat
     | _, none => on true
     | .working, some p => (on (!s.lastBlock p va.toNat)).scrubPage p va.toNat false read.wrong.toNat
     | .copy, some p =>
       (on true).scrubPage p va.toNat (p.keep && decide (p.tier ≠ 2)) read.wrong.toNat)

/-! Requests and responses (R214, R321, R402). -/

/-- The request of tag `i` ends at this node without its response: its generation increments (R214). -/
def State.failTag (s : State) (i : Nat) (err : Fin 5) : State :=
  let s1 := s.setTag i { s.tagAt i with gen := (s.tagAt i).gen + 1 }
  let mine : HomeWait → Bool := fun w => w.req.node = 2046 && w.req.tag.val = i
  ({ s1 with ms := { s1.ms with homeWait := s1.ms.homeWait.filter fun w => !mine w } }).completeTag i
    { err := err, data := 0 }

/-- Requests in flight to an unreachable home end with HOME once the split or the new epoch is known here (R375). -/
def State.failUnreachable (s : State) : State :=
  let lost := s.fab.tags.filter fun x =>
    x.2.busy && !s.isHere (refNode x.2.addr) && !s.reachable (refNode x.2.addr)
  lost.foldl (fun s x => s.failTag x.1 1) s

/-- REQUEST_DEADLINE_EXPIRE (R214): an unanswered request ends with TIMEOUT. -/
def execRequestDeadlineExpire (tag : Fin 4096) (s : State) : Out :=
  whenDo ((s.tagAt tag).busy && decide ((s.tagAt tag).deadline ≤ s.fabNs)) s (s.failTag tag 2)

/-- RESPONSE_RX (R208, R214): a later copy of a packet, a response past its deadline, or one of no outstanding tag or another
generation, is discarded and counted; another completes its request. -/
def execResponseRx (pkt : ResponsePacket) (s0 : State) : Out :=
  .next (
    let r := pkt.r
    let fresh := s0.firstCopy pkt.src pkt.seq.toNat
    let s := fresh.2
    let g := s.tagAt r.tag
    if !fresh.1 then s
    else if r.deadline < s.fabNs then s.count 135
    else if !g.busy || g.gen ≠ r.gen then ({ s with fab := { s.fab with stale := true } }).count 134
    else s.completeTag r.tag { err := r.err, data := r.data })

/-- Generation `g` of a partition is older than `n`, both modulo 256 (R402). -/
def olderGen (g n : Byte) : Bool := g ≠ n && decide ((n - g).toNat < 128)

/-- The key of a reset notice: node and partition. -/
def noticeKey (node : NodeId) (part : PartId) : Nat := node.toNat * 8 + part.val

/-- HOME_REQUEST_RX (R208, R321, R324, R373, R402): a later copy of a packet is discarded; a request of an older generation is discarded and counted; a store or atomic
of a page with replicas waits for their holders; another is served and answered. -/
def execHomeRequestRx (pkt : RequestPacket) (s0 : State) : Out :=
  .next (
    let q := pkt.q
    let fresh := s0.firstCopy q.node pkt.seq.toNat
    let s := fresh.2
    if !s0.isHere (refNode q.ref) then s0
    else if !fresh.1 then s
    else if (match tblFind (noticeKey q.node q.part) s.fab.notices with
        | some n => olderGen q.pgen n
        | none => false) then s.count 75
    else if s.homeBlocked q then s.homePark q
    else
      let r := s.serveHome q
      r.1.respond q r.2)

end Sys2Proof.Machine
end

