-- ==== Sys2Proof/Machine/TaskInstr.lean ====
section
/-! DEFINITION. Task, time, event and message instructions, the fences, cnt.rd and mode (R326 to R328, R350 to R356). -/

namespace Sys2Proof.Machine

/-! Fences (R326 to R328). -/

/-- fence.l (R326): the store queue has drained, else the task waits. -/
def execFenceL (t : TaskId) (s : State) : Out :=
  onRunning t s fun _ s =>
    let s1 := s.drain t
    if s1.drained t then (s1.publish t).next t else s1.makeWait t .fenceL

/-- The pending store error of task `t` is taken (R322). -/
def State.clearError (s : State) (t : Nat) : State :=
  match s.task? t with
  | some k => s.setTask t { k with gerr := none }
  | none => s

/-- A fence.g or an exit of task `k`, once nothing of the task is outstanding: the pending store error, or `f` (R295,
R322, R327). -/
def fenceDone (t : TaskId) (k : Task) (w : Wait) (f : State → State) (s : State) : State :=
  let s1 := s.drain t
  if s1.drained t && !s1.outstanding t then
    match k.gerr with
    | some e => (s1.clearError t).exceptionN t e.cause k.pc e.addr (e.more + 1)
    | none => f s1
  else s1.makeWait t w

/-- fence.g (R327). -/
def execFenceG (t : TaskId) (s : State) : Out :=
  onRunning t s fun k s => fenceDone t k .fenceG (fun s => (s.publish t).next t) s

/-- fence.i (R328): fetched instructions come from memory as commands, so nothing buffered is there to discard; the task's own stores,
which it sees already (R319), go to memory, so that its fetches see them. -/
def execFenceI (t : TaskId) (s : State) : Out :=
  onRunning t s fun _ s =>
    let s1 := s.drain t
    if s1.drained t then s1.next t else s1.makeWait t .fenceI

/-- exit ga (R352): waits as fence.g, then the task is DONE. -/
def execExitT (t : TaskId) (ga : Reg) (s : State) : Out :=
  onRunning t s fun k s =>
    fenceDone t k (.exitG (k.get ga)) (fun s => (s.countDone t).endTask t (k.get ga)) s

/-! Tasks (R352). -/

/-- Task indices that partition `p` holds: tasks not yet joined (R279, R280). -/
def State.tasksOf (s : State) (p : PartId) : Nat := (s.cpu.tasks.filter fun x => x.2.part = p).length

/-- A new task `k` at index `i`, READY; a first fetch that fails raises FETCH in it (R352). -/
def State.startTask (s : State) (i : Nat) (k : Task) : State :=
  let s0 := (s.setTask i k).newIndex i
  let s1 := if s0.fetchOk k.part k.pc then s0.readErrors k.part k.pc.toNat 4 else (s0.goto0 i k.pc).afterEnd i
  match s1.task? i with
  | some k1 => match k1.st with
    | .ready => s1.makeReady i
    | _ => s1
  | none => s1

/-- spawn (R352): NO_BUDGET for a full task quota, then NO_SLOT where 512 tasks exist. -/
def execSpawnT (t : TaskId) (gd ga gb : Reg) (s : State) : Out :=
  onRunning t s fun k s =>
    if s.share k.part 512 (fun p => p.grants.taskq) ≤ s.tasksOf k.part then s.refuse t gd 3
    else
      match s.freeTask with
      | none => s.refuse t gd 2
      | some i =>
        let h := s.taskHandle i k.part
        let x := (Task.fresh k.part (k.get ga &&& ~~~3#64) k.evec).put 1 (k.get gb)
        (((s.countFor k.part 12).startTask i x).finish2 t gd gb 1 h)

/-- yield (R352): the task is READY, behind the others; HSC may place it again at once. -/
def execYieldT (t : TaskId) (s : State) : Out :=
  onRunning t s fun _ s =>
    let s1 := s.next t
    match s1.task? t with
    | some k1 => match k1.st with
      | .running _ => s1.makeReady t
      | _ => s1
    | none => s1

/-- join (R352): kind 0x04 for a handle that is stale or of another partition; a DONE task's index is freed and its exit
value returned; else the task waits. -/
def execJoinT (t : TaskId) (gd ga gb : Reg) (s : State) : Out :=
  onRunning t s fun k s =>
    match s.taskOf k.part (k.get ga) with
    | none => s.violate2 t 4 gd gb
    | some (i, x) =>
      match x.st with
      | .done v => ((s.freeIndex i).taught t (s.know i).seen).finish2 t gd gb 1 v
      | _ => s.makeWait t (.join gd gb (s.taskHandle i k.part))

/-! Time and events (R353, R354). -/

/-- time (R353). -/
def execTimeT (t : TaskId) (gd : Reg) (s : State) : Out :=
  onRunning t s fun _ s => s.finish t gd (BitVec.ofNat 64 s.fabNs)

/-- wait.until (R353): a deadline already past completes at once. -/
def execWaitUntil (t : TaskId) (gd ga : Reg) (s : State) : Out :=
  onRunning t s fun k s =>
    if (k.get ga).toNat ≤ s.fabNs then s.finish t gd (BitVec.ofNat 64 s.fabNs)
    else s.makeWait t (.until gd (k.get ga))

/-- wait.ev (R353, R354): the pending events in the mask, whose sticky ones clear; 0 at the deadline; else the task
waits. -/
def execWaitEv (t : TaskId) (gd ga gb : Reg) (s : State) : Out :=
  onRunning t s fun k s =>
    let mask : BitVec 16 := (k.get ga).setWidth 16
    let ev := s.pendingEvents k.part &&& mask
    if ev ≠ 0 then
      (s.mapPart k.part fun x => { x with events := x.events &&& ~~~ev }).finish t gd (ev.setWidth 64)
    else if k.get gb ≠ 0 ∧ (k.get gb).toNat ≤ s.fabNs then s.finish t gd 0
    else s.makeWait t (.event gd mask (k.get gb))

/-- WAIT_DEADLINE_EXPIRE (R353): fabric time has reached the deadline of a waiting task, which is READY. -/
def execWaitDeadlineExpire (t : TaskId) (s : State) : Out :=
  .next (
    match s.task? t with
    | none => s
    | some k =>
      match k.st with
      | .waiting (.until gd d) => if d.toNat ≤ s.fabNs then s.wake t gd (BitVec.ofNat 64 s.fabNs) else s
      | .waiting (.event gd _ d) => if d ≠ 0 ∧ d.toNat ≤ s.fabNs then s.wake t gd 0 else s
      | _ => s)

/-! Messages (R355, R356). -/

/-- The mailbox a descriptor names. -/
def msgBox (d : Word) : Fin 8 := ⟨fieldN d.toNat 2 0, Nat.mod_lt _ (by decide)⟩

/-- The partition a descriptor names. -/
def msgPart (d : Word) : PartId := ⟨fieldN d.toNat 6 4, Nat.mod_lt _ (by decide)⟩

/-- The node a descriptor names. -/
def msgNode (d : Word) : NodeId := BitVec.ofNat 11 (fieldN d.toNat 26 16)

/-- send queues the body for the mailboxes the descriptor names: here, at another node, or at every node; at this node the receiver
learns what the sender had learned of commits (R345). -/
def State.sendBody (s : State) (p : PartId) (d : Word) (body : List Byte) (seen : List (Nat × Nat)) : State :=
  let q := msgPart d
  let here := s.isHere (msgNode d)
  let all := msgNode d = 2047
  let s1 := if here then s
    else s.sendPacket (msgNode d) (BitVec.ofNat 3 (fieldN d.toNat 30 28)) 2 p (.message body q (msgBox d))
  if (here || all) && s1.partActive q then
    s1.deliverMsg q (msgBox d) { body := body, srcNode := s1.selfNode, srcPart := p, seen := seen, seq := none }
  else s1

/-- send (R355): kind 0x06 for a mailbox of another tenant, kind 0x01 for a body beyond the partition's pages, ECC for a
poisoned body; it waits for the task's own stores; NO_SLOT for a full mailbox at this node. -/
def execSendM (t : TaskId) (gd ga gb : Reg) (s : State) : Out :=
  onRunning t s fun k s =>
    let d := k.get ga
    let b := k.get gb
    let n := fieldN d.toNat 42 32 + 1
    let q := msgPart d
    if k.part ≠ 0 ∧ q ≠ 0 ∧ q ≠ k.part then s.violate t 6 gd
    else if !s.localOk k.part b n then s.violate t 1 gd
    else
      let s1 := s.drain t
      if !s1.drained t then s1.makeWait t (.retry false)
      else if s1.badRead k.part b.toNat n then (s1.readErrors k.part b.toNat n).exception t 2 k.pc b
      else if (s1.isHere (msgNode d) || decide (msgNode d = 2047)) && s1.partActive q && s1.boxFull (mailKey q (msgBox d)) then
        s1.refuse t gd 2
      else ((s1.readErrors k.part b.toNat n).sendBody k.part d (memBytes s1.ms.mem (memKey k.part b.toNat) n) (s.know t).seen).finish t gd 1

/-- recv (R356): kind 0x06 for a mailbox of another partition or a host-bound one, kind 0x01 for a buffer beyond the
partition's pages; an empty mailbox returns NO_SLOT where ga[8] asks for it, else the task waits. -/
def execRecvM (t : TaskId) (gd ga gb : Reg) (s : State) : Out :=
  onRunning t s fun k s =>
    let d := k.get ga
    let key := mailKey (msgPart d) (msgBox d)
    if msgPart d ≠ k.part ∨ s.hostBound (msgPart d) (msgBox d) then s.violate2 t 6 gd gb
    else if !s.localOk k.part (k.get gb) 2048 then s.violate2 t 1 gd gb
    else
      s.takeMsg t key k.part (k.get gb)
        (fun s => if bitN d.toNat 8 then s.refuse t gd 2 else s.makeWait t (.recv gd gb (k.get gb) key))
        (fun s => s.violate2 t 1 gd gb) (fun s => s.makeWait t (.recv gd gb (k.get gb) key)) (fun m s => (s.taught t m.seen).finish2 t gd gb 1 m.info)

/-! cnt.rd, mode (R350, R351, R400). -/

/-- cnt.rd (R350): the counter, zero-extended from 48 bits; kind 0x05 without rights. -/
def execCntRd (t : TaskId) (gd ga : Reg) (s : State) : Out :=
  onRunning t s fun k s =>
    let c := fieldN (k.get ga).toNat 7 0
    if s.mayCount k.part c then s.finish t gd ((tblGet 0 c s.obs.counters).setWidth 64) else s.violate t 5 gd

/-- The mode whose code a program may request (R351). -/
def modeOfCode (c : Nat) : Option Mode :=
  match c with
  | 2 => some .quiet
  | 3 => some .survey
  | 4 => some .isolate
  | 5 => some .relay
  | _ => none

/-- An accepted mode request (R180, R430): none for the mode in force; held in SILENCED during the hold-off; in DOZE and
HIBERNATE it sets BASE for QUIET and RELAY and starts the exit. -/
def State.requestMode (s : State) (m : Mode) : State :=
  if s.pwr.mode = m then s
  else if s.pwr.mode = .silenced ∧ s.holdOffRuns then { s with cht := { s.cht with heldMode := some m } }
  else if s.dozing then
    { s with pwr := { s.pwr with
        base := if m = .quiet ∨ m = .relay then m else s.pwr.base, req := some m, wakeReq := true } }
  else { s with pwr := { s.pwr with req := some m } }

/-- mode (R351): kind 0x07 at tenant privilege; NOT_OWNER for a code that programs may not request. -/
def execModeReq (t : TaskId) (gd ga : Reg) (s : State) : Out :=
  onRunning t s fun k s =>
    if k.part ≠ 0 then s.violate t 7 gd
    else
      match modeOfCode (fieldN (k.get ga).toNat 3 0) with
      | none => s.refuse t gd 6
      | some m => (s.requestMode m).finish t gd 1

end Sys2Proof.Machine
end

