-- ==== Sys2Proof/Machine/Partition.lean ====
section
/-! DEFINITION. Partitions: grants, creation, start, reset, and the Warden's partition words (R385 to R391, R401 to
R403). -/

namespace Sys2Proof.Machine

/-! Grants (R385, R386, R389, R390). -/

/-- Engine units charged to partition `p` (R85). -/
def State.engOf (s : State) (p : PartId) : Nat := s.sumSlots fun x => if x.ownedBy p then x.costNext else 0

/-- Canceller units charged to partition `p` (R145). -/
def State.canOf (s : State) (p : PartId) : Nat := s.sumSlots fun x => if x.ownedBy p then x.canCostNext else 0

/-- Channels of partition `p`. -/
def State.channelsOf (s : State) (p : PartId) : Nat := s.countSlots fun x => x.ownedBy p

/-- Every grant lies in its range, and TIME within CTX × 100 (R385, R389). -/
def Grants.inRange (g : Grants) : Bool :=
  decide (g.chq ≤ 192) && decide (g.taskq ≤ 512) && decide (g.eng ≤ 120000) && decide (g.can ≤ 64000)
    && decide (g.nearq ≤ 30) && decide (g.ctx ≤ 32) && decide (g.time ≤ 3200) && decide (g.dram ≤ 100)
    && decide (g.pkt ≤ 100) && decide (g.time ≤ g.ctx * 100)

/-- The sum of a grant over the tenants other than `p` that exist. -/
def State.sumOthers (s : State) (p : PartId) (f : Grants → Nat) : Nat :=
  (((List.finRange 8).filter fun q => q ≠ 0 && q ≠ p && s.parts[q].life ≠ .absent).map fun q => f s.parts[q].grants).sum

/-- Contexts of the worker cores that run. -/
def State.coreContexts (s : State) : Nat := ((List.range 8).filter fun c => s.cpu.coreUp.getLsbD c).length * 4

/-- The sums, P0's remainder and the free contexts admit the grants `g` for partition `p` (R389). -/
def State.grantsFit (s : State) (p : PartId) (g : Grants) : Bool :=
  let fits : Nat → (Grants → Nat) → Nat → Bool := fun total f held => decide (s.sumOthers p f + f g + held ≤ total)
  fits 192 (·.chq) (s.channelsOf 0) && fits 512 (·.taskq) (s.tasksOf 0) && fits 120000 (·.eng) (s.engOf 0)
    && fits 64000 (·.can) (s.canOf 0) && fits 30 (·.nearq) (((s.nearGills 0).length + 255) / 256)
    && fits 3200 (·.time) 0 && fits 100 (·.dram) 0 && fits 100 (·.pkt) 0 && fits s.coreContexts (·.ctx) 0

/-- The grants `g` with grant word `w` written (R390). -/
def Grants.write (g : Grants) (w : Nat) (v : Nat) : Grants :=
  if w = 0 then { g with chq := fieldN v 7 0, taskq := fieldN v 17 8, eng := fieldN v 34 18, can := fieldN v 50 35 }
  else if w = 1 then { g with memq := fieldN v 23 0, keepq := fieldN v 47 24, nearq := fieldN v 52 48 }
  else { g with ctx := fieldN v 5 0, time := fieldN v 19 8, dram := fieldN v 26 20, pkt := fieldN v 33 27,
                cnt := BitVec.ofNat 16 (fieldN v 49 34) }

/-- A grant word as it reads (R390). -/
def Grants.read (g : Grants) (w : Nat) : Word :=
  BitVec.ofNat 64 (
    if w = 0 then g.chq + g.taskq * 2 ^ 8 + g.eng * 2 ^ 18 + g.can * 2 ^ 35
    else if w = 1 then g.memq + g.keepq * 2 ^ 24 + g.nearq * 2 ^ 48
    else g.ctx + g.time * 2 ^ 8 + g.dram * 2 ^ 20 + g.pkt * 2 ^ 27 + g.cnt.toNat * 2 ^ 34)

/-- P0's holdings as the grant words read with PNUM 0 (R386, R389). -/
def State.wardenGrants (s : State) : Grants :=
  { chq := s.share 0 192 (·.grants.chq), taskq := s.share 0 512 (·.grants.taskq), eng := s.share 0 120000 (·.grants.eng)
    can := s.share 0 64000 (·.grants.can), memq := 2 ^ 24 - 1, keepq := 2 ^ 24 - 1
    nearq := s.share 0 30 (·.grants.nearq), ctx := 0, time := 0, dram := s.share 0 100 (·.grants.dram)
    pkt := s.share 0 100 (·.grants.pkt), cnt := 0xFFFF }

/-- A write of a grant word: taken whole, or refused with QERR (R389). -/
def State.writeGrant (s : State) (w : Nat) (v : Word) : State :=
  let p := s.pw.pnum
  if p = 0 then s
  else
    let g := s.parts[p].grants.write w v.toNat
    if g.inRange && (s.parts[p].life = .absent || s.grantsFit p g) then s.mapPart p fun x => { x with grants := g }
    else { s with pw := { s.pw with qerr := true } }

/-- PART_GRANT_WRITE (R389). -/
def execPartGrantWrite (t : TaskId) (word : Fin 3) (v : Word) (s : State) : Out :=
  wardenWrite t (fun s => s.writeGrant word.val v) s

/-! Keep pages of a partition that is created or destroyed (R368). -/

/-- The content of the MRAM copy of page `q` becomes its content. -/
def State.loadCopy (s : State) (q : Page) : State :=
  let a := memKey q.part q.va
  { s with ms := { s.ms with
      mem := (s.ms.mram.filter fun c => decide (a ≤ c.1) && decide (c.1 < a + q.size)).foldl
        (fun m c => memWrite c.1 c.2 m) (memZero a q.size s.ms.mem) } }

/-- The keep pages of partition `p` that stayed in MRAM return (R368). -/
def State.returnKept (s : State) (p : PartId) : State :=
  let mine := s.ms.keptMram.filter fun q => q.part = p
  let fresh : Page → Page := fun q => { q with keep := true, tier := 2, heat := 0, coldAt := s.clk.ed }
  mine.foldl State.loadCopy
    { s with ms := { s.ms with
        pages := s.ms.pages ++ mine.map fresh
        keptMram := s.ms.keptMram.filter fun q => q.part ≠ p } }

/-- The keep write buffer is flushed to the MRAM copies (R367). -/
def State.flushKeep (s : State) : State :=
  { s with ms := { s.ms with
      mram := putLines s.ms.kwb s.ms.mram
      flaws := putFlaws s.ms.kwb s.ms.flaws
      kwb := [] } }

/-- The keep pages of partition `p` stay in MRAM alone, their working copies released. -/
def State.stowKept (s : State) (p : PartId) : State :=
  let here : Page → Bool := fun q => q.part = p && q.keep
  let s1 := (s.flushKeep.ms.pages.filter fun q => here q && decide (q.tier ≠ 2)).foldl (fun s q => s.reframe q 2 false) s.flushKeep
  let mine := s1.ms.pages.filter here
  mine.foldl
    (fun s q => { s with ms := { s.ms with mem := memZero (memKey q.part q.va) q.size s.ms.mem } })
    { s1 with ms := { s1.ms with
        pages := s1.ms.pages.filter fun q => !here q
        keptMram := s1.ms.keptMram ++ mine } }

/-! Operations (R388). -/

/-- CREATE: checked as its grants would be, the partition is active, its keep pages return (R366, R368, R388). -/
def State.createPart (s : State) (p : PartId) : State :=
  let x := s.parts[p]
  if x.life ≠ .absent then s
  else if x.grants.inRange && s.grantsFit p x.grants then
    (s.mapPart p fun x =>
      { x with life := .active, effEng := x.grants.eng, effCan := x.grants.can, effCtx := 0, effTime := 0, credit := 0,
               qfull := false, kfull := false, poison := false, events := 0, tabs := Tables.initial,
               resetMuted := false }).returnKept p
  else { s with pw := { s.pw with qerr := true } }

/-- START: one task at SW.PART_ENTRY with SW.PART_ARG in g1 (R388, R391). -/
def State.startPart (s : State) (p : PartId) : State :=
  if s.parts[p].life ≠ .active ∨ s.parts[p].grants.taskq ≤ s.tasksOf p then s
  else
    match s.freeTask with
    | none => s
    | some i => (s.count 12).startTask i ((Task.fresh p (s.pw.entry &&& ~~~3#64) 0).put 1 s.pw.arg)

/-- A task ends with no result: no join of it completes (R401). -/
def State.stopTask (s : State) (t : Nat) : State :=
  let mine : Nat × Instr → Bool := fun x => x.1 = t
  let s1 := s.endTask0 t 0
  { s1 with cpu := { s1.cpu with heldQ := s1.cpu.heldQ.filter fun x => !mine x } }

/-- RESET and DESTROY begin (R401, t0 to t2): the tasks end and the channels are muted. -/
def State.beginReset (s : State) (p : PartId) (destroy : Bool) : State :=
  if s.parts[p].life ≠ .active then s
  else
    let s1 := (s.cpu.tasks.filter fun x => x.2.part = p).foldl (fun s x => s.stopTask x.1) s
    s1.mapPart p fun x => { x with life := .resetting destroy, resetMuted := true }

/-- CLEAR: the violation counter of the partition (R388, R391). -/
def State.clearViol (s : State) (p : PartId) : State := s.mapPart p fun x => { x with viol := 0, lastK := 0 }

/-- RELEASE: the keep pages of an absent partition's number are released and zeroed (R364, R388). -/
def State.releaseKept (s : State) (p : PartId) : State :=
  if s.parts[p].life ≠ .absent then s
  else
    (s.ms.keptMram.filter fun q => q.part = p).foldl
      (fun s q => { s with ms := { s.ms with mram := memZero (memKey q.part q.va) q.size s.ms.mram } })
      { s with ms := { s.ms with keptMram := s.ms.keptMram.filter fun q => q.part ≠ p } }

/-- An operation runs on the partition: its reset sequence (R387). -/
def Life.busy : Life → Bool
  | .resetting _ => true
  | .absent => false
  | .active => false

/-- A write of SW.PART_SEL that selects partition `p` with operation `op` (R387, R388): the operation is ignored while
another runs on that partition; all but CLEAR need a tenant. -/
def State.partOp (s : State) (p : PartId) (op : Nat) : State :=
  let s1 := { s with pw := { s.pw with pnum := p } }
  if s.parts[p].life.busy then s1
  else if op = 5 then s1.clearViol p
  else if p = 0 then s1
  else if op = 1 then s1.createPart p
  else if op = 2 then s1.startPart p
  else if op = 3 then s1.beginReset p false
  else if op = 4 then s1.beginReset p true
  else if op = 6 then s1.releaseKept p
  else s1

/-- PART_CREATE (R388). -/
def execPartCreate (t : TaskId) (pnum : PartId) (s : State) : Out := wardenWrite t (fun s => s.partOp pnum 1) s

/-- PART_START (R388). -/
def execPartStart (t : TaskId) (pnum : PartId) (s : State) : Out := wardenWrite t (fun s => s.partOp pnum 2) s

/-- PART_RESET (R388, R401). -/
def execPartReset (t : TaskId) (pnum : PartId) (s : State) : Out := wardenWrite t (fun s => s.partOp pnum 3) s

/-- PART_DESTROY (R388, R401). -/
def execPartDestroy (t : TaskId) (pnum : PartId) (s : State) : Out := wardenWrite t (fun s => s.partOp pnum 4) s

/-- PART_CLEAR (R388). -/
def execPartClear (t : TaskId) (pnum : PartId) (s : State) : Out := wardenWrite t (fun s => s.partOp pnum 5) s

/-- PART_RELEASE (R388). -/
def execPartRelease (t : TaskId) (pnum : PartId) (s : State) : Out := wardenWrite t (fun s => s.partOp pnum 6) s

/-- A write of SW.PART_SEL as a whole (R387). -/
def State.writePartSel (s : State) (v : Word) : State :=
  let s1 := if bitN v.toNat 27 then { s with pw := { s.pw with qerr := false } } else s
  s1.partOp ⟨fieldN v.toNat 2 0, Nat.mod_lt _ (by decide)⟩ (fieldN v.toNat 26 24)

/-- A write of SW.PART_ALLOC (R391): alloc for the selected partition where it is active; NOT_OWNER and base 0
elsewhere. -/
def State.writePartAlloc (s : State) (v : Word) : State :=
  let p := s.pw.pnum
  if s.partActive p then
    let r := s.allocFor p (fieldN v.toNat 47 0) (bitN v.toNat 48) (bitN v.toNat 49)
    let s1 := r.1
    { s1 with pw := { s1.pw with abase := BitVec.ofNat 48 r.2.2, acode := r.2.1.setWidth 8 } }
  else { s with pw := { s.pw with abase := 0, acode := 6 } }

/-- PART_ALLOC (R391). -/
def execPartAlloc (t : TaskId) (v : Word) (s : State) : Out := wardenWrite t (fun s => s.writePartAlloc v) s

/-! The reset sequence from t3 on (R401 to R403). -/

/-- A packet of this node that carries a request or a message of partition `p`, not an answer to one of another node's partition. -/
def TxPacket.asks (x : TxPacket) (p : PartId) (here : NodeId) : Bool :=
  x.part = p && decide (x.src = here) && (match x.body with
    | .request _ => true
    | .message _ _ _ => true
    | _ => false)

/-- Requests of partition `p` in flight are cancelled (R401, t3; R402): their tags, whichever task held them, are given up with a new
generation, so that a late response is stale (R214); what waits in LNK's output queues and at the ports is dropped. A request that
has reached its home keeps its effect. -/
def State.cancelRequests (s : State) (p : PartId) : State :=
  let cancel : Nat → Tag → Tag := fun _ g => if g.part = p && g.busy then { g with busy := false, gen := g.gen + 1 } else g
  let port : Port → Port := fun q => if q.asker = p then { q with probeWait := none, schedNext := none } else q
  ({ s with
    fab := { s.fab with tags := tblMap cancel s.fab.tags, out := s.fab.out.filter fun x => !x.asks p s.senderNode } }).mapPorts port

/-- A channel of the reset partition is freed, its output already at zero: the slot's generation rises, its cost is released,
its lane emptied; a fence stays with the slot (R175, R401, R403). -/
def State.resetChannel (s : State) (k : Nat) : State :=
  let s0 := if (s.slot k).committed then s.leaveLane k (s.slot k).set else s
  let s1 := (s0.mapSlot k fun x => { x.emptied with gen := x.gen + 1 }).dropBursts k
  { s1 with rad := { s1.rad with roundQ := s1.rad.roundQ.filter fun o => o.slot ≠ k } }

/-- A held inbound message for partition `p` is discarded and the slot returned (R413). -/
def State.dropInbound (s : State) (p : PartId) : State :=
  if s.hpi.iown && decide (fieldN s.hpi.isamp.toNat 6 4 = p.val) then
    ({ s with hpi := { s.hpi with iown := false, idrop := true, int := s.hpi.int ||| 1 } }).linePulse 16 0x91
  else s

/-- The channels of partition `p` are all muted by its reset and their outputs at zero: t2 has come (R108, R401). -/
def State.resetSilent (s : State) (p : PartId) : Bool :=
  s.rad.slots.all fun x => !(x.2.phase = .owned && x.2.owner = p) || (x.2.mutes.reset && (x.2.zero || !x.2.live))

/-- A partition reset frees a task index; an instruction of that task that is still on its way is of the old generation (R300). -/
def State.resetIndex (s : State) (t : Nat) (p : PartId) : State :=
  let s1 := s.freeIndex t
  { s1 with
    cpu := { s1.cpu with stale := tblPut t p s1.cpu.stale }
    ms := { s1.ms with late := s1.ms.late.filter fun e => e.1 ≠ p } }

/-- PART_RESET_COMPLETE (R401): the generation rises and a notice is broadcast (t3); tasks, channels, mailboxes, tables,
the violation counter and non-keep pages are returned (t4); the partition is active or absent (t5). -/
def execPartResetComplete (part : PartId) (s : State) : Out :=
  .next (
    match s.parts[part].life with
    | .resetting destroy =>
      if !s.resetSilent part then s
      else
        let gen := s.parts[part].gen + 1
        let s1 := (s.cancelRequests part).mapPart part fun x => { x with gen := gen }
        let s2 := s1.sendPacket 2047 6 0 part (.resetNotice part gen)
        let s3 := (s2.cpu.tasks.filter fun x => x.2.part = part).foldl (fun s x => s.resetIndex x.1 part) s2
        let s4 := ((s3.rad.slots.filter fun x => x.2.owner = part && (x.2.phase = .owned || x.2.phase = .reserved)).map
          (·.1)).foldl State.resetChannel s3
        let s5 := ({ s4 with mail := s4.mail.filter fun e => e.1 / 8 ≠ part.val }).dropInbound part
        let s6 := (s5.ms.pages.filter fun q => q.part = part && !q.keep).foldl State.releasePage s5
        let s7 := (s6.mapPart part fun x =>
          { x with tabs := Tables.initial, events := 0, resetMuted := false, credit := 0,
                   life := if destroy then .absent else .active
                   samp := Samp.initial, qfull := x.qfull && !destroy, kfull := x.kfull && !destroy, poison := x.poison && !destroy }).clearViol
            part
        let s8 := { s7 with obs := { s7.obs with sampled := tblDel part s7.obs.sampled } }
        (if destroy then s8.stowKept part else s8).memWake
    | _ => s)

/-- PART_RESET_NOTICE_RX (R402): this node, as a home, knows the partition's new generation. -/
def execPartResetNoticeRx (node : NodeId) (part : PartId) (gen : Byte) (s : State) : Out :=
  .next { s with fab := { s.fab with notices := tblPut (noticeKey node part) gen s.fab.notices } }

end Sys2Proof.Machine
end

