-- ==== Sys2Proof/Machine/Record.lean ====
section
/-! DEFINITION. Event records on their way from OBS's queue to MRAM (R476, R477). -/

namespace Sys2Proof.Machine

/-- Slots of the circulating area (R476). -/
def circSlots : Nat := 16384

/-- Slots of the permanent area (R476). -/
def permSlots : Nat := 4096

/-- The record with PERM set. -/
def withPerm (r : BitVec 256) : BitVec 256 := r ||| (1#256 <<< 16)

/-- The sequence number of a record (R474). -/
def recordSeq (r : BitVec 256) : Nat := fieldN r.toNat 62 48

/-- The oldest queued record is written to the circulating area and, while it has room, to the permanent area, alike in both
(R476, R477). -/
def State.commitRecord (s : State) : State :=
  match s.obs.queue with
  | [] => s
  | r :: rest =>
    let room : Bool := decide (s.obs.pcount < permSlots)
    let r' := if room then withPerm r else r
    { s with obs := { s.obs with
        queue := rest
        circ := tblPut (recordSeq r % circSlots) r' s.obs.circ
        perm := if room then tblPut s.obs.pcount r' s.obs.perm else s.obs.perm
        pcount := if room then s.obs.pcount + 1 else s.obs.pcount } }

/-- EVENT_RECORD_COMMIT (R477). -/
def execEventRecordCommit (s : State) : Out := .next s.commitRecord

/-- OPTIME_SAVE (R475). -/
def execOptimeSave (s : State) : Out :=
  whenDo (decide (s.pwr.mode ≠ .off)) s { s with obs := { s.obs with optSaved := s.opMs } }

end Sys2Proof.Machine
end

