-- ==== Sys2Proof/Machine/Link.lean ====
section
/-! DEFINITION. Chain links: states, frame headers, lane maps and their assignment at the head (R193 to R200, R221, R229,
R230, R234, R239, R240). -/

namespace Sys2Proof.Machine

/-! Elections begin with a link's change (R203). -/

/-- The node's own proposal, if it is donor-capable (R203). -/
def State.ownProposal (s : State) : Option Proposal :=
  if s.fab.donor then some { donor := true, prio := s.fab.prio, serial := Config.serial } else none

/-- An election starts at this node (R202 to R204): its own proposal stands, parents and accepts are forgotten, the ID it
contributes is fixed, and every replica it holds is discarded (R374). -/
def State.startElection (s : State) : State :=
  let own := s.ownProposal
  let s1 : State := { s with
    fab := { s.fab with
      elect := true, own := own, best := own, bestAt := s.clk.ed, proposalAt := s.clk.ed, parent := none,
      accepted := false, acceptOut := none, announce := none
      elId := if s.fab.idSet then some s.fab.nodeId else none }
    links := Vector.ofFn fun i =>
      let x := s.links[i]
      { x with child := false, accept := none, heard := none }
    ms := { s.ms with replicas := [] } }
  (s1.countBy 71 s.ms.replicas.length).count 142

/-! Link states (R199, R200). -/

/-- The TAP port's link. -/
def tapLink : LinkId := 3

/-- The links work: from BOOT on, and not in HALT (R23, R432). -/
def State.linksRun (s : State) : Bool :=
  match s.pwr.mode with
  | .off | .reset | .halt => false
  | _ => true

/-- LINK_LIGHT_DETECTED (R199, R200): a chain port trains; the TAP port has no TRAIN. -/
def execLinkLightDetected (l : LinkId) (s : State) : Out :=
  whenDo (s.linksRun && decide (l ≠ tapLink) && decide (s.links[l].st = .down)) s
    (s.mapLink l fun x => { x with st := .train })

/-- The chain port of a link, none for the TAP port. -/
def chainOf (l : LinkId) : Option ChainId := if h : l.val < 3 then some ⟨l.val, h⟩ else none

/-- LINK_UP (R200, R203, R219): training ends; a chain port's change starts an election. -/
def execLinkUp (l : LinkId) (s : State) : Out :=
  if l = tapLink then
    whenDo (s.linksRun && s.fab.tapEn && decide (s.links[l].st = .down)) s
      (s.mapLink l fun x => { x with st := .up, speed := s.fab.tapSpeed })
  else
    whenDo (decide (s.links[l].st = .train)) s ((s.mapLink l fun x => { x with st := .up, broken := false, miss := 0 }).startElection)

/-- The other link by which the ring leaves this node. -/
def State.ringOther (s : State) (l : ChainId) : Option ChainId :=
  (List.finRange 3).find? fun m => decide (m ≠ l) && s.links[chainLink m].ring && s.links[chainLink m].carries

/-- The copies of UL lanes that went out by the failed link travel back the other way, in the blocks of the opposite copies, those
blocks first that the node has kept (R240). -/
def State.returnCopies (s : State) (l : ChainId) : State :=
  let x := s.links[chainLink l]
  match s.ringOther l with
  | none => s
  | some m =>
    (x.lanesOut.filter fun a => a.uplink).foldl (fun s a =>
      match s.links[chainLink m].laneTo (laneKey a.node a.chan) with
      | none => s
      | some b =>
        s.mapLink (chainLink m) fun y =>
          ((x.outOf a.slot).kept.reverse).foldl (fun y e => y.sendBlock { b with returned := true } s.clk.ed e.2)
            { y with lanesOut := y.lanesOut.map fun c => if c.slot = b.slot then { c with returned := true } else c }) s

/-- A chain link that carried the fabric fails: on a ring its UL copies return, and the other link goes on as a ring link until the
new epoch (R207); elsewhere, and where the ring is open already, the fabric splits, and the nodes beyond the link are cut off (R209,
R210, R240). -/
def State.breakAt (s : State) (l : ChainId) : State :=
  let x := s.links[chainLink l]
  if x.carries then
    if x.ring && (s.ringOther l).isSome then s.returnCopies l
    else ({ s with fab := { s.fab with split := true, lost := s.fab.lost ||| x.beyond } }).linePulse 8 0x52
  else s

/-- The link is DOWN; frame lock, where there was any, is lost (R200, R221, R523). -/
def State.dropLink (s : State) (l : LinkId) : State :=
  let x := s.links[l]
  let lock := decide (x.st ≠ .down) && decide (x.st ≠ .train)
  let s1 := s.mapLink l fun x =>
    { x with st := .down, los := x.los || lock, ring := false, peerNode := 2047, peerState := 0, child := false,
             accept := none, delays := [], speed := false, synced := false, departed := [], miss := 0, heard := none, askUp := false,
             broken := x.broken || x.carries, copies := [], outs := [], sent := none }
  if lock && decide (l ≠ tapLink) then s1.linePulse 8 0x50 else s1

/-- The packets queued for a link that is lost are discarded at the break and their cells counted (R210). -/
def State.dropQueue (s : State) (l : ChainId) : State :=
  let lost := s.fab.out.filter fun p => p.link = l
  ({ s with fab := { s.fab with out := s.fab.out.filter fun p => p.link ≠ l } }).countBy 133 ((lost.map fun (p : TxPacket) => p.body.cells).sum)

/-- A chain link goes DOWN: what it carried breaks, and an election starts (R200, R203, R209, R210). A node left with no chain link
knows that every other node lies in another part, and its requests in flight end with HOME (R375). -/
def State.loseLink (s : State) (l : ChainId) : State :=
  ((((s.breakAt l).dropLink (chainLink l)).dropQueue l).dropArriving l).startElection.failUnreachable

/-- A LULL link returns to UP: a chain port that enters UP starts an election (R200, R203). -/
def State.endLull (s : State) (l : ChainId) : State :=
  (s.mapLink (chainLink l) fun x => { x with st := .up, askUp := false }).startElection

/-- LINK_DOWN (R200, R203, R209, R210). -/
def execLinkDown (l : LinkId) (s : State) : Out :=
  whenDo (decide (s.links[l].st ≠ .down)) s
    (match chainOf l with
     | none => s.dropLink l
     | some c => s.loseLink c)

/-- LINK_LULL_ENTER (R200, R437): in DOZE and HIBERNATE, where LLEN permits it, no lane is mapped and no cell is queued. -/
def execLinkLullEnter (l : ChainId) (s : State) : Out :=
  let x := s.links[chainLink l]
  whenDo (decide (x.st = .up) && s.pwr.llen && s.dozing && x.lanesIn.isEmpty && x.lanesOut.isEmpty
      && !(s.fab.out.any fun p => p.link = l)) s
    (s.mapLink (chainLink l) fun x => { x with st := .lull })

/-- LINK_LULL_EXIT (R200, R436). -/
def execLinkLullExit (l : ChainId) (s : State) : Out :=
  whenDo (decide (s.links[chainLink l].st = .lull)) s (s.endLull l).unannounced

/-! Frame headers (R196, R197). -/

/-- One bit of the CRC-8 of R197, polynomial 0x07, the most significant bit first. -/
def crc8Msb (c : Byte) (b : Bool) : Byte := if c.msb ^^ b then (c <<< 1) ^^^ 0x07 else c <<< 1

/-- One bit of the CRC-8 of R197, the least significant bit first: the reflected polynomial 0xE0. -/
def crc8Lsb (c : Byte) (b : Bool) : Byte := if c.getLsbD 0 ^^ b then (c >>> 1) ^^^ 0xE0 else c >>> 1

/-- The CRC-8 over bits [55:0] of a header (R197). The manual does not state its initial value and bit order. -/
def headerCrc (h : BitVec 64) : Byte :=
  if Config.crc8MsbFirst then
    (List.range 56).foldl (fun c i => crc8Msb c (h.getLsbD (55 - i))) Config.crc8Init
  else (List.range 56).foldl (fun c i => crc8Lsb c (h.getLsbD i)) Config.crc8Init

/-- The fields of a good header (R197). The map under an older version is read no more; the new one comes with
LANE_MAP_CHANGE of the same frame (R198). -/
def Link.takeHeader (x : Link) (h : BitVec 64) : Link :=
  let w := h.toNat
  let mapv : Byte := BitVec.ofNat 8 (fieldN w 35 28)
  { x with
    miss := 0
    frame := BitVec.ofNat 16 (fieldN w 15 0)
    peerEpoch := BitVec.ofNat 12 (fieldN w 27 16)
    lanesIn := if mapv = x.mapvIn then x.lanesIn else []
    mapvIn := mapv
    peerNode := BitVec.ofNat 11 (fieldN w 46 36)
    peerState := BitVec.ofNat 3 (fieldN w 49 47) }

/-- The line and record of a bad header or sync header (R221, R523). -/
def State.badFrame (s : State) (l : ChainId) : State := (s.mapLink (chainLink l) fun x => { x with err := true }).linePulse 8 0x51

/-- FRAME_HEADER_RX (R196, R197, R221): a frame whose sync headers are not where they belong is flagged, and the second such frame in
a row loses frame lock, which takes the link DOWN (R200); a header with a bad CRC is ignored, flagged, counted and recorded;
another is taken. -/
def execFrameHeaderRx (l : ChainId) (start : FrameStart) (s : State) : Out :=
  let k := chainLink l
  let hdr := start.hdr
  whenDo (decide (s.links[k].st ≠ .down) && decide (s.links[k].st ≠ .train)) s
    (if !start.sync then
       let s1 := s.badFrame l
       if 1 ≤ s.links[k].miss then s1.loseLink l else s1.mapLink k fun x => { x with miss := x.miss + 1 }
     else if BitVec.ofNat 8 (hdr.toNat / 2 ^ 56) = headerCrc hdr then s.mapLink k fun x => x.takeHeader hdr
     else (((s.badFrame l).mapLink k fun x => { x with miss := 0 }).count (128 + l.val)).log 0x1800 l.val 0 0)

/-! Lane maps (R198, R229, R230). -/

/-- The map that comes into force on a link direction: at the head, outbound, the one that it has assigned itself (R198). -/
def State.mapFor (s : State) (l : ChainId) (outbound : Bool) (map : List Lane) : List Lane :=
  if outbound && s.fab.isHead then tblGet map (dirKey s.senderNode l) s.fab.headMap else map

/-- Lane slot `i` carries the same lane under both maps. -/
def sameLane (old new : List Lane) (i : Nat) : Bool :=
  match old.find? fun a => a.slot = i, new.find? fun a => a.slot = i with
  | some a, some b => decide (a.node = b.node) && decide (a.chan = b.chan)
  | _, _ => false

/-- LANE_MAP_CHANGE (R198): the new map is in force in the frame in which MAPV changes. A lane that takes a slot of another begins
there anew, with a stamp (R228). -/
def execLaneMapChange (l : ChainId) (outbound : Bool) (mapv : BitVec 8) (map : List Lane) (s : State) : Out :=
  let k := chainLink l
  whenDo (s.links[k].carries) s
    (let m := s.mapFor l outbound map
     s.mapLink k fun x =>
      if outbound then { x with mapvOut := mapv, lanesOut := m, outs := x.outs.filter fun e => sameLane x.lanesOut m e.1 }
      else { x with mapvIn := mapv, lanesIn := m, copies := x.copies.filter fun e => sameLane x.lanesIn m e.1 })

/-- The lanes the head has mapped on link direction `d`. -/
def State.lanesOn (s : State) (d : Nat) : List Lane := tblGet [] d s.fab.headMap

/-- Lane `a` uses position `k` in some frame of phase `ph` modulo `p`. -/
def laneUses (a : Lane) (p ph k : Nat) : Bool :=
  a.pos.contains k && decide (a.phase % min a.p p = ph % min a.p p)

/-- Position `k` is free for a lane of divisor `p` and phase `ph` in every direction of `ds` (R230). -/
def State.posFree (s : State) (ds : List Nat) (p ph k : Nat) : Bool :=
  ds.all fun d => (s.lanesOn d).all fun a => !laneUses a p ph k

/-- The phase and positions of a new lane: the first that are free in every direction, from a start the manual leaves open
(R230). -/
def State.findLane (s : State) (ds : List Nat) (p n : Nat) : Option (Nat × List Nat) :=
  let st := Config.laneSearchStart s.free
  let ks := (List.range 102).map fun i => 10 + (i + st) % 102
  (List.range p).findSome? fun i =>
    let ph := (i + st) % p
    let free := (ks.filter fun k => s.posFree ds p ph k).take n
    if free.length = n then some (ph, free) else none

/-- The lowest lane slot that is free in direction `d`: each direction has its own 96 (R198). -/
def State.laneSlotFree (s : State) (d : Nat) : Option Nat :=
  (List.range 96).find? fun i => (s.lanesOn d).all fun a => a.slot ≠ i

/-- D_L of a lane (R234): LDEL within CEIL, or with LDEL at AUTO the largest required delay within CEIL among its members. -/
def launchDelay (ldel ceil : Nat) (members : List Nat) : Nat :=
  if ldel ≠ 0 then min ldel ceil else (members.filter fun d => decide (d ≤ ceil)).foldl max 0

/-- A lane the head knows nothing of. -/
def LaneRec.none : LaneRec := { profile := 15, uplink := false, ceil := 0, ldel := 0, dL := 0, ta0 := 0, members := [] }

/-- The required delays of a lane's members, by the anchor's profile and each one's path (R225, R234). -/
def LaneRec.delays (r : LaneRec) : List Nat := r.members.map fun m => (profileOf r.profile.toNat).required m.2.1

/-- The longest arrival path of a lane's members (R239). -/
def LaneRec.longest (r : LaneRec) : Nat := (r.members.map fun m => m.2.1).foldl max 0

/-- B: the largest delay of a branch that joins the lane (R239). -/
def LaneRec.join (r : LaneRec) : Nat := (r.members.map fun m => m.2.2).foldl max 0

/-- The request is the anchor's own (R224). -/
def fromAnchor (q : LaneRequest) : Bool := decide (q.node = q.anchorNode) && decide (q.slot = q.anchorSlot)

/-- The lane of a request. -/
def requestKey (q : LaneRequest) : Nat := laneKey q.anchorNode q.anchorSlot

/-- D_L set anew (R234). -/
def LaneRec.launch (r : LaneRec) : LaneRec := { r with dL := launchDelay r.ldel r.ceil r.delays }

/-- What the head holds of a lane after a request: the anchor's sets profile, CEIL, LDEL, D_L and TA(0); a member's adds its path,
which raises no D_L in force (R225, R226, R234, R238). -/
def LaneRec.note (r : LaneRec) (q : LaneRequest) : LaneRec :=
  if fromAnchor q then
    ({ r with profile := q.profile, uplink := q.uplink, ceil := q.ceil, ldel := q.ldel, ta0 := q.ta0 }).launch
  else
    let r0 := if r.profile = 15 then { r with uplink := q.uplink, ceil := q.ceil } else r
    let r1 := { r0 with members := tblPut (laneKey q.node q.slot) (q.path, q.join) r0.members }
    if r1.dL = 0 then r1.launch else r1

/-- The head's record of a lane. -/
def State.laneRec (s : State) (key : Nat) : LaneRec := tblGet LaneRec.none key s.fab.lanes

/-- The head notes what a request says of its lane. -/
def State.noteLane (s : State) (q : LaneRequest) : State :=
  { s with fab := { s.fab with lanes := tblPut (requestKey q) ((s.laneRec (requestKey q)).note q) s.fab.lanes } }

/-- The head recomputes D_L of every lane (R234: after each election). -/
def State.launchDelays (s : State) : State :=
  let f : Nat → LaneRec → LaneRec := fun _ r => r.launch
  { s with fab := { s.fab with lanes := tblMap f s.fab.lanes } }

/-- What the head answers of a lane to a channel over a path of `path` ps (R198, R225, R234, R238). -/
def LaneRec.answer (r : LaneRec) (granted : Bool) (path : Nat) : LaneAnswer :=
  { granted := granted, profile := r.profile, path := path, dL := r.dL, ceil := r.ceil, ta0 := r.ta0, join := r.join }

/-- The head's answer to a request: the anchor's path of an UL lane is the longest of its contributors (R239). -/
def State.answerLane (s : State) (q : LaneRequest) (granted : Bool) : State :=
  let r := s.laneRec (requestKey q)
  let a := r.answer granted (if fromAnchor q then max q.path r.longest else q.path)
  { s with fab := { s.fab with answers := tblPut (laneKey q.node q.slot) a s.fab.answers } }

/-- The channels on a lane, other than that with key `but`, with their paths: the anchor, whose path is the longest, and the members. -/
def LaneRec.others (r : LaneRec) (key but : Nat) : List (Nat × Nat) :=
  ((key, r.longest) :: r.members.map fun m => (m.1, m.2.1)).filter fun m => m.1 ≠ but

/-- What the head has changed of lane `key` goes to every channel on it but the one with key `but`: its maps take the anchor's grid,
profile and the largest branch delay B, and the anchor and each member are answered anew, those of this node at once (R225, R226,
R234, R239). -/
def State.spreadLane (s : State) (key but : Nat) : State :=
  let r := s.laneRec key
  let fresh : Nat → List Lane → List Lane := fun _ l => l.map fun a =>
    if laneKey a.node a.chan = key then { a with profile := r.profile, ta0 := r.ta0, join := r.join } else a
  let here : Nat × Nat → Bool := fun m => decide (m.1 / 256 = s.senderNode.toNat)
  let answers := ((r.others key but).filter fun m => !here m).foldl (fun t m => tblPut m.1 (r.answer true m.2) t) s.fab.answers
  let s1 := { s with fab := { s.fab with headMap := tblMap fresh s.fab.headMap, answers := answers } }
  ((r.others key but).filter here).foldl (fun s m =>
    if (commitWaiter (m.1 % 256) s.cpu.tasks).isSome then s else s.laneAgain (m.1 % 256) (r.answer true m.2)) s1

/-- The lane takes its blocks in the directions `ds`. -/
def State.mapLane (s : State) (ds : List Nat) (a : Lane) : State :=
  ds.foldl (fun s d => { s with fab := { s.fab with headMap := tblPut d (s.lanesOn d ++ [a]) s.fab.headMap } }) s

/-- A lane that a link direction already carries stays where it is in the head's map, unless something else stands there (R212,
R230). -/
def State.keepLane (s : State) (e : Nat × Lane) : State :=
  let clash := (s.lanesOn e.1).any fun b =>
    decide (b.slot = e.2.slot) || (decide (b.node = e.2.node) && decide (b.chan = e.2.chan))
      || e.2.pos.any fun k => laneUses b e.2.p e.2.phase k
  if clash then s else s.mapLane [e.1] e.2

/-- The directions in which lane `key` is mapped. -/
def State.dirsOf (s : State) (key : Nat) : List Nat :=
  (s.fab.headMap.filter fun d => d.2.any fun a => laneKey a.node a.chan = key).map (·.1)

/-- The lane `a` in each of the directions `ds`, in a lane slot of that direction's own; none where one has no slot left (R198). -/
def State.placeIn (s : State) (a : Lane) : List Nat → Option State
  | [] => some s
  | d :: ds =>
    match s.laneSlotFree d with
    | some i => (s.mapLane [d] { a with slot := i }).placeIn a ds
    | none => none

/-- The head places the lane of a request in the directions `ds`, or refuses with nothing changed (R198, R230). -/
def State.placeLane (s : State) (q : LaneRequest) (ds : List Nat) (profile : BitVec 4) : Option State :=
  let rate := (profileOf profile.toNat).rate
  let r := (s.laneRec (requestKey q)).note q
  if ds.isEmpty then some s
  else
    match s.findLane ds (laneDivisor rate) (laneCount rate) with
    | some (ph, pos) =>
      (s.useFree 1).placeIn
        { slot := 0, node := q.anchorNode, chan := q.anchorSlot.val, uplink := q.uplink, p := laneDivisor rate,
          phase := ph, pos := pos, returned := false, profile := profile, ta0 := r.ta0, join := r.join } ds
    | none => none

/-- LANE_MAP_REQUEST_RX (R198, R211, R212, R224, R225, R229, R230, R234, R239): the head assigns a lane slot, positions and phase that
are free in every direction the lane newly crosses, in all of them anew where the anchor's profile has changed, or answers
NO_BUDGET with nothing changed; a UL contributor whose place exceeds CEIL is not mapped; a channel that leaves its lane is taken
out of it. What it changes for the lane's other channels reaches them. -/
def execLaneMapRequestRx (q : LaneRequest) (s : State) : Out :=
  whenDo s.fab.isHead s
    (let s0 := q.kept.foldl (fun s e => s.keepLane e) s
     let r := s0.laneRec (requestKey q)
     let profile := if fromAnchor q || decide (r.profile = 15) then q.profile else r.profile
     if q.leave then s0.leaveAtHead q
     else if q.uplink && !fromAnchor q && decide ((r.note q).ceil < (profileOf profile.toNat).uplinkDelay q.path) then s0.answerLane q true
     else
       let anew := fromAnchor q && decide (r.profile ≠ 15) && decide (r.profile ≠ q.profile)
       let old := s0.dirsOf (requestKey q)
       let s1 := if anew then { s0 with fab := { s0.fab with headMap := (s0.unmapLane (requestKey q)).fab.headMap } } else s0
       let ds := if anew then old ++ q.dirs.filter fun d => !old.contains d else q.dirs.filter fun d => !old.contains d
       match s1.placeLane q ds profile with
       | some s2 => ((s2.noteLane q).answerLane q true).spreadLane (requestKey q) (laneKey q.node q.slot)
       | none => s0.answerLane q false)

end Sys2Proof.Machine
end

