-- ==== Sys2Proof/Machine/Election.lean ====
section
/-! DEFINITION. Elections and epochs (R201 to R207, R210 to R212, R222, R223, R234, R259, R374 to R376). -/

namespace Sys2Proof.Machine

/-- Proposal `a` precedes `b` (R203). -/
def betterProposal (a b : Proposal) : Bool :=
  if a.donor ≠ b.donor then a.donor
  else if a.prio ≠ b.prio then decide (b.prio.toNat < a.prio.toNat)
  else decide (a.serial.toNat < b.serial.toNat)

/-- The link carries the control blocks (R194, R199): also in LULL, where blocks 0 to 9 go on, though R204 names UP and BLOCKED alone
for proposals (DESIGN CHOICE, log 32). -/
def Link.controls (x : Link) : Bool := x.st = .up || x.st = .lull || x.st = .blocked

/-- ELECTION_START (R203): power-up. -/
def execElectionStart (s : State) : Out := whenDo s.linksRun s s.startElection

/-- A better proposal is taken: the election at this node goes back to its second step, with `l` as parent (R204). -/
def State.adopt (s : State) (l : ChainId) (p : Proposal) : State :=
  { s with
    fab := { s.fab with
      best := some p, bestAt := s.clk.ed, parent := some l, accepted := false, acceptOut := none, announce := none }
    links := Vector.ofFn fun i =>
      let x := s.links[i]
      { x with child := false, accept := none, heard := none } }

/-- The instant at which the best proposal arrived on a chain port is kept (R194). -/
def State.hear (s : State) (l : ChainId) (p : Proposal) : State :=
  if s.fab.best = some p ∧ s.links[chainLink l].heard = none then
    s.mapLink (chainLink l) fun x => { x with heard := some s.clk.ed }
  else s

/-- PROPOSAL_RX (R203 to R205): a node that was in no election starts one; a better proposal is taken and forwarded. -/
def execProposalRx (l : ChainId) (p : Proposal) (s : State) : Out :=
  whenDo (s.links[chainLink l].controls) s
    (let s0 := if s.fab.elect then s else s.startElection
     let s1 := { s0 with fab := { s0.fab with proposalAt := s0.clk.ed } }
     let s2 := match s1.fab.best with
       | none => s1.adopt l p
       | some b => if betterProposal p b then s1.adopt l p else s1
     s2.hear l p)

/-- PARENT_ANNOUNCE_RX (R204): whether the neighbour named this node as its parent. -/
def execParentAnnounceRx (l : ChainId) (named : Bool) (s : State) : Out :=
  whenDo (s.fab.elect && s.links[chainLink l].controls) s
    (s.mapLink (chainLink l) fun x => { x with child := named, accept := if named then x.accept else none })

/-- ACCEPT_RX (R204): a child's accept is kept; one whose CRC fails is not taken. -/
def execAcceptRx (l : ChainId) (a : Accept) (s : State) : Out :=
  whenDo (s.fab.elect && a.crcOk && s.links[chainLink l].child) s
    (s.mapLink (chainLink l) fun x => { x with accept := some a })

/-- Two accepts merged (R204). -/
def mergeAccept (a b : Accept) : Accept :=
  { count := a.count + b.count
    epoch := if a.epoch.toNat < b.epoch.toNat then b.epoch else a.epoch
    ids := a.ids ||| b.ids
    dups := a.dups ||| b.dups ||| (a.ids &&& b.ids)
    crcOk := true }

/-- The bitmap of one ID, or of none (R202, R204). -/
def idBit (id : Option NodeId) : BitVec 2048 :=
  match id with
  | some i => 1#2048 <<< i.toNat
  | none => 0

/-- This node's own accept (R204). -/
def State.ownAccept (s : State) : Accept :=
  { count := 1, epoch := s.fab.epoch, ids := idBit s.fab.elId, dups := 0, crcOk := true }

/-- The accepts of the neighbours that named this node as parent, and its own, merged (R204). -/
def State.mergedAccept (s : State) : Accept :=
  (List.finRange 3).foldl
    (fun a l => match s.links[chainLink l].accept with | some b => mergeAccept a b | none => a) s.ownAccept

/-- The two conditions of R204: the best proposal unchanged for 1 ms, and an accept from every child. -/
def State.settled (s : State) : Bool :=
  s.fab.elect && decide (s.fab.bestAt + edMs 1 ≤ s.clk.ed)
    && (List.finRange 3).all fun l =>
        let x := s.links[chainLink l]
        !x.child || !x.controls || x.accept.isSome

/-- ACCEPT_SEND (R204): the merged accept goes to the parent. -/
def execAcceptSend (s : State) : Out :=
  whenDo (s.settled && !s.fab.accepted && s.fab.parent.isSome && decide (s.fab.best ≠ s.fab.own)) s
    { s with fab := { s.fab with accepted := true, acceptOut := some s.mergedAccept } }

/-- The IDs of a bitmap beyond its lowest 2,000 dropped (R206: nodes beyond the 2,000th, in order of descending ID). -/
def lowest2000 (ids : BitVec 2048) : BitVec 2048 :=
  ((List.range 2048).foldl (fun (a : BitVec 2048 × Nat) i =>
    if ids.getLsbD i && decide (a.2 < 2000) then (a.1 ||| (1#2048 <<< i), a.2 + 1) else a) (0, 0)).1

/-- The IDs that take an address: not found twice, and among the first 2,000 when more accept (R206). -/
def acceptAddressed (a : Accept) : BitVec 2048 :=
  let ids := a.ids &&& ~~~a.dups
  if 2000 < a.count then lowest2000 ids else ids

/-- HEAD_ANNOUNCE (R204): the candidate becomes head and announces the new epoch. With the epoch, the count and the IDs found twice
the announcement brings the head's ID and the IDs that hold an address, which every node must know (R206, R223, R532) and for which
the manual names no carrier (DESIGN CHOICE, log 32). -/
def execHeadAnnounce (s : State) : Out :=
  let a := s.mergedAccept
  whenDo (s.settled && s.fab.own.isSome && decide (s.fab.best = s.fab.own) && s.fab.announce.isNone) s
    (let x : EpochAnnounce :=
       { epoch := a.epoch + 1, count := a.count, dups := a.dups, members := acceptAddressed a,
         head := s.fab.elId.getD 2047, crcOk := true }
     { s with fab := { s.fab with announce := some x } })

/-- EPOCH_ANNOUNCE_RX (R204, R205): an announcement of a later epoch is kept until the next round boundary. -/
def execEpochAnnounceRx (l : ChainId) (a : EpochAnnounce) (s : State) : Out :=
  whenDo (s.links[chainLink l].controls && a.crcOk && decide (s.fab.epoch.toNat < a.epoch.toNat)) s
    { s with fab := { s.fab with announce := some a } }

/-! The new epoch (R205 to R207). -/

/-- TSU's state where no source is present (R250, R259). -/
def Tsu.noSource (x : Tsu) : BitVec 2 := if x.everLocked then 3 else 0

/-- The head's SRC names an external source (R248). -/
def Tsu.external (x : Tsu) : Bool := x.src = 1 || x.src = 2

/-- The winning proposal arrived on chain port `l` after this node had it from its parent, and the neighbour had it from elsewhere
too: the link on which it arrived last of the loop that the link closes (R194). -/
def State.arrivedLast (s : State) (l : ChainId) : Bool :=
  let x := s.links[chainLink l]
  x.heard.isSome && decide (s.fab.parent ≠ some l) && !x.child

/-- The nodes that only chain link `l` reaches, by the accepts of the election: a child's are those it has accepted for, the parent's
all the others (R204). Nothing is lost with a link of a ring. -/
def State.nodesBeyond (s : State) (members : BitVec 2048) (l : ChainId) : BitVec 2048 :=
  let x := s.links[chainLink l]
  if s.fab.parent = some l then members &&& ~~~s.mergedAccept.ids
  else match x.accept with | some a => a.ids | none => 0

/-- A chain link at the new epoch (R193, R194). -/
def Link.atEpoch (x : Link) (ring blocked : Bool) (beyond : BitVec 2048) : Link :=
  let y := { x with broken := false, beyond := if ring then 0 else beyond }
  if x.controls then
    { y with ring := ring && !blocked, st := if blocked then .blocked else if x.st = .blocked then .up else x.st }
  else y

/-- What the node's fabric registers hold from the new epoch on (R201, R202, R205, R206, R222, R223). -/
def State.epochFab (s : State) (a : EpochAnnounce) : State :=
  let f := s.fab
  let held : Bool := match f.elId with | some i => a.members.getLsbD i.toNat && !a.dups.getLsbD i.toNat | none => false
  { s with fab := { f with
      elect := false, announce := none, accepted := false, acceptOut := none
      isHead := f.own.isSome && decide (f.best = f.own)
      up := if f.own.isSome && decide (f.best = f.own) then none else f.parent
      headless := false, wide := decide (64 < a.count), noAddr := !held, addr := f.elId
      nodes := a.count, selfAt := f.elId.getD 2047, headId := a.head, epoch := a.epoch, members := a.members, lost := 0 } }

/-- A key that no channel has. -/
def noKey : Nat := 2 ^ 20

/-- At the head, D_L is set anew and reaches the members; every member is examined under R235 (R234, R235). -/
def State.recheckMembers (s : State) : State :=
  let s1 := if s.fab.isHead then (s.fab.lanes.map (·.1)).foldl (fun s k => s.spreadLane k noKey) s.launchDelays else s
  (s1.rad.slots.map (·.1)).foldl (fun s k => s.memberCheck k) s1

/-- The head's maps at the new epoch (R212, R230): a node that becomes head starts from the lanes its own directions carry; one
that is head no longer holds none. -/
def State.headMaps (s : State) (wasHead : Bool) : State :=
  if s.fab.isHead then
    if wasHead then s
    else s.lanesKept.foldl (fun s e => s.mapLane [e.1] e.2)
      { s with fab := { s.fab with headMap := [], lanes := [], answers := [] } }
  else { s with fab := { s.fab with headMap := [], lanes := [], answers := [] } }

/-- Every channel of this node that uses a lane asks a new head for it again (R212). -/
def State.askAgain (s : State) (oldHead : NodeId) : State :=
  if s.fab.headId = oldHead then s
  else
    (s.rad.slots.filter fun x => x.2.live && (x.2.set.member || x.2.set.anchor)).foldl
      (fun s x => s.askHead (s.laneRequest x.1 x.2.set false)) s

/-- SYN without TSU's source: SYNTONISED becomes HOLDOVER, and the 10 s of R60 begin anew with the next source. A reference that is
LOCKING stays so, also where it has been SYNTONISED in an earlier spell (DESIGN CHOICE, log 21: R60 does not say how long "after
SYNTONISED" reaches). -/
def Syn.loseSource (y : Syn) : Syn := { y with ref := if y.ref = 2 then 3 else y.ref, inSince := none }

/-- TSU has lost its source (R259): HOLDOVER after LOCKED, else FREE; SYN holds its last value after SYNTONISED (R60). -/
def State.loseSource (s : State) : State :=
  let x := s.tsu
  let s1 : State := { s with
    tsu := { x with st := x.noSource, srcPresent := false, trace := false, inSince := none, outSince := none }
    syn := s.syn.loseSource }
  if x.noSource = 3 ∧ x.st ≠ 3 then s1.linePulse 10 0x61 else s1

/-- TSU at the new epoch (R247, R250, R259): a node that becomes head goes on from its own time, without a source until one comes;
a head with SRC none is FREE; a node that is head no longer follows its parent from the next exchange. A source that goes with
the epoch is lost. What an earlier parent announced of its state holds no longer, so the first exchange with the new one counts
(R260; FREE is put in its place until its INFO comes, DESIGN CHOICE, log 37). -/
def State.timeEpoch (s : State) (wasHead : Bool) : State :=
  let had := s.tsu.srcPresent
  let s1 := if had && decide (wasHead ≠ s.fab.isHead) then s.loseSource else s
  if s1.fab.isHead then
    { s1 with tsu := { s1.tsu with
        hops := 0
        trace := s1.tsu.trace && s1.tsu.external && wasHead
        st := if s1.tsu.external then (if wasHead then s1.tsu.st else s1.tsu.noSource) else 0
        srcPresent := s1.tsu.srcPresent && s1.tsu.external && wasHead } }
  else if wasHead then { s1 with tsu := { s1.tsu with trace := false, gm := none, gms := [], peerState := 0 } }
  else { s1 with tsu := { s1.tsu with peerState := 0 } }

/-- The chain links at the new epoch, of which `blocked` enter BLOCKED (R194). -/
def State.epochLinks (s : State) (ring blocked : ChainId → Bool) (beyond : ChainId → BitVec 2048) : State :=
  let links : Vector Link 4 := Vector.ofFn fun i =>
    match chainOf i with
    | some l => (s.links[i]).atEpoch (ring l) (blocked l) (beyond l)
    | none => s.links[i]
  { s with links := links }

/-- The new epoch is in force (R205): addresses, head, class, links, time source, directory, maps and members follow it, and a
node that boots over the chain asks its parent for an image (R494). A link that leaves BLOCKED enters UP, and so starts an
election (R194, R203). -/
def State.takeEpoch (s : State) (a : EpochAnnounce) (ring shared : BitVec 3) : State :=
  let blocked : ChainId → Bool := fun l => shared.getLsbD l.val && s.arrivedLast l
  let freed := (List.finRange 3).any fun l => decide (s.links[chainLink l].st = .blocked) && !blocked l
  let s1 := (((s.epochFab a).epochLinks (fun l => ring.getLsbD l.val) blocked (s.nodesBeyond a.members)).timeEpoch s.fab.isHead).headMaps s.fab.isHead
  let s2 : State := { s1 with
    ms := { s1.ms with directory := [], replicas := [], asked := [] }
    svc := { s1.svc with offer := none, offerBad := false, chainAsk := s1.svc.chainAsk ||
      (decide (s1.pwr.mode = .boot) && decide (s1.svc.bootsel = 2) && s1.fab.parent.isSome) } }
  let s3 := if a.dups = 0 then s2 else s2.linePulse 8 0x53
  let s4 := (((s3.log 0x1801 a.epoch.toNat a.head.toNat a.count).failUnreachable.memWake).freeReleased.recheckMembers).askAgain s.fab.headId
  let s5 := s4.eventAll 11
  if freed then s5.startElection else s5

/-- EPOCH_TAKE (R205): at the next round boundary. -/
def execEpochTake (ring shared : BitVec 3) (s : State) : Out :=
  .next (
    match s.fab.announce with
    | some a => s.nextBoundary.takeEpoch a ring shared
    | none => s)

/-- NO_PROPOSAL_TIMEOUT (R205, R210, R211, R375): 10 ms without a proposal, its own included: no donor-capable node is reachable,
and fabric time holds over. The head lies in another part, with those members that the split has cut off; which they are is a fact
of the links that no block tells a headless part (a free value), and requests to them end with HOME. -/
def execNoProposalTimeout (s : State) : Out :=
  whenDo (s.fab.elect && s.fab.own.isNone && decide (s.fab.proposalAt + edMs 10 ≤ s.clk.ed)) s
    (let cut := s.fab.members &&& (Config.cutOff s.free ||| idBit (some s.fab.headId)) &&& ~~~idBit s.fab.addr
     ({ s.useFree 1 with fab := { s.fab with
         elect := false, headless := true, isHead := false, lost := s.fab.lost ||| cut } }).loseSource.failUnreachable)

end Sys2Proof.Machine
end

