-- ==== Sys2Proof/Machine/Trunk.lean ====
section
/-! DEFINITION. Trunk lanes as they arrive at the node: stamps and alignment, sample blocks and uplink sums, lane states, the
noise-funnel gate (R224 to R245, case 9 of R301). -/

namespace Sys2Proof.Machine

/-! Stamps and alignment (R228, R233, case 9 of R301). -/

/-- Every live member of a lane at this node has been stamped since the change of time base. -/
def State.allStamped (s : State) : Bool :=
  s.rad.slots.all fun x => !(x.2.live && x.2.set.member) || x.2.trunk.stamped

/-- The copy of a lane that arrives by lane slot `i` of a link. -/
def Link.copy (x : Link) (i : Nat) : LaneCopy := tblGet { next := none, path := 0, desc := 0 } i x.copies

/-- The copy replaced. -/
def Link.putCopy (x : Link) (i : Nat) (c : LaneCopy) : Link := { x with copies := tblPut i c x.copies }

/-- A stamp reaches the channel in slot `k` by link `l` (R228, R233, R235). -/
def State.stampSlot (s : State) (k : Nat) (l : ChainId) (block : BitVec 64) (path : Nat) : State :=
  let x := s.slot k
  let s1 := if x.set.dlMember && (x.trunk.via.isNone || decide (x.trunk.via = some l)) then s.realign k path else s
  let s2 := s1.mapSlot k fun x => { x with trunk := x.trunk.stamp (fieldN block.toNat 23 0) (fieldN block.toNat 59 24) s.clk.ed }
  let s3 := { s2 with rad := { s2.rad with laneTimingFree := s2.rad.laneTimingFree && (!s2.allStamped || s2.tsu.set.isSome) } }
  s3.memberCheck k

/-- Where a DL block, or a stamp, that came by link `l` goes on: round a ring each copy its own way, on any other link the first copy
(R208, R232). -/
def State.passDl (s : State) (l : ChainId) (key : Nat) (n : Option Nat) (block : BitVec 64) : State :=
  let first : ChainId → Lane → Bool := fun m a =>
    decide (m ≠ l) && ((s.links[chainLink l].ring && s.links[chainLink m].ring)
      || match n with
        | some n => notBehind n (s.links[chainLink m].outOf a.slot).next || (s.links[chainLink m].outOf a.slot).count.isNone
        | none => true)
  s.sendLane key first fun x a => x.sendBlock a s.clk.ed block

/-- STAMP_BLOCK_RX (R228, R232, R233, R235, R253): the copy's path is `path` and the measured delay of the link's fibre; the copy is
numbered from here on, the stamp goes on with its lane, and every channel
here that takes the lane is stamped. -/
def execStampBlockRx (place : LanePlace) (block : BitVec 64) (path : Nat) (s : State) : Out :=
  let l := place.link
  let lane := place.lane
  whenDo (s.links[chainLink l].carries && !s.engineHeld && decide (fieldN block.toNat 63 60 = 14)) s
    (match s.laneIn l lane with
     | none => s
     | some a =>
       let key := laneKey a.node a.chan
       let num := fieldN block.toNat 23 0
       let all := path + s.links[chainLink l].fibre
       let s1 := s.mapLink (chainLink l) fun x => x.putCopy lane { x.copy lane with next := some num, path := all }
       let s2 := s1.passDl l key (some num) block
       (s2.takers key).foldl (fun s k => s.stampSlot k l block all) s2)

/-- A change of the fabric time base while a lane is mapped: trunk timing is undefined until every lane is stamped again
(case 9 of R301, R249). -/
def State.timeBaseChanged (s : State) : State :=
  let mapped := (List.finRange 4).any fun l => !s.links[l].lanesIn.isEmpty || !s.links[l].lanesOut.isEmpty
  let any := mapped || s.fab.headMap.any fun d => !d.2.isEmpty
  let clear : Nat → Slot → Slot := fun _ x => { x with trunk := { x.trunk with stamped := false } }
  if any then
    { s with rad := { s.rad with laneTimingFree := true, slots := tblMap clear s.rad.slots } }
  else s

/-! The head's answer. -/

/-- COMMIT_LANE_RESULT (R21, R198, R207, R212, R340): the head's answer takes effect, for a commit that has timed out as a refusal; WATCH
and an election hold it. -/
def execCommitLaneResult (slot : SlotId) (a : LaneAnswer) (s : State) : Out :=
  .next (
    let b := if s.answerLate slot then { a with granted := false } else a
    if s.holdsAnswers slot then { s with rad := { s.rad with laneAns := s.rad.laneAns ++ [(slot.val, b)] } }
    else s.laneResult slot b)

/-! DL lanes (R210, R232, R233, R236). -/

/-- The DL member in slot `k` takes the first copy of each sample; where that comes by another link than before, the alignment
follows (R232, R233). -/
def State.takeBlock (s : State) (k : Nat) (l : ChainId) (c : LaneCopy) (n : Nat) (block : BitVec 64) : State :=
  let x := s.slot k
  let new : Bool := match x.trunk.next with | some m => notBehind n m | none => false
  if new then
    let s1 := if x.trunk.via = some l then s else s.realign k c.path
    s1.takeDl k (some l) n (decodeBlock block)
  else s

/-! UL lanes (R238 to R241). -/

/-- How many blocks of returned copies wait for the other copy's. -/
def halfLen : Nat := 4096

/-- A copy comes back to the node at which it started: the first complete copy of each sample counts; of a sample with none, the two
returned copies are summed, whose delays may differ (R240). -/
def State.copyHome (s : State) (key n : Nat) (xs : List LaneSample) (returned : Bool) : State :=
  let h := s.home key
  let put : LaneHome → State := fun h => { s with fab := { s.fab with homes := tblPut key h s.fab.homes } }
  let new : Bool := match h.next with | some m => notBehind n m | none => true
  if !new then s
  else if !returned then
    (put { next := some (nextBlock n), half := h.half.filter fun e => notBehind e.1 (nextBlock n), retn := 0 }).deliverUl key n xs
  else
    match h.half.find? fun e => e.1 = n with
    | some e =>
      (put { next := some (nextBlock n), half := h.half.filter fun e => notBehind e.1 (nextBlock n), retn := 2 }).deliverUl key n
        (addSamples e.2 xs)
    | none => put { h with half := ((n, xs) :: h.half).take halfLen, retn := max h.retn 1 }

/-- The links by which branches of UL lane `key` arrive, rings apart. -/
def State.branches (s : State) (key : Nat) : List Nat :=
  ((List.finRange 3).filter fun m => !s.links[chainLink m].ring && s.links[chainLink m].laneFrom key).map (·.val)

/-- Some ring passes lane `key` on at this node. -/
def State.onRing (s : State) (key : Nat) : Bool :=
  (List.finRange 3).any fun m => s.links[chainLink m].ring && (s.links[chainLink m].laneTo key).isSome

/-- How many blocks of a lane's branches are kept. -/
def branchLen : Nat := 64

/-- A branch's block of number `n` is added to those that have come (R238). -/
def State.gather (s : State) (key n : Nat) (l : ChainId) (xs : List LaneSample) : State :=
  let all := tblGet [] key s.fab.sums
  let old := (all.find? fun e => e.num = n).getD { num := n, sum := [], heard := [] }
  let e : LaneSum := if old.heard.contains l.val then old else
    { num := n, sum := addSamples old.sum xs, heard := l.val :: old.heard }
  let rest := all.filter fun b => b.num ≠ n
  let put : List LaneSum → State := fun es => { s with fab := { s.fab with sums := tblPut key es s.fab.sums } }
  if s.onRing key then put ((e :: rest).take branchLen)
  else if (s.branches key).all fun m => e.heard.contains m then
    let s1 := put (e :: rest)
    let sum := s1.additions key n
    ({ s1 with fab := { s1.fab with sums := tblPut key rest s1.fab.sums } }).deliverUl key n sum
  else put ((e :: rest).take branchLen)

/-- A block that finds no contributor with an open gate and no other branch here passes bit for bit (R241). -/
def State.passUl (s : State) (key n : Nat) (l : ChainId) (block : BitVec 64) : State :=
  if (s.adders key n).isEmpty && decide (s.branches key = [l.val]) && !s.onRing key then
    let s1 := ((s.takers key).filter fun k => (s.slot k).set.sink).foldl (fun s k => s.sinkTake k n (decodeBlock block)) s
    s1.sendLane key (fun m _ => decide (m ≠ l)) fun x a => x.sendBlock a s1.clk.ed block
  else s.gather key n l (decodeBlock block)

/-- The lane's blocks on the link are returned copies from now on (R240). -/
def Link.markReturned (x : Link) (a : Lane) : Link :=
  { x with lanesOut := x.lanesOut.map fun c => if c.slot = a.slot then { c with returned := true } else c }

/-- A copy goes round the ring: each node adds to it, unless it is a returned one, and passes it on. Where the link it would go on by
has failed it returns by the link it came on, in the blocks of the opposite copy (R240); a returned one that no link takes on is
discarded here (R210). -/
def State.passRing (s : State) (key n : Nat) (l : ChainId) (block : BitVec 64) (returned : Bool) : State :=
  let sum := addSamples (decodeBlock block) (s.additions key n)
  let same := returned || s.addsNothing key n
  let s1 := if same then s else s.laneSat (overScale sum)
  let b := if same then block else encodeBlock (satSamples sum)
  match s.ringOther l with
  | some m => s1.sendLane key (fun j _ => decide (j = m)) fun x a => x.sendBlock a s.clk.ed b
  | none =>
    if returned then s
    else s1.sendLane key (fun j _ => decide (j = l)) fun x a => (x.markReturned a).sendBlock { a with returned := true } s.clk.ed b

/-- A block of an UL lane (R238, R240). -/
def State.ulBlock (s : State) (key n : Nat) (l : ChainId) (block : BitVec 64) (returned : Bool) : State :=
  if s.links[chainLink l].ring || returned then
    if s.ringHome key then s.copyHome key n (decodeBlock block) returned else s.passRing key n l block returned
  else s.passUl key n l block

/-- LANE_BLOCK_RX (R227, R232, R238 to R241): a sample or zero block of a lane that this node forwards, takes or adds to. -/
def execLaneBlockRx (l : ChainId) (lane : Fin 96) (typ : BitVec 4) (data : BitVec 60) (s : State) : Out :=
  let t := typ.toNat
  let block : BitVec 64 := typ ++ data
  whenDo (s.links[chainLink l].carries && !s.engineHeld && (decide (t ≤ 10) || decide (t = 15))) s
    (match s.laneIn l lane with
     | none => s
     | some a =>
       let key := laneKey a.node a.chan
       let c := s.links[chainLink l].copy lane
       let s1 := s.mapLink (chainLink l) fun x => x.putCopy lane { c with next := c.next.map nextBlock }
       if a.uplink then
         match c.next with
         | some n => s1.ulBlock key n l block (a.returned || decide (c.desc = 10))
         | none => s1
       else
         let s2 := s1.passDl l key c.next block
         match c.next with
         | some n => (s2.members key).foldl (fun s k => s.takeBlock k l c n block) s2
         | none => s2)

/-! Lane states (R210, R231, R236). -/

/-- The DL members of lane `a` follow descriptor `code` (R236). -/
def State.followDesc (s : State) (a : Lane) (code : BitVec 4) : State :=
  (s.members (laneKey a.node a.chan)).foldl (fun s k => s.followOn k code) s

/-- LANE_DESCRIPTOR_CHANGE (R231, R236): the descriptor of the lane that arrives by a lane slot of a link; DL members follow it, at
the relock where the main clock has lost its lock (R74). -/
def execLaneDescriptorChange (place : LanePlace) (code : BitVec 4) (s : State) : Out :=
  let l := place.link
  let lane := place.lane
  whenDo (s.links[chainLink l].carries) s
    (let s1 := s.mapLink (chainLink l) fun x => x.putCopy lane { x.copy lane with desc := code }
     match s.laneIn l lane with
     | none => s1
     | some a => if s.engineHeld then s1 else s1.followDesc a code)

/-- Every lane's DL members follow the descriptors that came while the trunk combiner was held (R74, R236). -/
def State.followAll (s : State) : State :=
  (List.finRange 3).foldl (fun s l =>
    s.links[chainLink l].lanesIn.foldl (fun s a => s.followDesc a ((s.links[chainLink l].copy a.slot).desc)) s) s

/-- The descriptors of lane `key` that have come are no longer valid (R236). -/
def State.dropDesc (s : State) (key : Nat) : State :=
  (List.finRange 3).foldl (fun s l =>
    (s.links[chainLink l].lanesIn.filter fun a => laneKey a.node a.chan = key).foldl (fun s a =>
      s.mapLink (chainLink l) fun x => x.putCopy a.slot { x.copy a.slot with desc := 0 }) s) s

/-- LANE_LOST (R210, R236): no copy of its lane reaches a DL member; its stamp and descriptor must come again. -/
def execLaneLost (slot : SlotId) (s : State) : Out :=
  let x := s.slot slot
  whenDo (x.live && x.set.dlMember && !x.trunk.lost && !s.engineHeld) s
    (let s1 := (s.dropDesc (s.laneOf slot x.set)).mapSlot slot fun x =>
       { x with trunk := { x.trunk with lost := true, stamped := false, desc := 0, next := none, via := none } }
     (({ s1 with rad := { s1.rad with tLost := true } }).trkMute slot).linePulse 9 0x58)

/-- LANE_RESTORE (R236): 1 ms after a stamp and valid descriptors have come again. -/
def execLaneRestore (slot : SlotId) (s : State) : Out :=
  let x := s.slot slot
  whenDo (x.live && x.trunk.lost && x.trunk.stamped && !s.engineHeld && decide (x.trunk.stampAt + edMs 1 ≤ s.clk.ed)
      && (decide (x.trunk.desc = 1) || decide (x.trunk.desc = 2))) s
    ((s.mapSlot slot fun x => { x with trunk := { x.trunk with lost := false } }).trkMute slot)

/-! The noise-funnel gate (R242, R243). -/

/-- The gate's ramp stands at place `p` from sample `n` on (R242). -/
def Trunk.mark (t : Trunk) (n p : Nat) : Trunk := { t with gates := ((n, p) :: t.gates).take 64 }

/-- The gate after a window of power beyond the threshold or not (R242): it opens with that window's first sample, and closes along a
ramp that begins with the next window's. -/
def Trunk.gateStep (x : Trunk) (high : Bool) (hang : Nat) : Trunk :=
  let y := { x with window := x.window + 16 }
  if high then
    if x.gateOpen then { y with below := 0 } else { (y.mark x.window 0) with gateOpen := true, below := 0 }
  else if x.gateOpen then
    if hang ≤ x.below + 1 then { (y.mark y.window 1) with gateOpen := false, below := 0 } else { y with below := x.below + 1 }
  else y

/-- The gate is held closed: it adds nothing from this window on (R243). -/
def Trunk.gateShut (x : Trunk) : Trunk :=
  { (x.mark x.window 17) with window := x.window + 16, gateOpen := false, below := 0 }

/-- GATE_WINDOW (R242, R243): a contributor's window of 16 samples ends. -/
def execGateWindow (slot : SlotId) (power : Level) (s : State) : Out :=
  let x := s.slot slot
  whenDo (x.live && x.set.contributor && x.set.trunk.gate && !s.engineHeld) s
    (if s.gateHeld x then
       s.mapSlot slot fun x => { x with trunk := x.trunk.gateShut }
     else
       let nrx := match x.set.rxPort with | some p => noiseRx p x.set | none => 0
       let high := decide (nrx + tenths x.set.trunk.gth ≤ power)
       let s1 := s.mapSlot slot fun x => { x with trunk := x.trunk.gateStep high x.set.trunk.ghang }
       if high && !x.trunk.gateOpen then s1.count 206 else s1)

/-- Contributors whose gate is closed (R245). -/
def State.gatedCount (s : State) : Nat :=
  (s.rad.slots.filter fun x => x.2.live && x.2.set.contributor && x.2.set.trunk.gate && !s.gateLive x.2).length

end Sys2Proof.Machine
end

