-- ==== Sys2Proof/Machine/Synth.lean ====
section
/-! DEFINITION. Converters, synthesisers and the reference (R57 to R80). -/

namespace Sys2Proof.Machine

/-! Converters (R63 to R68). -/

/-- ADC_CLIP (R66, R80): CLIP sets, and the first clip of an interval of 1 ms counts it. -/
def execAdcClip (port : PortId) (s : State) : Out :=
  let q := s.ports[port]
  let s1 := s.mapPort port fun q =>
    { q with clip := true, clipMs := true
             clipCnt := if q.clipMs then q.clipCnt else if q.clipCnt = 255 then 255 else q.clipCnt + 1 }
  .next (if q.clipMs then s1 else s1.count (192 + port.val))

/-- The coefficient set in force is kept under the present combination of bank and receive LO (R65). -/
def Port.keepCoefs (q : Port) : Port := q.keepSet q.tune.bank

/-- CNV adapts over an interval: valid receive samples in a receiving state, a composite of −75 dBm or more, and no clip (R63,
R66). -/
def Port.adapts (q : Port) (composite : Level) : Bool :=
  q.rxv && q.st.receives q.tune.donor && !q.clipMs && decide (-96000 ≤ composite)

/-- CONV after a millisecond of adapting input with the spur estimate `spur`: it clears when the estimate rises above −85 dBc, and
sets when it is at or below, at the latest after 200 ms of adapting input following a retune and 50 ms otherwise (R65). -/
def Port.converge (q : Port) (spur : Level) : Port :=
  if q.conv then
    if spur ≤ -108800 then q else { q with conv := false, adaptMs := 0, convMax := 50 }
  else { q with conv := decide (spur ≤ -108800) || decide (q.convMax ≤ q.adaptMs + 1), adaptMs := q.adaptMs + 1 }

/-- CNV_ADAPT_UPDATE (R63, R65, R66): every 1 ms the coefficients take CNV's estimate `est` while it adapts, and are held
otherwise; CONV follows its spur estimate. -/
def execCnvAdaptUpdate (port : PortId) (composite : Level) (est : CnvEstimate) (s : State) : Out :=
  .next (s.mapPort port fun q =>
    if q.adapts composite then { ({ q with coef := est.coef }.keepCoefs).converge est.spur with adapt := true, clipMs := false }
    else { q with adapt := false, clipMs := false })

/-- The transmit leakage is above −60 dBc or the image above −65 dBc (R68). -/
def txCalBad (leak image : Level) : Bool := decide (-76800 < leak) || decide (-83200 < image)

/-- The transmit calibration has measured `leak` and `image`; outside their limits CNV's line rises (R68, R523). -/
def State.txCal (s : State) (p : PortId) (leak image : Level) : State :=
  let s1 := s.mapPort p fun q => { q with txLeak := leak, txImage := image }
  if txCalBad leak image then s1.linePulse 2 0x20 else s1

/-- TX_CAL_TRACK (R68): between retunes, leakage and image are tracked while the port transmits, since the coupler hears nothing
else (DESIGN CHOICE, log 21: R68 names no such condition). -/
def execTxCalTrack (port : PortId) (leak image : Level) (s : State) : Out :=
  whenDo (decide (s.ports[port].tx = .on) && s.ports[port].retune.isNone) s (s.txCal port leak image)

/-! Port synthesisers (R69, R73). -/

/-- A synthesiser is without lock: SYN's line is high (R73, R74). -/
def State.synBad (s : State) : Bool :=
  s.syn.mainLost || s.syn.coreFail || (List.finRange 4).any fun p => s.ports[p].blank && !s.ports[p].lock

/-- SYN's line follows the locks. -/
def State.synLine (s : State) (kind : Byte) : State := s.lineLevel 1 kind s.synBad

/-- PORT_SYNTH_LOCKED (R69, R73, R74): the changed synthesisers are locked, which takes the main clock, and calibration runs. -/
def execPortSynthLocked (port : PortId) (s : State) : Out :=
  whenDo (decide (s.ports[port].retune = some .locking) && !s.engineHeld) s
    ((s.mapPort port fun q => { q with retune := some .calibrating, lock := true }).synLine 0x18)

/-- PORT_RETUNE_COMPLETE (R65, R68, R69, R73): the transmit path is calibrated, the coefficient set is loaded, samples are
valid, PCAL clears, and a port blanked by the loss of lock starts again. -/
def execPortRetuneComplete (cal : PortCal) (s : State) : Out :=
  let port := cal.port
  whenDo (decide (s.ports[port].retune = some .calibrating) && !s.engineHeld) s
    ((((((s.txCal port cal.leak cal.image).mapPort port fun q =>
      { q.loadCoef port q.bankAhead with retune := none, rxv := true, blank := false }).trackFreeze).fixOutputs port).drive
        port).beginBank port)

/-- A port synthesiser loses lock: the output is cut, samples are invalid, a burst ends early, and SYN relocks (R73). PCAL reads
1 from then until the sequence completes (DESIGN CHOICE, log 21: R78 sets it during the sequence of R69, of which SYN runs
the part from t2). -/
def State.portUnlock (s : State) (p : PortId) : State :=
  ((s.mapPort p fun q =>
    { q.stopTx s.clk.ed false with
      lock := false, blank := true, rxv := false, adapt := false, retune := some .locking }).trackFreeze).abortBurst p

/-- PORT_SYNTH_UNLOCK (R73). -/
def execPortSynthUnlock (port : PortId) (s : State) : Out :=
  whenDo s.ports[port].lock s
    (let s1 := s.portUnlock port
     (({ s1 with syn := { s1.syn with unlk := true } }).synLine 0x18).log 0x1100 port.val 0 0)

/-- MAIN_SYNTH_UNLOCK (R74): every port as by R73, and the engine's processing is held. -/
def execMainSynthUnlock (s : State) : Out :=
  whenDo s.syn.mainLk s
    (let s1 := (List.finRange 4).foldl (fun s p => s.portUnlock p) s
     (({ s1 with syn := { s1.syn with unlk := true, mainLk := false, mainLost := true } }).synLine 0x19).log 0x1100 4 0 0)

/-- A channel refills after the main clock's relock: a fade completes at once to its new settings, and the filter settles
beneath whatever state shows (R112). -/
def Slot.refill (x : Slot) : Slot := if x.live then ({ x with fade := none }).startFill x.set.prof else x

/-- MAIN_SYNTH_RELOCK (R74, R83, R112): the main clock is locked, rounds being counted from its first lock; after a loss every channel refills and REFILL sets. -/
def execMainSynthRelock (s : State) : Out :=
  whenDo (!s.syn.mainLk && decide (s.pwr.mode ≠ .off) && decide (s.pwr.mode ≠ .reset)) s
    (let s1 := s.lockMain
     if s.syn.mainLost then
       let fill : Nat → Slot → Slot := fun _ x => x.refill
       let s2 := { s1 with rad := { s1.rad with refill := true, slots := tblMap fill s1.rad.slots } }
       (s2.followAll.synLine 0x19).linePulse 3 0x28
     else s1)

/-! The reference (R59 to R61). -/

/-- SYN_CORRECTION_APPLY (R59, R60): the steering takes TSU's correction, limited to ±12 ppm, in one step while no port is in a
transmitting state, else slews toward it from here on, so far as it has slewed toward the last; the reference is LOCKING while the
offset measured is more than 0.05 ppm or it was not yet following a source. -/
def execSynCorrectionApply (corr offset : Int) (s : State) : Out :=
  whenDo s.tsu.srcPresent s
    (let y := s.syn
     let goal := clampInt corr (-1200000) 1200000
     let ms := (s.clk.ed - y.slewAt) / edMs 1
     let off := offset.natAbs
     { s with syn := { y with
         target := goal
         steer := if s.anyTx then s.steerNow else goal
         slewAt := if s.anyTx then y.slewAt + edMs 1 * ms else s.clk.ed
         inSince := if 5000 < off then none else some (y.inSince.getD s.clk.ed)
         ref := if 5000 < off ∨ y.ref = 0 ∨ y.ref = 3 then 1 else y.ref } })

/-- REF_SYNTONISED (R60): a source is present and the offset has been within 0.05 ppm for 10 s. -/
def execRefSyntonised (s : State) : Out :=
  whenDo (decide (s.syn.ref = 1) && s.tsu.srcPresent
      && (match s.syn.inSince with | some t => decide (t + edMs 10000 ≤ s.clk.ed) | none => false)) s
    { s with syn := { s.syn with ref := 2 } }

/-! The core clock (R75 to R77). -/

/-- A core frequency is requested: code 0b11 is taken as 400 MHz; the frequency in force and not in change has no effect;
a request in progress is replaced (R75, R77, R455). -/
def State.coreFreq (s : State) (f : BitVec 2) : State :=
  let f := if f = 3 then 2 else f
  let y := s.syn
  if y.coreF = f ∧ y.coreByp = false then s
  else { s with syn := { y with
      coreF := f, coreByp := true, coreLk := false } }

/-- CORE_FREQ_CHANGE (R75). -/
def execCoreFreqChange (f : BitVec 2) (s : State) : Out := .next (s.coreFreq f)

/-- CORE_SYNTH_LOCKED (R75): the tree is on the new frequency. -/
def execCoreSynthLocked (s : State) : Out :=
  whenDo (s.syn.coreByp && !s.syn.coreLk) s
    (({ s with syn := { s.syn with coreLk := true, coreByp := false, coreFail := false } }).synLine
      0x1A)

/-- CORE_SYNTH_LOCK_FAIL (R75, R523). -/
def execCoreSynthLockFail (s : State) : Out :=
  whenDo (s.syn.coreByp && !s.syn.coreLk) s
    ((({ s with syn := { s.syn with coreFail := true, unlk := true } }).synLine 0x1A).log 0x1100 5 0 0)

end Sys2Proof.Machine
end

