-- ==== Sys2Proof/Machine/Sched.lean ====
section
/-! DEFINITION. Windows, credit and time slices, withdrawn cores, the stop and restart of the Warden pair, and mode
transitions (R284, R285, R392 to R396, R429, R430, R497). -/

namespace Sys2Proof.Machine

/-! Windows (R392 to R394). -/

/-- 100 µs in ns (R392). -/
def windowNs : Nat := 100000

/-- The contexts of the running worker cores, in order. -/
def State.contexts (s : State) : List Nat := (List.range 32).filter fun c => s.cpu.coreUp.getLsbD (c / 4)

/-- Contexts dealt to partitions in ascending order, each taking its CTX (R394). -/
def dealContexts : List (Nat × Nat) → List Nat → List (Nat × Nat)
  | [], _ => []
  | (p, n) :: ps, cs => (cs.take n).map (fun c => (c, p)) ++ dealContexts ps (cs.drop n)

/-- A RUNNING tenant task goes back to READY, behind the others (R394, R395). -/
def State.takeOff (s : State) (t : Nat) : State :=
  match s.task? t with
  | some k =>
    match k.st with
    | .running _ =>
      { s with cpu := { s.cpu with
          tasks := tblPut t { k with st := .ready } s.cpu.tasks, ready := s.cpu.ready ++ [t] } }
    | _ => s
  | none => s

/-- The tenant task runs on a context that is not bound to its partition. -/
def State.misplaced (s : State) (k : Task) : Bool :=
  match k.st with
  | .running c => decide (k.part ≠ 0) && !s.cpu.bound.contains (c, k.part.val)
  | _ => false

/-- A window of `len` ns starts now: CTX and TIME come into force, contexts are bound, each active tenant has its credit
for the window's length, rounded down to a whole ns, and READY tasks are placed (R389, R392 to R394). -/
def State.startWindow (s : State) (len : Nat) : State :=
  let parts : Vector Part 8 := Vector.ofFn fun p =>
    let x := s.parts[p]
    if p ≠ 0 ∧ x.life = .active then
      { x with effCtx := x.grants.ctx, effTime := x.grants.time
               credit := x.grants.time * 1000 * len / windowNs * 65536 }
    else { x with credit := 0 }
  let demand := (List.finRange 8).filterMap fun (p : PartId) =>
    if p ≠ 0 ∧ parts[p].life = .active then some (p.val, parts[p].effCtx) else none
  let s1 := { s with parts := parts, cpu := { s.cpu with bound := dealContexts demand s.contexts } }
  ((s1.cpu.tasks.filter fun x => s1.misplaced x.2).foldl (fun s x => s.takeOff x.1) s1).place

/-- SCHED_WINDOW_START (R392, R393): the window ends at its multiple of 100 µs of fabric time and the next begins. -/
def execSchedWindowStart (s : State) : Out :=
  let s1 := if s.fabNs < s.cpu.windowEnd then s.passTime (s.cyclesTo s.cpu.windowEnd) else s
  let base := max s1.fabNs s.cpu.windowEnd
  .next (({ s1 with cpu := { s1.cpu with windowEnd := (base / windowNs + 1) * windowNs } }).startWindow windowNs)

/-- A step of fabric time ends the window: a short one follows, up to the next multiple of 100 µs (R392). -/
def State.shortWindow (s : State) : State :=
  let e := (s.fabNs / windowNs + 1) * windowNs
  ({ s with cpu := { s.cpu with windowEnd := e } }).startWindow (e - s.fabNs)

/-- CREDIT_EXHAUSTED (R395): the partition's credit has reached zero; its RUNNING tasks are READY until the next window. -/
def execCreditExhausted (part : PartId) (s : State) : Out :=
  whenDo (decide (part ≠ 0) && decide (s.parts[part].credit = 0) && decide (0 < s.runningOf part)) s
    (let mine := s.cpu.tasks.filter fun x => x.2.part = part
     let s1 : State := { s with cpu := { s.cpu with outC := true } }
     (mine.foldl (fun s x => s.takeOff x.1) s1).countFor part 14)

/-- 10 µs in ED cycles (R394). -/
def sliceCycles : Nat := 9831

/-- TASK_TIMESLICE (R394): a task that has run for 10 µs while another of its partition is READY and no context is free goes
to the back of the queue. -/
def execTaskTimeslice (t : TaskId) (s : State) : Out :=
  .next (
    match s.task? t with
    | some k =>
      match k.st with
      | .running _ =>
        if k.placedAt + sliceCycles ≤ s.clk.ed ∧ (s.freeCtx k.part).isNone ∧
            (s.cpu.tasks.any fun x => x.2.part = k.part && x.2.st = .ready) then (s.takeOff t).place
        else s
      | _ => s
    | none => s)

/-! Worker cores (R285, R396). -/

/-- An unbound context on a running core. -/
def State.spareCtx (s : State) : Option Nat := s.contexts.find? fun c => !(s.cpu.bound.any fun b => b.1 = c)

/-- One context of a withdrawn core moves to an unbound one, or its partition loses it (R396). -/
def State.moveCtx (s : State) (b : Nat × Nat) : State :=
  let rest := s.cpu.bound.filter fun x => x ≠ b
  let s1 := { s with cpu := { s.cpu with bound := rest } }
  match s1.spareCtx with
  | some c => { s1 with cpu := { s1.cpu with bound := rest ++ [(c, b.2)] } }
  | none =>
    s1.mapPart ⟨b.2 % 8, Nat.mod_lt _ (by decide)⟩ fun x =>
      let n := x.grants.ctx - 1
      { x with grants := { x.grants with ctx := n, time := min x.grants.time (n * 100) }
               effCtx := x.effCtx - 1, effTime := min x.effTime (n * 100), credit := min x.credit (n * 100 * 65536000) }

/-- WORKER_CORE_FAULT (R20, R285, R396): the tasks on the core end with cause CORE, HSC withdraws the core and moves its
contexts; with no core left the engine enters WATCH. -/
def execWorkerCoreFault (core : CoreId) (s : State) : Out :=
  whenDo (s.cpu.coreUp.getLsbD core.val) s
    (let on : Nat × Task → Bool := fun x => match x.2.st with | .running c => decide (c / 4 = core.val) | _ => false
     let s1 := ((s.linePulse 11 0x68).codedFault 11 0x68 0 (BitVec.ofNat 64 core.val))
     let s2 := { s1 with cpu := { s1.cpu with coreUp := s1.cpu.coreUp &&& ~~~(1#8 <<< core.val), wdr := true } }
     let s3 := (s.cpu.bound.filter fun b => b.1 / 4 = core.val).foldl State.moveCtx s2
     let s4 := (s.cpu.tasks.filter on).foldl (fun s x => s.exception x.1 5 x.2.pc 0) s3
     let s5 := (s4.linePulse 13 0x78).place
     if s5.cpu.coreUp = 0 then s5.enterWatch else s5)

/-! The Warden pair (R284). -/

/-- Stops within 10 minutes of operating time. -/
def State.recentStops (s : State) : List Nat := s.cpu.stops.filter fun e => decide (s.opMs < e + 600000)

/-- WARDEN_STOP (R20, R22, R24, R284): OBS records the stop, the engine enters WATCH, and with that entry every task ends with no
result; the third stop within 10 minutes keeps the pair stopped. -/
def execWardenStop (halted : Bool) (s : State) : Out :=
  whenDo s.cpu.wrun s
    (let stops := s.opMs :: s.recentStops
     let third := decide (3 ≤ stops.length)
     let kind : Byte := if third then 0x72 else if halted then 0x71 else 0x70
     let s2 := { s with cpu := { s.cpu with stops := stops, wardenHeld := s.cpu.wardenHeld || third } }
     let s3 := ((s2.linePulse 12 (if halted then 0x71 else 0x70)).log 0x1C00 (if halted then 0x71 else 0x70) 0 0)
     let s4 := if third then (s3.linePulse 12 kind).log 0x1C00 kind.toNat 0 0 else s3
     s4.pairStopped)

/-- A mode in which the pair restarts P0; from DOZE and HIBERNATE the entry to WATCH comes first (R284, R429). -/
def Mode.programs (m : Mode) : Bool :=
  match m with
  | .quiet | .survey | .isolate | .relay | .watch | .silenced => true
  | .off | .reset | .boot | .halt | .doze | .hibernate => false

/-- WARDEN_RESTART (R284): the pair restarts P0 from the image in force, in WATCH, or in SILENCED where that takes precedence; OBS
records it. -/
def execWardenRestart (s : State) : Out :=
  whenDo (!s.cpu.wrun && !s.cpu.wardenHeld && s.pwr.mode.programs) s
    ((s.log 0x1C01 s.recentStops.length 0 0).startWarden)

/-! Mode transitions (R429, R430, R497). -/

/-- The mode is one that a request leaves at the next round boundary. WATCH is left once the pair runs, be no worker core able to run
tasks (R22 is silent on that; DESIGN CHOICE, log 31). -/
def State.mayLeave (s : State) : Bool :=
  match s.pwr.mode with
  | .quiet | .survey | .isolate | .relay => true
  | .watch => s.cpu.wrun
  | .silenced => !s.holdOffRuns && s.cpu.wrun
  | _ => false

/-- The requested mode `m` takes effect at the next round boundary, unless that boundary itself brings SILENCED, which discards
the request (R429, R430). -/
def State.takeMode (s : State) (m : Mode) : State :=
  let s1 := s.nextBoundary
  if s1.pwr.req = some m then s1.changeMode m else s1

/-- MODE_TRANSITION (R429): a requested mode takes effect at a round boundary, and held instructions follow where WATCH is
left (R342); RELAY waits for the calibration of R497. -/
def execModeTransition (s : State) : Out :=
  .next (
    match s.pwr.req with
    | some m =>
      if s.mayLeave && !(s.pwr.calib = 1 && m = .relay) then s.takeMode m else s
    | none => s)

/-- The calibration of R497 has lasted 2.0 s. -/
def State.calibrated (s : State) : Bool := decide (s.pwr.calib = 1) && decide (s.pwr.calibAt + edMs 2000 ≤ s.clk.ed)

/-- ISOLATE_CALIBRATION_END (R497): the calibration has ended; a RELAY request that it held takes effect. Queued probes
start with PROBE_BURST_START. -/
def execIsolateCalibrationEnd (s : State) : Out :=
  whenDo s.calibrated s
    (let s1 := { s with pwr := { s.pwr with calib := 2 } }
     if s.pwr.req = some .relay ∧ s1.mayLeave then s1.takeMode .relay else s1)

end Sys2Proof.Machine
end

