-- ==== Sys2Proof/Machine/Time.lean ====
section
/-! DEFINITION. The time unit: transfer over the links, servo and steps, sources, PTP and the PPS pins (R246 to R266). -/

namespace Sys2Proof.Machine

/-! Steps and the servo (R246, R249 to R251, R255). -/

/-- An integer quotient, exact, or a free one (R253). -/
def quotient (num den : Int) : Int := if num % den = 0 then num / den else Config.roundDiv num den

/-- Fabric time is stepped to `fab`, in 2^-16 ns (R255): STEP sets, the event is recorded, exchanges in progress end, and a
short scheduling window follows (R392). -/
def State.stepTime (s : State) (fab : Nat) : State :=
  let s1 : State := { s with
    clk := { s.clk with fab := fab % 2 ^ 80 }
    tsu := { s.tsu with step := true }
    links := Vector.ofFn fun i =>
      let x := s.links[i]
      { x with synced := false, departed := [] } }
  let d := toUnsignedN 64 ((s1.fabNs : Int) - s.fabNs)
  (((s1.linePulse 10 0x60).log 0x1A00 (d % 2 ^ 32) (d / 2 ^ 32) 0)).shortWindow

/-- The most the servo moves fabric time between exchanges of 1.31072 µs: 10 µs per second, in 2^-16 ns (R253, R255). -/
def slewMost : Nat := 859

/-- Fabric time follows an offset of `num / den` sixteenths of a ns (R255): stepped from 1 µs on, else slewed. -/
def State.follow (s : State) (num den : Int) : State :=
  if 16000 * den ≤ num.natAbs then s.stepTime (((s.clk.fab : Int) + quotient (num * 4096) den) % 2 ^ 80).toNat
  else
    let most := min slewMost (num.natAbs * 4096 / den.natAbs)
    let m : Int := (min (Config.servoStep s.free) most : Nat)
    let s1 := s.useFree 1
    { s1 with clk := { s1.clk with fab := (((s.clk.fab : Int) + (if 0 ≤ num then m else -m)) % 2 ^ 80).toNat } }

/-- TSU's state for an offset of `num / den` sixteenths of a ns to a source that is present (R250, R251, R259). -/
def Tsu.seen (x : Tsu) (num den : Int) (now : Nat) : Tsu :=
  let within : Nat → Bool := fun n => decide ((num.natAbs : Int) ≤ n * den)
  { x with
    srcPresent := true
    offs := quotient num den
    st := if x.st = 0 then 1 else if x.st = 3 then (if within 1600 then 2 else 1) else x.st
    inSince := if within 320 then some (x.inSince.getD now) else none
    outSince := if within 1600 then none else some (x.outSince.getD now) }

/-- TRACE at the head: LOCKED to an external source (R251). -/
def State.headTrace (s : State) : State :=
  if s.fab.isHead then { s with tsu := { s.tsu with trace := s.tsu.external && decide (s.tsu.st = 2) } } else s

/-- An offset to the source: the node's time follows it (R255). -/
def State.offsetSeen (s : State) (num den : Int) : State :=
  ({ s with tsu := s.tsu.seen num den s.clk.ed }.headTrace).follow num den

/-! SYNC, ECHO and INFO (R252, R253). -/

/-- The parent port in force: none at the head, nor in a headless part, whose nodes stay in HOLDOVER (R211, R247, R260). -/
def State.isParent (s : State) (l : ChainId) : Bool := !s.fab.isHead && !s.fab.headless && decide (s.fab.up = some l)

/-- TIME_SYNC_RX (R252): the peer's departure instant and this node's arrival instant, in 1/16 ns. -/
def execTimeSyncRx (l : ChainId) (frame : BitVec 16) (block : BitVec 64) (arrival : Nat) (s : State) : Out :=
  whenDo (s.links[chainLink l].controls && decide (fieldN block.toNat 63 60 = 1)) s
    (s.mapLink (chainLink l) fun x =>
      { x with syncFrame := frame, syncT3 := fieldN block.toNat 59 0, syncT4 := arrival, synced := true })

/-- t4 − t3 of the last SYNC, the peer's time completed by the bits of its last INFO (R252). -/
def Link.backward (x : Link) : Int := signedN 68 ((x.syncT4 + 2 ^ 68 - (x.timeHigh.toNat * 2 ^ 60 + x.syncT3) % 2 ^ 68))

/-- Twice the link delay: (t2 − t1) + (t4 − t3), of which t2 is known modulo 2^44 (R252, R253). -/
def Link.roundTrip (x : Link) (t2 t1 : Nat) : Int := signedN 44 (toUnsignedN 44 ((t2 : Int) - t1 + x.backward))

/-- The offset of R253 times ten, in 1/16 ns: the asymmetry is in 0.1 ns. -/
def Link.offset10 (x : Link) (t2 t1 : Nat) : Int := 5 * x.roundTrip t2 t1 - 10 * x.backward - 8 * x.asym

/-- The departure instant of this node's SYNC frame that an ECHO names: as it was kept when the frame left, else as measured, `t1`
(R252). -/
def Link.departure (x : Link) (block : BitVec 64) (t1 : Nat) : Nat :=
  match x.departed.find? fun e => decide (e.1 = block.setWidth 16) with
  | some e => e.2
  | none => t1

/-- TIME_ECHO_RX (R252, R253, R255, R259, R260): an exchange is complete: the link delay enters the mean of 1,024, and on the
parent port fabric time follows the parent, unless that is in HOLDOVER. -/
def execTimeEchoRx (l : ChainId) (block : BitVec 64) (t1 : Nat) (s : State) : Out :=
  let k := chainLink l
  let x := s.links[k]
  whenDo (x.controls && x.synced && decide (fieldN block.toNat 63 60 = 2)) s
    (let t2 := fieldN block.toNat 59 16
     let t := x.departure block t1
     let d := quotient (x.roundTrip t2 t) 2
     let s1 := s.mapLink k fun x => { x with delays := (d :: x.delays).take 1024 }
     if s.isParent l && decide (s.tsu.peerState ≠ 3) then s1.offsetSeen (x.offset10 t2 t) 10 else s1)

/-- TIME_INFO_RX (R251, R252): the parent's state, TRACE, hop count and TAI offset. -/
def execTimeInfoRx (l : ChainId) (block : BitVec 64) (s : State) : Out :=
  let w := block.toNat
  whenDo (s.links[chainLink l].controls && decide (fieldN w 63 60 = 3)) s
    (let s1 := s.mapLink (chainLink l) fun x => { x with timeHigh := BitVec.ofNat 8 (fieldN w 7 0) }
     if s.isParent l then
       { s1 with tsu := { s1.tsu with
           peerState := BitVec.ofNat 3 (fieldN w 10 8), trace := bitN w 11
           hops := BitVec.ofNat 12 (fieldN w 23 12 + 1), tai := BitVec.ofNat 16 (fieldN w 39 24) } }
     else s1)

/-! SW.TSU_SET (R249). -/

/-- The next whole second of fabric time, in ns. -/
def State.nextSecond (s : State) : Nat := (s.fabNs / 1000000000 + 1) * 1000000000

/-- The whole second at which a time written now is applied: that of an earlier write that still waits, else the next (R249). -/
def State.setDue (s : State) : Nat :=
  match s.tsu.set with
  | some x => x.2
  | none => s.nextSecond

/-- TSU_SET (R249): at the head the step is queued, in place of one that waits; elsewhere ignored. -/
def execTsuSet (t : TaskId) (v : Word) (s : State) : Out :=
  wardenWrite t (fun s =>
    if s.fab.isHead then ({ s with tsu := { s.tsu with set := some (v, s.setDue) } }).timeBaseChanged else s) s

/-- TSU_SET_APPLY (R249): at the whole second of the old time that followed the write. -/
def execTsuSetApply (s : State) : Out :=
  .next (
    match s.tsu.set with
    | some (v, due) =>
      let s1 := s.passTime (s.cyclesTo due)
      let s2 := ({ s1 with tsu := { s1.tsu with set := none } }).stepTime (v.toNat * 65536)
      if s2.rad.laneTimingFree then s2.timeBaseChanged else s2
    | none => s)

/-! TSU states (R250, R251, R259). -/

/-- TSU_LOCKED (R250): within ±20 ns for 10 s. -/
def execTsuLocked (s : State) : Out :=
  let since : Bool := match s.tsu.inSince with | some e => decide (e + edMs 10000 ≤ s.clk.ed) | none => false
  whenDo (decide (s.tsu.st = 1) && s.tsu.srcPresent && since) s
    ({ s with tsu := { s.tsu with st := 2, everLocked := true } }.headTrace)

/-- TSU_UNLOCK (R251): beyond ±100 ns for 1 s. -/
def execTsuUnlock (s : State) : Out :=
  let since : Bool := match s.tsu.outSince with | some e => decide (e + edMs 1000 ≤ s.clk.ed) | none => false
  whenDo (decide (s.tsu.st = 2) && since) s ({ s with tsu := { s.tsu with st := 1 } }.headTrace)

/-- The node's source is gone (R259, R260, R263, R265): at the head its external source, elsewhere the parent port, a parent in
HOLDOVER, or the head itself. -/
def State.sourceGone (s : State) : Bool :=
  if s.fab.isHead then
    (decide (s.tsu.src = 1) && s.tsu.gm.isNone) || (decide (s.tsu.src = 2) && decide (3 ≤ s.tsu.ppsBad))
  else
    match s.fab.up with
    | some l => s.fab.headless || !s.links[chainLink l].controls || decide (s.tsu.peerState = 3)
    | none => true

/-- TSU_SOURCE_LOST (R259). -/
def execTsuSourceLost (s : State) : Out := whenDo (s.tsu.srcPresent && s.sourceGone) s s.loseSource

/-! PTP (R261 to R264). -/

/-- The TAP port is up. -/
def State.tapUp (s : State) : Bool := decide (s.links[tapLink].st = .up)

/-- PDELAY_REQ_RX (R262): answered, and the port's link delay measured. -/
def execPdelayReqRx (seq : BitVec 16) (linkDelay : Nat) (s : State) : Out :=
  whenDo s.tapUp s
    { s with tsu := { s.tsu with pdelay := linkDelay, pdelayOut := s.tsu.pdelayOut ++ [seq.toNat] } }

/-- An event message as it leaves the fabric (R262): the residence and the ingress node's link delay are added to
correctionField, for a two-step Sync in its Follow_Up. -/
def ptpLeaves (m : PtpEvent) : PtpEvent :=
  if m.twoStep && !m.followUp then m
  else { m with correction := m.correction + (m.egress - m.ingress + m.linkDelay) * 65536 }

/-- The head's clock runs on PTP and the message is of its domain and from the grandmaster it has selected (R261, R263). -/
def State.ptpSlave (s : State) (m : PtpEvent) : Bool :=
  s.fab.isHead && decide (s.tsu.src = 1) && decide (m.domain = s.tsu.domain) &&
    (match s.tsu.gm with | some g => decide (g.identity = m.clock) | none => false)

/-- A message of another clock leaves by the TAP port: it did not enter there, and PTPM does not keep it back (R220, R262,
R264). -/
def State.ptpEgress (s : State) (here kept : Bool) : Bool := s.tapUp && !here && !(s.tsu.ptpm && kept)

/-- The offset to the grandmaster that a Sync or Follow_Up gives, in 1/16 ns times 4,096: the link delay is this port's own where
the message entered here (R262, R263). -/
def State.ptpOffset (s : State) (m : PtpEvent) : Int :=
  (m.origin + (if m.here then (s.tsu.pdelay : Int) else m.linkDelay) - m.ingress) * 65536 + m.correction

/-- PTP_EVENT_RX (R262 to R264): an event message from another node's TAP leaves by the TAP port with its correction, unless
PTPM keeps a foreign Sync or Follow_Up back; the head's slave clock takes the offset of its grandmaster's Sync that carries
its origin. -/
def execPtpEventRx (m : PtpEvent) (s : State) : Out :=
  .next (
    let s1 := if s.ptpEgress m.here m.sync then
        { s with tsu := { s.tsu with ptpOut := s.tsu.ptpOut ++ [ptpLeaves m] } }
      else s
    if s.ptpSlave m && m.sync && (!m.twoStep || m.followUp) then s1.offsetSeen (s.ptpOffset m) 4096 else s1)

/-- The order of the best master clock algorithm (R263): priority 1, class, accuracy, variance, priority 2, identity, steps
removed. -/
def announceKey (a : PtpAnnounce) : Nat :=
  ((((((a.prio1.toNat * 256 + a.clockClass.toNat) * 256 + a.accuracy.toNat) * 65536 + a.variance.toNat) * 256
    + a.prio2.toNat) * 2 ^ 64 + a.identity.toNat) * 65536) + a.steps.toNat

/-- The grandmasters that announce themselves: those heard of within 3 of their Announce intervals (R263). -/
def State.announcing (s : State) : List (PtpAnnounce × Nat) :=
  s.tsu.gms.filter fun e => decide (s.clk.ed < e.2 + 3 * e.1.interval)

/-- The best of the grandmasters by the best master clock algorithm (R263). -/
def bestMaster : List (PtpAnnounce × Nat) → Option PtpAnnounce
  | [] => none
  | e :: r =>
    match bestMaster r with
    | some g => if announceKey g < announceKey e.1 then some g else some e.1
    | none => some e.1

/-- The head selects the best of the grandmasters `l`, and takes its offset of TAI (R252, R263). -/
def State.selectMaster (s : State) (l : List (PtpAnnounce × Nat)) : State :=
  let best := bestMaster l
  { s with tsu := { s.tsu with
      gms := l, gm := best
      tai := match best with | some g => g.utcOffset | none => s.tsu.tai } }

/-- PTP_ANNOUNCE_RX (R263, R264): an Announce from another node's TAP leaves by the TAP port unless PTPM keeps it back; the
head with SRC PTP selects the best grandmaster of its domain among those that still announce themselves. -/
def execPtpAnnounceRx (a : PtpAnnounce) (s : State) : Out :=
  let s1 := if s.ptpEgress a.here true then { s with tsu := { s.tsu with annOut := s.tsu.annOut ++ [a] } } else s
  whenDo (s.fab.isHead && decide (s.tsu.src = 1) && decide (a.domain = s.tsu.domain)) s1
    (s1.selectMaster ((a, s.clk.ed) :: s1.announcing.filter fun e => decide (e.1.identity ≠ a.identity)))

/-- GRANDMASTER_LOSS (R263): those that have fallen silent are dropped; with none left the source is lost, else the best of the
others is selected. -/
def execGrandmasterLoss (s : State) : Out :=
  whenDo (s.fab.isHead && decide (s.tsu.src = 1) && s.tsu.gm.isSome) s
    (let s1 := s.selectMaster s.announcing
     if s1.tsu.gm.isNone then s1.loseSource else s1)

/-- The clockClass a PTP master advertises (R264). -/
def Tsu.clockClass (x : Tsu) : Byte :=
  if x.st = 2 && x.trace then 6 else if x.st = 3 then 7 else if x.st = 0 then 248 else 52

/-- The node's own Announce (R264); what the manual does not give of it is free. -/
def State.ownAnnounce (s : State) : PtpAnnounce :=
  { here := true, domain := s.tsu.domain, prio1 := Config.ptpPriority 0, clockClass := s.tsu.clockClass
    accuracy := Config.ptpAccuracy.1, variance := Config.ptpAccuracy.2, prio2 := Config.ptpPriority 1
    identity := Config.ptpIdentity, steps := 0, utcOffset := s.tsu.tai, interval := Config.ptpInterval }

/-- The node's own two-step Sync, or the Follow_Up that carries its departure instant (R261, R264). -/
def State.ownSync (s : State) (followUp : Bool) : PtpEvent :=
  { here := true, domain := s.tsu.domain, clock := Config.ptpIdentity, sync := true
    origin := if followUp then s.fabNs else 0, twoStep := true, followUp := followUp, correction := 0
    ingress := s.fabNs, linkDelay := 0, egress := s.fabNs }

/-- PTP_MASTER_SEND (R261, R264): the node's own Announce, and its own Sync with the Follow_Up, leave by the TAP port. -/
def execPtpMasterSend (s : State) : Out :=
  whenDo (s.tsu.ptpm && s.tapUp) s
    { s with tsu := { s.tsu with
        adv := some s.tsu.clockClass
        annOut := s.tsu.annOut ++ [s.ownAnnounce]
        ptpOut := s.tsu.ptpOut ++ [s.ownSync false, s.ownSync true] } }

/-! PPS_IN and PPS_OUT (R265, R266). -/

/-- The offset of an instant in ns from the nearest whole second. -/
def secondOffset (ns : Int) : Int :=
  let r := ns % 1000000000
  if r ≤ 500000000 then r else r - 1000000000

/-- The head takes its phase from PPS_IN (R265). -/
def State.ppsHead (s : State) : Bool := s.fab.isHead && decide (s.tsu.src = 2)

/-- An edge ignored or missing: the third in a row is loss of source (R265). -/
def State.ppsFail (s : State) : State :=
  let s1 := { s with tsu := { s.tsu with ppsBad := s.tsu.ppsBad + 1 } }
  if s1.tsu.ppsBad = 3 then s1.loseSource else s1

/-- The edge, `o` ns after the nearest whole second, sets the phase: that second is where the edge was. From 1 µs on this is a step
(R255); below it the time moves at once too, and is no step (DESIGN CHOICE, log 37). -/
def State.setPhase (s : State) (o : Int) : State :=
  let s1 := { s with tsu := s.tsu.seen (-16 * o) 1 s.clk.ed }.headTrace
  let fab := (((s.clk.fab : Int) - o * 65536) % 2 ^ 80).toNat
  if 1000 ≤ o.natAbs then s1.stepTime fab else { s1 with clk := { s1.clk with fab := fab } }

/-- PPS_IN_EDGE (R265): timestamped, less PPSD; at the head with SRC PPS it sets the phase, or is ignored beyond 1 ms. -/
def execPpsInEdge (instant : Nat) (s : State) : Out :=
  let o := secondOffset ((instant : Int) - s.tsu.ppsd)
  .next (
    let s1 := { s with tsu := { s.tsu with ppsOff := o } }
    if !s.ppsHead then s1
    else if 1000000 < o.natAbs then
      (({ s1 with tsu := { s1.tsu with ppsin := true } }).linePulse 10 0x62).ppsFail
    else ({ s1 with tsu := { s1.tsu with ppsBad := 0 } }).setPhase o)

/-- PPS_IN_MISSING (R265). -/
def execPpsInMissing (s : State) : Out := whenDo s.ppsHead s s.ppsFail

/-- PPS_OUT_SECOND (R266): at the next whole second of fabric time; in BOOT the pin stays low (R509). -/
def execPpsOutSecond (s : State) : Out :=
  whenDo (decide (s.pwr.mode ≠ .off) && decide (s.pwr.mode ≠ .reset)) s
    (let s1 := s.passTime (s.cyclesTo s.nextSecond)
     { s1 with tsu := { s1.tsu with ppsOut := s1.tsu.ppsoe && decide (s.pwr.mode ≠ .boot), ppsRise := s1.clk.ed } })

/-- PPSW in ms: 0 is taken as 1 (R248). -/
def Tsu.ppsMs (x : Tsu) : Nat := max x.ppsw.toNat 1

/-- PPS_OUT_FALL (R266). -/
def execPpsOutFall (s : State) : Out :=
  whenDo (s.tsu.ppsOut && decide (s.tsu.ppsRise + edMs s.tsu.ppsMs ≤ s.clk.ed)) s
    { s with tsu := { s.tsu with ppsOut := false } }

end Sys2Proof.Machine
end

