-- ==== Sys2Proof/Machine/Power.lean ====
section
/-! DEFINITION. Lead time, idle depth, DOZE and HIBERNATE, the feeds, the power-loss sequence, reset and power-up (R429 to
R444, R456, R475, R490, R506). -/

namespace Sys2Proof.Machine

/-! Lead time and idle depth (R434, R435). -/

/-- The ns from now to the next switch point of a port's running schedule (R40). -/
def Port.nextSwitch (q : Port) (now : Nat) : List Nat :=
  match q.sched with
  | some sc =>
    if q.schedRun ∧ sc.period ≠ 0 then
      sc.points.map fun pt => sc.toPoint pt now
    else []
  | none => []

/-- The deadline of a waiting task. -/
def Task.deadline (k : Task) : List Nat :=
  match k.st with
  | .waiting (.until _ d) => [d.toNat]
  | .waiting (.event _ _ d) => if d = 0 then [] else [d.toNat]
  | _ => []

/-- HKR in force: 0 is taken as 1 (R455). -/
def Pwr.recordRounds (x : Pwr) : Nat := max x.hkr 1

/-- The ns from now to every known event (R434). -/
def State.knownEvents (s : State) : List Nat :=
  let now := s.fabNs
  let due := s.cpu.tasks.flatMap fun x => x.2.deadline
  let points := (List.finRange 4).flatMap fun p => s.ports[p].nextSwitch now
  let record := (s.thm.roundAt + (s.pwr.recordRounds - s.thm.rounds) * edMs 10 - s.clk.ed) * 100000 / 98304
  let dump := if s.obs.ringLen = 0 then [] else
    [(now / (s.obs.period * 1000000) + 1) * (s.obs.period * 1000000) - now]
  let timer := if s.pwr.tmr = 0 then [] else [s.pwr.tmr.toNat - now]
  due.map (fun d => d - now) ++ points ++ [record] ++ dump ++ timer

/-- The lead time L in ns (R434). -/
def State.leadNs (s : State) : Nat :=
  match s.knownEvents with
  | [] => 2 ^ 64
  | x :: xs => xs.foldl min x

/-- LEAD_TIME_RECOMPUTE (R434, R461): L in µs, saturating. -/
def execLeadTimeRecompute (s : State) : Out :=
  .next { s with pwr := { s.pwr with lead := min (s.leadNs / 1000) (2 ^ 32 - 1) } }

/-- No task is on any context of the core. -/
def State.coreIdle (s : State) (core : Nat) : Bool :=
  !s.cpu.tasks.any fun x => match x.2.st with | .running c => decide (c / 4 = core) | _ => false

/-- The deepest depth that the lead time permits (R435). -/
def State.depthFor (s : State) : BitVec 2 :=
  let l := s.leadNs
  if s.pwr.d3en && decide (4000000 ≤ l) then 3 else if 40000 ≤ l then 2 else if 200 ≤ l then 1 else 0

/-- The core's depth is set; an entry into D3 counts (R526). -/
def State.setDepth (s : State) (core : CoreId) (d : BitVec 2) : State :=
  let s1 := { s with pwr := { s.pwr with depth := s.pwr.depth.set core d } }
  if d = 3 ∧ s.pwr.depth[core] ≠ 3 then s1.count 15 else s1

/-- CORE_IDLE_ENTER (R435). -/
def execCoreIdleEnter (core : CoreId) (s : State) : Out :=
  whenDo (s.cpu.coreUp.getLsbD core.val && s.coreIdle core.val) s (s.setDepth core s.depthFor)

/-- CORE_IDLE_EXIT (R435). -/
def execCoreIdleExit (core : CoreId) (s : State) : Out := .next (s.setDepth core 0)

/-- The depth of a core in force: a task placed on it wakes it at once (R435). -/
def State.coreDepth (s : State) (core : CoreId) : BitVec 2 :=
  if s.cpu.coreUp.getLsbD core.val && s.coreIdle core.val then s.pwr.depth[core] else 0

/-- The deepest idle depth in force (R460). -/
def State.deepest (s : State) : BitVec 2 :=
  (List.finRange 8).foldl (fun (d : BitVec 2) c => if d.toNat < (s.coreDepth c).toNat then s.coreDepth c else d) 0

/-! DOZE and HIBERNATE (R437 to R439). -/

/-- No channel is SETTLING, LIVE, TRIMMED or FADING, and no probe is pending (R437). -/
def State.channelsQuiet (s : State) : Bool :=
  (s.rad.slots.all fun x => x.2.code < 2 || 5 < x.2.code)
    && (List.finRange 4).all fun p => s.ports[p].probeQ.isEmpty && s.ports[p].probing.isNone

/-- The conditions of DOZE that hold while it lasts (R437, R439). -/
def State.mayDoze (s : State) : Bool := s.pwr.dzen && s.channelsQuiet

/-- No task is READY or RUNNING (R437). -/
def State.tasksQuiet (s : State) : Bool :=
  s.cpu.tasks.all fun x => match x.2.st with
    | .ready => false
    | .running _ => false
    | _ => true

/-- No lane is mapped on any of the node's links (R437). -/
def State.noLanes (s : State) : Bool :=
  (List.finRange 4).all fun l => s.links[l].lanesIn.isEmpty && s.links[l].lanesOut.isEmpty

/-- The conditions of the mode in force that hold while it lasts (R437, R439); a handoff or an aperture command is an unannounced event
(R436), which HIBERNATE leaves for DOZE. -/
def State.mayStay (s : State) : Bool :=
  s.mayDoze && (decide (s.pwr.mode ≠ .hibernate) || (s.pwr.hben && s.pwr.d3en && s.tasksQuiet && s.noLanes))

/-- A change between QUIET or RELAY, DOZE and HIBERNATE at the next round boundary, unless that boundary itself brings SILENCED
(R178, R429). -/
def State.powerStep (s : State) (f : State → State) : State :=
  let s1 := s.nextBoundary
  if s1.pwr.mode = s.pwr.mode then f s1 else s1

/-- DOZE_ENTER (R437): from QUIET or RELAY, to which BASE returns it. -/
def execDozeEnter (s : State) : Out :=
  whenDo (s.mayDoze && (decide (s.pwr.mode = .quiet) || decide (s.pwr.mode = .relay)) && s.pwr.req.isNone
      && decide (20000000 ≤ s.leadNs)) s
    (s.powerStep fun s1 => ({ s1 with pwr := { s1.pwr with base := s.pwr.mode, wakeReq := false } }).enterMode .doze)

/-- HIBERNATE_ENTER (R437, R438): every worker core is in D3. -/
def execHibernateEnter (s : State) : Out :=
  whenDo (s.mayDoze && s.pwr.hben && s.pwr.d3en && decide (s.pwr.mode = .doze) && !s.pwr.wakeReq && s.tasksQuiet && s.noLanes
      && !s.hpi.iown && !s.hpi.busy && decide (2000000000 ≤ s.leadNs)) s
    (s.powerStep fun s1 => (List.finRange 8).foldl (fun s c => s.setDepth c 3) (s1.enterMode .hibernate))

/-- DOZE_EXIT (R284, R429, R430, R439): to BASE or the requested mode, with the held instructions; or to WATCH, where every task ends
if the Warden pair has stopped. -/
def execDozeExit (s : State) : Out :=
  whenDo (s.dozing && (s.pwr.wakeReq || s.pwr.wardenWait || s.pwr.req.isSome || !s.mayStay)) s
    (s.powerStep fun s1 =>
      let goal := s1.pwr.req.getD s1.pwr.base
      let s2 := { s1 with pwr := { s1.pwr with wakeReq := false, wardenWait := false } }
      if s.pwr.wardenWait then ((if s2.cpu.wrun then s2 else s2.endAllTasks).enterMode s1.pwr.base).enterWatch
      else (s2.enterMode goal).runHeld)

/-- HIBERNATE is left for DOZE: 2 ms ahead of a known event, after an unannounced one, or on the way to BASE or WATCH (R439). -/
def State.hibernateEnds (s : State) : Bool :=
  decide (s.leadNs ≤ 2000000) || s.pwr.unann || s.pwr.wakeReq || s.pwr.wardenWait || !s.mayStay

/-- HIBERNATE_WAKE (R439): ahead of a known event, or on an unannounced one, to DOZE; a mode request or WATCH that waits for the
exit of R439 goes on waiting (R429, R430). -/
def execHibernateWake (s : State) : Out :=
  whenDo (decide (s.pwr.mode = .hibernate) && s.hibernateEnds) s
    (let s1 := s.enterMode .doze
     { s1 with pwr := { s1.pwr with req := s.pwr.req, wardenWait := s.pwr.wardenWait } })

/-- WAKE_EDGE (R436, R439, R460). -/
def execWakeEdge (s : State) : Out :=
  whenDo (decide (s.pwr.mode ≠ .off)) s ({ s with pwr := { s.pwr with wake := true } }).wakePower

/-- PWR_TIMER_EXPIRE (R439, R456). -/
def execPwrTimerExpire (s : State) : Out :=
  whenDo (decide (s.pwr.tmr ≠ 0) && decide (s.pwr.tmr.toNat ≤ s.fabNs)) s
    ({ s with pwr := { s.pwr with tmr := 0 } }).wakePower

/-! The feeds (R441, R506). -/

/-- Four or more diodes are marked broken (R446). -/
def Thm.manyBroken (x : Thm) : Bool := 4 ≤ ((List.range 12).filter fun k => x.brk.getLsbD k).length

/-- PWR's error line is high: a feed is lost, the thermal warning is in force, or four diodes are broken (R441, R446,
R447). -/
def State.pwrBad (s : State) : Bool := s.pwr.downA || s.pwr.downB || s.thm.fWarn || s.thm.manyBroken

/-- PWR's line follows its conditions. -/
def State.pwrLine (s : State) (kind : Byte) : State := s.lineLevel 18 kind s.pwrBad

/-- A feed is lost (R441): FLOST, the line and a record. -/
def State.loseFeed (s : State) (b : Bool) : State :=
  let x := s.pwr
  let s1 : State := { s with pwr :=
    if b then { x with feedB := false, downB := true, flost := true } else { x with feedA := false, downA := true, flost := true } }
  (s1.pwrLine 0xA0).log 0x2200 (if b then 1 else 0) 0 0

/-- A feed is at 36 V or more again. -/
def State.gainFeed (s : State) (b : Bool) : State :=
  let x := s.pwr
  ({ s with pwr := if b then { x with feedB := true, downB := false } else { x with feedA := true, downA := false } }).pwrLine
    0xA0

/-- The feed stands at 36 V or more. -/
def Pwr.feed (x : Pwr) (b : Bool) : Bool := if b then x.feedB else x.feedA

/-- The feed is disconnected for overvoltage. -/
def Pwr.cut (x : Pwr) (b : Bool) : Bool := if b then x.cutB else x.cutA

/-- A feed is disconnected, or connected again. -/
def Pwr.setCut (x : Pwr) (b c : Bool) : Pwr := if b then { x with cutB := c } else { x with cutA := c }

/-- FEED_LOST (R441). -/
def execFeedLost (feed : Bool) (s : State) : Out :=
  whenDo (decide (s.pwr.mode ≠ .off) && s.pwr.feed feed) s (s.loseFeed feed)

/-- FEED_RECOVERY (R441): the feed's bit reads 1 again. -/
def execFeedRecovery (feed : Bool) (s : State) : Out :=
  whenDo (decide (s.pwr.mode ≠ .off) && !s.pwr.feed feed && !s.pwr.cut feed) s (s.gainFeed feed)

/-- FEED_OVERVOLTAGE (R506): disconnected, and treated as lost. -/
def execFeedOvervoltage (feed : Bool) (s : State) : Out :=
  whenDo (decide (s.pwr.mode ≠ .off) && !s.pwr.cut feed) s
    (({ s with pwr := s.pwr.setCut feed true }).linePulse 18 0xA5 |>.loseFeed feed)

/-- FEED_RECONNECT (R506). -/
def execFeedReconnect (feed : Bool) (s : State) : Out :=
  whenDo (s.pwr.cut feed) s (({ s with pwr := s.pwr.setCut feed false }).gainFeed feed)

/-- HOLD_UP_CHARGED (R442). -/
def execHoldUpCharged (s : State) : Out :=
  whenDo (s.pwr.good && !s.pwr.seqRun) s { s with pwr := { s.pwr with hold := true } }

/-! Reset (R431, R443, R444, R499). -/

/-- Every queued event record reaches MRAM (R443, R477). -/
def State.commitRecords (s : State) : State := s.obs.queue.foldl (fun s _ => s.commitRecord) s

/-- A port right after reset: its booster's EN is still to fall if it was high (R39, R49, R431). -/
def Port.afterReset (q : Port) (kill : Bool) : Port :=
  { Port.initial with killed := kill, ben := q.ben, tx := if q.ben then .stopping else .off }

/-- The engine in RESET (R431, R443, R444): every register at its reset value and every task, channel and partition gone;
what MRAM and the fuses hold stays: keep pages, slots, personality, plan, event records; a reset during a trial marks
the running slot rejected (R499). A reset by RST_N counts as a power-up for "in ISOLATE at least once since power-up" of R140
(DESIGN CHOICE, log 17). A node with an ID keeps it as its address (R202). -/
def State.toReset (s : State) : State :=
  let s0 := (List.finRange 8).foldl (fun s p => s.stowKept p) s.flushKeep
  let s1 := (s0.ms.pages ++ s0.ms.freeing).foldl State.freeFrames s0
  let r := State.reset
  let v := s.svc
  let held : Nat → Bool := fun b => s1.ms.keptMram.any fun q =>
    decide (memKey q.part q.va ≤ b * 32) && decide (b * 32 < memKey q.part q.va + q.size)
  { r with
    pending := s.pending, free := s.free
    clk := { ed := 0, origin := 0, fab := 0, opt := s.clk.opt }
    ms := { r.ms with
      mram := s1.ms.mram, keptMram := s1.ms.keptMram, retired := s1.ms.retired, worn := s1.ms.worn
      poison := s.ms.poison.filter held, flaws := s1.ms.flaws.filter fun f => held f.block }
    rad := { r.rad with plan := s.rad.plan }
    cht := { r.cht with
      slotA := s.cht.slotA, slotB := s.cht.slotB, highest := s.cht.highest, fuse := s.cht.fuse,
      silEntries := s.cht.silEntries }
    ports := Vector.ofFn fun p => s.ports[p].afterReset s.pwr.rfkill
    fab := { r.fab with
      nodeId := s.fab.nodeId, idSet := s.fab.idSet, prio := s.fab.prio, donor := s.fab.donor
      addr := if s.fab.idSet then some s.fab.nodeId else none }
    links := Vector.ofFn fun l => { Link.initial with asym := s.links[l].asym }
    tsu := { r.tsu with
      src := s.tsu.src, ptpm := s.tsu.ptpm, ppsoe := s.tsu.ppsoe, ppsd := s.tsu.ppsd, asym := s.tsu.asym }
    hpi := { r.hpi with io18 := s.hpi.io18 }
    pwr := { r.pwr with
      feedA := s.pwr.feedA, feedB := s.pwr.feedB, cutA := s.pwr.cutA, cutB := s.pwr.cutB, downA := s.pwr.downA,
      downB := s.pwr.downB, pfw := s.pwr.pfw, seqRun := s.pwr.seqRun, hold := s.pwr.hold, good := s.pwr.good,
      rst := s.pwr.rst, rfkill := s.pwr.rfkill }
    thm := { r.thm with t0ntc := s.thm.t0ntc, t1ntc := s.thm.t1ntc, beta := s.thm.beta }
    obs := { r.obs with
      queue := s.obs.queue, circ := s.obs.circ, perm := s.obs.perm, pcount := s.obs.pcount, next := s.obs.next,
      optSaved := s.obs.optSaved, pcc := s.obs.pcc }
    svc := { r.svc with
      imgA := v.imgA, imgB := v.imgB, confirmed := v.confirmed, fuse := v.fuse
      rejA := v.rejA || (v.trial && !v.run), rejB := v.rejB || (v.trial && v.run) }
    tap := s.tap }

/-- RST_ASSERT (R431): no effect in OFF and HALT. -/
def execRstAssert (s : State) : Out :=
  let s0 := { s with pwr := { s.pwr with rst := false } }
  .next (if s.pwr.mode = .off ∨ s.pwr.mode = .halt then s0 else s0.toReset)

/-! Boot begins (R183, R203, R368, R420, R490). -/

/-- BOOT is entered and BOOTSEL sampled (R490): charters are verified, P0's keep pages return, an election starts, and with
BOOTSEL 01 the engine is ready for a host image. -/
def State.beginBoot (s : State) (sel : BitVec 2) : State :=
  let s1 : State := { s with
    pwr := { s.pwr with mode := .boot }
    svc := { s.svc with bootsel := sel }
    cpu := { s.cpu with coreUp := 0xFF, wdr := false }
    hpi := { s.hpi with
      bootReady := decide (sel = 1), int := if sel = 1 then s.hpi.int ||| 0x08 else s.hpi.int } }
  ((s1.bootCharter).returnKept 0).startElection

/-- RST_RELEASE (R429, R490). -/
def execRstRelease (bootsel : BitVec 2) (s : State) : Out :=
  let s1 := { s with pwr := { s.pwr with rst := true } }
  .next (if s.pwr.mode = .reset ∧ s.pwr.good ∧ !s.pwr.seqRun ∧ !s.pwr.rst then s1.beginBoot bootsel else s1)

/-- POWER_GOOD (R405, R490): HVSEL is sampled; with RST_N high the engine enters BOOT. -/
def execPowerGood (bootsel : BitVec 2) (hvsel : Bool) (s : State) : Out :=
  whenDo (decide (s.pwr.mode = .reset) && !s.pwr.good) s
    (let s1 := { s with pwr := { s.pwr with good := true }, hpi := { s.hpi with io18 := hvsel } }
     if s.pwr.rst && !s.pwr.seqRun then s1.beginBoot bootsel else s1)

/-! Power loss (R429, R432, R443, R475). -/

/-- POWER_FAIL_WARNING (R443): the sequence starts: every transmitting port stops, the power-loss record is written and the
coded fault sent; in HALT nothing is left to stop. -/
def execPowerFailWarning (feed : BitVec 12) (s : State) : Out :=
  whenDo (decide (s.pwr.mode ≠ .off) && !s.pwr.seqRun) s
    (let s1 := { s with pwr := { s.pwr with pfw := true, seqRun := true, hold := false } }
     let s2 := s1.mapPorts fun q => if q.keyed then q.stopTx s.clk.ed false else q
     (((s2.linePulse 18 0xA1).log 0x2201 feed.toNat 0 0).codedFault 18 0xA1 0 0))

/-- POWER_LOSS_COMPLETE (R443): records are committed, the keep write buffer flushed, and the engine is held in RESET, or
stays in HALT (R432). -/
def execPowerLossComplete (s : State) : Out :=
  whenDo s.pwr.seqRun s
    (let s1 := s.commitRecords.flushKeep
     let s2 := { s1 with obs := { s1.obs with optSaved := s1.opMs } }
     if s.pwr.mode = .halt then s2 else s2.toReset)

/-- FEED_RESTORED (R443, R432): after the sequence the engine leaves RESET and boots, where RST_N is high; in HALT the warning
is no longer asserted, and HALT lasts. -/
def execFeedRestored (bootsel : BitVec 2) (s : State) : Out :=
  whenDo (s.pwr.seqRun && (decide (s.pwr.mode = .reset) || decide (s.pwr.mode = .halt))) s
    (let s1 := { s with pwr := { s.pwr with seqRun := false, pfw := false } }
     if s.pwr.rst && s.pwr.good && decide (s.pwr.mode = .reset) then s1.beginBoot bootsel else s1)

/-- HOLDUP_EXHAUSTED (R429, R432): the engine reaches OFF. -/
def execHoldupExhausted (s : State) : Out :=
  whenDo s.pwr.seqRun s
    (let s1 := s.commitRecords.toReset
     { s1 with
       pwr := { s1.pwr with
         mode := .off, seqRun := false, pfw := false, good := false, hold := false, feedA := false, feedB := false,
         downA := false, downB := false } })

/-- FEED_POWER_ON (R429, R475): RESET from OFF, with one more power cycle; operating time resumes from the saved value. -/
def execFeedPowerOn (s : State) : Out :=
  whenDo (decide (s.pwr.mode = .off)) s
    { s with
      pwr := { s.pwr with mode := .reset }
      clk := { s.clk with opt := s.obs.optSaved * 65536000000 }
      obs := { s.obs with pcc := s.obs.pcc + 1 }
      tap := State.reset.tap }

end Sys2Proof.Machine
end

