-- ==== Sys2Proof/Machine/Thermal.lean ====
section
/-! DEFINITION. The housekeeping converter and the thermal manager (R377, R432, R445 to R455). -/

namespace Sys2Proof.Machine

/-- A result of a temperature input, in 0.125 °C (R452). -/
def tempOf (v : BitVec 12) : Int := v.toInt

/-- Degrees Celsius in 0.125 °C. -/
def celsius (x : Int) : Int := 8 * x

/-- The neighbours of diode k in the ring of twelve (R446). -/
def ringBefore (k : Fin 12) : Fin 12 := k - 1

/-- The other neighbour. -/
def ringAfter (k : Fin 12) : Fin 12 := k + 1

/-- The converter's input of diode k (R452). -/
def diodeInput (k : Fin 12) : HkaId := k.castLE (by decide)

/-- The reading of a diode that is not marked broken, if it is valid. -/
def Thm.sound (x : Thm) (k : Fin 12) : Option Int :=
  if x.brk.getLsbD k.val || !x.valid.getLsbD k.val then none else some (tempOf x.value[diodeInput k])

/-- The reference of a diode, as a sum over a count: its neighbours that are not marked broken (R446). -/
def Thm.reference (x : Thm) (k : Fin 12) : Option (Int × Int) :=
  match x.sound (ringBefore k), x.sound (ringAfter k) with
  | some a, some b => some (a + b, 2)
  | some a, none => some (a, 1)
  | none, some b => some (b, 1)
  | none, none => none

/-- A diode differs from its reference by more than 12 °C. -/
def Thm.strays (x : Thm) (k : Fin 12) : Bool :=
  match x.sound k, x.reference k with
  | some v, some (sum, n) => decide (celsius 12 * n < (v * n - sum).natAbs)
  | _, _ => false

/-- The rounds in which the diode has strayed in succession, this one included. -/
def Thm.strayCount (x : Thm) (k : Fin 12) : Nat := if x.strays k then min (x.bad[k] + 1) 3 else 0

/-- The value a broken diode reads: its reference, or the result `v` where it has none, for which the manual states no
value. -/
def Thm.replaced (x : Thm) (k : Fin 12) (v : BitVec 12) : BitVec 12 :=
  match x.reference k with
  | some (sum, n) => BitVec.ofInt 12 (quotient sum n)
  | none => v

/-- The values of the broken diodes are replaced; one with no sound neighbour takes a free value (R446). -/
def State.replaceBroken (s : State) : State :=
  let x := s.thm
  let value : Vector (BitVec 12) 32 := Vector.ofFn fun i =>
    if h : i.val < 12 then
      if x.brk.getLsbD i.val then x.replaced ⟨i.val, h⟩ ((s.freeAt i.val).setWidth 12) else x.value[i]
    else x.value[i]
  { s with thm := { x with value := value } }.useFree 12

/-- A diode is marked broken (R446, R523). -/
def State.markBroken (s : State) (k : Fin 12) : State :=
  (({ s with thm := { s.thm with brk := s.thm.brk ||| (1#12 <<< k.val), brkn := true } }).linePulse 17 0x98).log 0x2101 k.val
    0 0

/-- The diode checks of a round (R446). -/
def State.checkDiodes (s : State) : State :=
  let x := s.thm
  let bad : Vector Nat 12 := Vector.ofFn fun k => x.strayCount k
  let ks := (List.finRange 12).filter fun k => decide (bad[k] = 3) && !x.brk.getLsbD k.val
  let s1 := ks.foldl (fun s k => s.markBroken k) { s with thm := { x with bad := bad } }
  s1.replaceBroken.pwrLine 0xA3

/-- The highest valid junction temperature, in 0.125 °C (R445). -/
def Thm.tMax (x : Thm) : Option Int :=
  let vs := ((List.finRange 12).filter fun k => x.valid.getLsbD k.val).map fun k => tempOf x.value[diodeInput k]
  match vs with
  | [] => none
  | v :: rest => some (rest.foldl max v)

/-- The amount by which broken diodes lower the warning and throttle thresholds (R446). -/
def Thm.lowered (x : Thm) : Int := if x.manyBroken then 10 else 0

/-- The warning (R447): flag, event record and PWR's line. -/
def State.checkWarn (s : State) (t : Int) : State :=
  let x := s.thm
  let lim := (x.warn : Int) - x.lowered
  if celsius lim ≤ t then
    if x.fWarn then s
    else (({ s with thm := { x with fWarn := true, wseen := true } }).pwrLine 0xA2).log (0x2200 + (Config.eventCode 0).toNat) 0
      0 0
  else if t ≤ celsius (lim - 5) then ({ s with thm := { x with fWarn := false } }).pwrLine 0xA2
  else s

/-- CFMAX in force: 0b11 is taken as 400 MHz (R455). -/
def Pwr.cfTop (x : Pwr) : BitVec 2 := if x.cfmax = 3 then 2 else x.cfmax

/-- A raising round of the throttle (R448). -/
def State.throttleUp (s : State) : State :=
  let x := s.thm
  let n := if x.fThr then x.upRounds + 1 else 1
  let x' : Thm := { x with
    fThr := true, backoff := min (x.backoff + 1) 23, upRounds := n, downRounds := if x.fThr then x.downRounds else 0 }
  let s1 := { s with thm := x' }
  if n % 10 = 0 then s1.coreFreq (if 2 ≤ s.syn.coreF.toNat then 2 else s.syn.coreF + 1) else s1

/-- A falling round of the throttle (R448). -/
def State.throttleDown (s : State) : State :=
  let x := s.thm
  if x.fThr then
    let n := x.downRounds + 1
    let s1 := { s with thm := { x with backoff := x.backoff - 1, downRounds := n } }
    let s2 := if n % 10 = 0 ∧ s.pwr.cfTop.toNat < s.syn.coreF.toNat then s1.coreFreq (s.syn.coreF - 1) else s1
    { s2 with thm := { s2.thm with fThr := !(decide (s2.thm.backoff = 0) && decide (s2.syn.coreF = s.pwr.cfTop)) } }
  else s

/-- The throttle (R448). -/
def State.checkThrottle (s : State) (t : Int) : State :=
  let lim := (s.thm.throt : Int) - s.thm.lowered
  if celsius lim ≤ t then s.throttleUp else if t ≤ celsius (lim - 5) then s.throttleDown else s

/-- HALT is entered (R432): ports stop and go OFF, cores and tasks stop, links go DOWN. -/
def State.enterHalt (s : State) (t : Int) : State :=
  let s1 := s.mapPorts fun q => if q.keyed then q.stopTx s.clk.ed false else q
  let s2 := s1.endAllTasks
  let s3 := (List.finRange 4).foldl (fun s l => s.dropLink l)
    { s2 with cpu := { s2.cpu with coreUp := 0, wrun := false }, fab := { s2.fab with out := [] } }
  ((s3.enterMode .halt).linePulse 18 0xA4).log 0x2202 (toUnsignedN 32 t) 0 0

/-- The shutdown threshold (R447, R449). -/
def State.checkShut (s : State) (t : Int) : State :=
  let x := s.thm
  let lim : Int := x.shut
  if celsius lim ≤ t then
    let s1 := { s with thm := { x with fShut := true } }
    if s.pwr.mode = .halt then s1 else s1.enterHalt t
  else if t ≤ celsius (lim - 3) then { s with thm := { x with fShut := false } }
  else s

/-- The readings of the connected remote inputs, with their input numbers (R450). -/
def Thm.remotes (x : Thm) : List (Nat × Int) :=
  (if x.valid.getLsbD 12 then [(12, tempOf x.value[12])] else [])
    ++ (if x.valid.getLsbD 13 then [(13, tempOf x.value[13])] else [])

/-- The remote warning (R450). -/
def State.checkRemote (s : State) : State :=
  let x := s.thm
  let hot := x.remotes.filter fun r => decide (celsius x.rwarn ≤ r.2)
  if x.fRwarn then
    if x.remotes.all fun r => decide (r.2 ≤ celsius (x.rwarn - 5)) then { s with thm := { x with fRwarn := false } } else s
  else if hot.isEmpty then s
  else hot.foldl (fun s r => s.log 0x2102 r.1 0 0) { s with thm := { x with fRwarn := true } }

/-- The lower edge of a temperature band in °C (R377); band 0 has none. -/
def bandEdge (b : Nat) : Int := if b = 1 then 0 else if b = 2 then 85 else if b = 3 then 115 else 135

/-- The band that a temperature lies in (R377). -/
def bandOf (t : Int) : Nat :=
  if celsius 135 ≤ t then 4 else if celsius 115 ≤ t then 3 else if celsius 85 ≤ t then 2 else if 0 ≤ t then 1 else 0

/-- The band in force follows the temperature of a round (R377): up at once, down by one band after three rounds at least
3 °C below its lower edge; eviction ends when it falls (R378). -/
def State.checkBand (s : State) (t : Int) : State :=
  let m := s.ms
  let b := m.band.toNat
  if b < bandOf t then { s with ms := { m with band := BitVec.ofNat 3 (bandOf t), bandCool := 0 } }
  else if 0 < b ∧ t ≤ celsius (bandEdge b - 3) then
    if m.bandCool = 2 then { s with ms := { m with band := m.band - 1, bandCool := 0, evict := false } }
    else { s with ms := { m with bandCool := m.bandCool + 1 } }
  else { s with ms := { m with bandCool := 0 } }

/-- The checks at the end of a round (R445). -/
def State.endRound (s : State) : State :=
  let s1 := s.checkDiodes
  let s2 := { s1 with thm := { s1.thm with rounds := s1.thm.rounds + 1 } }
  match s2.thm.tMax with
  | none => s2.checkRemote
  | some t => (((s2.checkWarn t).checkThrottle t).checkRemote.checkBand t).checkShut t

/-! The converter (R453, R454). -/

/-- A trigger starts a scan, is latched, or merges (R454). -/
def State.triggerScan (s : State) (isRound : Bool) : State :=
  let x := s.thm
  match x.scan, x.pend with
  | none, _ => { s with thm := { x with scan := some isRound, nextInput := 0 } }
  | some _, none => { s with thm := { x with pend := some isRound } }
  | some _, some p => ({ s with thm := { x with pend := some (p || isRound), hovr := true } }).linePulse 17 0x99

/-- The converter works in every mode but OFF. -/
def State.hkaRuns (s : State) : Bool := decide (s.pwr.mode ≠ .off)

/-- HKA_ROUND_TRIGGER (R453, R454). -/
def execHkaRoundTrigger (s : State) : Out :=
  whenDo s.hkaRuns s (({ s with thm := { s.thm with roundAt := s.clk.ed } }).triggerScan true)

/-- HKA_TRIG (R454, R458): SW.HKA_CFG.TRIG written with 1. -/
def execHkaTrig (t : TaskId) (s : State) : Out := wardenWrite t (fun s => s.triggerScan false) s

/-- Which remote input a converter input is. -/
def remoteBit (i : HkaId) : BitVec 2 := if i = 12 then 1 else if i = 13 then 2 else 0

/-- No enabled input from `nextInput` up to `n` is left to convert: a scan converts every enabled input in ascending order (R453). -/
def Thm.convertedTo (x : Thm) (n : Nat) : Bool :=
  (List.range n).all fun i => decide (i < x.nextInput) || !x.mask.getLsbD i

/-- HKA_CONVERSION_END (R450, R452 to R454): the next enabled input is converted; a reserved input reads zero; a remote input is valid while connected, and an open or
shorted one holds HKA's line. -/
def execHkaConversionEnd (input : HkaId) (value : BitVec 12) (connected : Bool) (s : State) : Out :=
  whenDo (s.hkaRuns && s.thm.scan.isSome && s.thm.mask.getLsbD input.val && decide (s.thm.nextInput ≤ input.val)
      && s.thm.convertedTo input.val) s
    (let x := s.thm
     let bit := remoteBit input
     let ok := connected || decide (bit = 0)
     let v : BitVec 12 := if 26 ≤ input.val then 0 else value
     let one := 1#32 <<< input.val
     let x' : Thm := { x with
       value := x.value.set input v
       nextInput := input.val + 1
       valid := if ok then x.valid ||| one else x.valid &&& ~~~one
       unplugged := if ok then x.unplugged &&& ~~~bit else x.unplugged ||| bit }
     let s1 := { s with thm := x' }
     let s2 := if input.val < 12 ∧ x.brk.getLsbD input.val then s1.replaceBroken else s1
     if bit = 0 then s2 else s2.lineLevel 17 0x9A (decide (x'.unplugged ≠ 0)))

/-- HKA_SCAN_END (R445, R453, R454): every enabled input has been converted. -/
def execHkaScanEnd (s : State) : Out :=
  whenDo (s.hkaRuns && s.thm.scan.isSome && s.thm.convertedTo 32) s
    (let s0 := if s.thm.scan = some true then s.endRound else s
     { s0 with thm := { s0.thm with scan := s0.thm.pend, pend := none, nextInput := 0 } })

/-- HOUSEKEEPING_RECORD (R455): every HKR rounds. P2 is the highest valid remote reading, zero where none is valid. -/
def execHousekeepingRecord (s : State) : Out :=
  whenDo (s.hkaRuns && decide (s.pwr.recordRounds ≤ s.thm.rounds)) s
    (let x := s.thm
     let remote := match x.remotes with
       | [] => 0
       | r :: rest => toUnsignedN 32 (rest.foldl (fun m q => max m q.2) r.2)
     ({ s with thm := { x with rounds := 0 } }).logFull 0x2100 { nest := false, prog := false } s.selfNode 0
       (toUnsignedN 32 (x.tMax.getD 0)) x.value[16].toNat remote x.value[17].toNat)

end Sys2Proof.Machine
end

