-- ==== Sys2Proof/Machine/HostRegs.lean ====
section
/-! DEFINITION. What the registers of the host window hold (R520 and the rules it names): the value of each register in the
layout of its own rule. -/

namespace Sys2Proof.Machine

/-- The code of a mode (R23). -/
def Mode.code (m : Mode) : Nat :=
  match m with
  | .off => 0
  | .reset => 0
  | .boot => 1
  | .quiet => 2
  | .survey => 3
  | .isolate => 4
  | .relay => 5
  | .watch => 6
  | .silenced => 7
  | .doze => 8
  | .hibernate => 9
  | .halt => 10

/-- HW.STATUS (R428). -/
def State.regStatus (s : State) : Nat :=
  let req := match s.pwr.req.or s.cht.heldMode with
    | some m => m.code
    | none => 15
  s.pwr.mode.code + 2 ^ 4 * req + 2 ^ 8 * s.pwr.base.code + flagN s.cpu.wrun 12

/-- HW.SYN_STAT (R78). -/
def State.regSyn (s : State) : Nat :=
  let y := s.syn
  y.ref.toNat + flagN y.mainLk 2 + flagN y.coreLk 3 + flagN y.coreByp 4 + 2 ^ 5 * y.coreF.toNat
    + flagN s.ports[0].lock 7 + flagN s.ports[1].lock 8 + flagN s.ports[2].lock 9 + flagN s.ports[3].lock 10
    + flagN s.ports[0].retune.isSome 11 + flagN s.ports[1].retune.isSome 12 + flagN s.ports[2].retune.isSome 13
    + flagN s.ports[3].retune.isSome 14 + flagN y.unlk 15

/-- HW.PWR_STAT (R460). -/
def State.regPwr (s : State) : Nat :=
  let x := s.pwr
  flagN x.feedA 0 + flagN x.feedB 1 + flagN x.pfw 2 + flagN x.flost 3 + flagN x.hold 4 + flagN x.wake 5
    + 2 ^ 6 * s.deepest.toNat

/-- HW.THM_STAT (R462). -/
def State.regThm (s : State) : Nat :=
  let x := s.thm
  flagN x.fWarn 0 + flagN x.fThr 1 + flagN x.fShut 2 + flagN x.fRwarn 3 + flagN x.wseen 4 + flagN x.brkn 5 + flagN x.hovr 6
    + 2 ^ 8 * x.backoff

/-- HW.PORTn_STAT (R32); KILL tells whether RFKILL_N is asserted at present. -/
def Port.regStat (q : Port) (kill : Bool) : Nat :=
  q.st.code + flagN q.tune.donor 4 + 2 ^ 5 * q.tune.bank.toNat + 2 ^ 9 * q.tune.ret.toNat + flagN kill 12 + flagN q.ben 13
    + flagN q.bkey 14 + flagN q.bflt 15

/-- HW.CNVn_STAT (R80). RXV reads what R69 and R73 last made of it, also in a state in which the port delivers no receive samples
(DESIGN CHOICE, log 21: the manual does not say what it reads there). -/
def Port.regCnv (q : Port) : Nat :=
  flagN q.conv 0 + flagN q.adapt 1 + flagN q.rxv 2 + flagN q.clip 3 + 2 ^ 8 * q.clipCnt.toNat

/-- HW.CFE_STAT (R113). -/
def State.regCfe (s : State) : Nat :=
  flagN s.rad.sat 0 + flagN s.rad.noBud 1 + flagN s.rad.refill 2 + flagN (s.rad.slots.any fun x => x.2.fade.isSome) 3

/-- HW.CFE_CNT (R114). -/
def State.regCfeCnt (s : State) : Nat :=
  s.countSlots (fun x => decide (x.code ≠ 0))
    + 2 ^ 8 * s.countSlots fun x => decide (3 ≤ x.code) && decide (x.code ≤ 5)

/-- HW.GLC_STAT (R138). -/
def State.regGlc (s : State) : Nat :=
  flagN s.rad.ceil 0 + flagN s.rad.gate 1 + flagN s.rad.chk 2
    + flagN ((List.finRange 8).any fun p => decide (s.parts[p].tabs.gPend ≠ 0)) 3
    + 2 ^ 8 * s.countSlots fun x => x.trimmedNow

/-- HW.FBC_STAT (R164). -/
def State.regFbc (s : State) : Nat :=
  flagN s.rad.inval 0 + flagN s.rad.isoDrop 1 + flagN s.rad.fNoBud 2 + flagN s.ports[0].probing.isSome 3
    + flagN s.ports[1].probing.isSome 4 + flagN s.ports[2].probing.isSome 5 + flagN s.ports[3].probing.isSome 6
    + flagN ((List.finRange 8).any fun p => decide (s.parts[p].tabs.fPend ≠ 0)) 7

/-- HW.NGD_STAT (R188). -/
def State.regNgd (s : State) : Nat :=
  s.rad.ngd.toNat + flagN (decide (s.pwr.mode = .silenced)) 6 + 2 ^ 8 * s.countSlots fun x => decide (x.code = 7)

/-- HW.NGD_HOLD (R189). -/
def State.regNgdHold (s : State) : Nat :=
  (s.cht.holdEnd - s.clk.ed + (edMs 1000 - 1)) / edMs 1000 % 4096
    + 2 ^ 12 * min (s.cht.silEntries.filter fun e => decide (s.opMs < e + dayMs)).length 15

/-- HW.GNT_STAT (R190). -/
def State.regGnt (s : State) : Nat :=
  let c := s.cht
  flagN c.fuse.isSome 0 + flagN c.force.isSome 1 + flagN (decide (c.force = some true)) 2 + flagN s.rad.clamp 3
    + flagN s.rad.refuse 4 + flagN s.rad.vfail 5 + flagN s.rad.gchk 6 + 2 ^ 8 * c.ents.length

/-- HW.TRK_STAT (R245). -/
def State.regTrk (s : State) : Nat :=
  flagN s.rad.tLost 0 + flagN s.rad.tCeil 1 + flagN s.rad.tSat 2
    + flagN (s.fab.homes.any fun x => decide (x.2.retn ≠ 0)) 3 + 2 ^ 8 * s.gatedCount

/-- HW.HSC_STAT (R404). -/
def State.regHsc (s : State) : Nat :=
  s.cpu.coreUp.toNat + 2 ^ 8 * (s.contexts.length - s.cpu.bound.length) + flagN s.cpu.wdr 14 + flagN s.cpu.outC 15

/-- HW.LNKn_STAT (R221). -/
def Link.regStat (x : Link) : Nat :=
  x.st.code + flagN x.ring 3 + flagN x.los 4 + flagN x.err 5 + flagN x.speed 6 + 2 ^ 8 * x.lanesOut.length

/-- HW.FAB_STAT (R222). -/
def State.regFab (s : State) : Nat :=
  let f := s.fab
  flagN f.isHead 0 + flagN f.wide 1 + flagN f.elect 2 + flagN f.headless 3 + flagN f.noAddr 4 + flagN f.split 5
    + flagN f.stale 6 + flagN f.dup 7

/-- HW.TSU_STAT (R274). -/
def State.regTsu (s : State) : Nat :=
  let x := s.tsu
  x.st.toNat + flagN x.trace 3 + flagN x.step 4 + flagN x.ppsin 5 + flagN (s.fab.isHead && x.gm.isSome) 6

/-- HW.MEM_STAT (R383); no patrol pass is in progress where the scrub does not run (R380). -/
def State.regMem (s : State) : Nat :=
  let m := s.ms
  m.band.toNat + flagN m.evict 3 + flagN (!m.kwb.isEmpty) 4 + flagN m.ce 5 + flagN m.ue 6 + flagN m.retire 7
    + flagN (m.scrub && s.scrubs) 8

/-- HW.OBS_STAT (R489). -/
def State.regObs (s : State) : Nat :=
  let o := s.obs
  flagN o.qovr 0 + flagN o.fdrop 1 + flagN o.bskip 2 + flagN (decide (o.pcount = permSlots)) 3 + flagN o.suppF 4

/-- A cuff (R468). -/
def Cuff.reg (c : Cuff) : Nat := c.kind.toNat + flagN c.more 8 + flagN c.seen 9 + 2 ^ 10 * c.cnt.toNat

/-- HW.MBX_CTL (R425). -/
def State.regMbx (s : State) : Nat := flagN s.hpi.iown 0 + flagN s.hpi.oown 1 + flagN s.hpi.idrop 4

/-- HW.APR_STAT (R426). -/
def State.regApr (s : State) : Nat :=
  let h := s.hpi
  flagN h.busy 0 + 2 * h.aerr.toNat + 2 ^ 4 * h.fline.toNat + flagN h.cerr 11 + flagN h.wbusy 12

/-- HW.CH_STATEk (R116). -/
def State.regChState (s : State) (k : Nat) : Nat :=
  (s.slot (4 * k)).code + 2 ^ 4 * (s.slot (4 * k + 1)).code + 2 ^ 8 * (s.slot (4 * k + 2)).code
    + 2 ^ 12 * (s.slot (4 * k + 3)).code

/-- The result of a converter input (R459). -/
def Thm.reg (x : Thm) (i : HkaId) : Nat :=
  x.value[i].toNat + flagN (x.valid.getLsbD i.val) 12 + flagN (decide (i.val < 12) && x.brk.getLsbD i.val) 13

/-- The record selected by INDEX and AREA (R480). -/
def Obs.selected (o : Obs) (sel : BitVec 15) : Nat :=
  let i := fieldN sel.toNat 13 0
  if bitN sel.toNat 14 then (if i < permSlots then (tblGet 0 i o.perm).toNat else 0) else (tblGet 0 i o.circ).toNat

/-- HW.FSW_SEV (R466). -/
def State.regSev (s : State) : Nat :=
  (List.range 20).foldl (fun a n => a + flagN (s.source (srcLine n)).severe n) 0

/-- HW.MEM_FREE (R384): zero until BOOT. -/
def State.regMemFree (s : State) : Nat :=
  if s.pwr.mode = .reset then 0 else s.freeGills 0 + 2 ^ 16 * s.freeGills 1 + 2 ^ 38 * s.freeGills 2

/-- The 16-bit registers that stand alone (R520): the value at byte address `a`, if one is there. -/
def State.regAlone (s : State) (a : Nat) : Option Nat :=
  if a = 0x0000 then some s.regStatus
  else if a = 0x0002 then some s.regSyn
  else if a = 0x0008 then some s.regPwr
  else if a = 0x000A then some s.regThm
  else if a = 0x0020 then some s.regCfe
  else if a = 0x0022 then some s.regCfeCnt
  else if a = 0x0028 then some s.regGlc
  else if a = 0x002A then some s.regFbc
  else if a = 0x0030 then some s.regNgd
  else if a = 0x0032 then some s.regNgdHold
  else if a = 0x0034 then some s.regGnt
  else if a = 0x0036 then some s.regTrk
  else if a = 0x003C then some s.hpi.xing.toNat
  else if a = 0x003E then some s.regHsc
  else if a = 0x0048 then some s.regFab
  else if a = 0x004A then some s.regTsu
  else if a = 0x0068 then some s.tsu.hops.toNat
  else if a = 0x006A then some s.regMem
  else if a = 0x0090 then some s.regObs
  else if a = 0x0092 then some s.hpi.evrSel.toNat
  else if a = 0x0100 then some (min s.hpi.wq.length 32 + flagN s.hpi.io18 6)
  else if a = 0x0102 then some s.hpi.int.toNat
  else if a = 0x0104 then some s.hpi.ien.toNat
  else if a = 0x0106 then some s.hpi.viol.toNat
  else if a = 0x0108 then some s.regMbx
  else if a = 0x0114 then some 0
  else if a = 0x0116 then some s.regApr
  else if a = 0x0120 then some (flagN s.hpi.bootReady 0 + flagN s.hpi.bootFail 1)
  else if a = 0x0122 then some 0
  else none

/-- The arrays of 16-bit registers (R520). -/
def State.regArray (s : State) (a : Nat) : Option Nat :=
  if a % 2 ≠ 0 then none
  else if 0x0010 ≤ a ∧ a < 0x0018 then some (s.ports[Fin.ofNat 4 ((a - 0x0010) / 2)].regStat s.pwr.rfkill)
  else if 0x0018 ≤ a ∧ a < 0x0020 then some s.ports[Fin.ofNat 4 ((a - 0x0018) / 2)].regCnv
  else if 0x0040 ≤ a ∧ a < 0x0048 then some s.links[Fin.ofNat 4 ((a - 0x0040) / 2)].regStat
  else if 0x00A0 ≤ a ∧ a < 0x00C8 then some (s.cuff (Fin.ofNat 20 ((a - 0x00A0) / 2))).reg
  else if 0x0200 ≤ a ∧ a < 0x0260 then some (s.regChState ((a - 0x0200) / 2))
  else if 0x0300 ≤ a ∧ a < 0x0340 then some (s.thm.reg (Fin.ofNat 32 ((a - 0x0300) / 2)))
  else none

/-- The registers wider than 16 bits (R520): address of the lowest word, number of words. -/
def wideRegs : List (Nat × Nat) :=
  [(0x0004, 2), (0x000C, 2), (0x0024, 2), (0x002C, 2), (0x0038, 2), (0x004C, 2), (0x0050, 2), (0x0054, 2), (0x0058, 2),
   (0x005C, 2), (0x0060, 4), (0x0070, 4), (0x0080, 2), (0x0084, 2), (0x0088, 2), (0x008C, 2), (0x0094, 2), (0x00E0, 16),
   (0x010C, 2), (0x0110, 2), (0x0118, 4), (0x0FFC, 2)]

/-- The wide register that holds the word at byte address `a`: its lowest address and its number of words. -/
def wideOf (a : Nat) : Option (Nat × Nat) :=
  if a % 2 ≠ 0 then none else wideRegs.find? fun r => decide (r.1 ≤ a) && decide (a < r.1 + 2 * r.2)

/-- The value of the wide register at lowest address `b` (R520). -/
def State.regWide (s : State) (b : Nat) : Nat :=
  if b = 0x0004 then toUnsignedN 32 s.steerNow
  else if b = 0x000C then s.pwr.lead
  else if b = 0x0024 then s.sumSlots Slot.cost
  else if b = 0x002C then s.sumSlots Slot.canCost
  else if b = 0x0038 then (if s.cht.force.isSome then s.cht.seq.toNat else 0)
  else if b = 0x004C then s.fab.nodes + 2 ^ 16 * s.fab.selfAt.toNat
  else if b = 0x0050 then s.fab.headId.toNat
  else if b = 0x0054 then s.fab.epoch.toNat
  else if b = 0x0058 then toUnsignedN 32 s.tsu.offs
  else if b = 0x005C then toUnsignedN 32 s.tsu.ppsOff
  else if b = 0x0060 then s.fabNs
  else if b = 0x0070 then s.regMemFree
  else if b = 0x0080 then s.obs.sticky.toNat
  else if b = 0x0084 then s.obs.live.toNat
  else if b = 0x0088 then s.obs.gone.toNat
  else if b = 0x008C then s.regSev
  else if b = 0x0094 then s.obs.next.toNat + 2 ^ 16 * s.obs.pcount
  else if b = 0x00E0 then s.obs.selected s.hpi.evrSel
  else if b = 0x010C then s.hpi.idesc.toNat
  else if b = 0x0110 then s.hpi.oinfo.toNat
  else if b = 0x0118 then s.hpi.aprRef.toNat
  else if b = 0x0FFC then 0x00A06192
  else 0

/-- A 16-bit register of either kind. -/
def State.reg (s : State) (a : Nat) : Option Nat :=
  match s.regAlone a with
  | some v => some v
  | none => s.regArray a

/-- The byte address lies in a slot or in the aperture (R406). -/
def inBuffers (a : Nat) : Bool := decide (0x1000 ≤ a) && decide (a < 0x4000) && decide (a % 2 = 0)

/-- Something is at the byte address (R406, R411). -/
def State.mapped (s : State) (a : Nat) : Bool := inBuffers a || (s.reg a).isSome || (wideOf a).isSome

end Sys2Proof.Machine
end

