-- ==== Sys2Proof/Machine/HostPort.lean ====
section
/-! DEFINITION. The host bus: reads, posted writes, the mailbox slots, the aperture and boot over the host port (R405 to R426,
R271 to R273). -/

namespace Sys2Proof.Machine

/-- The bus answers: the engine is not OFF and RST_N is high (R407). -/
def State.busOpen (s : State) : Bool := decide (s.pwr.mode ≠ .off) && s.pwr.rst

/-- What a read leaves on HD: while RST_N is low zero, while the engine is OFF nothing (R407). -/
def State.busClosed (s : State) : State :=
  if s.pwr.mode = .off then s else { s with hpi := { s.hpi with hd := 0 } }

/-- The word `v` is on HD (R408). -/
def State.drive16 (s : State) (v : Nat) : State := { s with hpi := { s.hpi with hd := BitVec.ofNat 16 v } }

/-- An unmapped access counts, saturating (R411, R424). -/
def State.hostViolation (s : State) : State :=
  { s with hpi := { s.hpi with viol := if s.hpi.viol = 0xFFFF then 0xFFFF else s.hpi.viol + 1 } }

/-- Two bytes of a buffer as a word (R6, R406). -/
def word16 (m : Mem) (a : Nat) : Nat := bytesToNat (memBytes m a 2)

/-! The aperture's lines (R416 to R419). -/

/-- What a line will hold under FILL, where that is known: the bytes read, or zeros where the line is refused (R418). -/
def AprLine.content (x : AprLine) : Option (List Byte) :=
  match x with
  | .read bs => some bs
  | .failed e => if e = 4 then some (List.replicate 64 0) else none
  | _ => none

/-- Line `k` of the buffer takes the bytes `bs`. -/
def State.putLine (s : State) (k : Nat) (bs : List Byte) : State :=
  { s with hpi := { s.hpi with aper := memPutBytes (64 * k) (bs.take 64) s.hpi.aper } }

/-- A read of the aperture while FILL runs finds a line's old content or its new one; a line changes whole (R419). -/
def State.lineSeen (s : State) (k : Nat) : State :=
  if s.hpi.busy && decide (s.hpi.aprOp = 1) then
    match tblFind k s.hpi.aprLines with
    | some x =>
      match x.content with
      | some bs => if (s.freeAt 0).getLsbD 0 then (s.useFree 1).putLine k bs else s.useFree 1
      | none => s
    | none => s
  else s

/-! Reads (R272, R408, R409, R411, R421). -/

/-- A read of a slot or of the aperture. -/
def State.readBuffer (s : State) (a : Nat) : State :=
  if a < 0x1800 then s.drive16 (word16 s.hpi.inbuf (a - 0x1000))
  else if a < 0x2000 then s.drive16 (word16 s.hpi.outbuf (a - 0x1800))
  else
    let s1 := s.lineSeen ((a - 0x2000) / 64)
    s1.drive16 (word16 s1.hpi.aper (a - 0x2000))

/-- What a read of a 16-bit register does besides: CLIPCNT and HPI_VIOL clear, and a cuff is seen (R80, R424, R464). -/
def State.readEffect (s : State) (a : Nat) : State :=
  if 0x0018 ≤ a ∧ a < 0x0020 then s.mapPort (Fin.ofNat 4 ((a - 0x0018) / 2)) fun q => { q with clipCnt := 0 }
  else if a = 0x0106 then { s with hpi := { s.hpi with viol := 0 } }
  else if 0x00A0 ≤ a ∧ a < 0x00C8 then
    let n : SubId := Fin.ofNat 20 ((a - 0x00A0) / 2)
    { s with obs := { s.obs with cuffs := tblPut n { s.cuff n with seen := true } s.obs.cuffs } }
  else s

/-- A host read of byte address `a`: the lowest word of a wide register captures its snapshot, a higher one comes from it
(R272). -/
def State.hostRead (s : State) (a : Nat) : State :=
  if !s.busOpen then s.busClosed
  else if inBuffers a then s.readBuffer a
  else
    match s.reg a with
    | some v => (s.drive16 v).readEffect a
    | none =>
      match wideOf a with
      | some (b, _) =>
        let s1 : State := if a = b then { s with hpi := { s.hpi with snaps := tblPut b (s.regWide b) s.hpi.snaps } } else s
        s1.drive16 (tblGet 0 b s1.hpi.snaps / 2 ^ (8 * (a - b)))
      | none => (s.drive16 0).hostViolation

/-- HOST_SNAPSHOT_READ (R272): a host read. -/
def execHostSnapshotRead (addr : BitVec 14) (s : State) : Out := .next (s.hostRead addr.toNat)

/-- CLIPCNT_READ (R80). -/
def execClipcntRead (port : PortId) (s : State) : Out := .next (s.hostRead (0x0018 + 2 * port.val))

/-- HPI_VIOL_READ (R424). -/
def execHpiViolRead (s : State) : Out := .next (s.hostRead 0x0106)

/-- CUFF_READ (R464). -/
def execCuffRead (sub : SubId) (s : State) : Out := .next (s.hostRead (0x00A0 + 2 * sub.val))

/-- HOST_UNMAPPED_ACCESS (R411). -/
def execHostUnmappedAccess (addr : BitVec 14) (write : Bool) (s : State) : Out :=
  if s.mapped addr.toNat then .next s
  else if write then whenDo s.busOpen s s.hostViolation
  else .next (s.hostRead addr.toNat)

/-! Posted writes (R410, R411, R276). -/

/-- HOST_WRITE (R410, R411, R276): queued, discarded on a full queue, or counted where nothing is at the address. -/
def execHostWrite (addr : BitVec 14) (data : BitVec 16) (s : State) : Out :=
  whenDo s.busOpen s
    (if !s.mapped addr.toNat then s.hostViolation
     else if 32 ≤ s.hpi.wq.length then
       ({ s with hpi := { s.hpi with xing := s.hpi.xing ||| 0x200 } }).linePulse 16 0x90
     else { s with hpi := { s.hpi with wq := s.hpi.wq ++ [(addr, data)] } })

/-! The mailbox slots (R413 to R415). -/

/-- 2,048 free bytes: the message in a slot that the host wrote while the engine owned it (case 8 of R301, R415). -/
def State.freeSlot (s : State) : Mem := memPutBytes 0 ((List.range 2048).map fun i => (s.freeAt i).setWidth 8) []

/-- A host write to a mailbox slot (R413, R415). -/
def State.writeSlot (s : State) (a : Nat) (d : BitVec 16) : State :=
  let bs := natToBytes d.toNat 2
  let h := s.hpi
  if a < 0x1800 then
    if h.iown then { s with hpi := { h with inbuf := s.freeSlot } }.useFree 2048
    else { s with hpi := { h with inbuf := memPutBytes (a - 0x1000) bs h.inbuf } }
  else if h.oown then { s with hpi := { h with outbuf := s.freeSlot } }.useFree 2048
  else { s with hpi := { h with outbuf := memPutBytes (a - 0x1800) bs h.outbuf } }

/-- The host hands the inbound slot over: the destination is sampled (R413, R425); ignored while the engine owns it (R415). -/
def State.igo (s : State) : State :=
  if s.hpi.iown then s else ({ s with hpi := { s.hpi with iown := true, isamp := s.hpi.idesc } }).unannounced

/-- The host returns the outbound slot; ignored while the engine owns it (R414, R415). -/
def State.odone (s : State) : State := if s.hpi.oown then s else ({ s with hpi := { s.hpi with oown := true } }).unannounced

/-- MBX_IGO (R413). -/
def execMbxIgo (s : State) : Out := whenDo s.busOpen s s.igo

/-- MBX_ODONE (R414). -/
def execMbxOdone (s : State) : Out := whenDo s.busOpen s s.odone

/-- The inbound slot goes back to the host (R413). -/
def State.returnSlot (s : State) : State := { s with hpi := { s.hpi with iown := false, int := s.hpi.int ||| 1 } }

/-- Partition of the handed-over message. -/
def Hpi.inPart (h : Hpi) : PartId := Fin.ofNat 8 (fieldN h.isamp.toNat 6 4)

/-- Mailbox of the handed-over message. -/
def Hpi.inBox (h : Hpi) : Fin 8 := Fin.ofNat 8 (fieldN h.isamp.toNat 2 0)

/-- INBOUND_PLACE (R413): placed as from node 2,046 and partition 0; held while the mailbox is full or the partition resets;
discarded where INEN is 0 or the partition is absent. -/
def execInboundPlace (s : State) : Out :=
  let h := s.hpi
  let p := h.inPart
  whenDo h.iown s
    (if !h.inen || (decide (p ≠ 0) && decide (s.parts[p].life = .absent)) then
       (({ s with hpi := { h with idrop := true } }).linePulse 16 0x91).returnSlot
     else if !s.partActive p || s.boxFull (mailKey p h.inBox) then s
     else
       (s.deliverMsg p h.inBox
         { body := memBytes h.inbuf 0 (fieldN h.isamp.toNat 26 16 + 1), srcNode := 2046, srcPart := 0, seen := [], seq := none }).returnSlot)

/-- OUTBOUND_READY (R414). -/
def execOutboundReady (s : State) : Out :=
  let h := s.hpi
  let k := mailKey h.mbpart h.mbbox
  .next (
    match s.box k with
    | [] => s
    | m :: rest =>
      if h.mben && h.oown then
        let info := (m.body.length - 1) + 2 ^ 12 * m.srcPart.val + 2 ^ 16 * m.srcNode.toNat
        ({ s with hpi := { h with
            outbuf := memPutBytes 0 m.body h.outbuf, oinfo := BitVec.ofNat 32 info, oown := false, int := h.int ||| 2 } }).setBox
          k rest
      else s)

/-! The aperture (R416 to R420). -/

/-- The global reference of a line (R320, R416). -/
def lineRef (base : Word) (k : Nat) : Word := refAdd (base &&& ~~~63#64) (BitVec.ofNat 16 (64 * k))

/-- The staging offset of a line (R420). -/
def stageAt (base : Word) (k : Nat) : Nat := (base.toNat / 64 * 64 + 64 * k) % 2 ^ 25

/-- A line of a command as it is accepted (R321, R375, R382, R418). -/
def State.lineOf (s : State) (fill : Bool) (r : Word) : AprLine :=
  let p := refPart r
  let va := refVa r
  if s.hpi.apart ≠ 0 ∧ p ≠ s.hpi.apart then .failed 4
  else if s.isHere (refNode r) then
    if !s.allocatedRange p va 64 then .failed 4
    else if !fill then .store
    else if s.badRead p va 64 then .failed 3
    else .read (memBytes s.ms.mem (memKey p va) 64)
  else if !s.reachable (refNode r) then .failed 1
  else .away

/-- An accepted line has its effect on memory's side: a read warms its page and meets what errors its blocks hold, a store asks replica
holders to discard (R369, R373, R379, R381). -/
def State.lineBegun (s : State) (r : Word) (x : AprLine) : State :=
  match x with
  | .read _ => (s.readErrors (refPart r) (refVa r) 64).touch (refPart r) (refVa r)
  | .failed e => if e = 3 then s.readErrors (refPart r) (refVa r) 64 else s
  | .store =>
    match s.pageAt (refPart r) (refVa r) with
    | some p => s.askDiscard (memKey (refPart r) p.va)
    | none => s
  | _ => s

/-- The lines LINE to LINE + CNT, cut at line 127 (R417). -/
def cmdLines (line cnt : Fin 128) : List Nat := (List.range (min (cnt.val + 1) (128 - line.val))).map (line.val + ·)

/-- A command of OP FILL or FLUSH is written (R417, R418, R420). -/
def State.aprStart (s : State) (fill : Bool) (line cnt : Fin 128) : State :=
  let h := s.hpi
  let ks := cmdLines line cnt
  if h.busy then { s with hpi := { h with cerr := true } }
  else if s.pwr.mode = .boot ∧ h.bootReady then
    let lines : List (Nat × AprLine) := ks.map fun k => (k, if fill then .read (memBytes h.staging (stageAt h.aprRef k) 64) else .done)
    let st := if fill then h.staging
      else ks.foldl (fun m k => memPutBytes (stageAt h.aprRef k) (memBytes h.aper (64 * k) 64) m) h.staging
    { s with hpi := { h with
        busy := true, aprOp := if fill then 1 else 2, aprAt := h.aprRef, aprLines := lines, staging := st } }
  else if !h.aen || s.pwr.mode = .boot then
    { s with hpi := { h with aerr := 5, fline := BitVec.ofNat 7 line.val, int := h.int ||| 4 } }
  else
    let lines : List (Nat × AprLine) := ks.map fun k => (k, s.lineOf fill (lineRef h.aprRef k))
    let s1 : State := { s with hpi := { h with
        busy := true, aprOp := if fill then 1 else 2, aprAt := h.aprRef, aprLines := lines } }
    lines.foldl (fun s x => s.lineBegun (lineRef h.aprRef x.1) x.2) s1.unannounced

/-- APR_FILL (R417). -/
def execAprFill (line cnt : Fin 128) (s : State) : Out := whenDo s.busOpen s (s.aprStart true line cnt)

/-- APR_FLUSH (R417). -/
def execAprFlush (line cnt : Fin 128) (s : State) : Out := whenDo s.busOpen s (s.aprStart false line cnt)

/-- The outcome of a line at another node. -/
def remoteOf (l : List RemoteLine) (k : Nat) : Option RemoteLine := l.find? fun r => r.line.val = k

/-- A store line can be carried out now (R367, R373). -/
def State.lineReady (s : State) (remote : List RemoteLine) (x : Nat × AprLine) : Bool :=
  let r := lineRef s.hpi.aprAt x.1
  match x.2 with
  | .store => !s.storeBlocked (refPart r) { va := refVa r, bytes := 64, value := 0 }
  | .away => (remoteOf remote x.1).isSome
  | _ => true

/-- The error of a line at the end of its command, 0 where it has none. -/
def lineErr (remote : List RemoteLine) (x : Nat × AprLine) : BitVec 3 :=
  match x.2 with
  | .failed e => e
  | .away =>
    match remoteOf remote x.1 with
    | some r => BitVec.ofNat 3 r.err.val
    | none => 0
  | _ => 0

/-- A line ends: its content enters the buffer or memory; a refused one reads zero and counts (R411, R418). -/
def State.endLine (s : State) (fill : Bool) (remote : List RemoteLine) (x : Nat × AprLine) : State :=
  let r := lineRef s.hpi.aprAt x.1
  let e := lineErr remote x
  let s1 := if e = 4 then s.hostViolation else s
  match x.2 with
  | .read bs => s1.putLine x.1 bs
  | .store => s1.storeBytes (refPart r) (refVa r) (memBytes s1.hpi.aper (64 * x.1) 64)
  | .away =>
    match remoteOf remote x.1 with
    | some q =>
      if fill && decide (e = 0) then s1.putLine x.1 q.bytes
      else if fill && decide (e = 4) then s1.putLine x.1 (List.replicate 64 0)
      else s1
    | none => s1
  | .failed _ => if fill && decide (e = 4) then s1.putLine x.1 (List.replicate 64 0) else s1
  | .done => s1

/-- APR_COMMAND_END (R417, R418). -/
def execAprCommandEnd (remote : List RemoteLine) (s : State) : Out :=
  let ls := s.hpi.aprLines
  let fill : Bool := decide (s.hpi.aprOp = 1)
  whenDo (s.hpi.busy && ls.all fun x => s.lineReady remote x) s
    (let s1 := ls.foldl (fun s x => s.endLine fill remote x) s
     let bad := ls.find? fun x => decide (lineErr remote x ≠ 0)
     let err : BitVec 3 := match bad with
       | some x => lineErr remote x
       | none => 0
     let first : BitVec 7 := match bad with
       | some x => BitVec.ofNat 7 x.1
       | none => 0
     ({ s1 with hpi := { s1.hpi with
         busy := false, aprLines := [], aerr := err, fline := first, int := s1.hpi.int ||| 4 } }).memWake)

/-! Boot over the host port (R420). -/

/-- GO: ignored while READY is 0 (R420). -/
def State.goBoot (s : State) : State :=
  if s.hpi.bootReady then { s with hpi := { s.hpi with bootReady := false, bootGo := true } } else s

/-- BOOT_GO (R420). -/
def execBootGo (s : State) : Out := whenDo s.busOpen s s.goBoot

/-! Writes taking effect (R8, R273, R410). -/

/-- The mask of bits of `d` written as 1, cut to `n` bits. -/
def ones (n : Nat) (d : BitVec 16) : BitVec n := d.setWidth n

/-- FSW_STICKY_CLEAR (R465). -/
def execFswStickyClear (mask : BitVec 20) (s : State) : Out := .next (s.stickyClear mask)

/-- A W1C field: cleared where the bit is written as 1 (R8). -/
def w1c (d : BitVec 16) (i : Nat) (b : Bool) : Bool := b && !d.getLsbD i

/-- A write of a W1C register of the radio (R113, R138, R164, R188, R190, R245). -/
def Radio.clear (r : Radio) (a : Nat) (d : BitVec 16) : Radio :=
  if a = 0x0020 then { r with sat := w1c d 0 r.sat, noBud := w1c d 1 r.noBud, refill := w1c d 2 r.refill }
  else if a = 0x0028 then { r with ceil := w1c d 0 r.ceil, gate := w1c d 1 r.gate, chk := w1c d 2 r.chk }
  else if a = 0x002A then { r with inval := w1c d 0 r.inval, isoDrop := w1c d 1 r.isoDrop, fNoBud := w1c d 2 r.fNoBud }
  else if a = 0x0030 then { r with ngd := r.ngd &&& ~~~(ones 6 d) }
  else if a = 0x0034 then
    { r with clamp := w1c d 3 r.clamp, refuse := w1c d 4 r.refuse, vfail := w1c d 5 r.vfail, gchk := w1c d 6 r.gchk }
  else if a = 0x0036 then { r with tLost := w1c d 0 r.tLost, tCeil := w1c d 1 r.tCeil, tSat := w1c d 2 r.tSat }
  else r

/-- A write of a 16-bit status register outside the radio and the host port. -/
def State.clearStatus (s : State) (a : Nat) (d : BitVec 16) : State :=
  if a = 0x0002 then { s with syn := { s.syn with unlk := w1c d 15 s.syn.unlk } }
  else if a = 0x0008 then { s with pwr := { s.pwr with flost := w1c d 3 s.pwr.flost, wake := w1c d 5 s.pwr.wake } }
  else if a = 0x000A then
    { s with thm := { s.thm with
        wseen := w1c d 4 s.thm.wseen, brkn := w1c d 5 s.thm.brkn, hovr := w1c d 6 s.thm.hovr } }
  else if 0x0018 ≤ a ∧ a < 0x0020 then
    s.mapPort (Fin.ofNat 4 ((a - 0x0018) / 2)) fun q => { q with clip := w1c d 3 q.clip }
  else if a = 0x003E then { s with cpu := { s.cpu with wdr := w1c d 14 s.cpu.wdr, outC := w1c d 15 s.cpu.outC } }
  else if 0x0040 ≤ a ∧ a < 0x0048 then
    s.mapLink (Fin.ofNat 4 ((a - 0x0040) / 2)) fun x => { x with los := w1c d 4 x.los, err := w1c d 5 x.err }
  else if a = 0x0048 then
    { s with fab := { s.fab with
        split := w1c d 5 s.fab.split, stale := w1c d 6 s.fab.stale, dup := w1c d 7 s.fab.dup } }
  else if a = 0x004A then { s with tsu := { s.tsu with step := w1c d 4 s.tsu.step, ppsin := w1c d 5 s.tsu.ppsin } }
  else if a = 0x006A then
    { s with ms := { s.ms with ce := w1c d 5 s.ms.ce, ue := w1c d 6 s.ms.ue, retire := w1c d 7 s.ms.retire } }
  else if a = 0x0090 then
    { s with obs := { s.obs with
        qovr := w1c d 0 s.obs.qovr, fdrop := w1c d 1 s.obs.fdrop, bskip := w1c d 2 s.obs.bskip, suppF := w1c d 4 s.obs.suppF } }
  else { s with rad := s.rad.clear a d }

/-- A write of a 16-bit register of the host port (R276, R423 to R426, R480). -/
def State.writeHpi (s : State) (a : Nat) (d : BitVec 16) : State :=
  let h := s.hpi
  if a = 0x003C then { s with hpi := { h with xing := h.xing &&& ~~~(ones 10 d) } }
  else if a = 0x0092 then { s with hpi := { h with evrSel := ones 15 d } }
  else if a = 0x0102 then { s with hpi := { h with int := h.int &&& ~~~(ones 6 d) } }
  else if a = 0x0104 then { s with hpi := { h with ien := ones 6 d } }
  else if a = 0x0108 then
    let s1 := { s with hpi := { h with idrop := w1c d 4 h.idrop } }
    let s2 := if d.getLsbD 2 then s1.igo else s1
    if d.getLsbD 3 then s2.odone else s2
  else if a = 0x0114 then
    let op := fieldN d.toNat 1 0
    if op = 1 ∨ op = 2 then
      s.aprStart (op = 1) (Fin.ofNat 128 (fieldN d.toNat 8 2)) (Fin.ofNat 128 (fieldN d.toNat 15 9))
    else s
  else if a = 0x0116 then { s with hpi := { h with cerr := w1c d 11 h.cerr, wbusy := w1c d 12 h.wbusy } }
  else if a = 0x0120 then { s with hpi := { h with bootFail := w1c d 1 h.bootFail } }
  else if a = 0x0122 then (if d.getLsbD 0 then s.goBoot else s)
  else s.clearStatus a d

/-- A wide register takes its held words (R273): words `ws`, each with its number; the others keep the value in force, and
count as zero in W1C fields. -/
def State.commitWide (s : State) (b : Nat) (ws : List (Nat × Nat)) : State :=
  let word : Nat → Nat → Nat := fun old i => tblGet (fieldN old (16 * i + 15) (16 * i)) i ws
  let merged : Nat → Nat → Nat := fun n old => (List.range n).foldl (fun a i => a + word old i * 2 ^ (16 * i)) 0
  if b = 0x0080 then s.stickyClear (BitVec.ofNat 20 (merged 2 0))
  else if b = 0x010C then
    { s with hpi := { s.hpi with idesc := BitVec.ofNat 32 (merged 2 s.hpi.idesc.toNat) &&& 0x07FF0077 } }
  else if b = 0x0118 then { s with hpi := { s.hpi with aprRef := BitVec.ofNat 64 (merged 4 s.hpi.aprRef.toNat) } }
  else s

/-- A word of a wide register is held; the highest commits the register whole (R273). -/
def State.writeWide (s : State) (b n a : Nat) (d : BitVec 16) : State :=
  let ws := tblPut ((a - b) / 2) d.toNat (tblGet [] b s.hpi.whold)
  if a = b + 2 * (n - 1) then
    ({ s with hpi := { s.hpi with whold := tblDel b s.hpi.whold } }).commitWide b ws
  else { s with hpi := { s.hpi with whold := tblPut b ws s.hpi.whold } }

/-- A host write takes effect. -/
def State.applyWrite (s : State) (a : Nat) (d : BitVec 16) : State :=
  if inBuffers a then
    if a < 0x2000 then s.writeSlot a d
    else if s.hpi.busy then { s with hpi := { s.hpi with wbusy := true } }
    else { s with hpi := { s.hpi with aper := memPutBytes (a - 0x2000) (natToBytes d.toNat 2) s.hpi.aper } }
  else
    match wideOf a with
    | some (b, n) => s.writeWide b n a d
    | none => s.writeHpi a d

/-- HOST_WRITE_APPLY (R410): the oldest queued write takes effect. -/
def execHostWriteApply (s : State) : Out :=
  .next (
    match s.hpi.wq with
    | [] => s
    | (a, d) :: rest => ({ s with hpi := { s.hpi with wq := rest } }).applyWrite a.toNat d)

end Sys2Proof.Machine
end

