-- ==== Sys2Proof/Machine/Recorder.lean ====
section
/-! DEFINITION. OBS: error lines, fault messages at the head, severity windows, token buckets, bushels, samples and the
recorder's system words (R463 to R488). -/

namespace Sys2Proof.Machine

/-- The fault kinds of each subsystem (R523). -/
def faultKinds (n : Nat) : List Nat :=
  if n = 0 then [0x10, 0x11]
  else if n = 1 then [0x18, 0x19, 0x1A]
  else if n = 2 then [0x20]
  else if n = 3 then [0x28]
  else if n = 4 then [0x30]
  else if n = 5 then [0x38]
  else if n = 6 then [0x40, 0x41, 0x42]
  else if n = 7 then [0x48, 0x49, 0x4A]
  else if n = 8 then [0x50, 0x51, 0x52, 0x53]
  else if n = 9 then [0x58, 0x59, 0x5A]
  else if n = 10 then [0x60, 0x61, 0x62]
  else if n = 11 then [1, 2, 3, 4, 5, 0x68]
  else if n = 12 then [1, 2, 3, 4, 5, 0x70, 0x71, 0x72]
  else if n = 13 then [0x78]
  else if n = 14 then [0x80, 0x81]
  else if n = 15 then [0x88]
  else if n = 16 then [0x90, 0x91]
  else if n = 17 then [0x98, 0x99, 0x9A]
  else if n = 18 then [0xA0, 0xA1, 0xA2, 0xA3, 0xA4, 0xA5]
  else [0xA8, 0xA9, 0xAA]

/-- ERROR_LINE_RISE (R463, R523). -/
def execErrorLineRise (sub : SubId) (kind : Byte) (s : State) : Out :=
  whenDo (decide (s.pwr.mode ≠ .off) && (faultKinds sub.val).contains kind.toNat) s (s.lineRise sub kind)

/-- ERROR_LINE_FALL (R463). -/
def execErrorLineFall (sub : SubId) (s : State) : Out := .next (s.lineFall sub)

/-- FAULT_MSG_RX (R470, R472): the head places and records a received message, whose source counts toward severity here. -/
def execFaultMsgRx (m : BitVec 128) (s : State) : Out :=
  let w := m.toNat
  whenDo s.fab.isHead s
    ((s.countSource (srcFault (fieldN w 10 0) (fieldN w 15 11) (fieldN w 23 16) (fieldN w 26 24))).placeFault m 0)

/-- The window has passed with no further event of the source (R472): the one in force at its last event (R473). -/
def State.windowPassed (s : State) (src : Nat) : Bool :=
  match (s.source src).times with
  | [] => true
  | t :: _ => decide ((s.source src).window < s.clk.opt - t)

/-- SEVERITY_WINDOW_EXPIRE (R472): the source is no longer severe and its counting starts anew. -/
def execSeverityWindowExpire (src : Nat) (s : State) : Out :=
  whenDo (s.windowPassed src) s { s with obs := { s.obs with sources := tblDel src s.obs.sources } }

/-- TOKEN_REFILL (R478): once for each instant of the 125 ms. -/
def execTokenRefill (code : BitVec 16) (s : State) : Out :=
  let b := s.bucket code.toNat
  whenDo (decide (b.last < s.tokenClock)) s
    (let b' : Bucket := { b with tokens := min (b.tokens + 1) 32, last := b.last + 1 }
     { s with obs := { s.obs with buckets := tblPut code.toNat b' s.obs.buckets } })

/-! Bushels (R483 to R486). -/

/-- Bytes in a bushel (R483). -/
def bushelSize : Nat := 2112

/-- The bushel of instant `time`, DONE set (R483, R484). -/
def State.bushel (s : State) (time : Nat) : List Byte :=
  natToBytes s.obs.bseq.toNat 4 ++ natToBytes (1 + flagN s.obs.bskipNext 1) 1 ++ natToBytes 0 3 ++ natToBytes time 8
    ++ natToBytes s.opMs 5 ++ natToBytes s.obs.pcc 3 ++ natToBytes s.selfNode.toNat 2 ++ natToBytes 0 38
    ++ (List.range 256).flatMap fun k => natToBytes (tblGet 0 k s.obs.counters).toNat 8

/-- The dump instant that comes: a whole multiple of PERIOD that has not been served (R484). -/
def State.dumpInstant (s : State) : Nat :=
  let p := s.obs.period * 1000000
  let m := s.fabNs / p * p
  if m ≠ s.obs.dumpAt ∧ s.fabNs ≤ m + 1 then m else m + p

/-- A bushel can be written at local address `a` of P0 (R485): every byte is allocated, and the stores of an earlier dump do
not stand in its way. -/
def State.bushelFits (s : State) (a : Nat) : Bool :=
  let e : Nat → StoreEntry := fun va => { va := va, bytes := 8, value := 0 }
  s.allocatedRange 0 a bushelSize && !s.storeBlocked 0 (e a) && !s.storeBlocked 0 (e (a + bushelSize - 8))

/-- BUSHEL_DUMP (R484 to R486): the dump settings written since take effect; with LEN not zero a bushel goes into its slot of the
ring, or the dump is skipped. -/
def execBushelDump (s : State) : Out :=
  whenDo (decide (s.pwr.mode ≠ .off) && decide (s.pwr.mode ≠ .reset)) s
    (let t := s.dumpInstant
     let s1 := s.passTime (s.cyclesTo t)
     let o := s1.obs
     let s2 : State := { s1 with obs := { o with period := o.periodNext, ringBase := o.baseNext, ringLen := o.lenNext, dumpAt := t } }
     let a := s2.obs.ringBase / 64 * 64 + bushelSize * (o.bseq.toNat % max s2.obs.ringLen 1)
     if s2.obs.ringLen = 0 then s2
     else if s2.bushelFits a then
       let s3 := s2.storeBytes 0 a (s2.bushel t)
       { s3 with obs := { s3.obs with bseq := s3.obs.bseq + 1, bskipNext := false } }
     else ({ s2 with obs := { s2.obs with bskip := true, bskipNext := true } }).linePulse 19 0xA9)

/-! Sampling (R487, R488). -/

/-- The 16 bytes of a sample (R487). -/
def State.sample (s : State) (t c : Nat) (event : BitVec 6) (pc : Word) : List Byte :=
  natToBytes pc.toNat 8 ++ natToBytes t 2 ++ natToBytes c 1 ++ natToBytes event.toNat 1 ++ natToBytes s.fabNs 4

/-- PERF_SAMPLE (R487, R488): in a task of a partition that samples and holds the right for EVENT, once a PERIOD-th
occurrence has made a sample due. -/
def execPerfSample (t : TaskId) (pc : Word) (s : State) : Out :=
  .next (
    match s.task? t with
    | none => s
    | some k =>
      let x := s.parts[k.part].samp
      match k.st with
      | .running c =>
        let (n, due) := s.sampling k.part
        if x.en && s.mayCount k.part x.event.toNat && decide (due ≠ 0) then
          let a := x.base / 16 * 16 + 16 * (x.snext.toNat % max x.len 1)
          let s := { s with obs := { s.obs with sampled := tblPut k.part (n, due - 1) s.obs.sampled } }
          if s.allocatedRange k.part a 16 then
            (s.storeBytes k.part a (s.sample t c x.event pc)).mapPart k.part fun q =>
              { q with samp := { x with snext := x.snext + 1 } }
          else s.mapPart k.part fun q => { q with samp := { x with drop := min (x.drop + 1) 65535 } }
        else s
      | _ => s)

/-- SW.OBS_SAMP is written (R488); the occurrences of EVENT count from the write that sets EN (DEDUCED, log 45). -/
def State.writeSamp (s : State) (p : PartId) (v : Word) : State :=
  let w := v.toNat
  let en := bitN w 6
  let s1 := if en then { s with obs := { s.obs with sampled := tblDel p s.obs.sampled } } else s
  s1.mapPart p fun q =>
    let x := q.samp
    { q with samp := { x with
        event := BitVec.ofNat 6 w, en := en, period := fieldN w 31 8
        snext := if en then 0 else x.snext, drop := if en then 0 else x.drop } }

/-- OBS_SAMP_ENABLE (R488): the write with EN set. -/
def execObsSampEnable (t : TaskId) (v : Word) (s : State) : Out :=
  onRunning t s fun k s => (s.writeSamp k.part (v ||| 0x40)).next t

/-! The recorder's words (R465, R476, R481). -/

/-- OBS_FCLR (R465, R481). -/
def execObsFclr (t : TaskId) (v : Word) (s : State) : Out := wardenWrite t (fun s => s.stickyClear (v.setWidth 20)) s

/-- A program emits a record in the program range (R481). -/
def State.emit (s : State) (p : PartId) (v : Word) : State :=
  let w := v.toNat
  if 0x8000 ≤ fieldN w 15 0 then s.logFull (fieldN w 15 0) { nest := false, prog := true } s.selfNode p.val (fieldN w 63 32) 0 0 0
  else s

/-- OBS_EMIT (R481). -/
def execObsEmit (t : TaskId) (v : Word) (s : State) : Out := onRunning t s fun k s => (s.emit k.part v).next t

/-- The permanent area is cleared (R476). -/
def State.clearPerm (s : State) : State := ({ s with obs := { s.obs with perm := [], pcount := 0 } }).log 0x2300 0 0 0

/-- OBS_PCLR (R476, R481): 1 written in bit 0. -/
def execObsPclr (t : TaskId) (s : State) : Out := wardenWrite t (fun s => s.clearPerm) s

/-- The piece of the selected record that PTR names (R481). -/
def Obs.piece (o : Obs) : Word := BitVec.ofNat 64 (o.selected o.rsel / 2 ^ (64 * o.rptr.toNat))

/-- SW.OBS_RDATA is read: PTR advances (R481). -/
def State.readPiece (s : State) (t : Nat) (gd : Reg) : State :=
  ({ s with obs := { s.obs with rptr := s.obs.rptr + 1 } }).finish t gd s.obs.piece

/-- OBS_RDATA_READ (R481): at tenant privilege a violation of kind 0x02. -/
def execObsRdataRead (t : TaskId) (gd : Reg) (s : State) : Out :=
  onRunning t s fun k s => if k.part = 0 then s.readPiece t gd else s.violate t 2 gd

end Sys2Proof.Machine
end

