-- ==== Sys2Proof/Machine/Boot.lean ====
section
/-! DEFINITION. Boot from each source and the personality's replicas (R420, R490 to R494, R501, R502, R529, R530). -/

namespace Sys2Proof.Machine

/-- The image `b` from source `source` runs: its body is placed, the engine is QUIET and P0 starts at ENTRY (R490, R530), and with no
worker core able to run tasks it enters WATCH (R20). What
RUN tells after a boot from another source than a slot is B, so that slot A is the one that is not running (R495, R496). -/
def State.runImage (s : State) (b : List Byte) (source : Nat) : State :=
  let s0 := if s.syn.mainLost then s else s.lockMain
  let s1 : State := { s0 with
    svc := { s.svc with image := b, source := source, run := decide (source ≠ 0), chainAsk := false }
    cpu := { s.cpu with windowEnd := (s.fabNs / windowNs + 1) * windowNs } }
  let s2 := ((s1.placeImage).enterMode .quiet).startWarden
  if s2.cpu.coreUp = 0 then s2.enterWatch else s2

/-- Which slot boots with BOOTSEL 00: a verifying slot that is not rejected, the higher VERSION, A at equal ones (R493). -/
def State.bootSlot (s : State) : Option Bool :=
  let a := s.imageVerifies s.svc.imgA && !s.svc.rejA
  let b := s.imageVerifies s.svc.imgB && !s.svc.rejB
  if a && b then some (decide ((imageVersion s.svc.imgA).toNat < (imageVersion s.svc.imgB).toNat))
  else if a then some false
  else if b then some true
  else none

/-- READY sets, and the engine waits for a host image (R420, R493). -/
def State.hostReady (s : State) : State :=
  { s with hpi := { s.hpi with bootReady := true, bootGo := false, int := s.hpi.int ||| 8 } }

/-- The image staged by the host, of the length its header gives (R420, R529). -/
def State.hostImage (s : State) : List Byte :=
  let m := s.hpi.staging
  memBytes m 0 (192 + min (imageLength (memBytes m 0 128)) 16777025)

/-- Verification of the host's image ends (R420). -/
def State.bootHost (s : State) : State :=
  let b := s.hostImage
  if s.imageVerifies b then ({ s with hpi := { s.hpi with bootGo := false } }).runImage b 2
  else ({ s with hpi := { s.hpi with bootFail := true } }).hostReady

/-- IMAGE_VERIFIED (R420, R491 to R493): the verification that BOOT waits for ends. -/
def execImageVerified (s : State) : Out :=
  whenDo (decide (s.pwr.mode = .boot)) s
    (if s.hpi.bootReady then s
     else if s.hpi.bootGo then s.bootHost
     else if s.svc.bootsel = 0 then
       match s.bootSlot with
       | some b => s.runImage (s.svc.slotBytes b) (if b then 1 else 0)
       | none => s.hostReady
     else if s.svc.bootsel = 3 then
       if s.imageVerifiesBy (some Config.factoryKeyHash) Config.factoryImage then s.runImage Config.factoryImage 4 else s
     else s)

/-- CHAIN_IMAGE_RECEIVED (R494): the relayed image verifies and runs. -/
def execChainImageReceived (image : List Byte) (s : State) : Out :=
  whenDo (decide (s.pwr.mode = .boot) && s.svc.chainAsk && s.imageVerifies image) s (s.runImage image 3)

/-- CHAIN_IMAGE_REQUEST_RX (R494): the parent of the asking node fetches the head's image and relays it. -/
def execChainImageRequestRx (l : ChainId) (s : State) : Out :=
  whenDo (s.links[chainLink l].controls && s.links[chainLink l].child) s { s with svc := { s.svc with relay := some l } }

/-! The personality (R202, R248, R254, R457, R501, R502). -/

/-- SW.FAB_CFG as it is read (R202). -/
def State.fabCfg (s : State) : Word :=
  BitVec.ofNat 64 (s.fab.nodeId.toNat + flagN s.fab.idSet 11 + 2 ^ 16 * s.fab.prio.toNat + flagN s.fab.donor 24)

/-- SW.FAB_CFG is written, ELECT apart: an ID of 2,046 or 2,047 is ignored (R202). -/
def State.writeFabCfg (s : State) (v : Word) : State :=
  let id : NodeId := v.setWidth 11
  let ok := decide (id.toNat < 2046)
  let f : Fab := { s.fab with
    nodeId := if ok then id else s.fab.nodeId, idSet := s.fab.idSet || ok
    prio := BitVec.ofNat 8 (fieldN v.toNat 23 16), donor := bitN v.toNat 24 }
  { s with fab := f, svc := { s.svc with replicaOut := true } }

/-- SW.TSU_CFG as it is read (R248). -/
def State.tsuCfg (s : State) : Word :=
  let x := s.tsu
  BitVec.ofNat 64 (x.src.toNat + flagN x.ptpm 2 + flagN x.ppsoe 3 + 2 ^ 4 * x.ppsw.toNat + 2 ^ 32 * toUnsignedN 16 x.ppsd
    + 2 ^ 48 * x.domain.toNat)

/-- A change of SRC at the head: the former source is lost, and with SRC none TSU is FREE (R249, R250, R259). -/
def State.sourceChanged (s : State) : State :=
  let s1 : State := { s with tsu := { s.tsu with gm := none, gms := [], ppsBad := 0 } }
  let s2 := if s1.tsu.external then s1.loseSource
    else { s1 with
      tsu := { s1.tsu with st := 0, trace := false, srcPresent := false, inSince := none, outSince := none }
      syn := s1.syn.loseSource }
  s2.timeBaseChanged

/-- SW.TSU_CFG is written (R248, R249); with PPSOE clear PPS_OUT is low (R266). -/
def State.writeTsuCfg (s : State) (v : Word) : State :=
  let w := v.toNat
  let src : BitVec 2 := v.setWidth 2
  let x : Tsu := { s.tsu with
    src := src, ptpm := bitN w 2, ppsoe := bitN w 3, ppsOut := s.tsu.ppsOut && bitN w 3, ppsw := BitVec.ofNat 8 (fieldN w 11 4)
    ppsd := signedN 16 (fieldN w 47 32), domain := BitVec.ofNat 8 (fieldN w 55 48) }
  let kind : BitVec 2 → BitVec 2 := fun c => if c = 3 then 0 else c
  let s1 : State := { s with tsu := x, svc := { s.svc with replicaOut := true } }
  if s.fab.isHead ∧ kind src ≠ kind s.tsu.src then s1.sourceChanged else s1

/-- SW.TSU_ASYM is written: each chain port's asymmetry, in 0.1 ns (R254). -/
def State.writeAsym (s : State) (v : Word) : State :=
  let w := v.toNat
  { s with
    tsu := { s.tsu with asym := v &&& 0x0000FFFFFFFFFFFF }
    links := Vector.ofFn fun i =>
      if i.val < 3 then { s.links[i] with asym := signedN 16 (fieldN w (16 * i.val + 15) (16 * i.val)) } else s.links[i]
    svc := { s.svc with replicaOut := true } }

/-- SW.THM_CFG as it is read (R457). -/
def State.thmCfg (s : State) : Word :=
  let x := s.thm
  BitVec.ofNat 64 (x.warn + 2 ^ 8 * x.throt + 2 ^ 16 * x.shut + flagN x.t0ntc 24 + flagN x.t1ntc 25 + 2 ^ 32 * x.beta.toNat
    + 2 ^ 40 * toUnsignedN 8 x.rwarn)

/-- SW.THM_CFG is written: values outside their ranges are replaced; a write that leaves the thresholds out of order is ignored
(R447, R457). -/
def State.writeThmCfg (s : State) (v : Word) : State :=
  let w := v.toNat
  let warn := clampNat (fieldN w 7 0) 85 130
  let throt := clampNat (fieldN w 15 8) 110 140
  let shut := clampNat (fieldN w 23 16) 135 148
  if throt ≤ warn ∨ shut ≤ throt then s
  else
    { s with
      thm := { s.thm with
        warn := warn, throt := throt, shut := shut, t0ntc := bitN w 24, t1ntc := bitN w 25
        beta := BitVec.ofNat 8 (fieldN w 39 32), rwarn := clampInt (signedN 8 (fieldN w 47 40)) (-40) 125 }
      svc := { s.svc with replicaOut := true } }

/-- The charter in force, where its node serial is 0 (R501). -/
def State.personalCharter (s : State) : List Byte :=
  match s.cht.force with
  | some b => if recNat (s.cht.slotBytes b) 16 8 = 0 then s.cht.slotBytes b else []
  | none => []

/-- The personality (R501). -/
def State.personality (s : State) : Personality :=
  { fabCfg := s.fabCfg, tsuCfg := s.tsuCfg, tsuAsym := s.tsu.asym, thmCfg := s.thmCfg, charter := s.personalCharter }

/-- PERSONALITY_SEND (R501): within 1 s of a change the replica goes to both ring neighbours and the head. -/
def execPersonalitySend (s : State) : Out :=
  whenDo s.svc.replicaOut s
    (let p := s.personality
     { s with svc := { s.svc with replicaOut := false, persOut := some p } })

/-- The personality `p` is written, with its ID set as `p` says (R502). -/
def State.adoptWords (s : State) (p : Personality) : State :=
  let s1 := (((s.writeFabCfg p.fabCfg).writeTsuCfg p.tsuCfg).writeAsym p.tsuAsym).writeThmCfg p.thmCfg
  { s1 with fab := { s1.fab with
      idSet := bitN p.fabCfg.toNat 11, nodeId := p.fabCfg.setWidth 11 } }

/-- The ID that an offer names. -/
def offerId (o : ReplicaOffer) : NodeId := o.fabCfg.setWidth 11

/-- PERSONALITY_OFFER_RX (R502): a node without an ID adopts the first offer, with its charter into slot A, and starts an
election; an offer of another ID in the same election refuses both. -/
def execPersonalityOfferRx (o : ReplicaOffer) (s : State) : Out :=
  whenDo (o.neighboursMatch && !o.idHasAddress && !s.svc.offerBad) s
    (match s.svc.offer with
     | none =>
       if s.fab.idSet then s
       else
         let old : Personality := { s.personality with charter := s.cht.slotA }
         let new : Personality :=
           { fabCfg := o.fabCfg ||| 0x800, tsuCfg := o.tsuCfg, tsuAsym := o.tsuAsym, thmCfg := o.thmCfg, charter := o.charter }
         let s1 := s.adoptWords new
         ({ s1 with
            cht := { s1.cht with slotA := if o.charter.isEmpty then s1.cht.slotA else o.charter }
            svc := { s1.svc with offer := some (offerId o, old) } }).startElection
     | some (id, old) =>
       if id = offerId o then s
       else
         let s1 := s.adoptWords old
         ({ s1 with
            cht := { s1.cht with slotA := old.charter }
            svc := { s1.svc with offer := none, offerBad := true } }).log 0x1802 id.toNat (offerId o).toNat 0)

end Sys2Proof.Machine
end

