-- ==== Sys2Proof/Machine/Branch.lean ====
section
/-! DEFINITION. Branches and jumps (R313 to R315). -/

namespace Sys2Proof.Machine

/-- A jump that always goes: the link register is written, whatever the target's fetch does (R315). -/
def jump (t : TaskId) (link : Option Reg) (target : Task → Word) (s : State) : Out :=
  onRunning t s fun k s =>
    let s1 := match link with
      | some r => s.putReg t r (k.pc + 4)
      | none => s
    ((s1.countInstr k).countFor k.part 9).goto t (target k)

/-- beq (R314): taken if ga = gb. -/
def execBeq (t : TaskId) (ga gb : Reg) (off : BitVec 16) (s : State) : Out :=
  branch t ga gb off (fun a b => decide (a = b)) s

/-- bne (R314): taken if ga ≠ gb. -/
def execBne (t : TaskId) (ga gb : Reg) (off : BitVec 16) (s : State) : Out :=
  branch t ga gb off (fun a b => decide (a ≠ b)) s

/-- blt (R314): taken if ga < gb signed. -/
def execBlt (t : TaskId) (ga gb : Reg) (off : BitVec 16) (s : State) : Out :=
  branch t ga gb off (fun a b => decide (a.toInt < b.toInt)) s

/-- bge (R314): taken if ga ≥ gb signed. -/
def execBge (t : TaskId) (ga gb : Reg) (off : BitVec 16) (s : State) : Out :=
  branch t ga gb off (fun a b => decide (b.toInt ≤ a.toInt)) s

/-- bltu (R314): taken if ga < gb unsigned. -/
def execBltu (t : TaskId) (ga gb : Reg) (off : BitVec 16) (s : State) : Out :=
  branch t ga gb off (fun a b => decide (a.toNat < b.toNat)) s

/-- bgeu (R314): taken if ga ≥ gb unsigned. -/
def execBgeu (t : TaskId) (ga gb : Reg) (off : BitVec 16) (s : State) : Out :=
  branch t ga gb off (fun a b => decide (b.toNat ≤ a.toNat)) s

/-- j (R314): pc + sext(off26) × 4. -/
def execJ (t : TaskId) (off : BitVec 26) (s : State) : Out :=
  jump t none (fun k => k.pc + off.signExtend 64 * 4) s

/-- jal (R314): as j, with pc + 4 in g31. -/
def execJal (t : TaskId) (off : BitVec 26) (s : State) : Out :=
  jump t (some 31) (fun k => k.pc + off.signExtend 64 * 4) s

/-- jalr (R314): gd takes pc + 4; on at ga + sext(imm16) with bits [1:0] cleared. Sources are read first (R306). -/
def execJalr (t : TaskId) (gd ga : Reg) (imm : BitVec 16) (s : State) : Out :=
  jump t (some gd) (fun k => (k.get ga + imm.signExtend 64) &&& ~~~3#64) s

end Sys2Proof.Machine
end

