-- ==== Sys2Proof/Machine/GlobalMem.lean ====
section
/-! DEFINITION. Global loads, stores and atomics (R320 to R324). -/

namespace Sys2Proof.Machine

/-- The bytes a misaligned store or atomic may write in the issuing partition's own memory: free values, confined to
pages allocated to the partition (case 4 of R301, R321, R302). -/
def State.freeStores (s : State) (p : PartId) : State :=
  (Config.freeWrites s.free).foldl
    (fun s w => if s.allocated p w.1 then s.storeBytes p w.1 [w.2] else s) (s.useFree 1)

/-- A global access of task `t` as its operands give it: operation (0 load, 1 store, 2 add, 3 swap, 4 compare and
swap), width, sign extension, reference and data. -/
structure GlobalOp where
  op : Fin 5
  bytes : Nat
  signed : Bool
  ref : Word
  data : Word
  cmp : Word
  deriving DecidableEq, Repr

/-- The request message of an access (R214, R402). -/
def GlobalOp.request (o : GlobalOp) (s : State) (k : Task) (node : NodeId) (i : Nat) : MemRequest :=
  { node := node, part := k.part, pgen := s.parts[k.part].gen, op := o.op, ref := o.ref, bytes := o.bytes,
    data := o.data, cmp := o.cmp, tag := ⟨i % 4096, Nat.mod_lt _ (by decide)⟩, gen := (s.tagAt i).gen,
    deadline := s.newDeadline }

/-- Task `t` has issued one more posted store. -/
def State.bumpSeq (s : State) (t : Nat) : State :=
  match s.task? t with
  | some k => s.setTask t { k with gseq := k.gseq + 1 }
  | none => s

/-- A misaligned access (case 4 of R301): it raises no exception and counts no violation. -/
def globalFree (t : TaskId) (gd : Reg) (o : GlobalOp) (k : Task) (s : State) : State :=
  let s1 := if o.op = 0 then s else s.freeStores k.part
  if o.op = 1 then s1.next t else (s1.useFree 1).finish t gd (s1.freeAt 0)

/-- The reply to an access that its own node served at once: a load or atomic completes; the home's violation and
error end the instruction here. -/
def globalReply (t : TaskId) (gd : Reg) (o : GlobalOp) (k : Task) (r : HomeReply) (s : State) : State :=
  if r.err = 0 then (if o.op = 1 then s.next t else s.finish t gd (extLoad o.bytes o.signed r.data))
  else if r.err = 4 then s.violate t 1 (if o.op = 1 then 0 else gd)
  else s.exception t 2 k.pc o.ref

/-- The counter of an access (R526). -/
def GlobalOp.counted (o : GlobalOp) (k : Task) (s : State) : State :=
  s.countFor k.part (if o.op = 0 then 6 else if o.op = 1 then 7 else 8)

/-- An access whose home is this node (R321): the task's own earlier stores come first (R325). -/
def globalHere (t : TaskId) (gd : Reg) (o : GlobalOp) (k : Task) (s : State) : State :=
  let s1 := s.drain t
  match s1.freeTag with
  | none => s1.makeWait t (.retry true)
  | some i =>
    if !s1.drained t then s1.makeWait t (.retry false)
    else
      let q := o.request s1 k 2046 i
      let a := memKey (refPart o.ref) (refVa o.ref)
      let s2 := ((o.counted k s1).openTag t k i o.ref (o.op = 1)).bumpSeq t
      let s2 := if o.op = 1 then s2.noteStore t a o.bytes else s2.taughtAt t a o.bytes
      if s2.homeBlocked q then
        (if o.op = 1 then (s2.homePark q).next t
          else (s2.homePark q).makeWait t (.tag i gd o.bytes o.signed))
      else
        let (s3, r) := s2.serveHome q
        let s4 := s3.setTag i { s3.tagAt i with busy := false }
        if o.op = 0 && r.err = 0 && s1.unjoined t k.part a o.bytes then
          globalReply t gd o k { r with data := s4.freeAt 0 &&& BitVec.ofNat 64 (256 ^ o.bytes - 1) } (s4.useFree 1)
        else globalReply t gd o k r s4

/-- The replica this node holds of the page a reference names (R372). -/
def State.replicaOf (s : State) (ref : Word) : Option Replica :=
  s.ms.replicas.find? fun r =>
    decide (r.ref ≤ ref.toNat % 2 ^ 62) && decide (ref.toNat % 2 ^ 62 < r.ref + r.data.length)

/-- A global load served from a replica at this node (R372): it holds a tag while it does (R321), and a block that was poisoned at the
home raises ECC here too (R382). -/
def replicaLoad (t : TaskId) (gd : Reg) (o : GlobalOp) (k : Task) (r : Replica) (s : State) : State :=
  match s.freeTag with
  | none => s.makeWait t (.retry true)
  | some i =>
    let off := o.ref.toNat % 2 ^ 62 - r.ref
    let hot : Replica → Replica := fun x => if x.ref = r.ref then { x with heat := min (x.heat + 1) 65535 } else x
    let s1 := (o.counted k s).openTag t k i o.ref false
    let s2 := (s1.setTag i { s1.tagAt i with busy := false })
    let s3 := { s2 with ms := { s2.ms with replicas := s2.ms.replicas.map hot } }
    if r.bad.contains (off / 32) then s3.exception t 2 k.pc o.ref
    else s3.finish t gd (extLoad o.bytes o.signed (BitVec.ofNat 64 (bytesToNat ((r.data.drop off).take o.bytes))))

/-- An access whose home is another node (R321, R322): a load or atomic waits for its response, a store is posted. -/
def globalAway (t : TaskId) (gd : Reg) (o : GlobalOp) (k : Task) (s : State) : State :=
  match s.freeTag with
  | none => s.makeWait t (.retry true)
  | some i =>
    let q := o.request s k s.senderNode i
    let page := o.ref.toNat % 2 ^ 62 / 4096
    let s0 := if o.op = 0 then
        { s with ms := { s.ms with readHeat := tblPut page (min (tblGet 0 page s.ms.readHeat + 1) 65535) s.ms.readHeat } }
      else s
    let s1 := (((o.counted k s0).openTag t k i o.ref (o.op = 1)).bumpSeq t).sendPacket (refNode o.ref) 5 0 k.part (.request q)
    if o.op = 1 then s1.next t else s1.makeWait t (.tag i gd o.bytes o.signed)

/-- A global access, in the order of R321: partition, alignment, node, home. One to a location that a posted store of the task has not
reached yet waits for it (R325). -/
def globalAccess (t : TaskId) (gd : Reg) (o : GlobalOp) (k : Task) (s : State) : State :=
  if k.part ≠ 0 ∧ refPart o.ref ≠ k.part then s.violate t 1 (if o.op = 1 then 0 else gd)
  else if refVa o.ref % o.bytes ≠ 0 then globalFree t gd o k (o.counted k s)
  else if (s.isHere (refNode o.ref) || s.reachable (refNode o.ref)) && s.postedAt t o.ref then s.makeWait t (.retry false)
  else if s.isHere (refNode o.ref) then globalHere t gd o k s
  else if !s.reachable (refNode o.ref) then
    (if o.op = 1 then (((o.counted k s).bumpSeq t).storeError t k.gseq 3 o.ref).next t else (o.counted k s).exception t 3 k.pc o.ref)
  else
    match (if o.op = 0 then s.replicaOf o.ref else none) with
    | some r => replicaLoad t gd o k r s
    | none => globalAway t gd o k s

/-- A global load of `n` bytes (R320). -/
def globalLoad (t : TaskId) (gd ga : Reg) (imm : BitVec 16) (n : Nat) (signed : Bool) (s : State) : Out :=
  onEngine t 1 s fun k s =>
    globalAccess t gd { op := 0, bytes := n, signed := signed, ref := refAdd (k.get ga) imm, data := 0, cmp := 0 } k s

/-- A posted global store of the low `n` bytes of gd (R320, R322). -/
def globalStore (t : TaskId) (gd ga : Reg) (imm : BitVec 16) (n : Nat) (s : State) : Out :=
  onEngine t 1 s fun k s =>
    globalAccess t 0 { op := 1, bytes := n, signed := false, ref := refAdd (k.get ga) imm, data := k.get gd, cmp := 0 }
      k s

/-- An atomic of `n` bytes at the location ga names (R323). -/
def atomic (t : TaskId) (gd ga gb : Reg) (op : Fin 5) (n : Nat) (s : State) : Out :=
  onEngine t 1 s fun k s =>
    globalAccess t gd { op := op, bytes := n, signed := n = 4, ref := k.get ga, data := k.get gb, cmp := k.get gd } k s

/-- gld.b (R320). -/
def execGldB (t : TaskId) (gd ga : Reg) (imm : BitVec 16) (s : State) : Out := globalLoad t gd ga imm 1 true s

/-- gld.bu (R320). -/
def execGldBu (t : TaskId) (gd ga : Reg) (imm : BitVec 16) (s : State) : Out := globalLoad t gd ga imm 1 false s

/-- gld.h (R320). -/
def execGldH (t : TaskId) (gd ga : Reg) (imm : BitVec 16) (s : State) : Out := globalLoad t gd ga imm 2 true s

/-- gld.hu (R320). -/
def execGldHu (t : TaskId) (gd ga : Reg) (imm : BitVec 16) (s : State) : Out := globalLoad t gd ga imm 2 false s

/-- gld.w (R320). -/
def execGldW (t : TaskId) (gd ga : Reg) (imm : BitVec 16) (s : State) : Out := globalLoad t gd ga imm 4 true s

/-- gld.wu (R320). -/
def execGldWu (t : TaskId) (gd ga : Reg) (imm : BitVec 16) (s : State) : Out := globalLoad t gd ga imm 4 false s

/-- gld.d (R320). -/
def execGldD (t : TaskId) (gd ga : Reg) (imm : BitVec 16) (s : State) : Out := globalLoad t gd ga imm 8 false s

/-- gst.b (R320). -/
def execGstB (t : TaskId) (gd ga : Reg) (imm : BitVec 16) (s : State) : Out := globalStore t gd ga imm 1 s

/-- gst.h (R320). -/
def execGstH (t : TaskId) (gd ga : Reg) (imm : BitVec 16) (s : State) : Out := globalStore t gd ga imm 2 s

/-- gst.w (R320). -/
def execGstW (t : TaskId) (gd ga : Reg) (imm : BitVec 16) (s : State) : Out := globalStore t gd ga imm 4 s

/-- gst.d (R320). -/
def execGstD (t : TaskId) (gd ga : Reg) (imm : BitVec 16) (s : State) : Out := globalStore t gd ga imm 8 s

/-- aadd.w (R323). -/
def execAaddW (t : TaskId) (gd ga gb : Reg) (s : State) : Out := atomic t gd ga gb 2 4 s

/-- aadd.d (R323). -/
def execAaddD (t : TaskId) (gd ga gb : Reg) (s : State) : Out := atomic t gd ga gb 2 8 s

/-- aswap.w (R323). -/
def execAswapW (t : TaskId) (gd ga gb : Reg) (s : State) : Out := atomic t gd ga gb 3 4 s

/-- aswap.d (R323). -/
def execAswapD (t : TaskId) (gd ga gb : Reg) (s : State) : Out := atomic t gd ga gb 3 8 s

/-- acas.w (R323). -/
def execAcasW (t : TaskId) (gd ga gb : Reg) (s : State) : Out := atomic t gd ga gb 4 4 s

/-- acas.d (R323). -/
def execAcasD (t : TaskId) (gd ga gb : Reg) (s : State) : Out := atomic t gd ga gb 4 8 s

end Sys2Proof.Machine
end

