-- ==== Sys2Proof/Machine/Imm.lean ====
section
/-! DEFINITION. The immediate instructions (R312). -/

namespace Sys2Proof.Machine

/-- addi (R312): ga + sext(imm16). -/
def execAddi (t : TaskId) (gd ga : Reg) (imm : BitVec 16) (s : State) : Out :=
  regImm t gd ga (fun a => a + imm.signExtend 64) s

/-- andi (R312): ga AND zext(imm16). -/
def execAndi (t : TaskId) (gd ga : Reg) (imm : BitVec 16) (s : State) : Out :=
  regImm t gd ga (fun a => a &&& imm.setWidth 64) s

/-- ori (R312): ga OR zext(imm16). -/
def execOri (t : TaskId) (gd ga : Reg) (imm : BitVec 16) (s : State) : Out :=
  regImm t gd ga (fun a => a ||| imm.setWidth 64) s

/-- xori (R312): ga XOR zext(imm16). -/
def execXori (t : TaskId) (gd ga : Reg) (imm : BitVec 16) (s : State) : Out :=
  regImm t gd ga (fun a => a ^^^ imm.setWidth 64) s

/-- slti (R312): signed compare with sext(imm16). -/
def execSlti (t : TaskId) (gd ga : Reg) (imm : BitVec 16) (s : State) : Out :=
  regImm t gd ga (fun a => boolWord (decide (a.toInt < imm.toInt))) s

/-- sltiu (R312): unsigned compare with sext(imm16). -/
def execSltiu (t : TaskId) (gd ga : Reg) (imm : BitVec 16) (s : State) : Out :=
  regImm t gd ga (fun a => boolWord (decide (a.toNat < (imm.signExtend 64 : Word).toNat))) s

/-- ihw.2 (R312): bits [47:32] replaced by imm16. -/
def execIhw2 (t : TaskId) (gd ga : Reg) (imm : BitVec 16) (s : State) : Out :=
  regImm t gd ga (fun a => (a &&& ~~~(0xFFFF#64 <<< 32)) ||| (imm.setWidth 64 <<< 32)) s

/-- addi.w (R312): sext64 of the 32-bit sum. -/
def execAddiW (t : TaskId) (gd ga : Reg) (imm : BitVec 16) (s : State) : Out :=
  regImm t gd ga (fun a => sext64 32 (a.setWidth 32 + imm.signExtend 32)) s

/-- ihw.3 (R312): bits [63:48] replaced by imm16. -/
def execIhw3 (t : TaskId) (gd ga : Reg) (imm : BitVec 16) (s : State) : Out :=
  regImm t gd ga (fun a => (a &&& ~~~(0xFFFF#64 <<< 48)) ||| (imm.setWidth 64 <<< 48)) s

/-- lui (R312): sext64(imm16 × 2^16); ga is zero. -/
def execLui (t : TaskId) (gd : Reg) (imm : BitVec 16) (s : State) : Out :=
  regImm t gd 0 (fun _ => sext64 32 (imm.setWidth 32 <<< 16)) s

end Sys2Proof.Machine
end

