-- ==== Sys2Proof/Machine/LocalMem.lean ====
section
/-! DEFINITION. Local loads and stores (R316 to R319). -/

namespace Sys2Proof.Machine

/-- A local load of `n` bytes (R316 to R318): a violation of kind 0x01 beyond the partition's rights, ECC where an error is not
correctable, else the value `ext` makes of the bytes, the task's own stores included. It comes after the task's own global stores to
those bytes (R325); what a task not yet joined has stored there without a fence is a free value (case 11 of R301). -/
def localLoad (t : TaskId) (gd ga : Reg) (imm : BitVec 16) (n : Nat) (ext : Nat → Word) (s : State) : Out :=
  onRunning t s fun k s =>
    let ea := localEA k ga imm
    let a := memKey k.part ea.toNat
    if s.localOk k.part ea n then
      if s.postedHere t k.part ea.toNat n then s.makeWait t (.retry false)
      else
        let s1 := s.readErrors k.part ea.toNat n
        if s.badRead k.part ea.toNat n then s1.exception t 2 k.pc ea
        else
          let s2 := ((s1.touchRange k.part ea.toNat n).countFor k.part 4).taughtAt t a n
          if s.unjoined t k.part a n then (s2.useFree 1).finish t gd (ext ((s.freeAt 0).toNat % 256 ^ n))
          else s2.finish t gd (ext (bytesToNat (s.readLocal k ea.toNat n)))
    else s.violate t 1 gd

/-- The store queue entries of a local store: one for an aligned store, for a misaligned one the two aligned parts (R318, R319). -/
def storeParts (va n : Nat) (v : Word) : List StoreEntry :=
  let m := n - va % n
  if va % n = 0 then [{ va := va, bytes := n, value := v }]
  else [{ va := va, bytes := m, value := v }, { va := va + m, bytes := n - m, value := v >>> (8 * m) }]

/-- A local store of the low `n` bytes of gd into the task's store queue (R317 to R319), after the task's own global stores to those
bytes (R325); a violation stores no byte and has no result. -/
def localStore (t : TaskId) (gd ga : Reg) (imm : BitVec 16) (n : Nat) (s : State) : Out :=
  onRunning t s fun k s =>
    let ea := localEA k ga imm
    if s.localOk k.part ea n then
      if s.postedHere t k.part ea.toNat n then s.makeWait t (.retry false)
      else
        ((((s.setTask t { k with sq := k.sq ++ storeParts ea.toNat n (k.get gd) }).countFor k.part 5).noteStore t
          (memKey k.part ea.toNat) n)).next t
    else s.violate t 1 0

/-- A loaded value of `n` bytes, sign-extended. -/
def extS (n : Nat) (x : Nat) : Word := (BitVec.ofNat (8 * n) x).signExtend 64

/-- A loaded value, zero-extended. -/
def extU (x : Nat) : Word := BitVec.ofNat 64 x

/-- ld.b (R317). -/
def execLdB (t : TaskId) (gd ga : Reg) (imm : BitVec 16) (s : State) : Out := localLoad t gd ga imm 1 (extS 1) s

/-- ld.bu (R317). -/
def execLdBu (t : TaskId) (gd ga : Reg) (imm : BitVec 16) (s : State) : Out := localLoad t gd ga imm 1 extU s

/-- ld.h (R317). -/
def execLdH (t : TaskId) (gd ga : Reg) (imm : BitVec 16) (s : State) : Out := localLoad t gd ga imm 2 (extS 2) s

/-- ld.hu (R317). -/
def execLdHu (t : TaskId) (gd ga : Reg) (imm : BitVec 16) (s : State) : Out := localLoad t gd ga imm 2 extU s

/-- ld.w (R317). -/
def execLdW (t : TaskId) (gd ga : Reg) (imm : BitVec 16) (s : State) : Out := localLoad t gd ga imm 4 (extS 4) s

/-- ld.wu (R317). -/
def execLdWu (t : TaskId) (gd ga : Reg) (imm : BitVec 16) (s : State) : Out := localLoad t gd ga imm 4 extU s

/-- ld.d (R317). -/
def execLdD (t : TaskId) (gd ga : Reg) (imm : BitVec 16) (s : State) : Out := localLoad t gd ga imm 8 extU s

/-- st.b (R317). -/
def execStB (t : TaskId) (gd ga : Reg) (imm : BitVec 16) (s : State) : Out := localStore t gd ga imm 1 s

/-- st.h (R317). -/
def execStH (t : TaskId) (gd ga : Reg) (imm : BitVec 16) (s : State) : Out := localStore t gd ga imm 2 s

/-- st.w (R317). -/
def execStW (t : TaskId) (gd ga : Reg) (imm : BitVec 16) (s : State) : Out := localStore t gd ga imm 4 s

/-- st.d (R317). -/
def execStD (t : TaskId) (gd ga : Reg) (imm : BitVec 16) (s : State) : Out := localStore t gd ga imm 8 s

end Sys2Proof.Machine
end

