-- ==== Sys2Proof/Machine/Packet.lean ====
section
/-! DEFINITION. Packet cells, fault reports on their way to the head, and the TAP bridge (R208, R213 to R220, R532). -/

namespace Sys2Proof.Machine

/-! Header fields (R213). -/

/-- Destination of a cell. -/
def cellDst (c : Cell) : NodeId := BitVec.ofNat 11 (fieldN c.hdr.toNat 10 0)

/-- Source of a cell. -/
def cellSrc (c : Cell) : NodeId := BitVec.ofNat 11 (fieldN c.hdr.toNat 21 11)

/-- Priority of a cell. -/
def cellPri (c : Cell) : BitVec 3 := BitVec.ofNat 3 (fieldN c.hdr.toNat 24 22)

/-- Source partition of a cell. -/
def cellPart (c : Cell) : PartId := ⟨fieldN c.hdr.toNat 27 25, Nat.mod_lt _ (by decide)⟩

/-- Type of a cell. -/
def cellType (c : Cell) : Nat := fieldN c.hdr.toNat 31 28

/-- Packet sequence number of a cell. -/
def cellSeq (c : Cell) : Nat := fieldN c.hdr.toNat 47 32

/-- The cell is the first of its packet. -/
def cellFirst (c : Cell) : Bool := bitN c.hdr.toNat 48

/-- The cell is the last of its packet. -/
def cellLast (c : Cell) : Bool := bitN c.hdr.toNat 49

/-- A packet's copy by the link it comes on, its source and its sequence number. -/
def cellKey (l : ChainId) (c : Cell) : Nat := (l.val * 2048 + (cellSrc c).toNat) * 65536 + cellSeq c

/-- The deadline that a memory response carries in its payload's first eight bytes (R214; the layout is DESIGN CHOICE, log 33). -/
def cellDeadline (c : Cell) : Nat := bytesToNat (c.payload.take 8)

/-! Duplicates (R208). -/

/-- A packet addressed to this node begins (R208): the first copy is taken, a later one discarded and counted. -/
def State.beginPacket (s : State) (l : ChainId) (c : Cell) : State :=
  let r := s.firstCopy (cellSrc c) (cellSeq c)
  let a : Arriving := { box := if cellType c = 2 then some (mailKey c.part c.mbox) else none, bytes := [] }
  if r.1 then { r.2 with fab := { r.2.fab with partial' := tblPut (cellKey l c) a r.2.fab.partial' } } else r.2

/-! Fault reports (R218, R470). -/

/-- A fault report for the head arrives: the head places it, another node holds it for merging (R218, R470). -/
def State.reportRx (s : State) (l : ChainId) (m : BitVec 128) : State :=
  if s.fab.isHead then s.placeFault m 0 else s.holdFault m (some l)

/-- A held report's time has passed: 10 µs since it last grew, or 1 ms since it came (R218). -/
def HeldFault.ripe (h : HeldFault) (now : Nat) : Bool :=
  decide (h.at' + tenUs ≤ now) || decide (h.since + edMs 1 ≤ now)

/-- The ports a report leaves by: the parent port in force, or, where that lies on a ring, both ways round, each copy keeping
its direction (R208, R218). -/
def State.reportPorts (s : State) (via : Option ChainId) : List ChainId :=
  match s.fab.up with
  | none => []
  | some u =>
    if s.links[chainLink u].ring then
      let ringIn : Bool := match via with | some l => s.links[chainLink l].ring | none => false
      s.openPorts.filter fun l => s.links[chainLink l].ring && !(ringIn && decide (via = some l))
    else s.openPorts.filter fun l => l = u

/-- FAULT_REPORT_HOLD_EXPIRE (R218): what has been held long enough goes toward the head. -/
def execFaultReportHoldExpire (s : State) : Out :=
  .next (
    let go := s.fab.held.filter fun h => h.ripe s.clk.ed
    let s1 := { s with fab := { s.fab with held := s.fab.held.filter fun h => !h.ripe s.clk.ed } }
    if s.fab.isHead || s.fab.headless then s1
    else go.foldl (fun s h => s.sendOnPorts (s1.reportPorts h.via) s.fab.headId 6 5 0 (.fault h.msg)) s1)

/-! The TAP bridge (R219, R220). -/

/-- VLAN `v` is in the node's table (R219, R220). -/
def State.vlanHere (s : State) (v : BitVec 12) : Bool := decide (v ≠ 0) && s.fab.vlans.any fun e => e.2 = v

/-- A source address is learned for its VLAN at node `n`; 16,384 are kept, the newest first (R220). -/
def State.learn (s : State) (v : BitVec 12) (a : Mac) (n : NodeId) : State :=
  let rest := s.fab.macs.filter fun e => !(e.vid = v && e.mac = a)
  { s with fab := { s.fab with
      macs := ({ vid := v, mac := a, node := n, at' := s.clk.ed } :: rest).take 16384 } }

/-- The node at which an address was learned. -/
def State.learned (s : State) (v : BitVec 12) (a : Mac) : Option NodeId :=
  (s.fab.macs.find? fun e => e.vid = v && e.mac = a).map (·.node)

/-- The most significant byte of an `n`-byte number first. -/
def bigBytes (x n : Nat) : List Byte := (natToBytes x n).reverse

/-- The octets of a frame, its check sequence apart. -/
def frameBytes (f : EthFrame) : List Byte :=
  bigBytes f.dst.toNat 6 ++ bigBytes f.src.toNat 6
    ++ (if f.tagged then bigBytes 0x8100 2 ++ bigBytes (f.pcp.toNat * 8192 + f.vid.toNat) 2 else [])
    ++ bigBytes f.etype.toNat 2 ++ f.payload

/-- A number, most significant byte first. -/
def bigNat (b : List Byte) : Nat := bytesToNat b.reverse

/-- The frame that octets spell. -/
def frameOf (b : List Byte) : EthFrame :=
  let tag := decide (bigNat ((b.drop 12).take 2) = 0x8100)
  let tci := bigNat ((b.drop 14).take 2)
  let rest := b.drop (if tag then 16 else 12)
  { len := b.length + 4, fcsOk := true, dst := BitVec.ofNat 48 (bigNat (b.take 6))
    src := BitVec.ofNat 48 (bigNat ((b.drop 6).take 6)), tagged := tag
    vid := if tag then BitVec.ofNat 12 (tci % 4096) else 0
    pcp := if tag then BitVec.ofNat 3 (tci / 8192) else 0
    etype := BitVec.ofNat 16 (bigNat (rest.take 2)), payload := rest.drop 2 }

/-- The VLAN a frame belongs to (R220): its tag's, or PVID where it has none or a priority tag. -/
def State.vlanOf (s : State) (f : EthFrame) : BitVec 12 := if f.tagged && decide (f.vid ≠ 0) then f.vid else s.fab.pvid

/-- A frame on the management VLAN for this node's own address goes to the Warden's mailbox 7 (R220, R355). -/
def State.managed (s : State) (v : BitVec 12) (f : EthFrame) : Bool :=
  decide (s.fab.mgmt ≠ 0) && decide (v = s.fab.mgmt) && decide (f.dst = Config.ownMac)

/-- A frame leaves by the TAP port, untagged on PVID (R220). -/
def State.tapSend (s : State) (v : BitVec 12) (f : EthFrame) : State :=
  if s.links[tapLink].st = .up then
    { s with fab := { s.fab with tapOut := s.fab.tapOut ++
        [if v = s.fab.pvid then { f with tagged := false, vid := 0 } else { f with tagged := true, vid := v }] } }
  else s

/-- A frame reaches this node over the fabric (R220). -/
def State.frameRx (s : State) (src : NodeId) (body : List Byte) : State :=
  let f := frameOf body
  let v := s.vlanOf f
  if !s.vlanHere v then s.count 139
  else
    let s1 := s.learn v f.src src
    if s1.managed v f then s1.arriveMsg 0 7 { body := frameBytes f, srcNode := src, srcPart := 0, seen := [], seq := none }
    else s1.tapSend v f

/-- The message type of a PTP frame. -/
def ptpType (f : EthFrame) : Nat := (f.payload.headD 0).toNat % 16

/-- A PTP message that enters by the TAP port crosses the fabric as PTP cells of priority 6 with its ingress instant and the port's
link delay (R215, R261, R262), but for the messages of the peer delay mechanism, which end at the port: types 0x2, 0x3 and 0xA
(PRESUMED from IEEE 1588, log 33). -/
def State.ptpForward (s : State) (f : EthFrame) : State :=
  let typ := ptpType f
  if typ = 2 || typ = 3 || typ = 10 then s else s.sendPacket 2047 6 4 0 (.ptp f s.fabNs s.tsu.pdelay)

/-- A PTP message has reached this node over the fabric: it leaves by the TAP port unchanged (R261), but for Sync, Delay_Req,
Follow_Up and Announce, types 0x0, 0x1, 0x8 and 0xB, which leave, or do not, by their own commands (R262 to R264). The last 16
bytes are the ingress instant and the link delay (the layout is DESIGN CHOICE, log 33). -/
def State.ptpLeave (s : State) (body : List Byte) : State :=
  let f := frameOf (body.take (body.length - 16))
  let typ := ptpType f
  if typ = 0 || typ = 1 || typ = 8 || typ = 11 || !decide (s.links[tapLink].st = .up) then s
  else { s with fab := { s.fab with tapOut := s.fab.tapOut ++ [f] } }

/-- TAP_FRAME_RX (R220): a frame of bad size or check sequence, or of no VLAN of the node, is discarded and counted; PTP goes
to TSU; the rest is learned and bridged to the node that learned the address, or broadcast. -/
def execTapFrameRx (f : EthFrame) (s : State) : Out :=
  whenDo (decide (s.links[tapLink].st = .up)) s
    (let v := s.vlanOf f
     if !f.fcsOk || decide (f.len < 64) || decide (2000 < f.len) then s.count 138
     else if f.etype = 0x88F7 then s.ptpForward f
     else if !s.vlanHere v then s.count 139
     else
       let s1 := s.learn v f.src s.senderNode
       let g : EthFrame := { f with tagged := true, vid := v, pcp := if f.tagged then f.pcp else 0 }
       if s1.managed v f then s1.arriveMsg 0 7 { body := frameBytes f, srcNode := s1.selfNode, srcPart := 0, seen := [], seq := none }
       else
         match s1.learned v f.dst with
         | some n => if n = s1.senderNode then s1 else s1.sendPacket n g.pcp 3 0 (.frame g)
         | none => s1.sendPacket 2047 g.pcp 3 0 (.frame g))

/-- 300 s in ED cycles (R220). -/
def macLife : Nat := edMs 300000

/-- MAC_AGEING (R220). -/
def execMacAgeing (vid : BitVec 12) (mac : Mac) (s : State) : Out :=
  .next { s with fab := { s.fab with
    macs := s.fab.macs.filter fun e => !(e.vid = vid && e.mac = mac && decide (e.at' + macLife ≤ s.clk.ed)) } }

/-! Delivery and forwarding (R208, R213, R215, R216, R532). -/

/-- A packet for this node is complete (R213): a message enters its mailbox, an Ethernet frame is bridged, a PTP message leaves by
the TAP port or has its own command, a fault report goes its way. -/
def State.takePacket (s : State) (l : ChainId) (c : Cell) (body : List Byte) : State :=
  match cellType c with
  | 2 => s.messageRx c.part c.mbox
      { body := body, srcNode := cellSrc c, srcPart := cellPart c, seen := [], seq := some (cellSeq c) }
  | 3 => s.frameRx (cellSrc c) body
  | 4 => s.ptpLeave body
  | 5 => s.reportRx l (BitVec.ofNat 128 (bytesToNat body))
  | _ => s

/-- A cell joins its packet, which is delivered with its last cell. -/
def State.takeCell (s : State) (l : ChainId) (c : Cell) : State :=
  let k := cellKey l c
  match tblFind k s.fab.partial' with
  | none => s
  | some a =>
    let body := a.bytes ++ c.payload
    if cellLast c then
      ({ s with fab := { s.fab with partial' := tblDel k s.fab.partial' } }).takePacket l c body
    else { s with fab := { s.fab with partial' := tblPut k { a with bytes := body } s.fab.partial' } }

/-- The links a cell from link `l` is forwarded on: every other one, but none toward its source (R208). -/
def State.onward (s : State) (l : ChainId) (c : Cell) : List ChainId :=
  s.openPorts.filter fun m => decide (m ≠ l) && decide (s.links[chainLink m].peerNode ≠ cellSrc c || cellSrc c = 2047)

/-- The packet of a cell on its way out by link `m`. -/
def fwdKey (l m : ChainId) (c : Cell) : Nat := cellKey l c * 4 + m.val

/-- The cell goes on by link `m`: its packet's first cell finds room, or has found it (R216). -/
def State.goesOn (s : State) (l m : ChainId) (c : Cell) : Bool :=
  if cellFirst c then cellPri c = 7 || !s.queueFull m else s.fab.fwd.contains (fwdKey l m c)

/-- A cell is forwarded by link `m`, cut-through from its packet's first cell on; a packet of priority 6 or lower that finds the
queue full is discarded whole (R215, R216). -/
def State.forwardOn (s : State) (l m : ChainId) (c : Cell) : State :=
  if s.goesOn l m c then
    let rest := s.fab.fwd.filter fun x => x ≠ fwdKey l m c
    ({ s with fab := { s.fab with fwd := if cellLast c then rest else fwdKey l m c :: rest } }).queueOn
      { dst := cellDst c, src := cellSrc c, pri := cellPri c, part := cellPart c
        typ := BitVec.ofNat 4 (cellType c), seq := BitVec.ofNat 16 (cellSeq c), body := .forwarded c, link := m, span := none }
  else if cellFirst c then s.count 137
  else s

/-- A cell goes on to every link it is due on; a response past its deadline is discarded and counted wherever it comes (R214), and
any cell that finds no link, or whose destination a split next to this node has cut off (R210, R532). -/
def State.forwardCell (s : State) (l : ChainId) (c : Cell) : State :=
  let out := s.onward l c
  if decide (cellType c = 1) && cellFirst c && decide (cellDeadline c < s.fabNs) then s.count 135
  else if out.isEmpty || s.cutOff (cellDst c) then s.deadEnd (cellDst c) 1 (cellFirst c)
  else out.foldl (fun s m => s.forwardOn l m c) s

/-- The cell is for this node: unicast to its address, or broadcast (R201, R213). -/
def State.cellHere (s : State) (c : Cell) : Bool :=
  cellDst c = 2047 || (s.fab.addr = some (cellDst c) && !s.fab.noAddr)

/-- A cell of this node's own that has come round a ring. -/
def State.cellOwn (s : State) (c : Cell) : Bool := !s.fab.noAddr && decide (s.fab.addr = some (cellSrc c))

/-- A fault report on its way to the head is held for merging at every node it reaches (R218). -/
def State.cellReport (s : State) (c : Cell) : Bool := cellType c = 5 && !s.fab.isHead

/-- CELL_RX (R208, R213, R215, R216, R218, R532). Memory traffic for this node takes effect, and is examined for later copies, by
its own commands. -/
def execCellRx (l : ChainId) (hdr : BitVec 64) (body : CellBody) (s : State) : Out :=
  let c : Cell := { hdr := hdr, payload := body.payload, part := body.part, mbox := body.mbox }
  whenDo (decide (s.links[chainLink l].st = .up)) s
    (let s1 := s.count (148 + l.val)
     if s1.cellOwn c then s1
     else
       let mine := (s1.cellHere c || s1.cellReport c) && !(cellType c = 0 || cellType c = 1)
       let s2 := if mine && cellFirst c then s1.beginPacket l c else s1
       let s3 := if mine then s2.takeCell l c else s2
        let s4 := if s1.cellReport c || (s1.cellHere c && decide (cellDst c ≠ 2047)) then s3 else s3.forwardCell l c
       if s1.cellHere c then s4.unannounced else s4)

end Sys2Proof.Machine
end

