-- ==== Sys2Proof/Machine/SysWords.lean ====
section
/-! DEFINITION. sysr and sysw over the system word space (R287 to R291, R330, R331, R522), and the commands that name one word
each. -/

namespace Sys2Proof.Machine

/-! The map (R522). -/

/-- The index names a tenant word. -/
def tenantWord (i : Nat) : Bool :=
  decide (i ≤ 0x004) || (decide (0x010 ≤ i) && decide (i ≤ 0x014)) || (decide (0x180 ≤ i) && decide (i ≤ 0x185))
    || (decide (0x1E0 ≤ i) && decide (i ≤ 0x1FF)) || decide (i = 0x208) || decide (i = 0x212)

/-- The index names a Warden word. -/
def wardenWord (i : Nat) : Bool :=
  decide (i = 0x190) || (decide (0x1A0 ≤ i) && decide (i ≤ 0x1A3)) || (decide (0x1B0 ≤ i) && decide (i ≤ 0x1B2))
    || decide (i = 0x1C0) || (decide (0x1D0 ≤ i) && decide (i ≤ 0x1D3)) || (decide (0x200 ≤ i) && decide (i ≤ 0x207))
    || decide (i = 0x209) || decide (i = 0x210) || decide (i = 0x211) || (decide (0x220 ≤ i) && decide (i ≤ 0x233))
    || (decide (0x300 ≤ i) && decide (i ≤ 0x30A))

/-! The exception words (R290, R297). -/

/-- The handler returns: ACTIVE clears, the message is no longer being handled, and the task resumes at SW.EXC_PC (R290,
R297, R471). -/
def State.excReturn (s : State) (t : Nat) : State :=
  match s.task? t with
  | none => s
  | some k =>
    let s1 := { s with obs := { s.obs with handling := tblDel t s.obs.handling } }
    ((s1.countInstr k).setTask t { k with active := false }).goto t (k.excPc &&& ~~~3#64)

/-- EXC_RET (R290): RET written with 1. -/
def execExcRet (t : TaskId) (s : State) : Out := onRunning t s fun _ s => s.excReturn t

/-! The tables of GLC and FBC (R134 to R136, R147). -/

/-- The key of a GLC table (R134). -/
def gKey (brim : Bool) (n : BitVec 2) : Nat := (if brim then 4 else 0) + n.toNat

/-- The key of the selected GLC table. -/
def Tables.gSel (x : Tables) : Nat := gKey x.gKind x.gTnum

/-- The shadow of the selected GLC table. -/
def Tables.gTab (x : Tables) : GTab := tblGet GTab.initial x.gSel x.gShadow

/-- SW.GLC_TSEL as it is read (R135). -/
def Tables.readTsel (x : Tables) : Nat :=
  x.gTnum.toNat + flagN x.gKind 2 + 2 ^ 4 * x.gTab.eres.toNat + 2 ^ 8 * x.gPtr.toNat + flagN (decide (x.gPend ≠ 0)) 17

/-- SW.GLC_TSEL is written (R135, R136). -/
def Tables.writeTsel (x : Tables) (v : Word) : Tables :=
  let w := v.toNat
  let n : BitVec 2 := v.setWidth 2
  let k := gKey (bitN w 2) n
  let g : GTab := { tblGet GTab.initial k x.gShadow with eres := BitVec.ofNat 2 (fieldN w 5 4) }
  { x with
    gTnum := n, gKind := bitN w 2, gPtr := BitVec.ofNat 6 (fieldN w 13 8)
    gShadow := if bitN w 3 then tblPut k g x.gShadow else x.gShadow
    gPend := if bitN w 16 then x.gPend ||| (1#8 <<< k) else x.gPend }

/-- A level or brim entry is stored at PTR, which advances (R135). -/
def Tables.writeTdata (x : Tables) (v : Word) : Tables :=
  let g : GTab := { x.gTab with ent := tblPut x.gPtr.toNat (v.setWidth 16) x.gTab.ent }
  { x with gShadow := tblPut x.gSel g x.gShadow, gPtr := x.gPtr + 1 }

/-- The shadow entry at PTR (R135). -/
def Tables.readTdata (x : Tables) : Nat := toUnsignedN 16 (x.gTab.entry x.gKind x.gPtr.toNat)

/-- SW.FBC_TSEL as it is read (R147). -/
def Tables.readFsel (x : Tables) : Nat := x.fTnum.toNat + 2 ^ 8 * x.fPtr.toNat + flagN (decide (x.fPend ≠ 0)) 17

/-- SW.FBC_TSEL is written (R147). -/
def Tables.writeFsel (x : Tables) (v : Word) : Tables :=
  let w := v.toNat
  let n : BitVec 2 := v.setWidth 2
  { x with
    fTnum := n, fPtr := BitVec.ofNat 5 (fieldN w 12 8)
    fPend := if bitN w 16 then x.fPend ||| (1#4 <<< n.toNat) else x.fPend }

/-- A step entry is stored at PTR, which advances, wrapping from 31 to 0 (R147). -/
def Tables.writeFdata (x : Tables) (v : Word) : Tables :=
  let l := tblPut x.fPtr.toNat (v.setWidth 16) (tblGet [] x.fTnum.toNat x.fShadow)
  { x with fShadow := tblPut x.fTnum.toNat l x.fShadow, fPtr := x.fPtr + 1 }

/-- The shadow step entry at PTR (R147). -/
def Tables.readFdata (x : Tables) : Nat :=
  match tblFind x.fPtr.toNat (tblGet [] x.fTnum.toNat x.fShadow) with
  | some w => w.toNat
  | none => stepDefault x.fPtr.toNat

/-- `s` with the tables of partition `p` changed by `f`. -/
def State.mapTabs (s : State) (p : PartId) (f : Tables → Tables) : State := s.mapPart p fun q => { q with tabs := f q.tabs }

/-! Canceller taps (R152, R153). -/

/-- PTR one on, wrapping from 47 to 0 (R152). -/
def tapNext (n : BitVec 6) : BitVec 6 := if n = 47 then 0 else n + 1

/-- The channel that SW.FBC_TAPSEL.HANDLE names, if the partition owns it. -/
def State.tapChan (s : State) (p : PartId) : Option Nat := s.chan p (s.parts[p].tabs.tapHandle.setWidth 64)

/-- SW.FBC_TAPD is read: one tap whole; an invalid handle is a violation of kind 0x03; beyond tap 47 the manual states no
value (R152). -/
def State.readTap (s : State) (t : Nat) (k : Task) (gd : Reg) : State :=
  let n := s.parts[k.part].tabs.tapPtr
  match s.tapChan k.part with
  | none => s.violate t 3 gd
  | some c =>
    let tap := tblGet (0, 0) n.toNat (s.slot c).fbc.taps
    let v : Word := BitVec.ofNat 64 (toUnsignedN 32 tap.1 + 2 ^ 32 * toUnsignedN 32 tap.2)
    let s1 := s.mapTabs k.part fun x => { x with tapPtr := tapNext n }
    if n.toNat < 48 then s1.finish t gd v else (s1.useFree 1).finish t gd (s.freeAt 0)

/-- The model adapts (R146, R148). -/
def State.adapting (s : State) (x : Slot) : Bool := x.hasModel && !s.modelFrozen x && s.syn.mainLk

/-- A tap written while the model adapts (case 7 of R301, R153, R303): the taps, the depth reported, whether the model is valid, and the
refresh of the isolation are free. -/
def State.freeTaps (s : State) (c : Nat) : State :=
  let taps : List (Nat × (Int × Int)) := (List.range 48).map fun i =>
    (i, ((s.freeAt (2 * i)).setWidth 32).toInt, ((s.freeAt (2 * i + 1)).setWidth 32).toInt)
  let raw : Level := ((s.freeAt 96).setWidth 32).toInt
  let iso : Level := ((s.freeAt 97).setWidth 32).toInt
  (s.mapSlot c fun x => { x with fbc := { x.fbc with
    taps := taps, raw := raw, seed := none, valid := (s.freeAt 98).getLsbD 0
    iso := if x.fbc.iso.isSome then some iso else none } }).useFree 99

/-- SW.FBC_TAPD is written: frozen, the tap is stored and the model is not valid (R152, R153). -/
def State.writeTap (s : State) (t : Nat) (k : Task) (v : Word) : State :=
  let n := s.parts[k.part].tabs.tapPtr
  match s.tapChan k.part with
  | none => s.violate t 3 0
  | some c =>
    let s1 := s.mapTabs k.part fun x => { x with tapPtr := tapNext n }
    let tap : Int × Int := (signedN 32 (fieldN v.toNat 31 0), signedN 32 (fieldN v.toNat 63 32))
    let s2 :=
      if s.adapting (s.slot c) then s1.freeTaps c
      else if n.toNat < 48 then
        (s1.invalidate c).mapSlot c fun x => { x with fbc := { x.fbc with
          taps := tblPut n.toNat tap x.fbc.taps, valid := false, proof := 0, seed := none } }
      else s1
    s2.next t

/-! The words of the other subsystems. -/

/-- SW.MEM_STAT of partition `p` (R366). -/
def State.memStat (s : State) (p : PartId) : Nat :=
  let x := s.parts[p]
  s.usedOf p + 2 ^ 24 * s.keptOf p + flagN x.qfull 48 + flagN x.kfull 49 + flagN x.poison 50

/-- SW.VIOL of partition `p` (R291). -/
def State.violWord (s : State) (p : PartId) : Nat := s.parts[p].viol.toNat + 2 ^ 32 * s.parts[p].lastK.toNat

/-- SW.OBS_SAMP of partition `p` (R488). -/
def State.readSamp (s : State) (p : PartId) : Nat :=
  let x := s.parts[p].samp
  x.event.toNat + flagN x.en 6 + flagN (!s.mayCount p x.event.toNat) 7 + 2 ^ 8 * x.period + 2 ^ 32 * x.drop

/-- SW.NGD_SARM as it is read (R176). -/
def State.readSarm (s : State) : Nat :=
  s.rad.sarm.toNat + flagN (s.rad.slots.any fun x => decide (x.2.guard.arm = HeldArm.warden)) 17

/-- SW.FAB_TAP (R219). -/
def State.readTapCfg (s : State) : Nat :=
  flagN s.fab.tapSpeed 0 + flagN s.fab.tapEn 1 + 2 ^ 2 * s.fab.pvid.toNat + 2 ^ 14 * s.fab.mgmt.toNat

/-- SW.FAB_TAP is written; a disabled TAP port goes DOWN (R219). -/
def State.writeTapCfg (s : State) (v : Word) : State :=
  let w := v.toNat
  let s1 := { s with fab := { s.fab with
      tapSpeed := bitN w 0, tapEn := bitN w 1, pvid := BitVec.ofNat 12 (fieldN w 13 2), mgmt := BitVec.ofNat 12 (fieldN w 25 14) } }
  if !bitN w 1 && decide (s.links[tapLink].st ≠ LState.down) then s1.dropLink tapLink else s1

/-- SW.FAB_VLAN (R219): the entry last selected. -/
def State.readVlan (s : State) : Nat :=
  s.fab.vlanSel.toNat + 2 ^ 6 * (tblGet 0 s.fab.vlanSel.toNat s.fab.vlans).toNat

/-- SW.FAB_VLAN is written; a VLAN ID of 0 empties the entry (R219). -/
def State.writeVlan (s : State) (v : Word) : State :=
  let n : BitVec 6 := v.setWidth 6
  let id : BitVec 12 := BitVec.ofNat 12 (fieldN v.toNat 17 6)
  { s with fab := { s.fab with
      vlanSel := n, vlans := if id = 0 then tblDel n.toNat s.fab.vlans else tblPut n.toNat id s.fab.vlans } }

/-- SW.HPI_CFG (R427). -/
def State.readHpiCfg (s : State) : Nat :=
  let h := s.hpi
  h.apart.val + flagN h.aen 3 + flagN h.inen 4 + 2 ^ 5 * h.mbpart.val + 2 ^ 8 * h.mbbox.val + flagN h.mben 11

/-- SW.HPI_CFG is written; DOOR sets its interrupt (R427). -/
def State.writeHpiCfg (s : State) (v : Word) : State :=
  let w := v.toNat
  { s with hpi := { s.hpi with
      apart := Fin.ofNat 8 (fieldN w 2 0), aen := bitN w 3, inen := bitN w 4, mbpart := Fin.ofNat 8 (fieldN w 7 5)
      mbbox := Fin.ofNat 8 (fieldN w 10 8), mben := bitN w 11
      int := if bitN w 12 then s.hpi.int ||| 0x10 else s.hpi.int } }

/-- SW.PWR_POL (R455). -/
def State.readPol (s : State) : Nat :=
  let x := s.pwr
  flagN x.dzen 0 + flagN x.hben 1 + flagN x.llen 2 + 2 ^ 3 * x.cfmax.toNat + flagN x.d3en 5 + 2 ^ 16 * x.hkr

/-- SW.PWR_POL is written: the core runs at CFMAX, or, throttled, at most at CFMAX (R75, R448, R455); with D3EN 0 no core stays in D3
(R435). -/
def State.writePol (s : State) (v : Word) : State :=
  let w := v.toNat
  let s1 := { s with pwr := { s.pwr with
      dzen := bitN w 0, hben := bitN w 1, llen := bitN w 2, cfmax := BitVec.ofNat 2 (fieldN w 4 3), d3en := bitN w 5
      hkr := fieldN w 25 16
      depth := if bitN w 5 then s.pwr.depth
        else Vector.ofFn fun c => if s.pwr.depth[c] = 3 then 2 else s.pwr.depth[c] } }
  if s1.pwr.cfTop = s.pwr.cfTop then s1
  else if s.thm.fThr && decide (s1.pwr.cfTop.toNat ≤ s.syn.coreF.toNat) then s1
  else s1.coreFreq s1.pwr.cfTop

/-- SW.HKA_CFG (R458). -/
def State.readHka (s : State) : Nat :=
  s.thm.mask.toNat + flagN s.thm.pend.isSome 33 + flagN s.thm.scan.isSome 34

/-- SW.HKA_CFG is written: inputs 0 to 17 stay enabled, TRIG triggers a scan (R454, R458). -/
def State.writeHka (s : State) (v : Word) : State :=
  let s1 := { s with thm := { s.thm with mask := v.setWidth 32 ||| 0x0003FFFF } }
  if bitN v.toNat 32 then s1.triggerScan false else s1

/-- SW.SLOT_CMD (R495): RUN has no defined meaning after a boot that was not from a slot. -/
def State.readSlotCmd (s : State) : Nat :=
  let v := s.svc
  let run := if v.source < 2 then v.run else (s.freeAt 0).getLsbD 0
  flagN (decide (v.op ≠ SlotOp.none)) 4 + 2 ^ 5 * v.res.toNat + flagN v.trial 8 + flagN run 9 + flagN s.cht.fuse.isSome 10
    + flagN v.fuse.isSome 11

/-- SW.SLOT_CMD is written (R496). -/
def State.writeSlotCmd (s : State) (v : Word) : State :=
  let op := fieldN v.toNat 2 0
  if op = 1 then s.startOp .wrimg
  else if op = 2 then s.startOp .wrcht
  else if op = 3 then s.startOp .actcht
  else if op = 4 then s.startOp .restart
  else if op = 5 then s.startOp .confirm
  else if op = 7 then s.startOp .fuse
  else s

/-- SW.CH_FIND (R500). -/
def State.readFind (s : State) (p : PartId) : Nat :=
  let k := s.parts[p].tabs.findSlot.toNat
  let x := s.slot k
  k + 2 ^ 32 * (if k < 192 ∧ x.phase = .owned ∧ x.owner = p then fieldN (s.handleOf k).toNat 18 0 else 0)

/-- The code of a partition's life (R387). -/
def Life.code (l : Life) : Nat :=
  match l with
  | .absent => 0
  | .active => 1
  | .resetting _ => 2

/-- SW.PART_SEL (R387); P0 is always active (R283). -/
def State.readPartSel (s : State) : Nat :=
  let p := s.pw.pnum
  let x := s.parts[p]
  p.val + 2 ^ 8 * (if p = 0 then 1 else x.life.code) + 2 ^ 16 * x.gen.toNat + flagN s.pw.qerr 27 + flagN x.life.busy 28

/-- The grants of the selected partition, or what P0 holds (R386, R389). -/
def State.selGrants (s : State) : Grants := if s.pw.pnum = 0 then s.wardenGrants else s.parts[s.pw.pnum].grants

/-- SW.PART_USE (R391): the units are those charged, an accepted commit's from its round boundary on (R85, R103). -/
def State.readUse (s : State) : Nat :=
  let p := s.pw.pnum
  let charged : (Slot → Nat) → Nat := fun f => s.sumSlots fun x => if x.ownedBy p then f x else 0
  s.channelsOf p + 2 ^ 8 * s.tasksOf p + 2 ^ 18 * charged Slot.cost + 2 ^ 35 * charged Slot.canCost

/-- SW.SELF (R289). -/
def State.selfWord (s : State) (t : Nat) (k : Task) : Nat :=
  (match k.st with | .running c => c | _ => 0) + 2 ^ 8 * k.part.val + 2 ^ 16 * t + 2 ^ 32 * s.selfNode.toNat

/-! sysr (R330, R331). -/

/-- What a task or partition word holds, for the issuing task (R289 to R291, R366, R488). -/
def State.readTaskWord (s : State) (t : Nat) (k : Task) (i : Nat) : Nat :=
  let x := s.parts[k.part]
  if i = 0x000 then s.selfWord t k
  else if i = 0x001 then k.cause.toNat + flagN k.active 8 + flagN k.nest 9
  else if i = 0x002 then k.excPc.toNat
  else if i = 0x003 then k.excAddr.toNat
  else if i = 0x004 then k.evec.toNat
  else if i = 0x010 then s.violWord k.part
  else if i = 0x011 then s.memStat k.part
  else if i = 0x012 then s.readSamp k.part
  else if i = 0x013 then x.samp.base + 2 ^ 48 * x.samp.len
  else if i = 0x014 then x.samp.snext.toNat
  else if i = 0x180 then x.tabs.readTsel
  else if i = 0x182 then x.tabs.readFsel
  else if i = 0x184 then x.tabs.tapHandle.toNat + 2 ^ 24 * x.tabs.tapPtr.toNat
  else if i = 0x212 then s.readFind k.part
  else if 0x1E0 ≤ i ∧ i ≤ 0x1FF then s.thm.reg (Fin.ofNat 32 (i - 0x1E0))
  else 0

/-- What a Warden word holds; a WO word reads zero (R8). -/
def State.readWardenWord (s : State) (i : Nat) : Nat :=
  let o := s.obs
  if i = 0x190 then s.readSarm
  else if i = 0x1A0 then s.fabCfg.toNat
  else if i = 0x1A1 then s.fab.tto
  else if i = 0x1A2 then s.readTapCfg
  else if i = 0x1A3 then s.readVlan
  else if i = 0x1B0 then s.tsuCfg.toNat
  else if i = 0x1B2 then s.tsu.asym.toNat
  else if i = 0x1C0 then s.readHpiCfg
  else if i = 0x1D0 then s.readPol
  else if i = 0x1D1 then s.pwr.tmr.toNat
  else if i = 0x1D2 then s.thmCfg.toNat
  else if i = 0x1D3 then s.readHka
  else if i = 0x200 then o.sticky.toNat + 2 ^ 20 * o.live.toNat + 2 ^ 40 * o.gone.toNat
  else if i = 0x202 then o.sevN + 2 ^ 8 * o.sevW
  else if i = 0x203 then o.periodNext
  else if i = 0x204 then o.baseNext + 2 ^ 48 * o.lenNext
  else if i = 0x205 then o.rsel.toNat + 2 ^ 16 * o.rptr.toNat
  else if i = 0x207 then o.next.toNat + 2 ^ 16 * o.pcount + 2 ^ 32 * (s.opMs / 1000)
  else if i = 0x210 then s.svc.src.toNat
  else if i = 0x211 then s.readSlotCmd
  else if i = 0x300 then s.readPartSel
  else if i = 0x301 then (s.selGrants.read 0).toNat
  else if i = 0x302 then (s.selGrants.read 1).toNat
  else if i = 0x303 then (s.selGrants.read 2).toNat
  else if i = 0x304 then s.violWord s.pw.pnum
  else if i = 0x305 then s.memStat s.pw.pnum
  else if i = 0x306 then s.pw.entry.toNat
  else if i = 0x307 then s.pw.arg.toNat
  else if i = 0x309 then s.pw.abase.toNat + 2 ^ 48 * s.pw.acode.toNat
  else if i = 0x30A then s.readUse
  else if 0x220 ≤ i ∧ i ≤ 0x233 then (s.cuff (Fin.ofNat 20 (i - 0x220))).reg
  else 0

/-- A cuff has been read (R464). -/
def State.seeCuff (s : State) (n : SubId) : State :=
  { s with obs := { s.obs with cuffs := tblPut n { s.cuff n with seen := true } s.obs.cuffs } }

/-- A permitted sysr of a defined word: the reads that do more than read are named first (R135, R147, R152, R464, R481). -/
def State.sysRead (s : State) (t : Nat) (k : Task) (gd : Reg) (i : Nat) : State :=
  let tabs := s.parts[k.part].tabs
  if i = 0x181 then
    (s.mapTabs k.part fun x => { x with gPtr := x.gPtr + 1 }).finish t gd (BitVec.ofNat 64 tabs.readTdata)
  else if i = 0x183 then
    (s.mapTabs k.part fun x => { x with fPtr := x.fPtr + 1 }).finish t gd (BitVec.ofNat 64 tabs.readFdata)
  else if i = 0x185 then s.readTap t k gd
  else if i = 0x206 then s.readPiece t gd
  else if i = 0x211 then (s.useFree 1).finish t gd (BitVec.ofNat 64 s.readSlotCmd)
  else if 0x220 ≤ i ∧ i ≤ 0x233 then
    (s.seeCuff (Fin.ofNat 20 (i - 0x220))).finish t gd (BitVec.ofNat 64 (s.readWardenWord i))
  else if tenantWord i then s.finish t gd (BitVec.ofNat 64 (s.readTaskWord t k i))
  else s.finish t gd (BitVec.ofNat 64 (s.readWardenWord i))

/-- An access at an index that is not defined: the effect on the issuing task is free (case 5 of R301, R330). -/
def State.undefWord (s : State) (t : Nat) : State :=
  let s1 := s.undefTask t
  match s1.task? t with
  | some k => s1.goto t k.pc
  | none => s1

/-- The index of a sysr or sysw (R330). -/
def sysIndex (w : Word) : Nat := fieldN w.toNat 11 0

/-- SYSR (R330). -/
def execSysr (t : TaskId) (gd ga : Reg) (s : State) : Out :=
  onRunning t s fun k s =>
    let i := sysIndex (k.get ga)
    if tenantWord i || (wardenWord i && decide (k.part = 0)) then s.sysRead t k gd i
    else if wardenWord i then s.violate t 2 gd
    else s.undefWord t

/-! sysw (R330, R331). -/

/-- `s` with the record of task `t` changed by `f`. -/
def State.mapTask (s : State) (t : Nat) (f : Task → Task) : State :=
  match s.task? t with
  | some k => s.setTask t (f k)
  | none => s

/-- A permitted write of a task or partition word, RO words and the words of the sampling ring among them. -/
def State.writeTaskWord (s : State) (t : Nat) (k : Task) (i : Nat) (v : Word) : State :=
  let w := v.toNat
  if i = 0x002 then s.mapTask t fun k => { k with excPc := v }
  else if i = 0x004 then s.mapTask t fun k => { k with evec := v &&& ~~~3#64 }
  else if i = 0x011 then
    s.mapPart k.part fun q =>
      { q with qfull := q.qfull && !bitN w 48, kfull := q.kfull && !bitN w 49, poison := q.poison && !bitN w 50 }
  else if i = 0x012 then s.writeSamp k.part v
  else if i = 0x013 then
    s.mapPart k.part fun q => { q with samp := { q.samp with base := fieldN w 47 0, len := fieldN w 63 48 } }
  else if i = 0x180 then s.mapTabs k.part fun x => x.writeTsel v
  else if i = 0x181 then s.mapTabs k.part fun x => x.writeTdata v
  else if i = 0x182 then s.mapTabs k.part fun x => x.writeFsel v
  else if i = 0x183 then s.mapTabs k.part fun x => x.writeFdata v
  else if i = 0x184 then
    s.mapTabs k.part fun x => { x with tapHandle := v.setWidth 19, tapPtr := BitVec.ofNat 6 (fieldN w 29 24) }
  else if i = 0x208 then s.emit k.part v
  else if i = 0x212 then s.mapTabs k.part fun x => { x with findSlot := v.setWidth 8 }
  else s

/-- A write of a recorder or counter word (R473, R481, R486). -/
def State.writeObsWord (s : State) (i : Nat) (v : Word) : State :=
  let w := v.toNat
  let o := s.obs
  if i = 0x201 then s.stickyClear (v.setWidth 20)
  else if i = 0x202 then
    { s with obs := { o with sevN := fieldN w 3 0, sevW := clampNat (fieldN w 23 8) 10 60000 } }
  else if i = 0x203 then { s with obs := { o with periodNext := clampNat (fieldN w 13 0) 1 10000 } }
  else if i = 0x204 then { s with obs := { o with baseNext := fieldN w 47 0, lenNext := fieldN w 63 48 } }
  else if i = 0x205 then
    { s with obs := { o with rsel := v.setWidth 15, rptr := BitVec.ofNat 2 (fieldN w 17 16) } }
  else if i = 0x209 then (if bitN w 0 then s.clearPerm else s)
  else s

/-- A write of a partition word of the Warden (R387 to R391). -/
def State.writePartWord (s : State) (i : Nat) (v : Word) : State :=
  if i = 0x300 then s.writePartSel v
  else if i = 0x301 then s.writeGrant 0 v
  else if i = 0x302 then s.writeGrant 1 v
  else if i = 0x303 then s.writeGrant 2 v
  else if i = 0x306 then { s with pw := { s.pw with entry := v &&& ~~~3#64 } }
  else if i = 0x307 then { s with pw := { s.pw with arg := v } }
  else if i = 0x308 then s.writePartAlloc v
  else s

/-- A write of a Warden word. -/
def State.writeWardenWord (s : State) (i : Nat) (v : Word) : State :=
  let w := v.toNat
  if i = 0x190 then s.writeSarm v
  else if i = 0x1A0 then
    let s1 := s.writeFabCfg v
    if bitN w 32 then s1.startElection else s1
  else if i = 0x1A1 then { s with fab := { s.fab with tto := clampNat (fieldN w 23 0) 100 100000 } }
  else if i = 0x1A2 then s.writeTapCfg v
  else if i = 0x1A3 then s.writeVlan v
  else if i = 0x1B0 then s.writeTsuCfg v
  else if i = 0x1B1 then
    if s.fab.isHead then ({ s with tsu := { s.tsu with set := some (v, s.setDue) } }).timeBaseChanged else s
  else if i = 0x1B2 then s.writeAsym v
  else if i = 0x1C0 then s.writeHpiCfg v
  else if i = 0x1D0 then s.writePol v
  else if i = 0x1D1 then { s with pwr := { s.pwr with tmr := v } }
  else if i = 0x1D2 then s.writeThmCfg v
  else if i = 0x1D3 then s.writeHka v
  else if i = 0x210 then { s with svc := { s.svc with src := v.setWidth 48 } }
  else if i = 0x211 then s.writeSlotCmd v
  else if 0x300 ≤ i then s.writePartWord i v
  else s.writeObsWord i v

/-- A permitted sysw of a defined word. -/
def State.sysWrite (s : State) (t : Nat) (k : Task) (i : Nat) (v : Word) : State :=
  if i = 0x001 then (if bitN v.toNat 16 then s.excReturn t else s.next t)
  else if i = 0x185 then s.writeTap t k v
  else if tenantWord i then (s.writeTaskWord t k i v).next t
  else (s.writeWardenWord i v).next t

/-- SYSW (R330): the system word at index ga ← gd. -/
def execSysw (t : TaskId) (gd ga : Reg) (s : State) : Out :=
  onRunning t s fun k s =>
    let i := sysIndex (k.get ga)
    if tenantWord i || (wardenWord i && decide (k.part = 0)) then s.sysWrite t k i (k.get gd)
    else if wardenWord i then s.violate t 2 0
    else s.undefWord t

/-! The commands that name one word. -/

/-- FAB_ELECT (R202, R203): SW.FAB_CFG written with ELECT set. -/
def execFabElect (t : TaskId) (v : Word) (s : State) : Out :=
  wardenWrite t (fun s => s.writeWardenWord 0x1A0 (v ||| 0x100000000)) s

/-- GLC_TABLE_SWAP (R136): SW.GLC_TSEL written with SWAP set. -/
def execGlcTableSwap (t : TaskId) (v : Word) (s : State) : Out :=
  onRunning t s fun k s => s.sysWrite t k 0x180 (v ||| 0x10000)

/-- GLC_ESET (R135): SW.GLC_TSEL written with ESET set. -/
def execGlcEset (t : TaskId) (v : Word) (s : State) : Out := onRunning t s fun k s => s.sysWrite t k 0x180 (v ||| 8)

/-- GLC_TDATA_WRITE (R135). -/
def execGlcTdataWrite (t : TaskId) (v : Word) (s : State) : Out := onRunning t s fun k s => s.sysWrite t k 0x181 v

/-- GLC_TDATA_READ (R135). -/
def execGlcTdataRead (t : TaskId) (gd : Reg) (s : State) : Out := onRunning t s fun k s => s.sysRead t k gd 0x181

/-- FBC_TABLE_SWAP (R147): SW.FBC_TSEL written with SWAP set. -/
def execFbcTableSwap (t : TaskId) (v : Word) (s : State) : Out :=
  onRunning t s fun k s => s.sysWrite t k 0x182 (v ||| 0x10000)

/-- FBC_TDATA_WRITE (R147). -/
def execFbcTdataWrite (t : TaskId) (v : Word) (s : State) : Out := onRunning t s fun k s => s.sysWrite t k 0x183 v

/-- FBC_TDATA_READ (R147). -/
def execFbcTdataRead (t : TaskId) (gd : Reg) (s : State) : Out := onRunning t s fun k s => s.sysRead t k gd 0x183

/-- FBC_TAPD_WRITE (R152, R153). -/
def execFbcTapdWrite (t : TaskId) (v : Word) (s : State) : Out := onRunning t s fun k s => s.sysWrite t k 0x185 v

/-- FBC_TAPD_READ (R152). -/
def execFbcTapdRead (t : TaskId) (gd : Reg) (s : State) : Out := onRunning t s fun k s => s.sysRead t k gd 0x185

/-- CH_FIND_READ (R500). -/
def execChFindRead (t : TaskId) (gd : Reg) (s : State) : Out := onRunning t s fun k s => s.sysRead t k gd 0x212

end Sys2Proof.Machine
end

