-- ==== Sys2Proof/Machine/Pins.lean ====
section
/-! DEFINITION. The levels of the engine's status pins (R412, R509, R510); true is high or released. -/

namespace Sys2Proof.Machine

/-- The open-drain pins are released in OFF, RESET and BOOT (R509). -/
def State.pinsReleased (s : State) : Bool :=
  decide (s.pwr.mode = .off) || decide (s.pwr.mode = .reset) || decide (s.pwr.mode = .boot)

/-- ALERT_N (R510). -/
def State.alertN (s : State) : Bool := s.pinsReleased || decide (s.obs.sticky = 0)

/-- FENCE_N (R510). -/
def State.fenceN (s : State) : Bool :=
  s.pinsReleased
    || !(decide (s.countSlots (fun x => decide (x.code = 7)) ≠ 0) || decide (s.pwr.mode = .silenced) || decide (s.pwr.mode = .halt))

/-- HINT_N (R412, R420): in BOOT it follows its causes, so that the host learns that READY has set. -/
def State.hintN (s : State) : Bool :=
  decide (s.pwr.mode = .off) || decide (s.pwr.mode = .reset) || decide (s.hpi.int &&& s.hpi.ien = 0)

end Sys2Proof.Machine
end

