-- ==== Sys2Proof/Machine/TestPort.lean ====
section
/-! DEFINITION. The test access port (R507, R512) and the IEEE 1149.1 controller it complies with. -/

namespace Sys2Proof.Machine

/-- The controller's next state: 0 Test-Logic-Reset, 1 Run-Test/Idle, 2 to 8 Select, Capture, Shift, Exit1, Pause, Exit2 and
Update of the data register, 9 to 15 the same of the instruction register. -/
def tapNextState (st : Fin 16) (tms : Bool) : Fin 16 :=
  let pick : Fin 16 → Fin 16 → Fin 16 := fun a b => if tms then b else a
  match st with
  | 0 => pick 1 0
  | 1 => pick 1 2
  | 2 => pick 3 9
  | 3 => pick 4 5
  | 4 => pick 4 5
  | 5 => pick 6 8
  | 6 => pick 6 7
  | 7 => pick 4 8
  | 8 => pick 1 2
  | 9 => pick 10 0
  | 10 => pick 11 12
  | 11 => pick 11 12
  | 12 => pick 13 15
  | 13 => pick 13 14
  | 14 => pick 11 15
  | _ => pick 1 2

/-- The instructions (R512). -/
inductive TapInstr where
  | idcode | sample | extest | bypass
  deriving DecidableEq, Repr

/-- The instruction that the code in force names; after Test-Logic-Reset IDCODE. -/
def Tap.instr (x : Tap) : TapInstr :=
  if x.ir.isEmpty then .idcode
  else
    match Config.tapDecode x.ir with
    | 0 => .idcode
    | 1 => .sample
    | 2 => .extest
    | _ => .bypass

/-- The instruction in effect: EXTEST acts as BYPASS unless RST_N is low (R512). -/
def State.tapInstr (s : State) : TapInstr :=
  match s.tap.instr with
  | .extest => if s.pwr.rst then .bypass else .extest
  | i => i

/-- IDCODE (R512). -/
def tapIdcode : BitVec 32 := 0x16192A5F

/-- The level of digital pin `n` as the engine drives or sees it; the levels of the pins that the outside holds and the engine
does not sample are free. Pins in the order of R507: HA 0 to 13, HD 14 to 29, HCS_N, HOE_N, HWE_N, HINT_N, HVSEL, RST_N, WAKE,
RFKILL_N, ALERT_N, FENCE_N, BOOTSEL 40 and 41, EN, KEY and FLT of each booster from 42, PPS_IN, PPS_OUT. -/
def State.pinLevel (s : State) (n : Nat) : Bool :=
  if n = 33 then s.hintN
  else if n = 34 then s.hpi.io18
  else if n = 35 then s.pwr.rst
  else if n = 37 then s.pwr.rfHigh || !s.pwr.rfkill
  else if n = 38 then s.alertN
  else if n = 39 then s.fenceN
  else if n = 55 then s.tsu.ppsOut
  else if 42 ≤ n ∧ n < 54 ∧ (n - 42) % 3 = 0 then s.ports[Fin.ofNat 4 ((n - 42) / 3)].ben
  else if 42 ≤ n ∧ n < 54 ∧ (n - 42) % 3 = 1 then s.ports[Fin.ofNat 4 ((n - 42) / 3)].bkey
  else (s.freeAt n).getLsbD 0

/-- A booster output pin (R507). -/
def boosterPin (n : Nat) : Bool := decide (42 ≤ n) && decide (n < 54) && decide ((n - 42) % 3 ≠ 2)

/-- The level on an output pin under EXTEST: the boundary register's, but a booster pin is low while RFKILL_N is asserted
(R512). -/
def State.pinDriven (s : State) (n : Nat) : Bool :=
  if s.tapInstr = .extest then
    let cell := ((List.range s.tap.bsr.length).find? fun k => decide (Config.boundaryPin k = n)).bind fun k => s.tap.bsr[k]?
    match cell with
    | some b => b && !(boosterPin n && s.pwr.rfkill)
    | none => s.pinLevel n
  else s.pinLevel n

/-- What Capture-DR loads. -/
def State.tapCapture (s : State) : List Bool :=
  match s.tapInstr with
  | .idcode => (List.range 32).map fun i => tapIdcode.getLsbD i
  | .bypass => [false]
  | _ => (List.range Config.boundaryLength).map fun k => s.pinLevel (Config.boundaryPin k)

/-- What Capture-IR loads: 01 in the two lowest bits, the others free. -/
def State.tapCaptureIr (s : State) : List Bool :=
  (List.range Config.tapIrLength).map fun i => if i = 0 then true else if i = 1 then false else (s.freeAt i).getLsbD 0

/-- A register one shift on: TDI enters at the top. -/
def shiftIn (l : List Bool) (tdi : Bool) : List Bool := l.drop 1 ++ [tdi]

/-- The rising edge of TCK in the present state. -/
def State.tapRise (s : State) (tdi : Bool) : Tap :=
  let x := s.tap
  if x.st = 3 then { x with dr := s.tapCapture }
  else if x.st = 4 then { x with dr := shiftIn x.dr tdi }
  else if x.st = 10 then { x with irShift := s.tapCaptureIr }
  else if x.st = 11 then { x with irShift := shiftIn x.irShift tdi }
  else x

/-- The falling edge of TCK in the state entered: updates, and TDO. -/
def State.tapFall (s : State) (x : Tap) : Tap :=
  let boundary : Bool := decide (s.tapInstr = .sample) || decide (s.tapInstr = .extest)
  let y : Tap :=
    if x.st = 0 then { x with ir := [] }
    else if x.st = 15 then { x with ir := x.irShift }
    else if x.st = 8 ∧ boundary then { x with bsr := x.dr }
    else x
  let out := if y.st = 4 then y.dr.head? else if y.st = 11 then y.irShift.head? else none
  { y with tdo := out.getD y.tdo, tdoEn := decide (y.st = 4) || decide (y.st = 11) }

/-- TEST_ACCESS_PORT_CLOCK (R512): TRST_N resets the controller; otherwise one cycle of TCK. -/
def execTestAccessPortClock (tms tdi trst : Bool) (s : State) : Out :=
  whenDo (decide (s.pwr.mode ≠ .off)) s
    (if trst then { s with tap := { s.tap with st := 0, ir := [], tdoEn := false } }
     else
       let x := s.tapRise tdi
       let y : Tap := { x with st := tapNextState s.tap.st tms }
       ({ s with tap := s.tapFall y }).useFree 64)

end Sys2Proof.Machine
end

