-- ==== Sys2Proof/Machine/Dispatch.lean ====
section
/-! DEFINITION. One arm per command: the dispatch of `exec`. -/

namespace Sys2Proof.Machine

/-- The effect of a command on everything but the queue. -/
def exec (i : Instr) (s : State) : Host.Outcome State Fault Refusal :=
  match i with
  | .addR t gd ga gb => Sys2Proof.Machine.execAddR t gd ga gb s
  | .subR t gd ga gb => Sys2Proof.Machine.execSubR t gd ga gb s
  | .adds t gd ga gb => Sys2Proof.Machine.execAdds t gd ga gb s
  | .subs t gd ga gb => Sys2Proof.Machine.execSubs t gd ga gb s
  | .addus t gd ga gb => Sys2Proof.Machine.execAddus t gd ga gb s
  | .subus t gd ga gb => Sys2Proof.Machine.execSubus t gd ga gb s
  | .mulR t gd ga gb => Sys2Proof.Machine.execMulR t gd ga gb s
  | .mulh t gd ga gb => Sys2Proof.Machine.execMulh t gd ga gb s
  | .mulhu t gd ga gb => Sys2Proof.Machine.execMulhu t gd ga gb s
  | .divS t gd ga gb => Sys2Proof.Machine.execDivS t gd ga gb s
  | .divu t gd ga gb => Sys2Proof.Machine.execDivu t gd ga gb s
  | .remS t gd ga gb => Sys2Proof.Machine.execRemS t gd ga gb s
  | .remu t gd ga gb => Sys2Proof.Machine.execRemu t gd ga gb s
  | .minS t gd ga gb => Sys2Proof.Machine.execMinS t gd ga gb s
  | .maxS t gd ga gb => Sys2Proof.Machine.execMaxS t gd ga gb s
  | .andR t gd ga gb => Sys2Proof.Machine.execAndR t gd ga gb s
  | .orR t gd ga gb => Sys2Proof.Machine.execOrR t gd ga gb s
  | .xorR t gd ga gb => Sys2Proof.Machine.execXorR t gd ga gb s
  | .andn t gd ga gb => Sys2Proof.Machine.execAndn t gd ga gb s
  | .slt t gd ga gb => Sys2Proof.Machine.execSlt t gd ga gb s
  | .sltu t gd ga gb => Sys2Proof.Machine.execSltu t gd ga gb s
  | .sll t gd ga gb => Sys2Proof.Machine.execSll t gd ga gb s
  | .srl t gd ga gb => Sys2Proof.Machine.execSrl t gd ga gb s
  | .sra t gd ga gb => Sys2Proof.Machine.execSra t gd ga gb s
  | .slli t gd ga sh => Sys2Proof.Machine.execSlli t gd ga sh s
  | .srli t gd ga sh => Sys2Proof.Machine.execSrli t gd ga sh s
  | .srai t gd ga sh => Sys2Proof.Machine.execSrai t gd ga sh s
  | .addW t gd ga gb => Sys2Proof.Machine.execAddW t gd ga gb s
  | .subW t gd ga gb => Sys2Proof.Machine.execSubW t gd ga gb s
  | .addsW t gd ga gb => Sys2Proof.Machine.execAddsW t gd ga gb s
  | .subsW t gd ga gb => Sys2Proof.Machine.execSubsW t gd ga gb s
  | .addusW t gd ga gb => Sys2Proof.Machine.execAddusW t gd ga gb s
  | .subusW t gd ga gb => Sys2Proof.Machine.execSubusW t gd ga gb s
  | .mulW t gd ga gb => Sys2Proof.Machine.execMulW t gd ga gb s
  | .divW t gd ga gb => Sys2Proof.Machine.execDivW t gd ga gb s
  | .divuW t gd ga gb => Sys2Proof.Machine.execDivuW t gd ga gb s
  | .remW t gd ga gb => Sys2Proof.Machine.execRemW t gd ga gb s
  | .remuW t gd ga gb => Sys2Proof.Machine.execRemuW t gd ga gb s
  | .sllW t gd ga gb => Sys2Proof.Machine.execSllW t gd ga gb s
  | .srlW t gd ga gb => Sys2Proof.Machine.execSrlW t gd ga gb s
  | .sraW t gd ga gb => Sys2Proof.Machine.execSraW t gd ga gb s
  | .slliW t gd ga sh => Sys2Proof.Machine.execSlliW t gd ga sh s
  | .srliW t gd ga sh => Sys2Proof.Machine.execSrliW t gd ga sh s
  | .sraiW t gd ga sh => Sys2Proof.Machine.execSraiW t gd ga sh s
  | .addi t gd ga imm => Sys2Proof.Machine.execAddi t gd ga imm s
  | .andi t gd ga imm => Sys2Proof.Machine.execAndi t gd ga imm s
  | .ori t gd ga imm => Sys2Proof.Machine.execOri t gd ga imm s
  | .xori t gd ga imm => Sys2Proof.Machine.execXori t gd ga imm s
  | .slti t gd ga imm => Sys2Proof.Machine.execSlti t gd ga imm s
  | .sltiu t gd ga imm => Sys2Proof.Machine.execSltiu t gd ga imm s
  | .lui t gd imm => Sys2Proof.Machine.execLui t gd imm s
  | .ihw2 t gd ga imm => Sys2Proof.Machine.execIhw2 t gd ga imm s
  | .addiW t gd ga imm => Sys2Proof.Machine.execAddiW t gd ga imm s
  | .ihw3 t gd ga imm => Sys2Proof.Machine.execIhw3 t gd ga imm s
  | .ldB t gd ga imm => Sys2Proof.Machine.execLdB t gd ga imm s
  | .ldBu t gd ga imm => Sys2Proof.Machine.execLdBu t gd ga imm s
  | .ldH t gd ga imm => Sys2Proof.Machine.execLdH t gd ga imm s
  | .ldHu t gd ga imm => Sys2Proof.Machine.execLdHu t gd ga imm s
  | .ldW t gd ga imm => Sys2Proof.Machine.execLdW t gd ga imm s
  | .ldWu t gd ga imm => Sys2Proof.Machine.execLdWu t gd ga imm s
  | .ldD t gd ga imm => Sys2Proof.Machine.execLdD t gd ga imm s
  | .stB t gd ga imm => Sys2Proof.Machine.execStB t gd ga imm s
  | .stH t gd ga imm => Sys2Proof.Machine.execStH t gd ga imm s
  | .stW t gd ga imm => Sys2Proof.Machine.execStW t gd ga imm s
  | .stD t gd ga imm => Sys2Proof.Machine.execStD t gd ga imm s
  | .gldB t gd ga imm => Sys2Proof.Machine.execGldB t gd ga imm s
  | .gldBu t gd ga imm => Sys2Proof.Machine.execGldBu t gd ga imm s
  | .gldH t gd ga imm => Sys2Proof.Machine.execGldH t gd ga imm s
  | .gldHu t gd ga imm => Sys2Proof.Machine.execGldHu t gd ga imm s
  | .gldW t gd ga imm => Sys2Proof.Machine.execGldW t gd ga imm s
  | .gldWu t gd ga imm => Sys2Proof.Machine.execGldWu t gd ga imm s
  | .gldD t gd ga imm => Sys2Proof.Machine.execGldD t gd ga imm s
  | .gstB t gd ga imm => Sys2Proof.Machine.execGstB t gd ga imm s
  | .gstH t gd ga imm => Sys2Proof.Machine.execGstH t gd ga imm s
  | .gstW t gd ga imm => Sys2Proof.Machine.execGstW t gd ga imm s
  | .gstD t gd ga imm => Sys2Proof.Machine.execGstD t gd ga imm s
  | .aaddW t gd ga gb => Sys2Proof.Machine.execAaddW t gd ga gb s
  | .aaddD t gd ga gb => Sys2Proof.Machine.execAaddD t gd ga gb s
  | .aswapW t gd ga gb => Sys2Proof.Machine.execAswapW t gd ga gb s
  | .aswapD t gd ga gb => Sys2Proof.Machine.execAswapD t gd ga gb s
  | .acasW t gd ga gb => Sys2Proof.Machine.execAcasW t gd ga gb s
  | .acasD t gd ga gb => Sys2Proof.Machine.execAcasD t gd ga gb s
  | .beq t ga gb off => Sys2Proof.Machine.execBeq t ga gb off s
  | .bne t ga gb off => Sys2Proof.Machine.execBne t ga gb off s
  | .blt t ga gb off => Sys2Proof.Machine.execBlt t ga gb off s
  | .bge t ga gb off => Sys2Proof.Machine.execBge t ga gb off s
  | .bltu t ga gb off => Sys2Proof.Machine.execBltu t ga gb off s
  | .bgeu t ga gb off => Sys2Proof.Machine.execBgeu t ga gb off s
  | .j t off => Sys2Proof.Machine.execJ t off s
  | .jal t off => Sys2Proof.Machine.execJal t off s
  | .jalr t gd ga imm => Sys2Proof.Machine.execJalr t gd ga imm s
  | .fenceL t => Sys2Proof.Machine.execFenceL t s
  | .fenceG t => Sys2Proof.Machine.execFenceG t s
  | .fenceI t => Sys2Proof.Machine.execFenceI t s
  | .sysr t gd ga => Sys2Proof.Machine.execSysr t gd ga s
  | .sysw t gd ga => Sys2Proof.Machine.execSysw t gd ga s
  | .excRet t => Sys2Proof.Machine.execExcRet t s
  | .chAlloc t gd ga gb => Sys2Proof.Machine.execChAlloc t gd ga gb s
  | .chAllocReturn slot => Sys2Proof.Machine.execChAllocReturn slot s
  | .chFree t gd ga => Sys2Proof.Machine.execChFree t gd ga s
  | .chFreeRelease slot => Sys2Proof.Machine.execChFreeRelease slot s
  | .chSet t gd ga gb n => Sys2Proof.Machine.execChSet t gd ga gb n s
  | .chGet t gd ga gb n => Sys2Proof.Machine.execChGet t gd ga gb n s
  | .chCommitCut t gd ga => Sys2Proof.Machine.execChCommitCut t gd ga s
  | .chCommitFade t gd ga => Sys2Proof.Machine.execChCommitFade t gd ga s
  | .commitLaneResult slot a => Sys2Proof.Machine.execCommitLaneResult slot a s
  | .chMute t gd ga => Sys2Proof.Machine.execChMute t gd ga s
  | .chUnmute t gd ga => Sys2Proof.Machine.execChUnmute t gd ga s
  | .chArm t gd ga => Sys2Proof.Machine.execChArm t gd ga s
  | .chMeas t gd ga gb => Sys2Proof.Machine.execChMeas t gd ga gb s
  | .chProbe t gd ga k => Sys2Proof.Machine.execChProbe t gd ga k s
  | .portTune t gd ga gb => Sys2Proof.Machine.execPortTune t gd ga gb s
  | .portSched t gd ga gb => Sys2Proof.Machine.execPortSched t gd ga gb s
  | .allocP t gd ga gb => Sys2Proof.Machine.execAllocP t gd ga gb s
  | .freeP t gd ga gb => Sys2Proof.Machine.execFreeP t gd ga gb s
  | .keepP t gd ga gb => Sys2Proof.Machine.execKeepP t gd ga gb s
  | .cntRd t gd ga => Sys2Proof.Machine.execCntRd t gd ga s
  | .modeReq t gd ga => Sys2Proof.Machine.execModeReq t gd ga s
  | .spawnT t gd ga gb => Sys2Proof.Machine.execSpawnT t gd ga gb s
  | .yieldT t => Sys2Proof.Machine.execYieldT t s
  | .exitT t ga => Sys2Proof.Machine.execExitT t ga s
  | .joinT t gd ga gb => Sys2Proof.Machine.execJoinT t gd ga gb s
  | .timeT t gd => Sys2Proof.Machine.execTimeT t gd s
  | .waitUntil t gd ga => Sys2Proof.Machine.execWaitUntil t gd ga s
  | .waitEv t gd ga gb => Sys2Proof.Machine.execWaitEv t gd ga gb s
  | .waitDeadlineExpire t => Sys2Proof.Machine.execWaitDeadlineExpire t s
  | .sendM t gd ga gb => Sys2Proof.Machine.execSendM t gd ga gb s
  | .recvM t gd ga gb => Sys2Proof.Machine.execRecvM t gd ga gb s
  | .engineRoundBoundary seen => Sys2Proof.Machine.execEngineRoundBoundary seen s
  | .controlSampleBoundary slot m => Sys2Proof.Machine.execControlSampleBoundary slot m s
  | .settlingComplete slot => Sys2Proof.Machine.execSettlingComplete slot s
  | .fadeEnd slot => Sys2Proof.Machine.execFadeEnd slot s
  | .muteRampComplete slot => Sys2Proof.Machine.execMuteRampComplete slot s
  | .fbcUpdateStep slot m => Sys2Proof.Machine.execFbcUpdateStep slot m s
  | .modelFreezeTimeout slot => Sys2Proof.Machine.execModelFreezeTimeout slot s
  | .isolationRefresh slot gains => Sys2Proof.Machine.execIsolationRefresh slot gains s
  | .probeBurstStart port => Sys2Proof.Machine.execProbeBurstStart port s
  | .probeBurstEnd port => Sys2Proof.Machine.execProbeBurstEnd port s
  | .probeResult slot o => Sys2Proof.Machine.execProbeResult slot o s
  | .oscWindowEnd slot rho => Sys2Proof.Machine.execOscWindowEnd slot rho s
  | .nriseEstimate slot noise => Sys2Proof.Machine.execNriseEstimate slot noise s
  | .dlossMute slot input => Sys2Proof.Machine.execDlossMute slot input s
  | .dlossUnmute slot input => Sys2Proof.Machine.execDlossUnmute slot input s
  | .aclrMeasure port ratio => Sys2Proof.Machine.execAclrMeasure port ratio s
  | .trimRelease slot => Sys2Proof.Machine.execTrimRelease slot s
  | .silencedHoldoffEnd => Sys2Proof.Machine.execSilencedHoldoffEnd s
  | .heldRearmEffect slot => Sys2Proof.Machine.execHeldRearmEffect slot s
  | .ngdSarmGo t v => Sys2Proof.Machine.execNgdSarmGo t v s
  | .gntPowerCheck slot power clampOk => Sys2Proof.Machine.execGntPowerCheck slot power clampOk s
  | .gntDutyCheck port txNs clampOk => Sys2Proof.Machine.execGntDutyCheck port txNs clampOk s
  | .compositeLimitScale port seen => Sys2Proof.Machine.execCompositeLimitScale port seen s
  | .compositeLimitRestore port => Sys2Proof.Machine.execCompositeLimitRestore port s
  | .bankChangeComplete port => Sys2Proof.Machine.execBankChangeComplete port s
  | .boosterKeyRise port fltHigh => Sys2Proof.Machine.execBoosterKeyRise port fltHigh s
  | .boosterEnFall port => Sys2Proof.Machine.execBoosterEnFall port s
  | .tddSwitchPoint pin => Sys2Proof.Machine.execTddSwitchPoint pin s
  | .tddPeriodStart port => Sys2Proof.Machine.execTddPeriodStart port s
  | .rfkillAssert => Sys2Proof.Machine.execRfkillAssert s
  | .rfkillRelease => Sys2Proof.Machine.execRfkillRelease s
  | .rfkillRestart => Sys2Proof.Machine.execRfkillRestart s
  | .boosterFault port => Sys2Proof.Machine.execBoosterFault port s
  | .cnvAdaptUpdate port composite est => Sys2Proof.Machine.execCnvAdaptUpdate port composite est s
  | .adcClip port => Sys2Proof.Machine.execAdcClip port s
  | .clipcntRead port => Sys2Proof.Machine.execClipcntRead port s
  | .txCalTrack port leak image => Sys2Proof.Machine.execTxCalTrack port leak image s
  | .portSynthLocked port => Sys2Proof.Machine.execPortSynthLocked port s
  | .portRetuneComplete cal => Sys2Proof.Machine.execPortRetuneComplete cal s
  | .portSynthUnlock port => Sys2Proof.Machine.execPortSynthUnlock port s
  | .mainSynthUnlock => Sys2Proof.Machine.execMainSynthUnlock s
  | .mainSynthRelock => Sys2Proof.Machine.execMainSynthRelock s
  | .synCorrectionApply corr offset => Sys2Proof.Machine.execSynCorrectionApply corr offset s
  | .refSyntonised => Sys2Proof.Machine.execRefSyntonised s
  | .coreFreqChange f => Sys2Proof.Machine.execCoreFreqChange f s
  | .coreSynthLocked => Sys2Proof.Machine.execCoreSynthLocked s
  | .linkLightDetected l => Sys2Proof.Machine.execLinkLightDetected l s
  | .linkUp l => Sys2Proof.Machine.execLinkUp l s
  | .linkDown l => Sys2Proof.Machine.execLinkDown l s
  | .linkLullEnter l => Sys2Proof.Machine.execLinkLullEnter l s
  | .linkLullExit l => Sys2Proof.Machine.execLinkLullExit l s
  | .frameHeaderRx l start => Sys2Proof.Machine.execFrameHeaderRx l start s
  | .laneMapRequestRx q => Sys2Proof.Machine.execLaneMapRequestRx q s
  | .laneMapChange l outbound mapv map => Sys2Proof.Machine.execLaneMapChange l outbound mapv map s
  | .electionStart => Sys2Proof.Machine.execElectionStart s
  | .fabElect t v => Sys2Proof.Machine.execFabElect t v s
  | .proposalRx l p => Sys2Proof.Machine.execProposalRx l p s
  | .acceptRx l a => Sys2Proof.Machine.execAcceptRx l a s
  | .acceptSend => Sys2Proof.Machine.execAcceptSend s
  | .headAnnounce => Sys2Proof.Machine.execHeadAnnounce s
  | .epochAnnounceRx l a => Sys2Proof.Machine.execEpochAnnounceRx l a s
  | .epochTake ring shared => Sys2Proof.Machine.execEpochTake ring shared s
  | .noProposalTimeout => Sys2Proof.Machine.execNoProposalTimeout s
  | .cellRx l hdr body => Sys2Proof.Machine.execCellRx l hdr body s
  | .requestDeadlineExpire tag => Sys2Proof.Machine.execRequestDeadlineExpire tag s
  | .responseRx pkt => Sys2Proof.Machine.execResponseRx pkt s
  | .homeRequestRx pkt => Sys2Proof.Machine.execHomeRequestRx pkt s
  | .faultReportHoldExpire => Sys2Proof.Machine.execFaultReportHoldExpire s
  | .tapFrameRx f => Sys2Proof.Machine.execTapFrameRx f s
  | .macAgeing vid mac => Sys2Proof.Machine.execMacAgeing vid mac s
  | .stampBlockRx place block path => Sys2Proof.Machine.execStampBlockRx place block path s
  | .laneBlockRx l lane typ data => Sys2Proof.Machine.execLaneBlockRx l lane typ data s
  | .laneDescriptorChange place code => Sys2Proof.Machine.execLaneDescriptorChange place code s
  | .laneLost slot => Sys2Proof.Machine.execLaneLost slot s
  | .laneRestore slot => Sys2Proof.Machine.execLaneRestore slot s
  | .gateWindow slot power => Sys2Proof.Machine.execGateWindow slot power s
  | .timeSyncRx l frame block arrival => Sys2Proof.Machine.execTimeSyncRx l frame block arrival s
  | .timeEchoRx l block t1 => Sys2Proof.Machine.execTimeEchoRx l block t1 s
  | .timeInfoRx l block => Sys2Proof.Machine.execTimeInfoRx l block s
  | .tsuSet t v => Sys2Proof.Machine.execTsuSet t v s
  | .tsuSetApply => Sys2Proof.Machine.execTsuSetApply s
  | .tsuLocked => Sys2Proof.Machine.execTsuLocked s
  | .tsuUnlock => Sys2Proof.Machine.execTsuUnlock s
  | .tsuSourceLost => Sys2Proof.Machine.execTsuSourceLost s
  | .pdelayReqRx seq linkDelay => Sys2Proof.Machine.execPdelayReqRx seq linkDelay s
  | .ptpEventRx m => Sys2Proof.Machine.execPtpEventRx m s
  | .ptpAnnounceRx a => Sys2Proof.Machine.execPtpAnnounceRx a s
  | .grandmasterLoss => Sys2Proof.Machine.execGrandmasterLoss s
  | .ptpMasterSend => Sys2Proof.Machine.execPtpMasterSend s
  | .ppsInEdge instant => Sys2Proof.Machine.execPpsInEdge instant s
  | .ppsInMissing => Sys2Proof.Machine.execPpsInMissing s
  | .ppsOutSecond => Sys2Proof.Machine.execPpsOutSecond s
  | .ppsOutFall => Sys2Proof.Machine.execPpsOutFall s
  | .hostSnapshotRead addr => Sys2Proof.Machine.execHostSnapshotRead addr s
  | .hostUnmappedAccess addr write => Sys2Proof.Machine.execHostUnmappedAccess addr write s
  | .hpiViolRead => Sys2Proof.Machine.execHpiViolRead s
  | .hostWrite addr data => Sys2Proof.Machine.execHostWrite addr data s
  | .hostWriteApply => Sys2Proof.Machine.execHostWriteApply s
  | .mbxIgo => Sys2Proof.Machine.execMbxIgo s
  | .inboundPlace => Sys2Proof.Machine.execInboundPlace s
  | .outboundReady => Sys2Proof.Machine.execOutboundReady s
  | .mbxOdone => Sys2Proof.Machine.execMbxOdone s
  | .aprFill line cnt => Sys2Proof.Machine.execAprFill line cnt s
  | .aprFlush line cnt => Sys2Proof.Machine.execAprFlush line cnt s
  | .aprCommandEnd remote => Sys2Proof.Machine.execAprCommandEnd remote s
  | .bootGo => Sys2Proof.Machine.execBootGo s
  | .fswStickyClear mask => Sys2Proof.Machine.execFswStickyClear mask s
  | .cuffRead sub => Sys2Proof.Machine.execCuffRead sub s
  | .keepBufferWrite => Sys2Proof.Machine.execKeepBufferWrite s
  | .heatDecay => Sys2Proof.Machine.execHeatDecay s
  | .pageMigrate part va tier => Sys2Proof.Machine.execPageMigrate part va tier s
  | .replicaRequest node ref data => Sys2Proof.Machine.execReplicaRequest node ref data s
  | .replicaDiscardRx ref => Sys2Proof.Machine.execReplicaDiscardRx ref s
  | .replicaAckRx node ref => Sys2Proof.Machine.execReplicaAckRx node ref s
  | .patrolScrub part va errors => Sys2Proof.Machine.execPatrolScrub part va errors s
  | .band4Evict => Sys2Proof.Machine.execBand4Evict s
  | .partCreate t pnum => Sys2Proof.Machine.execPartCreate t pnum s
  | .partStart t pnum => Sys2Proof.Machine.execPartStart t pnum s
  | .partReset t pnum => Sys2Proof.Machine.execPartReset t pnum s
  | .partDestroy t pnum => Sys2Proof.Machine.execPartDestroy t pnum s
  | .partClear t pnum => Sys2Proof.Machine.execPartClear t pnum s
  | .partRelease t pnum => Sys2Proof.Machine.execPartRelease t pnum s
  | .partResetComplete part => Sys2Proof.Machine.execPartResetComplete part s
  | .partResetNoticeRx node part gen => Sys2Proof.Machine.execPartResetNoticeRx node part gen s
  | .partGrantWrite t word v => Sys2Proof.Machine.execPartGrantWrite t word v s
  | .partAlloc t v => Sys2Proof.Machine.execPartAlloc t v s
  | .schedWindowStart => Sys2Proof.Machine.execSchedWindowStart s
  | .creditExhausted part => Sys2Proof.Machine.execCreditExhausted part s
  | .taskTimeslice t => Sys2Proof.Machine.execTaskTimeslice t s
  | .workerCoreFault core => Sys2Proof.Machine.execWorkerCoreFault core s
  | .wardenStop halted => Sys2Proof.Machine.execWardenStop halted s
  | .wardenRestart => Sys2Proof.Machine.execWardenRestart s
  | .modeTransition => Sys2Proof.Machine.execModeTransition s
  | .dozeEnter => Sys2Proof.Machine.execDozeEnter s
  | .hibernateEnter => Sys2Proof.Machine.execHibernateEnter s
  | .dozeExit => Sys2Proof.Machine.execDozeExit s
  | .hibernateWake => Sys2Proof.Machine.execHibernateWake s
  | .wakeEdge => Sys2Proof.Machine.execWakeEdge s
  | .pwrTimerExpire => Sys2Proof.Machine.execPwrTimerExpire s
  | .leadTimeRecompute => Sys2Proof.Machine.execLeadTimeRecompute s
  | .coreIdleEnter core => Sys2Proof.Machine.execCoreIdleEnter core s
  | .coreIdleExit core => Sys2Proof.Machine.execCoreIdleExit core s
  | .feedLost feed => Sys2Proof.Machine.execFeedLost feed s
  | .feedOvervoltage feed => Sys2Proof.Machine.execFeedOvervoltage feed s
  | .feedReconnect feed => Sys2Proof.Machine.execFeedReconnect feed s
  | .powerFailWarning feed => Sys2Proof.Machine.execPowerFailWarning feed s
  | .powerLossComplete => Sys2Proof.Machine.execPowerLossComplete s
  | .feedRestored bootsel => Sys2Proof.Machine.execFeedRestored bootsel s
  | .holdupExhausted => Sys2Proof.Machine.execHoldupExhausted s
  | .feedPowerOn => Sys2Proof.Machine.execFeedPowerOn s
  | .rstAssert => Sys2Proof.Machine.execRstAssert s
  | .rstRelease bootsel => Sys2Proof.Machine.execRstRelease bootsel s
  | .powerGood bootsel hvsel => Sys2Proof.Machine.execPowerGood bootsel hvsel s
  | .imageVerified => Sys2Proof.Machine.execImageVerified s
  | .chainImageReceived image => Sys2Proof.Machine.execChainImageReceived image s
  | .hkaRoundTrigger => Sys2Proof.Machine.execHkaRoundTrigger s
  | .hkaTrig t => Sys2Proof.Machine.execHkaTrig t s
  | .hkaConversionEnd input value connected => Sys2Proof.Machine.execHkaConversionEnd input value connected s
  | .hkaScanEnd => Sys2Proof.Machine.execHkaScanEnd s
  | .housekeepingRecord => Sys2Proof.Machine.execHousekeepingRecord s
  | .errorLineRise sub kind => Sys2Proof.Machine.execErrorLineRise sub kind s
  | .errorLineFall sub => Sys2Proof.Machine.execErrorLineFall sub s
  | .faultMsgRx m => Sys2Proof.Machine.execFaultMsgRx m s
  | .severityWindowExpire src => Sys2Proof.Machine.execSeverityWindowExpire src s
  | .eventRecordCommit => Sys2Proof.Machine.execEventRecordCommit s
  | .tokenRefill code => Sys2Proof.Machine.execTokenRefill code s
  | .optimeSave => Sys2Proof.Machine.execOptimeSave s
  | .bushelDump => Sys2Proof.Machine.execBushelDump s
  | .perfSample t pc => Sys2Proof.Machine.execPerfSample t pc s
  | .obsSampEnable t v => Sys2Proof.Machine.execObsSampEnable t v s
  | .obsFclr t v => Sys2Proof.Machine.execObsFclr t v s
  | .obsEmit t v => Sys2Proof.Machine.execObsEmit t v s
  | .obsPclr t => Sys2Proof.Machine.execObsPclr t s
  | .obsRdataRead t gd => Sys2Proof.Machine.execObsRdataRead t gd s
  | .glcTableSwap t v => Sys2Proof.Machine.execGlcTableSwap t v s
  | .glcEset t v => Sys2Proof.Machine.execGlcEset t v s
  | .glcTdataWrite t v => Sys2Proof.Machine.execGlcTdataWrite t v s
  | .glcTdataRead t gd => Sys2Proof.Machine.execGlcTdataRead t gd s
  | .fbcTableSwap t v => Sys2Proof.Machine.execFbcTableSwap t v s
  | .fbcTdataWrite t v => Sys2Proof.Machine.execFbcTdataWrite t v s
  | .fbcTdataRead t gd => Sys2Proof.Machine.execFbcTdataRead t gd s
  | .fbcTapdWrite t v => Sys2Proof.Machine.execFbcTapdWrite t v s
  | .fbcTapdRead t gd => Sys2Proof.Machine.execFbcTapdRead t gd s
  | .chFindRead t gd => Sys2Proof.Machine.execChFindRead t gd s
  | .wrimg t => Sys2Proof.Machine.execWrimg t s
  | .wrcht t => Sys2Proof.Machine.execWrcht t s
  | .actcht t => Sys2Proof.Machine.execActcht t s
  | .charterActivate => Sys2Proof.Machine.execCharterActivate s
  | .restart t => Sys2Proof.Machine.execRestart t s
  | .confirm t => Sys2Proof.Machine.execConfirm t s
  | .fuse t => Sys2Proof.Machine.execFuse t s
  | .slotOpComplete => Sys2Proof.Machine.execSlotOpComplete s
  | .isolateCalibrationEnd => Sys2Proof.Machine.execIsolateCalibrationEnd s
  | .personalitySend => Sys2Proof.Machine.execPersonalitySend s
  | .personalityOfferRx o => Sys2Proof.Machine.execPersonalityOfferRx o s
  | .portTransitionComplete port => Sys2Proof.Machine.execPortTransitionComplete port s
  | .feedRecovery feed => Sys2Proof.Machine.execFeedRecovery feed s
  | .holdUpCharged => Sys2Proof.Machine.execHoldUpCharged s
  | .coreSynthLockFail => Sys2Proof.Machine.execCoreSynthLockFail s
  | .modelParityError slot => Sys2Proof.Machine.execModelParityError slot s
  | .parentAnnounceRx l named => Sys2Proof.Machine.execParentAnnounceRx l named s
  | .chainImageRequestRx l => Sys2Proof.Machine.execChainImageRequestRx l s
  | .silencedCountExpire => Sys2Proof.Machine.execSilencedCountExpire s
  | .testAccessPortClock tms tdi trst => Sys2Proof.Machine.execTestAccessPortClock tms tdi trst s

end Sys2Proof.Machine
end

