-- ==== Sys2Proof/Machine/Frames.lean ====
section
/-! DEFINITION. What this node sends on its chain links: the control regions of each link frame and the cells of its packets
(R196, R197, R200, R204, R213, R231, R251, R252). -/

namespace Sys2Proof.Machine

/-! Frames (R196, R197, R252). -/

/-- The number of the link frame in progress: frames of 327.68 ns, which the transmit side clocks from the main synthesiser, are
counted from the engine's reset (R196, R197; where the count starts is DESIGN CHOICE, log 35). -/
def State.frameNo (s : State) : Nat := s.clk.ed * 10000000 / 3221225472

/-- The header this node sends on link `l`: FRAME, EPOCH, MAPV, NODE, LSTATE and CRC (R197, R201). -/
def State.sentHeader (s : State) (l : ChainId) : BitVec 64 :=
  let x := s.links[chainLink l]
  let h : BitVec 64 := BitVec.ofNat 64 (s.frameNo % 65536 + s.fab.epoch.toNat % 4096 * 2 ^ 16 + x.mapvOut.toNat * 2 ^ 28
    + s.senderNode.toNat * 2 ^ 36 + x.st.code * 2 ^ 47)
  h ||| ((headerCrc h).setWidth 64 <<< 56)

/-- Fabric time in 1/16 ns, the unit of block 1 (R252). -/
def State.fab16 (s : State) : Nat := s.clk.fab / 4096

/-- The INFO block: the bits [67:60] of the time, TSU's state, TRACE, hop count and TAI offset (R251, R252). -/
def State.infoBlock (s : State) : Nat :=
  3 * 2 ^ 60 + s.fab16 / 2 ^ 60 % 256 + s.tsu.st.toNat * 2 ^ 8 + (if s.tsu.trace then 2 ^ 11 else 0)
    + s.tsu.hops.toNat * 2 ^ 12 + s.tsu.tai.toNat * 2 ^ 24

/-- Block 1 of the frame in progress: SYNC in frames 0 and 2 modulo 4, ECHO in 1 and INFO in 3 (R252). -/
def State.timeBlock (s : State) (l : ChainId) : BitVec 64 :=
  let x := s.links[chainLink l]
  let n := s.frameNo % 4
  BitVec.ofNat 64 (
    if n = 3 then s.infoBlock
    else if n = 1 then 2 * 2 ^ 60 + x.syncFrame.toNat + x.syncT4 % 2 ^ 44 * 2 ^ 16
    else 2 ^ 60 + s.fab16 % 2 ^ 60)

/-! Lane descriptors (R231). -/

/-- The descriptors under which lane `key` arrives on the links other than `l` (R231). -/
def State.descFrom (s : State) (l : ChainId) (key : Nat) (ringOnly : Bool) : List (BitVec 4) :=
  (List.finRange 3).flatMap fun m =>
    let x := s.links[chainLink m]
    if m ≠ l ∧ x.carries ∧ (!ringOnly || x.ring) then
      (x.lanesIn.filter fun b => laneKey b.node b.chan = key).map fun b => (x.copy b.slot).desc
    else []

/-- The descriptor of a lane as link `l` sends it: of a lane anchored here by its anchor's state, of another as it arrives; an UL
lane's tells whether its copy is returned, here or at a node before (R231, R240). -/
def State.laneDesc (s : State) (l : ChainId) (a : Lane) : BitVec 4 :=
  let key := laneKey a.node a.chan
  if a.uplink then (if a.returned || (s.descFrom l key true).contains 10 then 10 else 9)
  else if decide (a.node = s.senderNode) && (s.slot a.chan).live && (s.slot a.chan).set.source then (s.slot a.chan).anchorDesc
  else ((s.descFrom l key false).find? fun d => d ≠ 0).getD 0

/-- Blocks 4 to 9: the descriptors of lane slots 0 to 95 (R231). -/
def State.sentDesc (s : State) (l : ChainId) : List (BitVec 4) :=
  (List.range 96).map fun i =>
    match s.links[chainLink l].lanesOut.find? fun a => a.slot = i with
    | some a => s.laneDesc l a
    | none => 0

/-! The frame (R196, R200, R204). -/

/-- This end asks for LULL: the power manager of a node in DOZE or HIBERNATE, with no lane mapped and no cell queued (R200,
R437). -/
def State.asksLull (s : State) (l : ChainId) : Bool :=
  let x := s.links[chainLink l]
  s.pwr.llen && s.dozing && x.lanesIn.isEmpty && x.lanesOut.isEmpty && !(s.fab.out.any fun p => p.link = l)

/-- A member's request on its way gathers the fibre delay of the link that it takes (R234, R253; DESIGN CHOICE, log 35: how the
head learns a member's path is not stated). -/
def Link.addSpan (x : Link) (q : LaneRequest) : LaneRequest := if fromAnchor q then q else { q with path := q.path + x.fibre }

/-- The control regions of the frame in progress on link `l`. Block 2 carries the best proposal to every port but the parent, which
is told that it is the parent and takes the accept (R204); the requests for lane blocks go to the parent (R198). The layouts of block
3's lane map and error count are the model's (DESIGN CHOICE, log 35). -/
def State.frameFor (s : State) (l : ChainId) : FrameOut :=
  let toParent := decide (s.fab.parent = some l)
  { no := s.frameNo, hdr := s.sentHeader l, time := s.timeBlock l
    prop := if s.fab.elect && !toParent then s.fab.best else none
    parent := s.fab.elect && toParent
    accept := if toParent then s.fab.acceptOut else none
    announce := s.fab.announce
    askLull := s.asksLull l
    askUp := s.links[chainLink l].askUp
    asks := if decide (s.fab.up = some l) then s.fab.asks.map s.links[chainLink l].addSpan else []
    map := s.links[chainLink l].lanesOut
    errs := (tblGet 0 (128 + l.val) s.obs.counters).toNat
    margin := s.ms.band
    desc := s.sentDesc l }

/-- The requests for lane blocks that have gone to the head are not sent again; the head keeps its own until it has answered them. -/
def State.asksSent (s : State) (l : ChainId) : State :=
  if decide (s.fab.up = some l) then { s with fab := { s.fab with asks := [] } } else s

/-- The departure instant of a SYNC frame is kept for the ECHO that names it, as long as no other frame has its number (R252). -/
def Link.keepDeparture (x : Link) (sync : Bool) (no : BitVec 16) (t : Nat) : Link :=
  if sync then { x with departed := ((no, t) :: x.departed).take 32768 } else x

/-- A new frame begins on link `l`; with its block 3 the equaliser margin of the temperature band is in force, the link staying as
it is (R451). -/
def State.sendFrame (s : State) (l : ChainId) : State :=
  let x := s.links[chainLink l]
  let old : Bool := match x.sent with | some f => decide (f.no = s.frameNo) | none => false
  if x.controls && !old then
    (s.mapLink (chainLink l) fun x => ({ x with sent := some (s.frameFor l), eqBand := s.ms.band }).keepDeparture
      (s.frameNo % 2 = 0) (BitVec.ofNat 16 s.frameNo) (s.fab16 % 2 ^ 60)).asksSent l
  else s

/-! Cells (R213). -/

/-- A memory request as bytes: tag and generation, deadline, reference, operation, width and operands (R214; the order is DESIGN
CHOICE, log 33). -/
def requestBytes (q : MemRequest) : List Byte :=
  natToBytes q.deadline 8 ++ natToBytes (q.tag.val + q.gen.toNat * 4096) 2 ++ natToBytes q.ref.toNat 8
    ++ natToBytes (q.op.val + q.bytes * 16) 1 ++ natToBytes q.pgen.toNat 1 ++ natToBytes q.data.toNat 8 ++ natToBytes q.cmp.toNat 8

/-- A memory response as bytes: deadline, tag and generation, error, data (R214; the order is DESIGN CHOICE, log 33). -/
def responseBytes (r : MemResponse) : List Byte :=
  natToBytes r.deadline 8 ++ natToBytes (r.tag.val + r.gen.toNat * 4096) 2 ++ natToBytes r.err.val 1 ++ natToBytes r.data.toNat 8

/-- The payload of a packet. -/
def PktBody.bytes : PktBody → List Byte
  | .message body _ _ => body
  | .request q => requestBytes q
  | .response r => responseBytes r
  | .fault m => natToBytes m.toNat 16
  | .replicaAsk ref => natToBytes ref.toNat 8
  | .replicaData _ image => image.bytes
  | .discard ref => natToBytes ref.toNat 8
  | .discardAck ref => natToBytes ref.toNat 8
  | .resetNotice part gen => natToBytes (part.val + gen.toNat * 8) 2
  | .frame f => frameBytes f
  | .ptp f ingress delay => frameBytes f ++ natToBytes ingress 8 ++ natToBytes delay 8
  | .forwarded c => c.payload

/-- The mailbox and partition a message is sent to. -/
def PktBody.target : PktBody → PartId × Fin 8
  | .message _ part mbox => (part, mbox)
  | .forwarded c => (c.part, c.mbox)
  | _ => (0, 0)

/-- A cell header (R213). -/
def cellHeader (p : TxPacket) (first last : Bool) (len : Nat) : BitVec 64 :=
  BitVec.ofNat 64 (p.dst.toNat + p.src.toNat * 2 ^ 11 + p.pri.toNat * 2 ^ 22 + p.part.val * 2 ^ 25 + p.typ.toNat * 2 ^ 28
    + p.seq.toNat * 2 ^ 32 + flagN first 48 + flagN last 49 + len * 2 ^ 50)

/-- The cells of a payload, 56 bytes in each but the last (R213). -/
def cellsOf (p : TxPacket) (first : Bool) : Nat → List Byte → List Cell
  | 0, _ => []
  | fuel + 1, bs =>
    let last := decide (bs.length ≤ 56)
    let c : Cell := { hdr := cellHeader p first last (min 56 bs.length), payload := bs.take 56,
                      part := p.body.target.1, mbox := p.body.target.2 }
    if last then [c] else c :: cellsOf p false fuel (bs.drop 56)

/-- The cells of a packet, or those of them that leave at its priority (R215); a forwarded cell goes on as it came (R213). -/
def TxPacket.cells (p : TxPacket) : List Cell :=
  match p.body with
  | .forwarded c => [c]
  | b =>
    let all := cellsOf p true (b.bytes.length / 56 + 1) b.bytes
    match p.span with
    | some (i, n) => (all.drop i).take n
    | none => all

/-- The first packet in the queue order `out` that link `l` sends: of the highest priority, and of those the oldest
(R215). -/
def bestPacket (l : ChainId) : List TxPacket → Option TxPacket
  | [] => none
  | p :: ps =>
    match bestPacket l ps with
    | none => if p.link = l then some p else none
    | some q => if p.link = l ∧ q.pri ≤ p.pri then some p else some q

/-- Link `l`, if it is UP, sends one packet in cells, which are counted (R213, R215, R526). -/
def State.sendOne (s : State) (l : ChainId) : State :=
  if s.links[chainLink l].st = .up then
    match bestPacket l s.fab.out with
    | none => s
    | some p =>
      (({ s with fab := { s.fab with out := s.fab.out.erase p } }).mapLink (chainLink l) fun x => { x with cells := p.cells }).countBy
        (144 + l.val) (match p.span with | some x => x.2 | none => p.body.cells)
  else s

end Sys2Proof.Machine
end

