-- ==== Sys2Proof/Machine/Issue.lean ====
section
/-! DEFINITION. The words of a program in memory: the word at a task's program counter (R6, R286), the command that it
spells (R305 to R308), and the execution of a reserved encoding (R307), which no command spells (log 6). -/

namespace Sys2Proof.Machine

/-- The instruction word at local address `a` of partition `p`, little-endian (R6). -/
def State.wordAt (s : State) (p : PartId) (a : Nat) : Nat :=
  bytesToNat (memBytes s.ms.mem (memKey p a) 4)

/-- The command of the next instruction of task `t`; none where the word at its program counter is reserved. -/
def State.nextInstr (s : State) (t : TaskId) : Option Instr :=
  match s.task? t with
  | some k => Sys2Proof.decodeWord t (s.wordAt k.part k.pc.toNat)
  | none => none

/-- Task `t` runs and the word at its program counter may be fetched and is a reserved encoding (R307). -/
def State.atReserved (s : State) (t : TaskId) : Bool :=
  match s.task? t with
  | some k =>
    match k.st with
    | .running _ => s.fetchOk k.part k.pc && (s.nextInstr t).isNone
    | _ => false
  | none => false

/-- Task `t` executes the reserved encoding at its program counter: case 5 of R301 (R307, R333, R357). -/
def State.runReserved (s : State) (t : TaskId) : State := if s.atReserved t then s.undefTask t else s

end Sys2Proof.Machine
end

