-- ==== Sys2Proof/Machine/Tick.lean ====
section
/-! DEFINITION. What the engine does by itself while no command waits (log 5): one ED cycle passes, queued packets leave, store
queues drain, and tasks whose wait has ended go on. No row of the command table names these. -/

namespace Sys2Proof.Machine

/-- One ED cycle passes; with the filter engine running, time stops just before a round boundary until the boundary's own
command (R82, R110). -/
def State.passCycle (s : State) : State :=
  if s.roundsRun && decide (s.roundPos + 1 = roundLen) then s else s.advance 1

/-- BSTn_KEY falls 2.5 µs before the switch point that closes a transmit interval, once for each (R41). -/
def State.keyFalls (s : State) (p : PortId) : State :=
  let q := s.ports[p]
  match q.sched with
  | none => s
  | some sc =>
    match sc.points[q.schedIdx]?, sc.points[(q.schedIdx + 1) % sc.points.length]? with
    | some x, some y =>
      if q.schedRun && q.follows && q.bkey && decide (q.tx = .on) && x.opens.transmits q.tune.donor
          && decide (sc.toPoint y s.fabNs ≤ 2500) && decide (q.keyAt + 2458 < s.clk.ed) then
        s.mapPort p fun q => { q with bkey := false, keyAt := s.clk.ed }
      else s
    | _, _ => s

/-- The engine's own work in a cycle from BOOT on: booster keys fall ahead of a
closing switch point (R41), links send their frames and packets (R196, R215), tasks at a reserved encoding execute it (R307), store
queues drain (R319), waiting requests, fences and tasks are examined again (R214, R326, R327, R353, R373), and HSC places
what it can (R395). -/
def State.ownWork (s : State) : State :=
  let s0 := (List.finRange 4).foldl (fun s p => s.keyFalls p) s
  let s1 := (List.finRange 3).foldl (fun s l => (s.sendFrame l).sendOne l) s0
  let s2 := (s1.cpu.tasks.foldl (fun s x => (s.runReserved (Fin.ofNat 512 x.1)).drainSome x.1 1) s1).drainLate
  s2.homeRetry.wakeRetries.serveBoxes.timeCommits.place

/-- Bits that go wrong in the cycle join those that no read has met yet; which do is free (R379 to R381, log 24). -/
def State.upset (s : State) : State :=
  { s with ms := { s.ms with
      flaws := s.ms.flaws ++ (Config.upsets s.clk.ed).map fun u => { block := u.1, copy := u.2.1, wrong := u.2.2 } } }

/-- A step with no command waiting. The engine does nothing in OFF, and only time passes in RESET. -/
def State.tick (s : State) : State :=
  if s.pwr.mode = .off ∨ s.pwr.mode = .reset then s.passCycle else s.passCycle.ownWork.upset

end Sys2Proof.Machine
end

