-- ==== Sys2Proof/Safety.lean ====
section
/-! DEFINITION. The terms in which statements speak: a task that runs, how a state follows another, the results the
manual's tables give, and what a safe state is. -/

namespace Sys2Proof.Machine

/-! Runs of one instruction. -/

/-- Task `t`, with the record `k`, is RUNNING on context `c` (R279). -/
def State.runs (s : State) (t : TaskId) (k : Task) (c : Nat) : Prop := s.task? t = some k ∧ k.st = .running c

/-- The instruction at `a` may be fetched for partition `p`, and no wrong bit lies in its block (R293, R379, R381). -/
def State.fetchClean (s : State) (p : PartId) (a : Word) : Prop :=
  s.fetchOk p a = true ∧ s.flawsAt false (memKey p a.toNat) 4 = []

/-- The instruction after the present one of `k` may be fetched (R293, R381). -/
def State.nextOk (s : State) (k : Task) : Prop := s.fetchClean k.part (k.pc + 4)

/-- No error is met where the `n` bytes at `va` of partition `p` are read: none is poisoned, and no wrong bit lies in their blocks (R379,
R381, R382). -/
def State.sound (s : State) (p : PartId) (va n : Nat) : Prop :=
  s.poisoned (memKey p va) n = false ∧ s.flawsAt false (memKey p va) n = []

/-- `s` with what tasks know of one another as in `u` (R301, R345). -/
def State.knowing (s u : State) : State := { s with cpu := { s.cpu with know := u.cpu.know } }

/-- The task's record after an instruction with the result `v` in gd; g0 discards it (R286, R313). -/
def Task.step (k : Task) (gd : Reg) (v : Word) : Task := { k.put gd v with pc := k.pc + 4 }

/-- The task's record after an instruction with two results (R334). -/
def Task.step2 (k : Task) (gd gb : Reg) (v w : Word) : Task := { (k.put gd v).put gb w with pc := k.pc + 4 }

/-- `exec` of `c` in `s` answers a next state, of which `P` holds. -/
def State.gives (s : State) (c : Instr) (P : State → Prop) : Prop := ∃ u, exec c s = .next u ∧ P u

/-- No task waits for a message or an event, so that a delivered message changes no task. -/
def State.nobodyWaits (s : State) : Prop :=
  ∀ x ∈ s.cpu.tasks, (∀ a b m n, x.2.st ≠ .waiting (.recv a b m n)) ∧ ∀ a m e, x.2.st ≠ .waiting (.event a m e)

/-- `u` is `s` but for the record of task `t`, now `k`, and the performance counters with the copies that sampling keeps of
them. -/
def State.becomes (s u : State) (t : Nat) (k : Task) : Prop :=
  u = { s with cpu := { s.cpu with tasks := tblPut t k s.cpu.tasks }
               obs := { s.obs with counters := u.obs.counters, sampled := u.obs.sampled } }

/-- `u` is `s` but for the record of task `t`, now `k`, the violation word of its partition, which takes the kind and
counts up to 2^32 − 1 (R291, R298), and the performance counters with their sampled copies. -/
def State.violates (s u : State) (t : Nat) (k : Task) (kind : Byte) : Prop :=
  u = { s with
    cpu := { s.cpu with tasks := tblPut t k s.cpu.tasks }
    parts := s.parts.set k.part { s.parts[k.part] with
      viol := if s.parts[k.part].viol = 0xFFFFFFFF then 0xFFFFFFFF else s.parts[k.part].viol + 1, lastK := kind }
    obs := { s.obs with counters := u.obs.counters, sampled := u.obs.sampled } }

/-- Task `t`, which waited with the record `k`, has completed its instruction with `v` in gd and `w` in gb: it is READY,
or HSC has placed it again (R353, R395). -/
def State.woken (u : State) (t : Nat) (k : Task) (gd gb : Reg) (v w : Word) : Prop :=
  ∃ k', u.task? t = some k' ∧ k'.regs = ((k.put gd v).put gb w).regs ∧ k'.pc = k.pc + 4 ∧
    (k'.st = .ready ∨ ∃ c, k'.st = .running c)

/-- Task `t` is RUNNING and ga holds a valid handle of its partition's channel in slot `n` (R281). -/
def State.onChan (s : State) (t : TaskId) (k : Task) (c : Nat) (ga : Reg) (n : Nat) : Prop :=
  s.runs t k c ∧ s.nextOk k ∧ s.chan k.part (k.get ga) = some n

/-- Every byte of this node's memory reads in `u` as in `s`. -/
def State.sameMem (s u : State) : Prop := ∀ a, memRead a u.ms.mem = memRead a s.ms.mem

/-- Every byte of this node's memory but the `n` from key `a` reads in `u` as in `s`. -/
def State.sameMemBut (s u : State) (a n : Nat) : Prop :=
  ∀ b, b < a ∨ a + n ≤ b → memRead b u.ms.mem = memRead b s.ms.mem

/-- `x` held between `lo` and `hi`. -/
def bound (lo hi x : Int) : Int := max lo (min hi x)

/-- The signed `n`-bit range (R310, R311). -/
def limitS (n : Nat) (x : Int) : BitVec n := BitVec.ofInt n (bound (-2 ^ (n - 1)) (2 ^ (n - 1) - 1) x)

/-- The unsigned `n`-bit range (R310, R311). -/
def limitU (n : Nat) (x : Int) : BitVec n := BitVec.ofInt n (bound 0 (2 ^ n - 1) x)

/-- The results of R309 and R310 for the register-register instructions. -/
def resultsR : List ((TaskId → Reg → Reg → Reg → Instr) × (Word → Word → Word)) :=
  [ (.addR, fun a b => BitVec.ofNat 64 (a.toNat + b.toNat)),
    (.subR, fun a b => BitVec.ofInt 64 (a.toInt - b.toInt)),
    (.adds, fun a b => limitS 64 (a.toInt + b.toInt)),
    (.subs, fun a b => limitS 64 (a.toInt - b.toInt)),
    (.addus, fun a b => limitU 64 ((a.toNat : Int) + b.toNat)),
    (.subus, fun a b => limitU 64 ((a.toNat : Int) - b.toNat)),
    (.mulR, fun a b => BitVec.ofNat 64 (a.toNat * b.toNat)),
    (.mulh, fun a b => BitVec.ofInt 64 ((a.toInt * b.toInt) >>> 64)),
    (.mulhu, fun a b => BitVec.ofNat 64 (a.toNat * b.toNat / 2 ^ 64)),
    (.divS, fun a b => if b = 0 then -1 else a.sdiv b),
    (.divu, fun a b => if b = 0 then -1 else a.udiv b),
    (.remS, fun a b => if b = 0 then a else a.srem b),
    (.remu, fun a b => if b = 0 then a else a.umod b),
    (.minS, fun a b => BitVec.ofInt 64 (min a.toInt b.toInt)),
    (.maxS, fun a b => BitVec.ofInt 64 (max a.toInt b.toInt)),
    (.andR, fun a b => BitVec.and a b),
    (.orR, fun a b => BitVec.or a b),
    (.xorR, fun a b => BitVec.xor a b),
    (.andn, fun a b => BitVec.and a (BitVec.not b)),
    (.slt, fun a b => if a.toInt < b.toInt then 1 else 0),
    (.sltu, fun a b => if a.toNat < b.toNat then 1 else 0),
    (.sll, fun a b => BitVec.ofNat 64 (a.toNat * 2 ^ (b.toNat % 64))),
    (.srl, fun a b => BitVec.ofNat 64 (a.toNat / 2 ^ (b.toNat % 64))),
    (.sra, fun a b => BitVec.ofInt 64 (a.toInt >>> (b.toNat % 64))) ]

/-- A 32-bit result sign-extended (R311). -/
def wide (x : BitVec 32) : Word := BitVec.ofInt 64 x.toInt

/-- Bits [31:0] of a register. -/
def low (a : Word) : BitVec 32 := BitVec.ofNat 32 a.toNat

/-- The results of R311 for the register-register instructions, of the low halves of ga and gb. -/
def resultsW : List ((TaskId → Reg → Reg → Reg → Instr) × (BitVec 32 → BitVec 32 → BitVec 32)) :=
  [ (.addW, fun a b => BitVec.ofNat 32 (a.toNat + b.toNat)),
    (.subW, fun a b => BitVec.ofInt 32 (a.toInt - b.toInt)),
    (.addsW, fun a b => limitS 32 (a.toInt + b.toInt)),
    (.subsW, fun a b => limitS 32 (a.toInt - b.toInt)),
    (.addusW, fun a b => limitU 32 ((a.toNat : Int) + b.toNat)),
    (.subusW, fun a b => limitU 32 ((a.toNat : Int) - b.toNat)),
    (.mulW, fun a b => BitVec.ofNat 32 (a.toNat * b.toNat)),
    (.divW, fun a b => if b = 0 then -1 else a.sdiv b),
    (.divuW, fun a b => if b = 0 then -1 else a.udiv b),
    (.remW, fun a b => if b = 0 then a else a.srem b),
    (.remuW, fun a b => if b = 0 then a else a.umod b),
    (.sllW, fun a b => BitVec.ofNat 32 (a.toNat * 2 ^ (b.toNat % 32))),
    (.srlW, fun a b => BitVec.ofNat 32 (a.toNat / 2 ^ (b.toNat % 32))),
    (.sraW, fun a b => BitVec.ofInt 32 (a.toInt >>> (b.toNat % 32))) ]

/-- The results of R309 for the shifts by the 6-bit shift field. -/
def resultsSh : List ((TaskId → Reg → Reg → Fin 64 → Instr) × (Word → Nat → Word)) :=
  [ (.slli, fun a n => BitVec.ofNat 64 (a.toNat * 2 ^ n)),
    (.srli, fun a n => BitVec.ofNat 64 (a.toNat / 2 ^ n)),
    (.srai, fun a n => BitVec.ofInt 64 (a.toInt >>> n)) ]

/-- The results of R311 for the 32-bit shifts by the shift field. -/
def resultsShW : List ((TaskId → Reg → Reg → Fin 32 → Instr) × (BitVec 32 → Nat → BitVec 32)) :=
  [ (.slliW, fun a n => BitVec.ofNat 32 (a.toNat * 2 ^ n)),
    (.srliW, fun a n => BitVec.ofNat 32 (a.toNat / 2 ^ n)),
    (.sraiW, fun a n => BitVec.ofInt 32 (a.toInt >>> n)) ]

/-- The results of R312, `i` the value of imm16. -/
def resultsI : List ((TaskId → Reg → Reg → BitVec 16 → Instr) × (Word → BitVec 16 → Word)) :=
  [ (.addi, fun a i => BitVec.ofInt 64 (a.toInt + i.toInt)),
    (.andi, fun a i => BitVec.and a (BitVec.ofNat 64 i.toNat)),
    (.ori, fun a i => BitVec.or a (BitVec.ofNat 64 i.toNat)),
    (.xori, fun a i => BitVec.xor a (BitVec.ofNat 64 i.toNat)),
    (.slti, fun a i => if a.toInt < i.toInt then 1 else 0),
    (.sltiu, fun a i => if a.toNat < (BitVec.ofInt 64 i.toInt).toNat then 1 else 0),
    (fun t gd _ i => .lui t gd i, fun _ i => BitVec.ofInt 64 (i.toInt * 2 ^ 16)),
    (.ihw2, fun a i => BitVec.ofNat 64 (a.toNat % 2 ^ 32 + i.toNat * 2 ^ 32 + a.toNat / 2 ^ 48 * 2 ^ 48)),
    (.ihw3, fun a i => BitVec.ofNat 64 (a.toNat % 2 ^ 48 + i.toNat * 2 ^ 48)),
    (.addiW, fun a i => wide (BitVec.ofInt 32 ((low a).toInt + i.toInt))) ]

/-- The conditions of R314. -/
def resultsB : List ((TaskId → Reg → Reg → BitVec 16 → Instr) × (Word → Word → Bool)) :=
  [ (.beq, fun a b => a = b), (.bne, fun a b => a ≠ b), (.blt, fun a b => a.toInt < b.toInt),
    (.bge, fun a b => b.toInt ≤ a.toInt), (.bltu, fun a b => a.toNat < b.toNat),
    (.bgeu, fun a b => b.toNat ≤ a.toNat) ]

/-- The local loads of R317: width and the value of gd. -/
def resultsLd : List ((TaskId → Reg → Reg → BitVec 16 → Instr) × Nat × (Nat → Word)) :=
  [ (.ldB, 1, fun x => BitVec.ofInt 64 (signedN 8 x)), (.ldBu, 1, fun x => BitVec.ofNat 64 x),
    (.ldH, 2, fun x => BitVec.ofInt 64 (signedN 16 x)), (.ldHu, 2, fun x => BitVec.ofNat 64 x),
    (.ldW, 4, fun x => BitVec.ofInt 64 (signedN 32 x)), (.ldWu, 4, fun x => BitVec.ofNat 64 x),
    (.ldD, 8, fun x => BitVec.ofNat 64 x) ]

/-- The local stores of R317 with their widths. -/
def resultsSt : List ((TaskId → Reg → Reg → BitVec 16 → Instr) × Nat) :=
  [(.stB, 1), (.stH, 2), (.stW, 4), (.stD, 8)]

/-- The global loads of R320. -/
def resultsGld : List ((TaskId → Reg → Reg → BitVec 16 → Instr) × Nat × (Nat → Word)) :=
  [ (.gldB, 1, fun x => BitVec.ofInt 64 (signedN 8 x)), (.gldBu, 1, fun x => BitVec.ofNat 64 x),
    (.gldH, 2, fun x => BitVec.ofInt 64 (signedN 16 x)), (.gldHu, 2, fun x => BitVec.ofNat 64 x),
    (.gldW, 4, fun x => BitVec.ofInt 64 (signedN 32 x)), (.gldWu, 4, fun x => BitVec.ofNat 64 x),
    (.gldD, 8, fun x => BitVec.ofNat 64 x) ]

/-- The global stores of R320 with their widths. -/
def resultsGst : List ((TaskId → Reg → Reg → BitVec 16 → Instr) × Nat) :=
  [(.gstB, 1), (.gstH, 2), (.gstW, 4), (.gstD, 8)]

/-- The atomics of R323: width, and the new value from the old one, gb and gd, all of that width. -/
def resultsA : List ((TaskId → Reg → Reg → Reg → Instr) × Nat × (Nat → Nat → Nat → Nat)) :=
  [ (.aaddW, 4, fun o b _ => (o + b) % 2 ^ 32), (.aaddD, 8, fun o b _ => (o + b) % 2 ^ 64),
    (.aswapW, 4, fun _ b _ => b), (.aswapD, 8, fun _ b _ => b),
    (.acasW, 4, fun o b d => if o = d then b else o), (.acasD, 8, fun o b d => if o = d then b else o) ]

/-! Safe states. -/

/-- Every byte memory is in its canonical form: addresses rise, no zero listed. -/
def State.memOk (s : State) : Prop :=
  memWf s.ms.mem ∧ memWf s.ms.mram ∧ memWf s.hpi.inbuf ∧ memWf s.hpi.outbuf ∧ memWf s.hpi.aper ∧ memWf s.hpi.staging

/-- A task's g0 holds zero (R286), and its program counter and its handler's address are multiples of 4 (R305, R290). -/
def Task.ok (k : Task) : Prop := k.regs[0] = 0 ∧ k.pc.toNat % 4 = 0 ∧ k.evec.toNat % 4 = 0

/-- Every task is sound, and so is the address at which START enters (R387). -/
def State.tasksOk (s : State) : Prop := (∀ x ∈ s.cpu.tasks, x.2.ok) ∧ s.pw.entry.toNat % 4 = 0

/-- A port that RFKILL_N, a booster fault or a lost lock holds does not transmit (R49, R53, R73), its booster is keyed
only with the booster's supply on, and only while it transmits or a running schedule is about to let it (R38, R39, R41), and no record
programs PROBE (R31, R33). -/
def Port.safe (q : Port) : Prop :=
  (q.killed = true ∨ q.bflt = true ∨ q.blank = true → q.tx ≠ .on ∧ q.tx ≠ .starting ∧ q.bkey = false)
    ∧ (q.bkey = true → q.ben = true ∧ (q.tx = .on ∨ (q.schedRun = true ∧ q.st ≠ .probe)))
    ∧ q.tune.state ≠ .probe ∧ (∀ r ∈ q.bankWait, r.state ≠ .probe) ∧ q.target ≠ some .probe

/-- Every port is safe, and RFKILL_N low holds every port (R48, R49). -/
def State.portsOk (s : State) : Prop :=
  (∀ p : PortId, s.ports[p].safe) ∧ (s.pwr.rfkill = true → ∀ p : PortId, s.ports[p].killed = true)

end Sys2Proof.Machine
end

