-- ==== Sys2Proof/Certificates/Slice0/Obligations.lean ====
section
/-! DEFINITION. The statements about the model, for the provers. -/

open Sys2Proof Sys2Proof.Machine

/-! The block: the queue of commands. -/

/-- A step with a command waiting is `exec` of the command at the front, on the state with the rest of the queue. -/
def Obligations.StepRunsFrontCommand : Prop :=
  ∀ (s : State) (c : Instr) (rest : List Instr), s.pending = c :: rest → step s = exec c { s with pending := rest }

/-- A step with no command waiting is one tick of the engine's own clock (the model's choice, log 5): in OFF nothing
changes; otherwise one ED cycle passes, but that a round boundary of a running filter engine is left to its command. -/
def IdleTick : Prop :=
  ∀ s : State, s.pending = [] →
    ∃ u, step s = .next u ∧ u.pending = [] ∧ u.pwr.mode = s.pwr.mode ∧
      (s.pwr.mode = .off → u = s) ∧
      (s.pwr.mode ≠ .off → s.roundsRun = true ∧ s.roundPos + 1 = roundLen → u.clk = s.clk) ∧
      (s.pwr.mode ≠ .off → ¬(s.roundsRun = true ∧ s.roundPos + 1 = roundLen) → u.clk.ed = s.clk.ed + 1)

/-- The words of programs (R305 to R309, R312, R314): the registers of formats A, I and B, the immediates, the shift field and the
opcodes of some groups; a nonzero shift field in a register-register instruction, and the all-zero word, are reserved. -/
def WordsOfPrograms : Prop :=
  ∀ (t : TaskId) (d a b : Reg) (i : BitVec 16),
    let r : Nat := d.val * 2 ^ 21 + a.val * 2 ^ 16
    (∀ e ∈ ([(0x00, .addR), (0x03, .subs), (0x0E, .maxS), (0x10, .andR), (0x18, .sra)]
        : List (Nat × (TaskId → Reg → Reg → Reg → Instr))),
      decodeWord t (0x01 * 2 ^ 26 + r + b.val * 2 ^ 11 + e.1) = some (e.2 t d a b) ∧
      decodeWord t (0x01 * 2 ^ 26 + r + b.val * 2 ^ 11 + 2 ^ 5 + e.1) = none) ∧
    (∀ n : Fin 64, decodeWord t (0x01 * 2 ^ 26 + r + n.val * 2 ^ 5 + 0x19) = some (.slli t d a n)) ∧
    (∀ e ∈ ([(0x04, .addi), (0x09, .sltiu), (0x16, .ldD), (0x18, .stB), (0x20, .gldB), (0x2B, .gstD), (0x3A, .jalr)]
        : List (Nat × (TaskId → Reg → Reg → BitVec 16 → Instr))),
      decodeWord t (e.1 * 2 ^ 26 + r + i.toNat) = some (e.2 t d a i)) ∧
    decodeWord t (0x30 * 2 ^ 26 + r + i.toNat) = some (.beq t d a i) ∧
    decodeWord t 0 = none

/-- A RUNNING task at a reserved encoding that it may fetch executes it (R307, case 5 of R301): its registers and its program
counter are free values, g0 zero and the counter a multiple of 4; nothing else changes but the count of free values. -/
def ReservedEncodingRuns : Prop :=
  ∀ (s : State) (t : TaskId) (k : Task) (c : Nat), s.runs t k c → s.fetchOk k.part k.pc = true → s.nextInstr t = none →
    ∃ k', s.runReserved t = { s with
        free := (s.runReserved t).free, cpu := { s.cpu with tasks := tblPut t.val k' s.cpu.tasks } } ∧
      k'.st = k.st ∧ k'.part = k.part ∧ k'.evec = k.evec ∧ k'.regs[0] = 0 ∧ k'.pc.toNat % 4 = 0

/-- A step with no command waiting is one tick of the engine's own clock (log 5); the words of programs spell their instructions, and
a task at a reserved encoding executes it (R305 to R309, R312, R314). -/
def Obligations.IdleStepTicksClock : Prop := IdleTick ∧ WordsOfPrograms ∧ ReservedEncodingRuns

/-- No command stops the engine, and none touches the queue of commands: what waits is what waited. -/
def Obligations.EveryCommandAnswersAndKeepsQueue : Prop :=
  ∀ (c : Instr) (s : State), ∃ u, exec c s = .next u ∧ u.pending = s.pending

/-! Register instructions (R286, R309 to R313). -/

/-- The 24 register-register instructions of R309 write the table's result to gd and go on at pc + 4; nothing else
changes but the performance counters. -/
def AluRegisterResults : Prop :=
  ∀ (s : State) (t : TaskId) (k : Task) (c : Nat) (gd ga gb : Reg), s.runs t k c → s.nextOk k →
    ∀ e ∈ resultsR, ∃ u, exec (e.1 t gd ga gb) s = .next u ∧ s.becomes u t (k.step gd (e.2 (k.get ga) (k.get gb)))

/-- The 14 register-register instructions of R311 operate on bits [31:0] and sign-extend their 32-bit result. -/
def AluWordResults : Prop :=
  ∀ (s : State) (t : TaskId) (k : Task) (c : Nat) (gd ga gb : Reg), s.runs t k c → s.nextOk k →
    ∀ e ∈ resultsW, ∃ u, exec (e.1 t gd ga gb) s = .next u ∧
      s.becomes u t (k.step gd (wide (e.2 (low (k.get ga)) (low (k.get gb)))))

/-- The shifts by a field and the immediate instructions (R309, R311, R312). -/
def ShiftAndImmediateResults : Prop :=
  ∀ (s : State) (t : TaskId) (k : Task) (c : Nat) (gd ga : Reg), s.runs t k c → s.nextOk k →
    (∀ (n : Fin 64), ∀ e ∈ resultsSh, ∃ u, exec (e.1 t gd ga n) s = .next u ∧
      s.becomes u t (k.step gd (e.2 (k.get ga) n))) ∧
    (∀ (n : Fin 32), ∀ e ∈ resultsShW, ∃ u, exec (e.1 t gd ga n) s = .next u ∧
      s.becomes u t (k.step gd (wide (e.2 (low (k.get ga)) n)))) ∧
    (∀ (i : BitVec 16), ∀ e ∈ resultsI, ∃ u, exec (e.1 t gd ga i) s = .next u ∧
      s.becomes u t (k.step gd (e.2 (k.get ga) i)))

/-- The register-register, shift and immediate instructions (R309 to R312) write their table's result to gd and go on at
pc + 4; nothing else changes but the performance counters. -/
def Obligations.RegisterInstructionResults : Prop := AluRegisterResults ∧ AluWordResults ∧ ShiftAndImmediateResults

/-- The performance counters of a completed register-register instruction (R526): an issue cycle of a worker core, the
instruction of a tenant or of the Warden, and the worker context; no other counter. -/
def Obligations.InstructionCounters : Prop :=
  ∀ (s : State) (t : TaskId) (k : Task) (c : Nat) (gd ga gb : Reg), s.runs t k c → s.nextOk k → c < 36 →
    s.pwr.mode ≠ .off → s.pwr.mode ≠ .reset →
    ∀ e ∈ resultsR, ∃ u, exec (e.1 t gd ga gb) s = .next u ∧
      ∀ n, tblGet 0 n u.obs.counters = tblGet 0 n s.obs.counters
        + (if k.part ≠ 0 ∧ n = 0 then 1 else 0)
        + (if n = (if k.part = 0 then 2 else 1) then 1 else 0)
        + (if c < 32 ∧ n = 16 + c then 1 else 0)

/-! Branches and jumps (R313 to R315). -/

/-- A branch goes on at pc + sext(off16) × 4 if its condition holds, else at pc + 4; a jump at its target; jal and jalr
write the address of the next instruction to their link register. -/
def Obligations.BranchAndJumpTargets : Prop :=
  ∀ (s : State) (t : TaskId) (k : Task) (c : Nat), s.runs t k c →
    (∀ (ga gb : Reg) (off : BitVec 16), ∀ e ∈ resultsB,
      let to' : Word := if e.2 (k.get ga) (k.get gb) then k.pc + BitVec.ofInt 64 (4 * off.toInt) else k.pc + 4
      s.fetchClean k.part to' →
        ∃ u, exec (e.1 t ga gb off) s = .next u ∧ s.becomes u t { k with pc := to' }) ∧
    (∀ (off : BitVec 26),
      let to' : Word := k.pc + BitVec.ofInt 64 (4 * off.toInt)
      s.fetchClean k.part to' →
        (∃ u, exec (.j t off) s = .next u ∧ s.becomes u t { k with pc := to' }) ∧
        (∃ u, exec (.jal t off) s = .next u ∧ s.becomes u t { k.put 31 (k.pc + 4) with pc := to' })) ∧
    (∀ (gd ga : Reg) (imm : BitVec 16),
      let to' : Word := (k.get ga + BitVec.ofInt 64 imm.toInt) &&& ~~~3#64
      s.fetchClean k.part to' →
        ∃ u, exec (.jalr t gd ga imm) s = .next u ∧ s.becomes u t { k.put gd (k.pc + 4) with pc := to' })

/-- A jump to an address outside the partition's rights raises FETCH (R293, R315, R297): with a handler that may be
fetched the task continues there, SW.EXC_PC and SW.EXC_ADDR both hold the target, and the violation word counts kind
0x08. -/
def JumpRaisesFetch : Prop :=
  ∀ (s : State) (t : TaskId) (k : Task) (c : Nat) (off : BitVec 26), s.runs t k c → t.val ∉ s.cpu.ready →
    let to' : Word := k.pc + BitVec.ofInt 64 (4 * off.toInt)
    s.allocatedRange k.part to'.toNat 4 = false → k.evec ≠ 0 → k.active = false → s.fetchOk k.part k.evec = true →
      ∃ u, exec (.j t off) s = .next u ∧
        u.task? t = some { k with cause := 1, excPc := to', excAddr := to', active := true, pc := k.evec } ∧
        u.parts[k.part].lastK = 8 ∧
        u.parts[k.part].viol = (if s.parts[k.part].viol = 0xFFFFFFFF then 0xFFFFFFFF else s.parts[k.part].viol + 1)

/-! Local memory (R316 to R319, R326, R381). -/

/-- A local load of allocated, sound bytes puts their value into gd, the task's own stores included; besides the page's heat, what
tasks know of one another and the counters nothing changes, and every byte of memory stays. What a task not yet joined has stored
there with no fence since is a free value (case 11 of R301), and a load of bytes on which a global store of the task is
under way waits (R325). -/
def Obligations.LocalLoadResults : Prop :=
  ∀ (s : State) (t : TaskId) (k : Task) (c : Nat) (gd ga : Reg) (imm : BitVec 16), s.runs t k c → s.nextOk k →
    ∀ e ∈ resultsLd,
      let ea := localEA k ga imm
      s.localOk k.part ea e.2.1 = true →
        (s.postedHere t k.part ea.toNat e.2.1 = false → s.sound k.part ea.toNat e.2.1 →
          (s.unjoined t k.part (memKey k.part ea.toNat) e.2.1 = false →
            ∃ u, exec (e.1 t gd ga imm) s = .next u ∧
              ({ s with ms := { s.ms with pages := u.ms.pages } }.knowing u).becomes u t
                (k.step gd (e.2.2 (bytesToNat (s.readLocal k ea.toNat e.2.1)))) ∧
              u.ms.pages.map (fun p => { p with heat := 0 }) = s.ms.pages.map (fun p => { p with heat := 0 }) ∧ s.sameMem u) ∧
          (s.unjoined t k.part (memKey k.part ea.toNat) e.2.1 = true →
            ∃ u x, exec (e.1 t gd ga imm) s = .next u ∧ u.task? t = some (k.step gd (e.2.2 x)) ∧ x < 256 ^ e.2.1 ∧
              s.sameMem u)) ∧
        (s.postedHere t k.part ea.toNat e.2.1 = true → t.val ∉ s.cpu.ready →
          ∃ u, exec (e.1 t gd ga imm) s = .next u ∧ u.task? t = some { k with st := .waiting (.retry false) })

/-- A local store of allocated bytes enters the task's store queue, a misaligned one as its two aligned parts (R318, R319); memory and
the other tasks do not see it yet, and the task's own view of its memory takes the low bytes of gd at the effective address and
nowhere else. It waits while a global store of the task to those bytes is under way (R325). -/
def Obligations.LocalStoreEntersQueue : Prop :=
  ∀ (s : State) (t : TaskId) (k : Task) (c : Nat) (gd ga : Reg) (imm : BitVec 16), s.runs t k c → s.nextOk k →
    ∀ e ∈ resultsSt,
      let ea := (localEA k ga imm).toNat
      s.localOk k.part (localEA k ga imm) e.2 = true →
        (s.postedHere t k.part ea e.2 = false →
          ∃ u k', exec (e.1 t gd ga imm) s = .next u ∧ (s.knowing u).becomes u t k' ∧
            k' = { k with sq := k.sq ++ storeParts ea e.2 (k.get gd), pc := k.pc + 4 } ∧
            (∀ i, i < e.2 → u.readByte k' (ea + i) = BitVec.ofNat 8 ((k.get gd).toNat / 256 ^ i)) ∧
            (∀ a, a < ea ∨ ea + e.2 ≤ a → u.readByte k' a = s.readByte k a) ∧ s.sameMem u) ∧
        (s.postedHere t k.part ea e.2 = true → t.val ∉ s.cpu.ready →
          ∃ u, exec (e.1 t gd ga imm) s = .next u ∧ u.task? t = some { k with st := .waiting (.retry false) })

/-- fence.l with a store queue that may drain, whose stores reach no keep page and no page with replicas, stores it (R319, R326):
every byte of the partition's memory then reads as the task saw it, every byte below the partition's memory is unchanged, and
the task goes on with an empty queue. -/
def Obligations.LocalFenceStoresQueue : Prop :=
  ∀ (s : State) (t : TaskId) (k : Task) (c : Nat), s.runs t k c → s.nextOk k → memWf s.ms.mem = true →
    (∀ e ∈ k.sq, ∀ a, e.va / 64 * 64 ≤ a → a ≤ e.va + (e.bytes - 1) → ∀ p, s.pageAt k.part a = some p →
      p.keep = false ∧ tblFind (memKey k.part p.va) s.ms.directory = none) →
      ∃ u, exec (.fenceL t) s = .next u ∧ u.task? t = some { k with sq := [], pc := k.pc + 4 } ∧
        (∀ va, memRead (memKey k.part va) u.ms.mem = s.readByte k va) ∧
        (∀ a, a < memKey k.part 0 → memRead a u.ms.mem = memRead a s.ms.mem)

/-- A local access beyond the partition's pages is a violation of kind 0x01 (R298, R318): a load's gd takes zero, a store
stores no byte, and the program goes on at pc + 4. -/
def LocalAccessBeyondRights : Prop :=
  ∀ (s : State) (t : TaskId) (k : Task) (c : Nat) (gd ga : Reg) (imm : BitVec 16), s.runs t k c → s.nextOk k →
    (∀ e ∈ resultsLd, s.localOk k.part (localEA k ga imm) e.2.1 = false →
      ∃ u, exec (e.1 t gd ga imm) s = .next u ∧ s.violates u t (k.step gd 0) 1) ∧
    (∀ e ∈ resultsSt, s.localOk k.part (localEA k ga imm) e.2 = false →
      ∃ u, exec (e.1 t gd ga imm) s = .next u ∧ s.violates u t { k with pc := k.pc + 4 } 1)

/-- A local load of a poisoned block raises ECC (R297, R381), and so does one that meets an error which neither its code nor a sound
MRAM copy repairs. With a handler and ACTIVE at 0 the task continues at the
handler with ACTIVE set; without one, or with ACTIVE at 1, it ends with the exit value of R352, NEST set if ACTIVE was
1. CAUSE, SW.EXC_PC and SW.EXC_ADDR hold the cause, the load's address and the effective address. -/
def PoisonedLoadRaisesEcc : Prop :=
  ∀ (s : State) (t : TaskId) (k : Task) (c : Nat) (gd ga : Reg) (imm : BitVec 16), s.runs t k c → t.val ∉ s.cpu.ready →
    ∀ e ∈ resultsLd,
      let ea := localEA k ga imm
      s.localOk k.part ea e.2.1 = true → s.postedHere t k.part ea.toNat e.2.1 = false → s.badRead k.part ea.toNat e.2.1 = true →
        (k.evec ≠ 0 → k.active = false → s.flawsAt false (memKey k.part ea.toNat) e.2.1 = [] → s.fetchOk k.part k.evec = true →
          ∃ u, exec (e.1 t gd ga imm) s = .next u ∧
            u.task? t = some { k with cause := 2, excPc := k.pc, excAddr := ea, active := true, pc := k.evec }) ∧
        (k.evec = 0 ∨ k.active = true → (∀ x ∈ s.cpu.tasks, ∀ gd gb h, x.2.st ≠ .waiting (.join gd gb h)) →
          ∃ u, exec (e.1 t gd ga imm) s = .next u ∧
            u.task? t = some { k with
              cause := 2, excPc := k.pc, excAddr := ea, nest := k.nest || k.active, st := .done 0xFFFFFFFFFFFFFF02 })

/-! Global memory (R320 to R327). -/

/-- The access `ref` of `n` bytes by task `t` is served at this node at once: in the partition, aligned, with this node as home,
nothing of the task's queued before it or posted there, a free tag, and sound allocated bytes (R321, R325). -/
def ServedHere (s : State) (t : TaskId) (k : Task) (ref : Word) (n : Nat) : Prop :=
  (k.part = 0 ∨ refPart ref = k.part) ∧ refVa ref % n = 0 ∧ s.isHere (refNode ref) = true ∧ k.sq = [] ∧
    s.postedAt t ref = false ∧ s.freeTag.isSome = true ∧ s.allocatedRange (refPart ref) (refVa ref) n = true ∧
    s.sound (refPart ref) (refVa ref) n

/-- A store or atomic of `n` bytes need not wait at this home (R367, R373). -/
def StoresNow (s : State) (ref : Word) (n : Nat) : Prop :=
  s.storeBlocked (refPart ref) { va := refVa ref, bytes := n, value := 0 } = false ∧ s.ms.homeWait = []

/-- Global loads, stores and atomics of this node's own memory (R320 to R325): a load's gd takes the extended bytes; a
store writes the low bytes of gd at the reference; an atomic writes its new value there and gd takes the old one,
sign-extended for the 32-bit forms. Every byte outside the reference's `n` stays, and no tag is left outstanding. -/
def Obligations.GlobalAccessAtHome : Prop :=
  ∀ (s : State) (t : TaskId) (k : Task) (c : Nat) (gd ga gb : Reg) (imm : BitVec 16), s.runs t k c → s.nextOk k →
    memWf s.ms.mem = true →
    (∀ e ∈ resultsGld,
      let ref := refAdd (k.get ga) imm
      let a := memKey (refPart ref) (refVa ref)
      ServedHere s t k ref e.2.1 → s.unjoined t k.part a e.2.1 = false →
        ∃ u, exec (e.1 t gd ga imm) s = .next u ∧
          ({ s with ms := { s.ms with pages := u.ms.pages }, fab := { s.fab with tags := u.fab.tags } }.knowing u).becomes u t
            ({ k with gseq := k.gseq + 1 }.step gd (e.2.2 (bytesToNat (memBytes s.ms.mem a e.2.1)))) ∧ s.sameMem u) ∧
    (∀ e ∈ resultsGst,
      let ref := refAdd (k.get ga) imm
      let a := memKey (refPart ref) (refVa ref)
      ServedHere s t k ref e.2 → StoresNow s ref e.2 →
        ∃ u, exec (e.1 t gd ga imm) s = .next u ∧
          ({ s with ms := u.ms, fab := { s.fab with tags := u.fab.tags } }.knowing u).becomes u t
            { k with gseq := k.gseq + 1, pc := k.pc + 4 } ∧
          (∀ i, i < e.2 → memRead (a + i) u.ms.mem = BitVec.ofNat 8 ((k.get gd).toNat / 256 ^ i)) ∧
          s.sameMemBut u a e.2) ∧
    (∀ e ∈ resultsA,
      let ref := k.get ga
      let a := memKey (refPart ref) (refVa ref)
      let n := e.2.1
      let old := bytesToNat (memBytes s.ms.mem a n)
      ServedHere s t k ref n → StoresNow s ref n →
        ∃ u, exec (e.1 t gd ga gb) s = .next u ∧
          ({ s with ms := u.ms, fab := { s.fab with tags := u.fab.tags } }.knowing u).becomes u t
            ({ k with gseq := k.gseq + 1 }.step gd (BitVec.ofInt 64 (if n = 4 then signedN 32 old else (old : Int)))) ∧
          bytesToNat (memBytes u.ms.mem a n) = e.2.2 old ((k.get gb).toNat % 2 ^ (8 * n)) ((k.get gd).toNat % 2 ^ (8 * n)) ∧
          s.sameMemBut u a n)

/-- A global access whose home is another node (R214, R321, R322): a request with the reference, width, tag and deadline
is queued at priority 5 on every chain port that carries cells and whose queue is not full (R216); a load or atomic waits for its
response, and a store, posted, goes on. An access to a location on which a posted store of the task is under way waits (R325), and
so does one that finds no free tag (R321). -/
def Obligations.GlobalAccessAway : Prop :=
  ∀ (s : State) (t : TaskId) (k : Task) (c : Nat) (gd ga gb : Reg) (imm : BitVec 16) (i : Nat), s.runs t k c →
    s.nextOk k → t.val ∉ s.cpu.ready → s.fab.addr.isSome = true → s.fab.noAddr = false →
    let away (ref : Word) (n : Nat) : Prop :=
      (k.part = 0 ∨ refPart ref = k.part) ∧ refVa ref % n = 0 ∧ s.isHere (refNode ref) = false ∧
        s.reachable (refNode ref) = true
    let goes (ref : Word) (n : Nat) : Prop := away ref n ∧ s.postedAt t ref = false ∧ s.freeTag = some i
    let sent (u : State) (ref : Word) (n : Nat) (op : Fin 5) : Prop :=
      ∀ l ∈ s.openPorts, s.queueFull l = false → ∃ p ∈ u.fab.out, ∃ q, p.link = l ∧ p.dst = refNode ref ∧ p.pri = 5 ∧ p.typ = 0 ∧
        p.body = .request q ∧ q.ref = ref ∧ q.bytes = n ∧ q.op = op ∧ q.tag.val = i ∧
        q.deadline = s.fabNs + s.fab.tto * 1000
    let waits (ref : Word) (n : Nat) (tag : Bool) : Prop :=
      away ref n ∧ (if tag then s.postedAt t ref = false ∧ s.freeTag = none else s.postedAt t ref = true)
    (∀ e ∈ resultsGld, goes (refAdd (k.get ga) imm) e.2.1 → s.replicaOf (refAdd (k.get ga) imm) = none →
      ∃ u sg, exec (e.1 t gd ga imm) s = .next u ∧ sent u (refAdd (k.get ga) imm) e.2.1 0 ∧
        u.task? t = some { k with gseq := k.gseq + 1, st := .waiting (.tag i gd e.2.1 sg) }) ∧
    (∀ e ∈ resultsA, goes (k.get ga) e.2.1 →
      ∃ u sg op, exec (e.1 t gd ga gb) s = .next u ∧ sent u (k.get ga) e.2.1 op ∧
        u.task? t = some { k with gseq := k.gseq + 1, st := .waiting (.tag i gd e.2.1 sg) }) ∧
    (∀ e ∈ resultsGst, goes (refAdd (k.get ga) imm) e.2 →
      ∃ u, exec (e.1 t gd ga imm) s = .next u ∧ sent u (refAdd (k.get ga) imm) e.2 1 ∧
        u.task? t = some { k with gseq := k.gseq + 1, pc := k.pc + 4 }) ∧
    (∀ tag : Bool,
      (∀ e ∈ resultsGld, waits (refAdd (k.get ga) imm) e.2.1 tag →
        ∃ u, exec (e.1 t gd ga imm) s = .next u ∧ u.task? t = some { k with st := .waiting (.retry tag) }) ∧
      (∀ e ∈ resultsA, waits (k.get ga) e.2.1 tag →
        ∃ u, exec (e.1 t gd ga gb) s = .next u ∧ u.task? t = some { k with st := .waiting (.retry tag) }) ∧
      (∀ e ∈ resultsGst, waits (refAdd (k.get ga) imm) e.2 tag →
        ∃ u, exec (e.1 t gd ga imm) s = .next u ∧ u.task? t = some { k with st := .waiting (.retry tag) }))

/-- A global access beyond the issuing partition is a violation of kind 0x01 (R299, R321), whatever node it names. -/
def GlobalAccessBeyondPartition : Prop :=
  ∀ (s : State) (t : TaskId) (k : Task) (c : Nat) (gd ga gb : Reg) (imm : BitVec 16), s.runs t k c → s.nextOk k →
    k.part ≠ 0 →
    (refPart (refAdd (k.get ga) imm) ≠ k.part →
      (∀ e ∈ resultsGld, ∃ u, exec (e.1 t gd ga imm) s = .next u ∧ s.violates u t (k.step gd 0) 1) ∧
      (∀ e ∈ resultsGst, ∃ u, exec (e.1 t gd ga imm) s = .next u ∧ s.violates u t { k with pc := k.pc + 4 } 1)) ∧
    (refPart (k.get ga) ≠ k.part →
      ∀ e ∈ resultsA, ∃ u, exec (e.1 t gd ga gb) s = .next u ∧ s.violates u t (k.step gd 0) 1)

/-! Fences, the end of a task, the exception words and the system words (R287 to R291, R326 to R331, R352). -/

/-- With nothing of the task outstanding, fence.g, fence.i, yield and time go on at pc + 4 (R327, R328, R352, R353), and
exit ends the task with ga as its exit value; time puts fabric time in ns into gd. -/
def Obligations.FencesYieldTimeExit : Prop :=
  ∀ (s : State) (t : TaskId) (k : Task) (c : Nat) (gd ga : Reg), s.runs t k c → s.nextOk k → t.val ∉ s.cpu.ready →
    k.sq = [] → s.outstanding t = false → k.gerr = none →
    (∃ u, exec (.fenceG t) s = .next u ∧
      ({ s with ms := { s.ms with shown := u.ms.shown } }.knowing u).becomes u t { k with pc := k.pc + 4 }) ∧
    (∃ u, exec (.fenceI t) s = .next u ∧ s.becomes u t { k with pc := k.pc + 4 }) ∧
    (∃ u, exec (.timeT t gd) s = .next u ∧ s.becomes u t (k.step gd (BitVec.ofNat 64 (s.clk.fab / 65536)))) ∧
    (∃ u k', exec (.yieldT t) s = .next u ∧ u.task? t = some k' ∧ k'.regs = k.regs ∧ k'.pc = k.pc + 4 ∧
      (k'.st = .ready ∨ ∃ c', k'.st = .running c')) ∧
    ((∀ x ∈ s.cpu.tasks, ∀ gd gb h, x.2.st ≠ .waiting (.join gd gb h)) →
      ∃ u, exec (.exitT t ga) s = .next u ∧ u.task? t = some { k with st := .done (k.get ga) })

/-- A posted store that failed is raised at the task's next fence.g (R295, R322): the exception has the store's cause and
reference and the address of the fence, and the pending error is gone. -/
def PostedStoreErrorAtFence : Prop :=
  ∀ (s : State) (t : TaskId) (k : Task) (c : Nat) (e : StoreError), s.runs t k c → t.val ∉ s.cpu.ready →
    k.sq = [] → s.outstanding t = false → k.gerr = some e → e.cause ≠ 5 → k.evec ≠ 0 → k.active = false →
    s.fetchOk k.part k.evec = true →
      ∃ u, exec (.fenceG t) s = .next u ∧
        u.task? t = some { k with
          gerr := none, cause := e.cause, excPc := k.pc, excAddr := e.addr, active := true, pc := k.evec }

/-- Taking an exception (R293 to R297, R315, R322, R352, R381): a jump beyond the partition's rights raises FETCH, a load of a
poisoned block ECC, a failed posted store its cause at the next fence.g. -/
def Obligations.ExceptionsTaken : Prop := JumpRaisesFetch ∧ PoisonedLoadRaisesEcc ∧ PostedStoreErrorAtFence

/-- A handler returns (R290): RET clears ACTIVE and the task resumes at SW.EXC_PC; no message of it is in handling any
more. -/
def HandlerReturn : Prop :=
  ∀ (s : State) (t : TaskId) (k : Task) (c : Nat), s.runs t k c → s.fetchClean k.part (k.excPc &&& ~~~3#64) →
    ∃ u, exec (.excRet t) s = .next u ∧
      ({ s with obs := { s.obs with handling := tblDel t.val s.obs.handling } }).becomes u t
        { k with active := false, pc := k.excPc &&& ~~~3#64 }

/-- sysr of the task words and SW.VIOL (R289 to R291, R330): gd takes the word. -/
def SysrTaskWords : Prop :=
  ∀ (s : State) (t : TaskId) (k : Task) (c : Nat) (gd ga : Reg), s.runs t k c → s.nextOk k →
    ∀ e ∈ ([ (0x000, c + 2 ^ 8 * k.part.val + 2 ^ 16 * t.val + 2 ^ 32 * (s.fab.addr.getD 2046).toNat),
             (0x001, k.cause.toNat + (if k.active then 2 ^ 8 else 0) + (if k.nest then 2 ^ 9 else 0)),
             (0x002, k.excPc.toNat), (0x003, k.excAddr.toNat), (0x004, k.evec.toNat),
             (0x010, s.parts[k.part].viol.toNat + 2 ^ 32 * s.parts[k.part].lastK.toNat) ] : List (Nat × Nat)),
      (k.get ga).toNat % 4096 = e.1 →
        ∃ u, exec (.sysr t gd ga) s = .next u ∧ s.becomes u t (k.step gd (BitVec.ofNat 64 e.2))

/-- sysw of the exception words and of three Warden words (R214, R290, R330, R387, R455): the word takes gd, SW.EVEC with
bits [1:0] cleared, SW.FAB_TTO held between 100 and 100,000 µs. -/
def SyswWords : Prop :=
  ∀ (s : State) (t : TaskId) (k : Task) (c : Nat) (gd ga : Reg), s.runs t k c → s.nextOk k →
    ((k.get ga).toNat % 4096 = 0x002 →
      ∃ u, exec (.sysw t gd ga) s = .next u ∧ s.becomes u t { k with excPc := k.get gd, pc := k.pc + 4 }) ∧
    ((k.get ga).toNat % 4096 = 0x004 →
      ∃ u, exec (.sysw t gd ga) s = .next u ∧ s.becomes u t { k with evec := k.get gd &&& ~~~3#64, pc := k.pc + 4 }) ∧
    (k.part = 0 → (k.get ga).toNat % 4096 = 0x1A1 →
      ∃ u, exec (.sysw t gd ga) s = .next u ∧
        ({ s with fab := { s.fab with tto := max 100 (min 100000 ((k.get gd).toNat % 2 ^ 24)) } }).becomes u t
          { k with pc := k.pc + 4 }) ∧
    (k.part = 0 → (k.get ga).toNat % 4096 = 0x1D1 →
      ∃ u, exec (.sysw t gd ga) s = .next u ∧
        ({ s with pwr := { s.pwr with tmr := k.get gd } }).becomes u t { k with pc := k.pc + 4 })

/-- sysr and sysw of the words named, and the return of a handler (R214, R289 to R291, R330, R387, R455). -/
def Obligations.SystemWordsAndHandlerReturn : Prop := SysrTaskWords ∧ SyswWords ∧ HandlerReturn

/-- A tenant's access to a Warden word is a violation of kind 0x02 (R288, R299): sysr puts zero into gd, sysw writes
nothing. -/
def TenantWardenWordViolates : Prop :=
  ∀ (s : State) (t : TaskId) (k : Task) (c : Nat) (gd ga : Reg), s.runs t k c → s.nextOk k → k.part ≠ 0 →
    wardenWord ((k.get ga).toNat % 4096) = true → tenantWord ((k.get ga).toNat % 4096) = false →
      (∃ u, exec (.sysr t gd ga) s = .next u ∧ s.violates u t (k.step gd 0) 2) ∧
      (∃ u, exec (.sysw t gd ga) s = .next u ∧ s.violates u t { k with pc := k.pc + 4 } 2)

/-! Channels (R81 to R113, R335 to R345). -/

/-- ch.set of a setting with numeric limits, outside a fade (R337, R338): it returns OK, the committed settings stay,
and the task's pending set ends with the field of gb, held between the limits. -/
def ChSetHoldsValueInLimits : Prop :=
  ∀ (s : State) (t : TaskId) (k : Task) (c : Nat) (gd ga gb : Reg) (n : Nat), s.onChan t k c ga n →
    (s.slot n).fade = none →
    ∀ e ∈ ([ (0x06, 17, 16, 65536), (0x08, 5, 10, 20), (0x10, 16, 0, 950), (0x11, 16, 0, 950), (0x14, 16, 80, 400),
             (0x15, 16, 0, 950), (0x16, 16, 0, 950), (0x28, 16, 30, 120), (0x29, 16, 10, 100), (0x2A, 16, 30, 300),
             (0x2B, 16, 1, 10000), (0x2C, 16, 1, 600), (0x2D, 16, 10, 60000), (0x31, 12, 1, 4000),
             (0x32, 22, 0, 3932160), (0x34, 16, 30, 200), (0x35, 13, 16, 4096) ] : List (BitVec 6 × Nat × Nat × Nat)),
      ∃ u p l, exec (.chSet t gd ga gb e.1) s = .next u ∧
        (s.setSlot n { s.slot n with pend := some p }).becomes u t (k.step gd 1) ∧ p.task = t ∧
        p.vals = l ++ [(e.1.toNat, ((max e.2.2.1 (min e.2.2.2 ((k.get gb).toNat % 2 ^ e.2.1)) : Nat) : Int))] ∧
        (∀ q, (s.slot n).pend = some q → q.task = t → l = q.vals.filter fun v => v.1 ≠ e.1.toNat)

/-- ch.get and ch.meas return OK and, in gb, a setting in force or the state code (R107, R337), or an item: state,
engine cost, and −2^31 for an item that is not listed (R343); nothing else changes. -/
def ChGetAndMeasResults : Prop :=
  ∀ (s : State) (t : TaskId) (k : Task) (c : Nat) (gd ga gb : Reg) (n : Nat), s.onChan t k c ga n →
    (∃ u, exec (.chGet t gd ga gb 0x3F) s = .next u ∧
      s.becomes u t (k.step2 gd gb 1 (BitVec.ofNat 64 (s.slot n).code))) ∧
    (∀ e ∈ ([ (0x00, (s.slot n).set.filt.profile.setWidth 64), (0x01, BitVec.ofNat 64 (s.slot n).set.filt.centre),
              (0x10, BitVec.ofInt 64 (s.slot n).set.gain.gmax), (0x2D, BitVec.ofNat 64 (s.slot n).set.guard.hold) ]
              : List (BitVec 6 × Word)),
      ∃ u, exec (.chGet t gd ga gb e.1) s = .next u ∧ s.becomes u t (k.step2 gd gb 1 e.2)) ∧
    (∀ e ∈ ([(0x00, ((s.slot n).code : Int)), (0x01, ((s.slot n).cost : Int)), (0xFF, -2147483648)] : List (Nat × Int)),
      (k.get gb).toNat % 256 = e.1 →
        ∃ u, exec (.chMeas t gd ga gb) s = .next u ∧
          s.becomes u t (k.step2 gd gb 1 ((BitVec.ofInt 32 e.2).signExtend 64)))

/-- ch.set, ch.get and ch.meas (R107, R337, R338, R343). -/
def Obligations.SettingsWrittenAndRead : Prop := ChSetHoldsValueInLimits ∧ ChGetAndMeasResults

/-- An instruction on an invalid handle is a violation of kind 0x03 (R281, R299), whatever it would do. -/
def InvalidHandleViolates : Prop :=
  ∀ (s : State) (t : TaskId) (k : Task) (c : Nat) (gd ga gb : Reg) (n : BitVec 6), s.runs t k c → s.nextOk k →
    s.inWatch = false → s.chan k.part (k.get ga) = none →
    (∀ i ∈ ([.chSet t gd ga gb n, .chCommitCut t gd ga, .chCommitFade t gd ga, .chFree t gd ga, .chMute t gd ga,
             .chUnmute t gd ga, .chArm t gd ga, .chProbe t gd ga 0] : List Instr),
      ∃ u, exec i s = .next u ∧ s.violates u t (k.step gd 0) 3) ∧
    (∀ i ∈ ([.chGet t gd ga gb n, .chMeas t gd ga gb] : List Instr),
      ∃ u, exec i s = .next u ∧ s.violates u t (k.step2 gd gb 0 0) 3)

/-- Violations (R281, R288, R291, R298, R299, R318, R321): a local access beyond the partition's pages and a global one beyond
the partition count kind 0x01, a tenant's access to a Warden word kind 0x02, an instruction on an invalid handle kind 0x03;
a result is zero, nothing is stored, and the program goes on. -/
def Obligations.ViolationsCountAndGoOn : Prop :=
  LocalAccessBeyondRights ∧ GlobalAccessBeyondPartition ∧ TenantWardenWordViolates ∧ InvalidHandleViolates

/-- A commit of a channel that is not FADING, whose settings are covered and whose costs fit, and that needs no lane
blocks, returns OK (R103, R338, R340): it consumes the task's pending set and waits for the round boundary, as a cut where the
channel is not one that fades (R105), and with its lane's profile where it is a member of one (R225); the committed settings stay
until then, and an anchor's commit tells the head of its CEIL and LDEL (R226). Where an earlier commit of another task is not ordered
before it (R345), what waits is covered and fits, and nothing more is said (case 2 of R301; log 8). -/
def CommitAdmitted : Prop :=
  ∀ (s : State) (t : TaskId) (k : Task) (c : Nat) (gd ga : Reg) (n : Nat), s.onChan t k c ga n →
    s.inWatch = false → s.dozing = false →
    ∀ e ∈ ([(.chCommitCut, false), (.chCommitFade, true)] : List ((TaskId → Reg → Reg → Instr) × Bool)),
      let x := s.slot n
      let r := x.laneProfile (x.request t e.2)
      x.fade = none → s.covered r.set = true → s.cfeFits n r = true → s.canFits n r = true → x.needsLane r = false →
        (s.unordered t.val n = false →
          ∃ u q, exec (e.1 t gd ga) s = .next u ∧
            ({ s with
                rad := { s.rad with
                  slots := tblPut n { x with pend := q, req := some (x.settledFade r), commits := x.commits + 1 } s.rad.slots
                  roundQ := s.rad.roundQ ++ [RoundOp.commit n], plan := tblPut n r.set s.rad.plan }
                fab := { s.fab with
                  asks := s.fab.asks ++ if x.tellsHead r then [s.laneRequest n r.set false] else [] } }.knowing u).becomes u t
              (k.step gd 1) ∧
            (∀ p, q = some p → x.pend = some p ∧ p.task ≠ t.val) ∧ (∀ p, x.pend = some p → p.task ≠ t.val → q = some p)) ∧
        (s.unordered t.val n = true →
          ∃ u m, exec (e.1 t gd ga) s = .next u ∧ u.task? t = some (k.step gd 1) ∧ (u.slot n).req = some m ∧
            s.commitCode n m = 1 ∧ m.task = t.val ∧ (u.slot n).set = x.set ∧
            u.rad.roundQ = s.rad.roundQ ++ [RoundOp.commit n] ∧ (∀ i, i ≠ n → u.slot i = s.slot i))

/-- A commit is refused with BUSY_FADE while the channel fades, else with CHARTER where no entitlement covers the
settings, else with NO_BUDGET where a cost does not fit (R340, R294): no slot and no waiting operation changes. A member that needs
lane blocks is charged and covered for the anchor's profile, once the head has answered, unless no profile could be covered (R184,
R225); a commit that needs lane blocks
waits for the head, or is refused with NO_BUDGET where there is none and no election runs (R207). -/
def CommitRefusals : Prop :=
  ∀ (s : State) (t : TaskId) (k : Task) (c : Nat) (gd ga : Reg) (n : Nat), s.onChan t k c ga n →
    s.inWatch = false → s.dozing = false →
    ∀ e ∈ ([(.chCommitCut, false), (.chCommitFade, true)] : List ((TaskId → Reg → Reg → Instr) × Bool)),
      let x := s.slot n
      let r := x.laneProfile (x.request t e.2)
      let asks := r.set.member && x.needsLane r
      let may := if asks then s.coverable r.set else s.covered r.set
      let refused (code : Word) : Prop := ∃ u, exec (e.1 t gd ga) s = .next u ∧ u.task? t = some (k.step gd code) ∧
        u.rad.slots = s.rad.slots ∧ u.rad.roundQ = s.rad.roundQ ∧ u.rad.plan = s.rad.plan
      (x.fade.isSome = true → refused 5) ∧
      (x.fade = none → may = false → refused 4) ∧
      (x.fade = none → asks = false → s.covered r.set = true → (s.cfeFits n r = false ∨ s.canFits n r = false) → refused 3) ∧
      (x.fade = none → x.needsLane r = true → may = true → asks = true ∨ s.commitCode n r = 1 →
        (s.fab.headless = true → s.fab.elect = false → refused 3) ∧
        (s.fab.headless = false ∨ s.fab.elect = true → t.val ∉ s.cpu.ready →
          ∃ u, exec (e.1 t gd ga) s = .next u ∧ u.task? t = some { k with st := .waiting (.commit gd n e.2 s.newDeadline) } ∧
            u.rad.slots = s.rad.slots ∧ u.fab.asks = s.fab.asks ++ [s.laneRequest n r.set false]))

/-- ch.commit (R103, R294, R338, R340): admitted, the set waits for the round boundary; refused, nothing changes. -/
def Obligations.CommitAdmission : Prop := CommitAdmitted ∧ CommitRefusals

/-- ch.mute, ch.unmute and ch.arm queue their operation for the round boundary and return OK (R110, R173, R341); ch.arm on
a channel that is not FENCED returns OK with no effect. -/
def Obligations.MuteUnmuteArmQueue : Prop :=
  ∀ (s : State) (t : TaskId) (k : Task) (c : Nat) (gd ga : Reg) (n : Nat), s.onChan t k c ga n →
    s.inWatch = false → s.dozing = false →
    let queued (i : Instr) (o : RoundOp) : Prop := ∃ u, exec i s = .next u ∧
      ({ s with rad := { s.rad with roundQ := s.rad.roundQ ++ [o] } }).becomes u t (k.step gd 1)
    queued (.chMute t gd ga) (.mute n) ∧ queued (.chUnmute t gd ga) (.unmute n) ∧
    ((s.slot n).code ≠ 7 → ∃ u, exec (.chArm t gd ga) s = .next u ∧ s.becomes u t (k.step gd 1)) ∧
    ((s.slot n).code = 7 → s.fenceSevere n = true →
      ∃ u, exec (.chArm t gd ga) s = .next u ∧ s.becomes u t (k.step gd 6)) ∧
    ((s.slot n).code = 7 → s.fenceSevere n = false → s.covered (s.slot n).set = true →
      (s.slot n).guard.arm = .none → (s.slot n).guard.lastFence + 983040 * (s.slot n).set.guard.hold ≤ s.clk.ed →
      ∃ u, exec (.chArm t gd ga) s = .next u ∧ u.task? t = some (k.step gd 1) ∧
        u.rad.roundQ = s.rad.roundQ ++ [RoundOp.rearm n] ∧ (u.slot n).guard.arm = .tenant ∧ (u.slot n).guard.fenced = true)

/-- ch.free in a mode but WATCH (R111): the slot has no owner and a new generation at once, so that the handle is no
longer valid, its probe bursts are dropped, and it is FREE once its output has reached zero. -/
def ChFreeInvalidatesHandle : Prop :=
  ∀ (s : State) (t : TaskId) (k : Task) (c : Nat) (gd ga : Reg) (n : Nat), s.onChan t k c ga n → s.inWatch = false →
    ∃ u, exec (.chFree t gd ga) s = .next u ∧ u.task? t = some (k.step gd 1) ∧
      (u.slot n).phase = .freeing ∧ (u.slot n).gen = (s.slot n).gen + 1 ∧ u.chan k.part (k.get ga) = none ∧
      (∀ p : PortId, n ∉ u.ports[p].probeQ) ∧ (∀ m, m ≠ n → u.slot m = s.slot m)

/-- A slot is taken and given back (R111, R281, R339): ch.alloc of a FREE slot within the quota reserves it for the
partition and waits; at the round boundary the channel is HELD with its default settings, and the task takes OK and the
handle; a freed slot whose output is at zero and for which no commit waits is FREE again at a boundary, with its generation. -/
def SlotAllocationAndRelease : Prop :=
  (∀ (s : State) (t : TaskId) (k : Task) (c : Nat) (gd ga gb : Reg) (n : Nat), s.runs t k c → t.val ∉ s.cpu.ready →
    s.inWatch = false → s.countSlots (fun x => x.ownedBy k.part) < s.share k.part 192 (fun p => p.grants.chq) →
    s.pickSlot ((k.get ga).toNat % 256) = some n →
      ∃ u, exec (.chAlloc t gd ga gb) s = .next u ∧ u.task? t = some { k with st := .waiting (.alloc gd gb n) } ∧
        (u.slot n).phase = .reserved ∧ (u.slot n).owner = k.part ∧ (u.slot n).gen = (s.slot n).gen ∧
        (u.slot n).set = Settings.default ∧ (u.slot n).committed = false) ∧
  (∀ (s : State) (n : SlotId) (t : TaskId) (k : Task) (gd gb : Reg), (s.slot n).phase = .reserved →
    s.task? t = some k → k.st = .waiting (.alloc gd gb n) → s.nextOk k → s.atBoundary = true →
    (∀ x ∈ s.cpu.tasks, ∀ gd' gb', x.2.st = .waiting (.alloc gd' gb' n) → x.1 = t) →
      ∃ u, exec (.chAllocReturn n) s = .next u ∧ (u.slot n).phase = .owned ∧
        u.woken t k gd gb 1 (BitVec.ofNat 64 (n + (s.slot n).gen.toNat * 2 ^ 8 + (s.slot n).owner.val * 2 ^ 16))) ∧
  (∀ (s : State) (n : SlotId), (s.slot n).phase = .freeing → (s.slot n).zero = true → (s.slot n).req = none →
    s.atBoundary = true → ∃ u, exec (.chFreeRelease n) s = .next u ∧ u.slot n = { Slot.initial with gen := (s.slot n).gen } ∧
      (u.slot n).code = 0 ∧ ∀ m, m ≠ n.val → u.slot m = s.slot m)

/-- A slot is allocated, freed and released (R111, R281, R339). -/
def Obligations.SlotLifecycle : Prop := ChFreeInvalidatesHandle ∧ SlotAllocationAndRelease

/-- The end of settling, of a cross-fade and of the ramp of a mute, a fence or a free change that slot alone, besides the instants at
which the freezes of models began (R74, R97, R103, R108, R111, R148): the filter engine must not be held by a lost main clock. -/
def FilterAndRampEnds : Prop :=
  ∀ (s : State) (n : SlotId),
    ((s.slot n).live = true → (s.slot n).settling = true → s.engineHeld = false →
      s.gives (.settlingComplete n) fun u => u = { s with rad := { s.rad with slots := u.rad.slots } } ∧
        ∀ j, let x := if j = n.val then { s.slot n with
                        settling := false, fill := 0
                        ramp := if ({ s.slot n with fill := 0 } : Slot).opens then 16 else (s.slot n).ramp }
                      else s.slot j
          u.slot j = { x with fbc := { x.fbc with frozenAt := (u.slot j).fbc.frozenAt } }) ∧
    (∀ f, (s.slot n).fade = some f → f.ended = false → s.engineHeld = false →
      exec (.fadeEnd n) s = .next (s.setSlot n { s.slot n with fade := some { f with ended := true } })) ∧
    ((s.slot n).guard.fenced = true ∨ (s.slot n).mutes.any = true ∨ (s.slot n).phase = .freeing → (s.slot n).zero = false →
      s.engineHeld = false →
      exec (.muteRampComplete n) s = .next (s.setSlot n { s.slot n with zero := true, ramp := 0 }))

/-! Ports (R25 to R54, R346 to R348). -/

/-- The 32 (or other) bytes of a record at the address `ea` may be read, and hold no error (R346, R381). -/
def RecordReadable (s : State) (k : Task) (ea : Word) (n : Nat) : Prop := s.localOk k.part ea n = true ∧ s.sound k.part ea.toNat n

/-- port.tune of a port that carries no other partition's channel, outside WATCH and PROBE (R26, R29, R347): it returns
OK; a record that need not wait for STANDBY is in force at once, its LOs held between 380 MHz and 3.8 GHz, its state
STANDBY where the bank does not support it (R33); one of another bank waits with such LOs; the booster fault latch clears (R53);
the other ports keep their records. -/
def Obligations.PortTuneTakesRecord : Prop :=
  ∀ (s : State) (t : TaskId) (k : Task) (c : Nat) (gd ga gb : Reg), s.runs t k c → s.nextOk k → s.inWatch = false →
    RecordReadable s k (k.get gb) 32 →
    let p := portOf (k.get ga)
    let r := tuneRecord (s.readLocal k (k.get gb).toNat 32)
    s.foreignPort p k.part = false → s.ports[p].st ≠ .probe →
      ∃ u, exec (.portTune t gd ga gb) s = .next u ∧ u.task? t = some (k.step gd 1) ∧ u.ports[p].bflt = false ∧
        (s.ports[p].recordWaits
            { r with state := if r.state.supported r.bank s.ports[p].sched.isSome then r.state else .standby } = false →
          u.ports[p].tune =
            { r with state := if r.state.supported r.bank s.ports[p].sched.isSome then r.state else .standby }) ∧
        (r.bank = s.ports[p].tune.bank →
          380000 ≤ u.ports[p].tune.rxlo ∧ u.ports[p].tune.rxlo ≤ 3800000 ∧
          380000 ≤ u.ports[p].tune.txlo ∧ u.ports[p].tune.txlo ≤ 3800000) ∧
        (r.bank ≠ s.ports[p].tune.bank → ∃ w, u.ports[p].bankWait = some w ∧ w.bank = r.bank ∧
          380000 ≤ w.rxlo ∧ w.rxlo ≤ 3800000 ∧ 380000 ≤ w.txlo ∧ w.txlo ≤ 3800000) ∧
        (∀ q : PortId, q ≠ p → u.ports[q].tune = s.ports[q].tune)

/-- port.sched (R42, R43, R348): on a port with no schedule running a record of two or more points within the port's duty
limit is loaded and returns OK; one over the limit is refused with CHARTER and loads nothing. -/
def Obligations.PortSchedLoadsWithinDuty : Prop :=
  ∀ (s : State) (t : TaskId) (k : Task) (c : Nat) (gd ga gb : Reg) (sc : Sched), s.runs t k c → s.nextOk k →
    s.inWatch = false → s.dozing = false → RecordReadable s k (k.get gb) 16 →
    let n := min (recNat (s.readLocal k (k.get gb).toNat 16) 8 1) 32
    let p := portOf (k.get ga)
    2 ≤ n → RecordReadable s k (k.get gb) (16 + 8 * n) →
    s.foreignPort p k.part = false ∨ s.ports[p].schedChanges (some sc) = false →
    schedRecord (s.readLocal k (k.get gb).toNat (16 + 8 * n)) (fun i => (s.freeAt i).toNat) = some sc →
      (sc.overDuty s.ports[p].tune.donor (s.dutyLimit p) = true →
        ∃ u, exec (.portSched t gd ga gb) s = .next u ∧ u.task? t = some (k.step gd 4) ∧ u.ports = s.ports ∧
          u.rad.refuse = true) ∧
      (sc.overDuty s.ports[p].tune.donor (s.dutyLimit p) = false → s.ports[p].schedRun = false →
        ∃ u, exec (.portSched t gd ga gb) s = .next u ∧ u.task? t = some (k.step gd 1) ∧
          u.ports[p].sched = some sc ∧ ∀ q : PortId, q ≠ p → u.ports[q] = s.ports[q])

/-- RFKILL_N (R48 to R51): asserted, no port transmits or is keyed; after its release 1 ms high lets the ports start
again. -/
def Obligations.RfkillStopsAndReleases : Prop :=
  (∀ s : State, s.pwr.rfkill = false →
    ∃ u, exec .rfkillAssert s = .next u ∧ u.pwr.rfkill = true ∧
      ∀ p : PortId, u.ports[p].killed = true ∧ u.ports[p].bkey = false ∧ u.ports[p].tx ≠ .on ∧ u.ports[p].tx ≠ .starting ∧
        (s.ports[p].probing = none → u.ports[p].st = s.ports[p].st ∧ u.ports[p].tune = s.ports[p].tune)) ∧
  (∀ s : State, s.pwr.rfkill = true →
    s.gives .rfkillRelease fun u => u = { s with
      pwr := { s.pwr with rfkill := false, rfHigh := true, rfHighAt := s.clk.ed }
      rad := { s.rad with slots := u.rad.slots } } ∧ ∀ n, (u.slot n).set = (s.slot n).set) ∧
  (∀ s : State, s.pwr.rfkill = false → s.pwr.rfHigh = true → s.pwr.rfHighAt + 983040 ≤ s.clk.ed →
    ∃ u, exec .rfkillRestart s = .next u ∧ u.pwr.rfHigh = false ∧ ∀ p : PortId, u.ports[p].killed = false)

/-- The booster pins (R38, R39, R41, R52, R53): 50 µs after EN the booster is keyed, or, with the fault input still high, stays
unkeyed and faults; a transmitter that starts then enters its state, its ramp a KEY lead later, and within a running schedule only KEY
rises; EN falls 20 µs after KEY, and of a transmitter that stops this is the end; a fault input that counts cuts the output, latches
and holds RFE's error line high. Nothing else of the machine changes at a rise or fall, and a fault leaves the channels' settings and
the other ports. -/
def Obligations.BoosterSequence : Prop :=
  ∀ (s : State) (p : PortId),
    let q := s.ports[p]
    let faults := fun (i : Instr) => ∃ u, exec i s = .next u ∧ u.ports[p].bflt = true ∧ u.ports[p].bkey = false ∧
      u.ports[p].tx ≠ .on ∧ u.ports[p].tx ≠ .starting ∧ u.obs.live.getLsbD 0 = true ∧
      (q.probing = none → (∀ o : PortId, o ≠ p → u.ports[o] = s.ports[o]) ∧ (∀ n, (u.slot n).set = (s.slot n).set) ∧
        u.ports[p].tune = q.tune ∧ s.sameMem u)
    (q.tune.boost = true → q.ben = true → q.bkey = false → q.enAt + 49152 ≤ s.clk.ed →
      (q.tx = .starting →
        exec (.boosterKeyRise p false) s = .next (s.mapPort p fun q =>
          { q with tx := .on, bkey := true, rampAt := s.clk.ed + q.tune.klead * 49152 / 100, st := q.target.getD q.st,
                   target := none })) ∧
      (q.tx ≠ .starting → s.keyDue p = true →
        exec (.boosterKeyRise p false) s = .next (s.mapPort p fun q => { q with bkey := true })) ∧
      (q.tx = .starting ∨ s.keyDue p = true → faults (.boosterKeyRise p true))) ∧
    (q.tx = .stopping ∨ q.tune.boost = false → q.ben = true → q.bkey = false → q.keyAt + 19661 ≤ s.clk.ed →
      exec (.boosterEnFall p) s = .next (s.mapPort p fun q =>
        { q with tx := if q.tx = .stopping then .off else q.tx, ben := false })) ∧
    (q.ben = true → q.enAt + 49152 ≤ s.clk.ed → faults (.boosterFault p))

/-- Transitions, bank changes and schedules of a port (R26, R29, R33, R37, R40, R42, R44, R69): a port that is not OFF reaches its
target; a bank change that has stood in STANDBY for 40 µs, its retune done, puts its record in force; a loaded schedule's next
interval begins at a switch point, whether or not the port follows it; a new schedule runs from its period start on a TDD bank, in
the interval that fabric time lies in, and on another is loaded without running. -/
def Obligations.PortTransitionsAndSchedules : Prop :=
  ∀ (s : State) (p : PortId),
    (∀ g, s.ports[p].target = some g → s.ports[p].mayComplete g = true → s.ports[p].st ≠ .off →
      s.ports[p].bankWait = none →
      ∃ u, exec (.portTransitionComplete p) s = .next u ∧ u.ports[p].st = g ∧ u.ports[p].target = none) ∧
    (∀ r e, s.ports[p].bankWait = some r → s.ports[p].st = .standby → r.bank ≠ s.ports[p].tune.bank →
      s.ports[p].retune = none → s.ports[p].bankAt = some e → e + 39322 ≤ s.clk.ed →
      ∃ u, exec (.bankChangeComplete p) s = .next u ∧ u.ports[p].tune = r ∧ u.ports[p].bankWait = none) ∧
    (∀ sc pt f, s.ports[p].sched = some sc → s.ports[p].schedRun = true → s.ports[p].tune.state.tdd = true →
      sc.points[s.ports[p].schedIdx]? = some pt → sc.indexAt s.fabNs ≠ s.ports[p].schedIdx →
      (pt.shot = false ∨ s.ports[p].schedFresh = true →
        ∃ u, exec (.tddSwitchPoint ⟨p, f⟩) s = .next u ∧
          u.ports[p].schedIdx = sc.indexAt s.fabNs ∧ u.ports[p].sched = some sc) ∧
      (pt.shot = true → s.ports[p].schedFresh = false →
        ∃ u, exec (.tddSwitchPoint ⟨p, f⟩) s = .next u ∧ u.ports[p].schedRun = false ∧ u.ports[p].sched = some sc)) ∧
    (∀ sc f, s.ports[p].schedNext = some (some sc) → (∀ x, s.ports[p].periods = some x → x.starts s.fabNs = true) →
      ∃ u, exec (.tddPeriodStart ⟨p, f⟩) s = .next u ∧ u.ports[p].sched = some sc ∧ u.ports[p].schedNext = none ∧
        u.ports[p].schedRun = bankTdd s.ports[p].bankAhead ∧
        (bankTdd s.ports[p].bankAhead = true → u.ports[p].schedIdx = sc.indexAt s.fabNs))

/-! Pages (R349, R360 to R368). -/

/-- No request waits at this home and no task waits on a fence, so that freed room changes no task. -/
def NothingWaits (s : State) : Prop := s.ms.homeWait = [] ∧ ∀ x ∈ s.cpu.tasks, isFence x.2 = false ∧ ∀ b, x.2.st ≠ .waiting (.retry b)

/-- The pages of partition `p` that hold the four bytes at `a` have no byte in common with the `n` bytes at `va`. -/
def FetchApart (s : State) (p : PartId) (a : Word) (va n : Nat) : Prop :=
  ∀ q ∈ s.ms.pages, q.touches p va n = true → q.holds p a.toNat = false ∧ q.holds p (a.toNat + 3) = false

/-- The frames in use are within those that DRAM has, and the heats of replicas within their range, so that dropping replicas frees what
their frames come to. -/
def FramesCount (s : State) : Prop :=
  tblGet 0 1 s.ms.retired + s.usedGills 1 ≤ tierGills 1 ∧ ∀ r ∈ s.ms.replicas, r.heat ≤ 65535

/-- alloc, free and keep (R325, R349, R363 to R366). alloc of n pages that fit returns OK and the lowest free address, and the
new bytes read as zero; beyond the quota it returns NO_BUDGET, sets QFULL and allocates nothing. free, with none of the task's posted
global stores on their way there, releases every page that its range touches, and their bytes read as zero and take none of the stores
that wait. keep sets or clears the attribute of every such page. -/
def Obligations.AllocFreeKeepPages : Prop :=
  ∀ (s : State) (t : TaskId) (k : Task) (c : Nat) (gd ga gb : Reg), s.runs t k c → s.nextOk k → t.val ∉ s.cpu.ready →
    memWf s.ms.mem = true → NothingWaits s → FramesCount s →
    (let peck := bitN (k.get gb).toNat 0
     let keep := bitN (k.get gb).toNat 1
     let size := if peck then 0x200000 else 0x1000
     let g := if peck then 512 else 1
     let n := (max (k.get ga).toNat 1 + size - 1) / size
     (∀ va, s.memqFits k.part (n * g) = true → (keep = true → s.keepqFits k.part (n * g) = true) →
       s.framesFit n g keep = true → s.lowestFree k.part (n * size) size = some va →
         ∃ u, exec (.allocP t gd ga gb) s = .next u ∧ u.task? t = some (k.step2 gd gb 1 (BitVec.ofNat 64 va)) ∧
           u.ms.pages.length = s.ms.pages.length + n ∧
           ∀ a, memRead a u.ms.mem =
             if memKey k.part va ≤ a ∧ a < memKey k.part va + n * size then 0 else memRead a s.ms.mem) ∧
     (s.memqFits k.part (n * g) = false →
         ∃ u, exec (.allocP t gd ga gb) s = .next u ∧ u.task? t = some (k.step gd 3) ∧ u.ms = s.ms ∧
           u.parts[k.part].qfull = true)) ∧
    (let va := (k.get ga).toNat
     let n := max (k.get gb).toNat 1
     let freed := s.ms.pages.filter fun q => q.touches k.part va n
     s.rangeAllocated k.part va n = true → FetchApart s k.part (k.pc + 4) va n →
     (∀ q ∈ freed, s.postedHere t k.part q.va q.size = false) →
       ∃ u, exec (.freeP t gd ga gb) s = .next u ∧
         u.task? t = some { k.step gd 1 with
           sq := k.sq.filter fun e => freed.all fun q => decide (e.va < q.va) || decide (q.va + q.size ≤ e.va) } ∧
         (∀ q ∈ u.ms.pages, q.touches k.part va n = false) ∧
         (∀ q ∈ s.ms.pages, q.touches k.part va n = true → ∀ a, q.va ≤ a → a < q.va + q.size →
           memRead (memKey k.part a) u.ms.mem = 0)) ∧
    (let va := (k.get ga).toNat
     let n := max ((k.get gb).toNat % 2 ^ 48) 1
     let fresh := s.ms.pages.filter fun q => q.touches k.part va n && !q.keep
     s.rangeAllocated k.part va n = true →
       (bitN (k.get gb).toNat 63 = false → s.keepqFits k.part (gillsOf fresh fun _ => true) = true →
         gillsOf fresh (fun q => q.tier ≠ 2) ≤ s.freeGills 2 →
         ∃ u, exec (.keepP t gd ga gb) s = .next u ∧ u.task? t = some (k.step gd 1) ∧
           (∀ q ∈ u.ms.pages, q.touches k.part va n = true → q.keep = true) ∧ s.sameMem u) ∧
       (bitN (k.get gb).toNat 63 = true →
         ∃ u, exec (.keepP t gd ga gb) s = .next u ∧ u.task? t = some (k.step gd 1) ∧
           (∀ q ∈ u.ms.pages, q.touches k.part va n = true → q.keep = false) ∧ s.sameMem u))

/-! Counters, modes, tasks, events and messages (R350 to R356). -/

/-- cnt.rd puts a counter its partition may read into gd, zero-extended (R350, R400); mode, at Warden privilege, requests
QUIET, SURVEY, ISOLATE or RELAY (R351, R430) and refuses every other code with NOT_OWNER. -/
def Obligations.CounterReadAndModeRequest : Prop :=
  ∀ (s : State) (t : TaskId) (k : Task) (c : Nat) (gd ga : Reg), s.runs t k c → s.nextOk k →
    (let n := (k.get ga).toNat % 256
     s.mayCount k.part n = true → n ≠ 0 →
       ∃ u, exec (.cntRd t gd ga) s = .next u ∧ s.becomes u t (k.step gd ((tblGet 0 n s.obs.counters).setWidth 64))) ∧
    (let code := (k.get ga).toNat % 16
     (∀ m, (code, m) ∈ ([(2, .quiet), (3, .survey), (4, .isolate), (5, .relay)] : List (Nat × Mode)) → k.part = 0 →
       s.pwr.mode ≠ m → s.pwr.mode ≠ .silenced → s.dozing = false →
         ∃ u, exec (.modeReq t gd ga) s = .next u ∧
           ({ s with pwr := { s.pwr with req := some m } }).becomes u t (k.step gd 1)) ∧
     (k.part = 0 → (code < 2 ∨ 5 < code) →
       ∃ u, exec (.modeReq t gd ga) s = .next u ∧ s.becomes u t (k.step gd 6)) ∧
     (k.part ≠ 0 → ∃ u, exec (.modeReq t gd ga) s = .next u ∧ s.violates u t (k.step gd 0) 7))

/-- spawn, join and the waits (R279, R280, R286, R352, R353). spawn within the quota starts a task of the partition at ga
with gb in g1 and zero elsewhere, its handler inherited; join of a DONE task takes its exit value and frees its index;
wait.until returns fabric time once the deadline has come, and till then the task waits. -/
def Obligations.SpawnJoinAndWaits : Prop :=
  ∀ (s : State) (t : TaskId) (k : Task) (c : Nat) (gd ga gb : Reg),
    (s.runs t k c → s.nextOk k → t.val ∉ s.cpu.ready → ∀ i, s.freeTask = some i →
      s.tasksOf k.part < s.share k.part 512 (fun p => p.grants.taskq) →
      s.fetchClean k.part (k.get ga &&& ~~~3#64) →
        ∃ u x, exec (.spawnT t gd ga gb) s = .next u ∧
          u.task? t = some (k.step2 gd gb 1 (BitVec.ofNat 64
            (i + k.part.val * 2 ^ 16 + (tblGet 0 i s.cpu.gens).toNat * 2 ^ 24))) ∧
          u.task? i = some x ∧ x.part = k.part ∧ x.pc = k.get ga &&& ~~~3#64 ∧ x.evec = k.evec ∧
          ∀ r : Reg, x.get r = if r = 1 then k.get gb else 0) ∧
    (s.runs t k c → s.nextOk k → ∀ i x v, s.taskOf k.part (k.get ga) = some (i, x) → x.st = .done v →
      ∃ u, exec (.joinT t gd ga gb) s = .next u ∧ u.task? t = some (k.step2 gd gb 1 v) ∧ u.task? i = none ∧
        tblGet 0 i u.cpu.gens = tblGet 0 i s.cpu.gens + 1) ∧
    (s.runs t k c → s.nextOk k → t.val ∉ s.cpu.ready →
      ((k.get ga).toNat ≤ s.fabNs →
        ∃ u, exec (.waitUntil t gd ga) s = .next u ∧ s.becomes u t (k.step gd (BitVec.ofNat 64 s.fabNs))) ∧
      (s.fabNs < (k.get ga).toNat →
        ∃ u, exec (.waitUntil t gd ga) s = .next u ∧ u.task? t = some { k with st := .waiting (.until gd (k.get ga)) })) ∧
    (∀ d : Word, s.task? t = some k → k.st = .waiting (.until gd d) → d.toNat ≤ s.fabNs → s.nextOk k →
      ∃ u, exec (.waitDeadlineExpire t) s = .next u ∧ u.woken t k gd 0 (BitVec.ofNat 64 s.fabNs) 0)

/-- wait.ev (R353, R354): pending events in the mask are returned in gd and the sticky ones among them clear; with none
pending and no deadline the task waits; a deadline that comes first returns 0. -/
def Obligations.WaitForEvents : Prop :=
  ∀ (s : State) (t : TaskId) (k : Task) (c : Nat) (gd ga gb : Reg),
    (s.runs t k c → s.nextOk k → t.val ∉ s.cpu.ready →
      let ev := s.pendingEvents k.part &&& (k.get ga).setWidth 16
      (ev ≠ 0 →
        ∃ u, exec (.waitEv t gd ga gb) s = .next u ∧
          (let q := { s.parts[k.part] with events := s.parts[k.part].events &&& ~~~ev }
           { s with parts := s.parts.set k.part q }).becomes u t (k.step gd (ev.setWidth 64))) ∧
      (ev = 0 → k.get gb = 0 →
        ∃ u, exec (.waitEv t gd ga gb) s = .next u ∧
          u.task? t = some { k with st := .waiting (.event gd ((k.get ga).setWidth 16) 0) })) ∧
    (∀ m d, s.task? t = some k → k.st = .waiting (.event gd m d) → d ≠ 0 → d.toNat ≤ s.fabNs → s.nextOk k →
      ∃ u, exec (.waitDeadlineExpire t) s = .next u ∧ u.woken t k gd 0 0 0)

/-- send and recv (R355, R356). A message to a mailbox of the own partition at this node, with room in it and nobody
waiting, is placed behind the others and OK returned; a full mailbox refuses with NO_SLOT. recv takes the oldest message:
its bytes go to the buffer, every other byte stays, and gb tells length and sender. -/
def Obligations.SendAndReceiveMessages : Prop :=
  ∀ (s : State) (t : TaskId) (k : Task) (c : Nat) (gd ga gb : Reg), s.runs t k c → s.nextOk k → k.sq = [] →
    memWf s.ms.mem = true →
    (let d := (k.get ga).toNat
     let n := d / 2 ^ 32 % 2 ^ 11 + 1
     let key := k.part.val * 8 + d % 8
     let src := memBytes s.ms.mem (memKey k.part (k.get gb).toNat) n
     d / 2 ^ 4 % 8 = k.part.val → d / 2 ^ 16 % 2 ^ 11 = 2046 → s.partActive k.part = true → RecordReadable s k (k.get gb) n →
       ((s.box key).length < 16 → s.hostBound k.part (msgBox (k.get ga)) = false →
         (∀ x ∈ s.cpu.tasks, ∀ a b m, x.2.st ≠ .waiting (.recv a b m key)) →
         (∀ x ∈ s.cpu.tasks, ∀ a m e, x.2.st ≠ .waiting (.event a m e)) →
         ∃ u, exec (.sendM t gd ga gb) s = .next u ∧
           ({ s with mail := tblPut key (s.box key ++ [({ body := src, srcNode := s.selfNode, srcPart := k.part, seen := (s.know t).seen, seq := none } : Msg)]) s.mail
                     parts := u.parts }).becomes u t (k.step gd 1) ∧ s.sameMem u) ∧
       ((s.box key).length = 16 →
         ∃ u, exec (.sendM t gd ga gb) s = .next u ∧ s.becomes u t (k.step gd 2))) ∧
    (let d := (k.get ga).toNat
     let key := k.part.val * 8 + d % 8
     let a := memKey k.part (k.get gb).toNat
     ∀ m rest, d / 2 ^ 4 % 8 = k.part.val → s.hostBound k.part (msgBox (k.get ga)) = false →
       s.localOk k.part (k.get gb) 2048 = true → s.box key = m :: rest → 1 ≤ m.body.length → m.body.length ≤ 2048 →
       s.rangeBlocked k.part (k.get gb).toNat m.body.length = false →
         ∃ u, exec (.recvM t gd ga gb) s = .next u ∧
           u.task? t = some (k.step2 gd gb 1
             (BitVec.ofNat 64 (m.body.length + m.srcNode.toNat * 2 ^ 16 + m.srcPart.val * 2 ^ 28))) ∧
           u.box key = rest ∧ memBytes u.ms.mem a m.body.length = m.body ∧ s.sameMemBut u a m.body.length)

/-! The round boundary, gain and guard (R82, R103, R110 to R138, R166 to R186). -/

/-- A round boundary with the filter engine running, whatever gains disagree and whatever samples have passed (R82, R83, R103, R110,
R136, R147, R389, R451): the clock stands at the next boundary, 1,152 ED cycles after the last and counted from the main clock's
first lock; no table swap is pending any more, engine and canceller grants are in force, and every port's PA bias table is that of
the temperature band; and an admitted commit of a channel that its partition still owns, the one operation waiting, has put its
settings in force. -/
def RoundBoundaryEffects : Prop :=
  ∀ (s : State) (seen : RoundSeen), s.roundsRun = true →
    s.gives (.engineRoundBoundary seen) fun u =>
      u.clk.ed = s.clk.ed + (1152 - (s.clk.ed - s.clk.origin) % 1152) ∧
      (s.clk.origin ≤ s.clk.ed → (u.clk.ed - s.clk.origin) % 1152 = 0) ∧
      (∀ p : PartId, u.parts[p].tabs.gPend = 0 ∧ u.parts[p].tabs.fPend = 0 ∧
        u.parts[p].effEng = s.parts[p].grants.eng ∧ u.parts[p].effCan = s.parts[p].grants.can) ∧
      (∀ p : PortId, u.ports[p].bias = s.ms.band) ∧
      ∀ (n : Nat) (r : CommitReq), s.cpu.heldQ = [] → s.rad.laneAns = [] → s.rad.roundQ = [RoundOp.commit n] →
        (s.slot n).phase = .owned → (s.slot n).req = some r →
          (u.slot n).set = r.set ∧ (u.slot n).committed = true ∧ (u.slot n).req = none

/-- The round boundary, and the ends of settling, of a cross-fade and of the ramp of a mute, a fence or a free (R74, R82, R83, R97,
R103, R108, R110, R111, R136, R147, R389, R451). -/
def Obligations.RoundBoundaryAndFilterEnds : Prop := RoundBoundaryEffects ∧ FilterAndRampEnds

/-- A control sample at a round boundary whose number is a multiple of M (R119, R120, R126): its level and input are recorded, its
saturated words counted; the gain applied, if any,
is a whole number of 0.1 dB, not below 0 dB, and exceeds neither GMAX nor the ceiling g_perm. -/
def Obligations.ControlSampleGain : Prop :=
  ∀ (s : State) (n : SlotId) (m : ControlSample), (s.slot n).live = true → s.engineHeld = false → s.atBoundary = true →
    s.roundNo % (s.slot n).set.prof.m = 0 → 0 < (s.slot n).glc.csN →
      ∃ u, exec (.controlSampleBoundary n m) s = .next u ∧ (u.slot n).glc.lastL = m.level ∧
        (u.slot n).glc.input = m.input ∧ (u.slot n).sats = (s.slot n).sats + max m.satWords (s.slot n).glc.csSat ∧ (u.slot n).set = (s.slot n).set ∧
        (u.slot n).glc.csN = 0 ∧
        ∀ g, (u.slot n).glc.applied = some g →
          0 ≤ g ∧ g % 128 = 0 ∧ g ≤ 128 * (s.slot n).set.gain.gmax ∧ g ≤ (u.slot n).glc.gPerm

/-- The canceller (R146, R149, R150, R159, R523): an update step counts, takes the smaller residual ratio, and makes a model
valid from 256 steps at 6 dB; a freeze of 10 ms makes it not valid; a parity error clears it; the refresh lowers the
isolation estimate at once to the model's coupling, of the taps' power and the two ports' gains, less 2 dB. -/
def Obligations.CancellerModel : Prop :=
  ∀ (s : State) (n : SlotId),
    (∀ m : UpdateStep, (s.slot n).hasModel = true → s.modelFrozen (s.slot n) = false → s.syn.mainLk = true →
      (s.slot n).fbc.valid = false →
      ∃ u, exec (.fbcUpdateStep n m) s = .next u ∧ u = { s with rad := { s.rad with slots := u.rad.slots } } ∧
        (u.slot n).fbc.raw = min m.ratio16 m.ratio256 ∧ (u.slot n).fbc.proof = (s.slot n).fbc.proof + 1 ∧
        (u.slot n).fbc.valid = (decide (256 ≤ (s.slot n).fbc.proof + 1) && decide (7680 ≤ min m.ratio16 m.ratio256)) ∧
        ∀ j, j ≠ n.val → u.slot j = s.slot j) ∧
    (∀ e, (s.slot n).hasModel = true → s.modelFrozen (s.slot n) = true → (s.slot n).fbc.frozenAt = some e →
      e + 9830400 ≤ s.clk.ed → (s.slot n).fbc.valid = true → s.engineHeld = false →
      ∃ u, exec (.modelFreezeTimeout n) s = .next u ∧
        u = { s with rad := { s.rad with slots := u.rad.slots, inval := true } } ∧
        u.slot n = { s.slot n with fbc := { (s.slot n).fbc with valid := false, proof := 0 } }) ∧
    ((s.slot n).hasModel = true →
      ∃ u, exec (.modelParityError n) s = .next u ∧ (u.slot n).fbc.taps = [] ∧ (u.slot n).fbc.valid = false ∧
        ((s.slot n).fbc.valid = true → u.rad.inval = true) ∧
        (s.obs.live.getLsbD 5 = false → u.obs.sticky.getLsbD 5 = true ∧ u.obs.live.getLsbD 5 = false)) ∧
    (∀ i g gains : Level, (s.slot n).fbc.iso = some i → (s.slot n).glc.applied = some g →
      (s.slot n).hasModel = true → (s.slot n).fbc.valid = true → s.modelFrozen (s.slot n) = false → s.engineHeld = false →
      let c := g - Config.tapPower (tapSum (s.slot n).fbc.taps) + gains - 2560
      c < i →
      ∃ u, exec (.isolationRefresh n gains) s = .next u ∧
        u.slot n = { s.slot n with fbc := { (s.slot n).fbc with iso := some c } })

/-- A probe (R35, R36, R154 to R158): ch.probe in ISOLATE queues k + 1 bursts at the transmit port, or returns CHARTER, or, on a
channel never committed or without a loop, leaves an invalid result and returns OK; a burst
starts once the port is ready, fixes the level and the settings it measures, and ends 2 ms after its ramp began with the port out
of PROBE; the result, at a round boundary, is that level less the received power, and, while the settings keep the ports and the span of the burst, the isolation estimate lies 2 dB
below it. -/
def Obligations.ProbeMeasuresIsolation : Prop :=
  (∀ (s : State) (t : TaskId) (k : Task) (c : Nat) (gd ga : Reg) (n : Nat) (b : Fin 16), s.onChan t k c ga n →
    s.pwr.mode = .isolate → s.cht.force.isSome = true → (s.slot n).committed = false ∨ (s.slot n).set.loop = false →
    let x := s.slot n
    ∃ u, exec (.chProbe t gd ga b) s = .next u ∧
      ({ s with rad := { s.rad with slots := tblPut n { x with fbc := { x.fbc with pcode := 3 } } s.rad.slots } }).becomes
        u t (k.step gd 1)) ∧
  (∀ (s : State) (t : TaskId) (k : Task) (c : Nat) (gd ga : Reg) (n : Nat) (b : Fin 16) (p : PortId), s.onChan t k c ga n →
    s.pwr.mode = .isolate → (s.slot n).committed = true → (s.slot n).set.loop = true → (s.slot n).set.txPort = some p →
    (s.cht.force = none ∨ s.probeCovered (s.slot n).set = false →
      ∃ u, exec (.chProbe t gd ga b) s = .next u ∧ u.task? t = some (k.step gd 4) ∧ u.rad.refuse = true ∧ u.ports = s.ports) ∧
    (s.cht.force.isSome = true → s.probeCovered (s.slot n).set = true → (s.slot n).fbc.bursts = 0 →
      ∃ u, exec (.chProbe t gd ga b) s = .next u ∧ u.task? t = some (k.step gd 1) ∧
        u.ports[p].probeQ = s.ports[p].probeQ ++ List.replicate (b.val + 1) n ∧ (u.slot n).fbc.bursts = b.val + 1 ∧
        (u.slot n).fbc.pcode = 4)) ∧
  (∀ (s : State) (p : PortId) (n : Nat) (rest : List Nat), s.ports[p].probeQ = n :: rest → s.ports[p].st ≠ .probe →
    s.ports[p].ben = false → s.ports[p].tx = .off → s.ports[p].probeWaits = false → s.ports[p].noProbe = false →
    s.pwr.rfkill = false → s.pwr.calib ≠ 1 → s.pwr.mode = .isolate →
    s.eitherPort (s.slot n).set Port.probeWaits = false → s.eitherPort (s.slot n).set Port.noProbe = false →
      ∃ u, exec (.probeBurstStart p) s = .next u ∧ u.ports[p].st = .probe ∧ u.ports[p].probing = some n ∧
        u.ports[p].probeQ = rest ∧ u.ports[p].ben = s.ports[p].tune.boost ∧ u.ports[p].bkey = false ∧
        (u.slot n).fbc.sent = some (s.slot n).set ∧ (u.slot n).fbc.sentLevel = s.probeLevel (s.slot n).set) ∧
  (∀ (s : State) (p : PortId) (n : Nat), s.ports[p].probing = some n → s.ports[p].tx = .on →
    s.ports[p].rampAt + 1966080 ≤ s.clk.ed →
      ∃ u, exec (.probeBurstEnd p) s = .next u ∧ u.ports[p].probing = none ∧ u.ports[p].st ≠ .probe ∧
        (u.slot n).fbc.bursts = (s.slot n).fbc.bursts - 1) ∧
  (∀ (s : State) (n : SlotId) (o : ProbeObs), (s.slot n).live = true → (s.slot n).set.loop = true →
    (s.slot n).fbc.pcode = 4 → (s.slot n).fbc.bursts = 0 → 25600 ≤ o.peak → (s.slot n).probeHolds = true →
    s.atBoundary = true →
      ∃ u, exec (.probeResult n o) s = .next u ∧ (u.slot n).fbc.pcode = 1 ∧
        (u.slot n).fbc.coupling = (s.slot n).fbc.sentLevel - o.rxPower ∧
        (u.slot n).fbc.iso = some ((s.slot n).fbc.sentLevel - o.rxPower - 2560) ∧
        (u.slot n).fbc.airDelay = o.airDelay)

/-- The guard's detectors (R166, R169, R170, R188): ρ of 0.70 asks for a fence with cause OSC, ρ from 0.40 trims by 3 dB;
NRISE trims after two hits; ACLR, its share at 12 dB, asks for a fence whose source is the port; DLOSS mutes and unmutes; TREL later
a trim is released by 3 dB, but not during an NRISE mute. -/
def Obligations.GuardDetectors : Prop :=
  ∀ (s : State) (n : SlotId),
    (∀ rho, (s.slot n).radiating = true → (s.slot n).set.loop = true → s.detectorSkips (s.slot n) = false →
      ∃ u, exec (.oscWindowEnd n rho) s = .next u ∧ (u.slot n).guard.rho = rho ∧
        (896 ≤ rho → (u.slot n).guard.fenceReq.getLsbD 1 = true ∧ u.rad.ngd.getLsbD 0 = true) ∧
        (512 ≤ rho → rho < 896 → (s.slot n).guard.trimSteps < 10 →
          (u.slot n).guard.tOsc = (s.slot n).guard.tOsc + 1 ∧ u.rad.ngd.getLsbD 0 = true) ∧
        (rho < 512 → (u.slot n).guard = { (s.slot n).guard with rho := rho })) ∧
    (∀ (noise g : Level) (p : PortId), (s.slot n).set.rxPort = some p → (s.slot n).glc.applied = some g →
      (s.slot n).radiating = true → (s.slot n).set.filt.ul = true → s.detectorSkips (s.slot n) = false →
      (s.slot n).mutes.nrise = false → 1 ≤ (s.slot n).guard.nriseHits → (s.slot n).guard.trimSteps < 10 →
      noiseRx p (s.slot n).set + g + 128 * (s.slot n).set.guard.nrth < noise →
      ∃ u, exec (.nriseEstimate n noise) s = .next u ∧ (u.slot n).guard.tNrise = (s.slot n).guard.tNrise + 1 ∧
        u.rad.ngd.getLsbD 2 = true) ∧
    (∀ input, (s.slot n).radiating = true → (s.slot n).set.rxPort.isSome = true → (s.slot n).set.filt.ul = false →
      s.detectorSkips (s.slot n) = false → input < (s.slot n).donorFloor →
      ∃ u, exec (.dlossMute n input) s = .next u ∧ (u.slot n).muteReq.dloss = true ∧ u.rad.ngd.getLsbD 3 = true) ∧
    (∀ input, (s.slot n).live = true → (s.slot n).mutes.dloss = true → s.detectorSkips (s.slot n) = false →
      (s.slot n).donorFloor + 3840 ≤ input →
      ∃ u, exec (.dlossUnmute n input) s = .next u ∧ (u.slot n).mutes.dloss = false) ∧
    (0 < (s.slot n).guard.trimSteps → (s.slot n).mutes.nrise = false → (s.slot n).guard.lastTrim + 98304000 * (s.slot n).set.guard.trel ≤ s.clk.ed →
      ∃ u, exec (.trimRelease n) s = .next u ∧ (u.slot n).guard.trimSteps + 1 = (s.slot n).guard.trimSteps) ∧
    (∀ (p : PortId) (ratio : Level), s.ports[p].tx = .on → s.ports[p].bflt = false → s.pwr.rfkill = false →
      s.ports[p].disturbed = false → s.ports[p].rxv = true → s.detectorSkips (s.slot n) = false →
      1280 * s.ports[p].tune.aclr < ratio → 1 ≤ s.ports[p].aclrHits → (s.slot n).radiating = true →
      (s.slot n).set.txPort = some p → (n.val, s.slot n) ∈ s.rad.slots → s.rad.slots.Pairwise (fun a b => a.1 < b.1) →
      4 ≤ (s.slot n).guard.tAclr →
      ∃ u, exec (.aclrMeasure p ratio) s = .next u ∧ (u.slot n).guard.fenceReq.getLsbD 3 = true ∧
        (u.slot n).guard.aclrPort = some p ∧ u.rad.ngd.getLsbD 4 = true)

/-- Re-arms and SILENCED (R173, R174, R176, R177, R179, R180, R288): a held re-arm whose hold has passed and whose checks pass at the
next round boundary ends the fence and every trim; SW.NGD_SARM clears a source's severity at once; once the hold-off has ended a held mode request takes effect at the next
round boundary, and
entries older than 24 hours of operating time leave the count. -/
def Obligations.RearmAndSilencedEnd : Prop :=
  (∀ (s : State) (n : SlotId), s.rearmDue n = true →
    let b := s.nextBoundary
    b.rearmDue n = true → (b.slot n).guard.arm ≠ .none → b.armPasses n = true →
      ∃ u, exec (.heldRearmEffect n) s = .next u ∧ u.clk = b.clk ∧ (u.slot n).guard.fenced = false ∧ (u.slot n).guard.causes = 0 ∧
        (u.slot n).guard.trimSteps = 0 ∧ (u.slot n).guard.arm = .none) ∧
  (∀ (s : State) (t : TaskId) (k : Task) (c : Nat) (n : SlotId), s.runs t k c → s.nextOk k → k.part = 0 →
    s.dozing = false →
      ∃ u, exec (.ngdSarmGo t (BitVec.ofNat 64 n.val)) s = .next u ∧ u.task? t = some { k with pc := k.pc + 4 } ∧
        (u.source n.val).severe = false ∧ (u.source n.val).times = []) ∧
  (∀ (s : State) (m : Mode), s.cht.heldMode = some m → s.pwr.mode = .silenced → s.cht.holdEnd ≤ s.clk.ed →
    s.cpu.wrun = true →
    let b := s.nextBoundary
    b.heldReady = true → b.cpu.coreUp ≠ 0 →
      ∃ u, exec .silencedHoldoffEnd s = .next u ∧ u.pwr.mode = m ∧ u.cht.heldMode = none ∧ u.pwr.req = none) ∧
  (∀ s : State, exec .silencedCountExpire s = .next { s with cht := { s.cht with
      silEntries := s.cht.silEntries.filter fun e => decide (s.opMs < e + 86400000) } })

/-- The Gauntlet's output checks (R186, R190): power more than 0.5 dB over the covering entitlement clamps the port and asks
for a fence with cause 0x4; transmit time more than a point over the duty limit does so for every radiating channel with
cause 0x6; within both, nothing changes. -/
def Obligations.GauntletOutputChecks : Prop :=
  ∀ (s : State),
    (∀ (n : SlotId) (power : Level) (p : PortId) (i : Nat) (e : Ent), (s.slot n).set.txPort = some p →
      (s.slot n).guard.cover = some i → s.entitlements[i]? = some e →
      (power ≤ 128 * e.pmax + 640 → exec (.gntPowerCheck n power true) s = .next s) ∧
      ((s.slot n).radiating = true → 128 * e.pmax + 640 < power → s.cht.clamps = [] →
        ∃ u, exec (.gntPowerCheck n power true) s = .next u ∧ u.rad.clamp = true ∧
          (u.slot n).guard.fenceReq.getLsbD 4 = true)) ∧
    (∀ (p : PortId) (ns : Nat) (sc : Sched) (d : Nat), s.ports[p].sched = some sc → s.dutyLimit p = some d →
      (100 * ns ≤ (d + 1) * sc.period → exec (.gntDutyCheck p ns true) s = .next s) ∧
      (s.ports[p].schedRun = true → (d + 1) * sc.period < 100 * ns → s.cht.clamps = [] →
        ∃ u, exec (.gntDutyCheck p ns true) s = .next u ∧ u.rad.clamp = true ∧
          ∀ n ∈ s.radiatingOn p, (u.slot n).guard.fenceReq.getLsbD 6 = true))

/-! Synthesisers, trunks, links, elections, packets and time (R57 to R80, R193 to R266). -/

/-- The synthesisers and the reference (R59, R60, R69, R73 to R75, R112): a retune locks and calibrates; a lost lock cuts the
output, a lost main lock every port's and the rounds; after its relock every live channel refills; the steering takes a
correction within ±12 ppm at once, or slews toward it by 0.01 ppb per ms while a port is in a transmitting state; the reference is SYNTONISED once
the offset has been small for 10 s. -/
def Obligations.SynthesisersAndReference : Prop :=
  ∀ (s : State) (p : PortId),
    (s.ports[p].retune = some .locking → s.engineHeld = false →
      s.gives (.portSynthLocked p) fun u => u.ports[p].retune = some .calibrating ∧ u.ports[p].lock = true) ∧
    (∀ leak image : Level, s.ports[p].retune = some .calibrating → s.engineHeld = false →
      (s.ports[p].bankWait.isSome = true → s.ports[p].bankAt.isSome = true) →
      s.gives (.portRetuneComplete ⟨p, leak, image⟩) fun u =>
        u.ports[p].retune = none ∧ u.ports[p].rxv = true ∧ u.ports[p].blank = false ∧
        u.ports[p].txLeak = leak ∧ u.ports[p].txImage = image) ∧
    (s.ports[p].lock = true → s.ports[p].probing = none →
      s.gives (.portSynthUnlock p) fun u => u.ports[p].lock = false ∧ u.ports[p].rxv = false ∧ u.ports[p].blank = true ∧
        u.ports[p].tx ≠ .on ∧ u.ports[p].tx ≠ .starting ∧ u.ports[p].bkey = false ∧
        u.ports[p].retune = some .locking ∧ u.syn.unlk = true) ∧
    (s.syn.mainLk = true → (∀ q : PortId, s.ports[q].probing = none) →
      s.gives .mainSynthUnlock fun u => u.syn.mainLk = false ∧ u.syn.unlk = true ∧ u.roundsRun = false ∧
        ∀ q : PortId, u.ports[q].lock = false ∧ u.ports[q].tx ≠ .on ∧ u.ports[q].tx ≠ .starting) ∧
    (s.syn.mainLk = false → s.pwr.mode ≠ .off → s.pwr.mode ≠ .reset → s.syn.mainLost = true →
      s.gives .mainSynthRelock fun u => u.syn.mainLk = true ∧ u.rad.refill = true ∧
        ∀ n, (s.slot n).live = true → (u.slot n).settling = true ∧ (u.slot n).fade = none) ∧
    (∀ corr offset : Int, s.tsu.srcPresent = true →
      s.gives (.synCorrectionApply corr offset) fun u =>
        (s.anyTx = false → u.syn.steer = bound (-1200000) 1200000 corr) ∧
        (s.anyTx = true → (u.syn.steer - s.syn.steer).natAbs ≤ (s.clk.ed - s.syn.slewAt) / 983040 ∧
          (u.syn.steer - s.syn.target).natAbs ≤ (s.syn.steer - s.syn.target).natAbs) ∧
        u.syn.target = bound (-1200000) 1200000 corr ∧
        (s.syn.ref = 0 ∨ 5000 < offset.natAbs → u.syn.ref = 1) ∧
        (s.syn.ref = 2 → offset.natAbs ≤ 5000 → u.syn.ref = 2)) ∧
    (∀ e, s.syn.ref = 1 → s.tsu.srcPresent = true → s.syn.inSince = some e → e + 9830400000 ≤ s.clk.ed →
      exec .refSyntonised s = .next { s with syn := { s.syn with ref := 2 } }) ∧
    (∀ f : BitVec 2, s.syn.coreF ≠ (if f = 3 then 2 else f) →
      s.gives (.coreFreqChange f) fun u =>
        u.syn.coreF = (if f = 3 then 2 else f) ∧ u.syn.coreByp = true ∧ u.syn.coreLk = false) ∧
    (s.syn.coreByp = true → s.syn.coreLk = false →
      (s.gives .coreSynthLocked fun u => u.syn.coreLk = true ∧ u.syn.coreByp = false) ∧
      (s.gives .coreSynthLockFail fun u => u.syn.unlk = true ∧ u.syn.coreByp = true))

/-- The answer of the head that a waiting commit takes (R198, R225, R234, R340): the channel asks for the anchor's profile where it is
a member. -/
def AnsweredRequest (s : State) (n : SlotId) (t : Nat) (f : Bool) (a : LaneAnswer) : CommitReq :=
  let r := (s.slot n).request t f
  if r.set.member = true ∧ a.profile.toNat < 14 then
    { r with set := { r.set with filt := { r.set.filt with profile := a.profile } } } else r

/-- A commit that waited for the head's answer, with neither WATCH nor an election on, is admitted with the answer's delays, or
refused with NO_BUDGET, behind what its other checks say, also where the answer comes after SW.FAB_TTO; in WATCH or in an election that
answer is held, one that no commit waits for is not: a lane mapped anew gives its channel the new delays, one that is not mapped any
more silences it; the answer of a commit that was discarded with its task has no effect (R19, R21, R207, R212, R225, R234, R340). -/
def LaneAnswers : Prop :=
  ∀ (s : State) (n : SlotId) (a0 : LaneAnswer),
    let timely := if s.answerLate n then { a0 with granted := false } else a0
    let a := s.answerFor n timely
    (s.holdsAnswers n = true →
      exec (.commitLaneResult n a0) s = .next { s with rad := { s.rad with laneAns := s.rad.laneAns ++ [(n.val, timely)] } }) ∧
    (s.holdsAnswers n = false → s.dropsAnswer n = true →
      s.gives (.commitLaneResult n a0) fun u => u.rad.slots = s.rad.slots ∧ u.cpu = s.cpu) ∧
    (s.dropsAnswer n = false → commitWaiter n s.cpu.tasks = none → (s.slot n).live = true →
      (s.slot n).set.member = true ∨ (s.slot n).set.anchor = true →
      s.gives (.commitLaneResult n a0) fun u =>
        if a.granted then (u.slot n).trunk.dL = a.dL ∧ (u.slot n).trunk.ceil = a.ceil ∧ (u.slot n).trunk.ta0 = a.ta0
        else (u.slot n).trunk.lost = true ∧ ((u.slot n).mutes.trk = true ∨ (u.slot n).muteReq.trk = true)) ∧
    (∀ (t : Nat) (k : Task) (gd : Reg) (f : Bool) (due : Nat), s.holdsAnswers n = false → s.dropsAnswer n = false →
      commitWaiter n s.cpu.tasks = some (t, gd, f) → s.task? t = some k → k.st = .waiting (.commit gd n f due) → s.nextOk k →
      let r := AnsweredRequest s n t f a
      (a.granted = false → s.commitCode n r = 1 ∨ s.commitCode n r = 3 →
        s.gives (.commitLaneResult n a0) fun u => u.woken t k gd 0 3 0 ∧ u.rad.slots = s.rad.slots) ∧
      (s.commitCode n r = 4 →
        s.gives (.commitLaneResult n a0) fun u => u.woken t k gd 0 4 0 ∧ u.rad.slots = s.rad.slots ∧ u.rad.refuse = true) ∧
      (a.granted = true → s.commitCode n r = 1 →
        s.gives (.commitLaneResult n a0) fun u => u.woken t k gd 0 1 0 ∧
          (∃ m, (u.slot n).req = some m ∧ s.commitCode n m = 1 ∧ (s.unordered t n = false → m.set = r.set)) ∧
          u.rad.roundQ = s.rad.roundQ ++ [RoundOp.commit n] ∧
          (u.slot n).trunk.dL = a.dL ∧ (u.slot n).trunk.ceil = a.ceil ∧ (u.slot n).trunk.ta0 = a.ta0 ∧
          ((u.slot n).trunk.dU = if r.set.contributor then r.set.prof.uplinkDelay a.path else 0) ∧
          (u.slot n).trunk.dReq = if r.set.sink then r.set.prof.uplinkDelay a.path else r.set.prof.required a.path))

/-- A lane as it arrives on link `l` (R227, R228, R231 to R233, R236, R238, R241): a stamp numbers the copy, whose path is the one it
tells and the link's fibre, and sets each DL member's alignment delay A = D_L − D_arr − S_loc; a DL block that is not behind goes on bit for bit and to the members as they follow it,
zeros under descriptor 0x2; an UL block passes bit for bit where nobody adds, else with what this node adds, saturated; a
descriptor is followed, 0x3 holding the member. -/
def LaneArrives : Prop :=
  ∀ (s : State) (l : ChainId) (i : Fin 96) (a : Lane) (b : BitVec 64),
    s.links[chainLink l].carries = true → s.engineHeld = false → s.laneIn l i = some a →
    let key := laneKey a.node a.chan
    (∀ path : Nat, b.toNat / 2 ^ 60 = 14 →
      s.gives (.stampBlockRx ⟨l, i⟩ b path) fun u =>
        let all := path + s.links[chainLink l].fibre
        (u.links[chainLink l].copy i).next = some (b.toNat % 2 ^ 24) ∧ (u.links[chainLink l].copy i).path = all ∧
        ∀ k ∈ s.members key, (u.slot k).trunk.stamped = true ∧ (u.slot k).trunk.snum = b.toNat % 2 ^ 24 ∧
          ((s.slot k).trunk.stamped = false → (u.slot k).trunk.stampAt = s.clk.ed) ∧
          (s.rad.laneTimingFree = false → (s.slot k).trunk.via = none ∨ (s.slot k).trunk.via = some l →
            (u.slot k).trunk.rel = (u.slot k).trunk.align + (s.slot k).set.prof.arrival all ∧
              (u.slot k).trunk.align = ((s.slot k).trunk.dL : Int) - (s.slot k).set.prof.arrival all - synthDelay k (s.slot k).set)) ∧
    (∀ n : Nat, b.toNat / 2 ^ 60 ≤ 10 → (s.links[chainLink l].copy i).next = some n →
      (a.uplink = false →
        s.gives (.laneBlockRx l i (b.extractLsb' 60 4) (b.setWidth 60)) fun u =>
          (∀ k ∈ s.members key, ∀ m, (s.slot k).trunk.next = some m → notBehind n m = true →
            (u.slot k).trunk.next = some ((n + 3) % 2 ^ 24) ∧ (u.slot k).trunk.via = some l ∧
            (u.slot k).trunk.last = if (s.slot k).trunk.desc = 2 then (decodeBlock b).map fun _ => { i := 0, q := 0 }
              else decodeBlock b) ∧
          ∀ m c, m ≠ l → s.links[chainLink m].laneTo key = some c →
            notBehind n (s.links[chainLink m].outOf c.slot).next = true →
              (u.links[chainLink m].outOf c.slot).kept.head? = some (s.clk.ed, b)) ∧
      (a.uplink = true → a.returned = false → (s.links[chainLink l].copy i).desc ≠ 10 → s.links[chainLink l].ring = false →
        s.branches key = [l.val] → s.onRing key = false → s.fab.sums = [] →
        ∀ m c, m ≠ l → s.links[chainLink m].ring = false → s.links[chainLink m].laneTo key = some c →
          (s.adders key n = [] →
            s.gives (.laneBlockRx l i (b.extractLsb' 60 4) (b.setWidth 60)) fun u => (u.links[chainLink m].outOf c.slot).kept.head? = some (s.clk.ed, b)) ∧
          (s.adders key n ≠ [] →
            let sum := ((s.adders key n).map fun x => x.ownBlock n).foldl addSamples (decodeBlock b)
            s.gives (.laneBlockRx l i (b.extractLsb' 60 4) (b.setWidth 60)) fun u =>
              (u.links[chainLink m].outOf c.slot).kept.head? = some (s.clk.ed, encodeBlock (satSamples sum)) ∧
              (overScale sum = true → u.rad.tSat = true)))) ∧
    (∀ code, s.gives (.laneDescriptorChange ⟨l, i⟩ code) fun u => (u.links[chainLink l].copy i).desc = code ∧
      ∀ k ∈ s.members key, (u.slot k).trunk.desc = code ∧
        (code = 3 → (u.slot k).mutes.trk = true ∨ (u.slot k).muteReq.trk = true) ∧
        (code = 1 → (u.slot k).trunk.donorLost = false))

/-- Trunk lanes at the node (R21, R207, R210, R225, R227, R228, R231 to R236, R238, R241, R242, R340): the head's answers and a lane's
blocks; a lost lane holds its member until 1 ms after a stamp and a valid descriptor; the gate opens at its threshold and closes
after its hang. -/
def Obligations.TrunkLanes : Prop :=
  LaneAnswers ∧ LaneArrives ∧
  ∀ (s : State) (n : SlotId),
    ((s.slot n).live = true → (s.slot n).set.dlMember = true →
      ((s.slot n).trunk.lost = false → s.engineHeld = false →
        s.gives (.laneLost n) fun u => (u.slot n).trunk.lost = true ∧ (u.slot n).trunk.stamped = false ∧ u.rad.tLost = true ∧
          ((u.slot n).mutes.trk = true ∨ (u.slot n).muteReq.trk = true)) ∧
      ((s.slot n).trunk.lost = true → s.engineHeld = false → (s.slot n).trunk.stamped = true → (s.slot n).trunk.stampAt + 983040 ≤ s.clk.ed →
        (s.slot n).trunk.desc = 1 ∨ (s.slot n).trunk.desc = 2 →
        s.gives (.laneRestore n) fun u => (u.slot n).trunk.lost = false ∧
          ((s.slot n).trunk.cause = 0 → (s.slot n).trunk.donorLost = false → (u.slot n).mutes.trk = false))) ∧
    (∀ (power : Level) (p : PortId), (s.slot n).live = true → (s.slot n).set.contributor = true → s.engineHeld = false →
      (s.slot n).set.trunk.gate = true → (s.slot n).set.rxPort = some p →
      (s.gateHeld (s.slot n) = true → s.gives (.gateWindow n power) fun u => (u.slot n).trunk.gateOpen = false) ∧
      (s.gateHeld (s.slot n) = false → noiseRx p (s.slot n).set + 128 * (s.slot n).set.trunk.gth ≤ power →
        s.gives (.gateWindow n power) fun u => (u.slot n).trunk.gateOpen = true) ∧
      (s.gateHeld (s.slot n) = false → power < noiseRx p (s.slot n).set + 128 * (s.slot n).set.trunk.gth →
        (s.slot n).set.trunk.ghang ≤ (s.slot n).trunk.below + 1 →
        s.gives (.gateWindow n power) fun u => (u.slot n).trunk.gateOpen = false))

/-- The links (R196 to R200, R203, R209, R210, R221, R224, R229, R230, R239). A chain link trains on light and is UP after training,
which starts an election; a break off a ring splits the fabric; LULL in DOZE or HIBERNATE, with no cell queued, and out of it, which
starts an election; a header with a bad CRC is ignored and flagged, as is a frame without its sync headers, and the second of those
in a row takes the link DOWN; the head gives a lane the positions its profile needs on every direction that it newly crosses,
refuses where they are not free, does not map a contributor above CEIL, and takes a lane out that its anchor leaves. -/
def Obligations.LinksAndLaneMaps : Prop :=
  ∀ (s : State) (l : LinkId),
    (l ≠ tapLink → s.linksRun = true → s.links[l].st = .down →
      exec (.linkLightDetected l) s = .next (s.mapLink l fun x => { x with st := .train })) ∧
    (l ≠ tapLink → s.links[l].st = .train →
      s.gives (.linkUp l) fun u => u.links[l].st = .up ∧ u.fab.elect = true ∧ u.ms.replicas = []) ∧
    (s.linksRun = true → s.fab.tapEn = true → s.links[tapLink].st = .down →
      s.gives (.linkUp tapLink) fun u => u.links[tapLink].st = .up ∧ u.links[tapLink].speed = s.fab.tapSpeed ∧ u.fab = s.fab) ∧
    (l ≠ tapLink → s.links[l].st = .up →
      s.gives (.linkDown l) fun u => u.links[l].st = .down ∧ u.links[l].los = true ∧ u.fab.elect = true ∧
        (∀ p ∈ u.fab.out, chainLink p.link ≠ l) ∧ (s.links[l].ring = false → u.fab.split = true) ∧
        (s.links[l].ring = true → u.links[l].ring = false ∧
          (∀ m : LinkId, m ≠ l → u.links[m].ring = s.links[m].ring) ∧
          ((∀ m : LinkId, m ≠ l → s.links[m].ring = false) → u.fab.split = true))) ∧
    (∀ c : ChainId,
      (s.links[chainLink c].st = .up → s.pwr.llen = true → s.dozing = true → s.links[chainLink c].lanesIn = [] →
        s.links[chainLink c].lanesOut = [] → (∀ p ∈ s.fab.out, p.link ≠ c) →
        s.gives (.linkLullEnter c) fun u => u.links[chainLink c].st = .lull) ∧
      (s.links[chainLink c].st = .lull →
        s.gives (.linkLullExit c) fun u => u.links[chainLink c].st = .up ∧ u.fab.elect = true ∧
          (s.pwr.mode = .hibernate → u.pwr.unann = true)) ∧
      (∀ h : BitVec 64, s.links[chainLink c].st ≠ .down → s.links[chainLink c].st ≠ .train →
        (BitVec.ofNat 8 (h.toNat / 2 ^ 56) = headerCrc h →
          s.gives (.frameHeaderRx c ⟨h, true⟩) fun u => u.links[chainLink c].frame.toNat = h.toNat % 2 ^ 16 ∧
            u.links[chainLink c].peerNode.toNat = h.toNat / 2 ^ 36 % 2 ^ 11 ∧
            u.links[chainLink c].peerState.toNat = h.toNat / 2 ^ 47 % 8) ∧
        (BitVec.ofNat 8 (h.toNat / 2 ^ 56) ≠ headerCrc h →
          s.gives (.frameHeaderRx c ⟨h, true⟩) fun u =>
            u.links[chainLink c] = { s.links[chainLink c] with err := true, miss := 0 }) ∧
        (s.links[chainLink c].miss = 0 →
          s.gives (.frameHeaderRx c ⟨h, false⟩) fun u =>
            u.links[chainLink c] = { s.links[chainLink c] with err := true, miss := 1 }) ∧
        (s.links[chainLink c].miss ≠ 0 →
          s.gives (.frameHeaderRx c ⟨h, false⟩) fun u => u.links[chainLink c].st = .down ∧ u.links[chainLink c].err = true ∧
            u.links[chainLink c].los = true ∧ u.fab.elect = true)) ∧
      (∀ (out : Bool) (v : Byte) (m : List Lane), s.links[chainLink c].carries = true →
        s.gives (.laneMapChange c out v m) fun u =>
          if out then u.links[chainLink c].lanesOut = s.mapFor c out m ∧ u.links[chainLink c].mapvOut = v
          else u.links[chainLink c].lanesIn = m ∧ u.links[chainLink c].mapvIn = v)) ∧
    (∀ q : LaneRequest, s.fab.isHead = true →
      let key := requestKey q
      let r := s.laneRec key
      let profile := if fromAnchor q = true ∨ r.profile = 15 then q.profile else r.profile
      let rate := (profileOf profile.toNat).rate
      (q.leave = true → fromAnchor q = true →
        s.gives (.laneMapRequestRx q) fun u => ∀ d, ∀ a ∈ u.lanesOn d, laneKey a.node a.chan ≠ key) ∧
      (q.leave = false → q.kept = [] →
        (q.uplink = true → fromAnchor q = false → (r.note q).ceil < (profileOf profile.toNat).uplinkDelay q.path →
          s.gives (.laneMapRequestRx q) fun u => u.fab.headMap = s.fab.headMap) ∧
        (q.uplink = false ∨ fromAnchor q = true ∨ (profileOf profile.toNat).uplinkDelay q.path ≤ (r.note q).ceil → q.dirs ≠ [] → q.dirs.Nodup →
          s.dirsOf key = [] →
          ((∀ d ∈ q.dirs, s.lanesOn d = []) →
            s.gives (.laneMapRequestRx q) fun u => ∀ d ∈ q.dirs, ∃ a ∈ u.lanesOn d,
              a.node = q.anchorNode ∧ a.chan = q.anchorSlot.val ∧ a.uplink = q.uplink ∧
              a.p = laneDivisor rate ∧ a.pos.length = laneCount rate) ∧
          ((∃ d ∈ q.dirs, s.laneSlotFree d = none) → r.profile = 15 →
            s.gives (.laneMapRequestRx q) fun u => u.fab.headMap = s.fab.headMap ∧
              ∃ x, tblFind (laneKey q.node q.slot) u.fab.answers = some x ∧ x.granted = false))))

/-- Elections and epochs (R202 to R206, R210): an election forgets parent and accepts; the better proposal is taken; accepts
of children are kept and merged; the candidate announces the next epoch; a later epoch is taken at a round boundary with its head,
size and members, and the election is over unless a link leaves BLOCKED; without a proposal the node is headless. -/
def Obligations.ElectionsAndEpochs : Prop :=
  ∀ (s : State) (l : ChainId),
    (s.linksRun = true →
      s.gives .electionStart fun u => u.fab.elect = true ∧ u.fab.parent = none ∧ u.fab.accepted = false ∧
        u.ms.replicas = []) ∧
    (∀ (t : TaskId) (k : Task) (c : Nat) (v : Word), s.runs t k c → s.nextOk k → k.part = 0 →
      s.gives (.fabElect t v) fun u => u.fab.elect = true ∧ u.task? t = some { k with pc := k.pc + 4 }) ∧
    (∀ p : Proposal, s.links[chainLink l].controls = true → s.fab.elect = true →
      (∀ b, s.fab.best = some b → betterProposal p b = true) →
      s.gives (.proposalRx l p) fun u => u.fab.best = some p ∧ u.fab.parent = some l ∧ u.fab.accepted = false) ∧
    (∀ named : Bool, s.fab.elect = true → s.links[chainLink l].controls = true →
      s.gives (.parentAnnounceRx l named) fun u => u.links[chainLink l].child = named) ∧
    (∀ a : Accept, s.fab.elect = true → a.crcOk = true → s.links[chainLink l].child = true →
      s.gives (.acceptRx l a) fun u => u.links[chainLink l].accept = some a) ∧
    (s.settled = true → s.fab.accepted = false → s.fab.parent.isSome = true → s.fab.best ≠ s.fab.own →
      s.gives .acceptSend fun u => u.fab.accepted = true ∧ u.fab.acceptOut = some s.mergedAccept) ∧
    (s.settled = true → s.fab.own.isSome = true → s.fab.best = s.fab.own → s.fab.announce = none →
      s.gives .headAnnounce fun u => ∃ a, u.fab.announce = some a ∧ a.epoch = s.mergedAccept.epoch + 1 ∧
        a.count = s.mergedAccept.count ∧ a.dups = s.mergedAccept.dups) ∧
    (∀ a : EpochAnnounce, s.links[chainLink l].controls = true → a.crcOk = true → s.fab.epoch.toNat < a.epoch.toNat →
      s.gives (.epochAnnounceRx l a) fun u => u.fab.announce = some a) ∧
    (∀ (ring shared : BitVec 3) (a : EpochAnnounce), s.fab.announce = some a →
      s.gives (.epochTake ring shared) fun u =>
        ((∀ c : ChainId, s.nextBoundary.links[chainLink c].st ≠ .blocked) → u.fab.elect = false) ∧
        u.fab.announce = none ∧ u.fab.epoch = a.epoch ∧
        u.fab.headId = a.head ∧ u.fab.nodes = a.count ∧ u.fab.members = a.members ∧ u.fab.headless = false ∧
        (u.fab.wide = true ↔ 64 < a.count)) ∧
    (s.fab.elect = true → s.fab.own = none → s.fab.proposalAt + 9830400 ≤ s.clk.ed →
      s.gives .noProposalTimeout fun u => u.fab.headless = true ∧ u.fab.elect = false ∧ u.fab.isHead = false)

/-- Packets, memory requests and responses, of which later copies are discarded, reports and the TAP bridge (R208, R213, R214, R216,
R218, R220, R321, R322). -/
def Obligations.PacketsAndBridge : Prop :=
  ∀ (s : State),
    (∀ (l : ChainId) (c : Cell), s.links[chainLink l].st = .up → s.fab.addr = some (cellDst c) →
      s.fab.noAddr = false → cellDst c ≠ 2047 → cellSrc c ≠ cellDst c → cellType c = 2 → cellFirst c = true →
      (seqSeen (tblGet [] (cellSrc c).toNat s.fab.seen) (cellSeq c) = true →
        s.gives (.cellRx l c.hdr ⟨c.payload, c.part, c.mbox⟩) fun u => u.fab.dup = true) ∧
      (let key := c.part.val * 8 + c.mbox.val
       let x : Msg := { body := c.payload, srcNode := cellSrc c, srcPart := cellPart c, seen := [], seq := some (cellSeq c) }
       seqSeen (tblGet [] (cellSrc c).toNat s.fab.seen) (cellSeq c) = false → cellLast c = true →
        s.partActive c.part = true → s.nobodyWaits → (∀ e ∈ s.fab.partial', e.2.box ≠ some key) →
        ((s.box key).length < 16 → s.fab.late = [] →
          s.gives (.cellRx l c.hdr ⟨c.payload, c.part, c.mbox⟩) fun u => u.box key = placeMsg x (s.box key) ∧
            ((∀ y ∈ s.box key, y.after x = false) → u.box key = s.box key ++ [x])) ∧
        ((s.box key).length = 16 →
          s.gives (.cellRx l c.hdr ⟨c.payload, c.part, c.mbox⟩) fun u => u.box key = s.box key))) ∧
    (∀ tag : Fin 4096, (s.tagAt tag).busy = true → (s.tagAt tag).deadline ≤ s.fabNs →
      s.gives (.requestDeadlineExpire tag) fun u =>
        (u.tagAt tag).busy = false ∧ (u.tagAt tag).gen = (s.tagAt tag).gen + 1) ∧
    (∀ (r : MemResponse) (src : NodeId) (seq : BitVec 16),
      seqSeen (tblGet [] src.toNat s.fab.seen) seq.toNat = true →
        s.gives (.responseRx ⟨r, src, seq⟩) fun u => u.fab = { s.fab with dup := true } ∧ u.cpu = s.cpu) ∧
    (∀ (r : MemResponse) (src : NodeId) (seq : BitVec 16), seqSeen (tblGet [] src.toNat s.fab.seen) seq.toNat = false →
      (r.deadline < s.fabNs → s.gives (.responseRx ⟨r, src, seq⟩) fun u => u.fab.tags = s.fab.tags ∧ u.cpu = s.cpu) ∧
      (s.fabNs ≤ r.deadline → (s.tagAt r.tag).busy = false ∨ (s.tagAt r.tag).gen ≠ r.gen →
        s.gives (.responseRx ⟨r, src, seq⟩) fun u => u.fab = { s.fab with seen := u.fab.seen, stale := true } ∧ u.cpu = s.cpu) ∧
      (∀ (k : Task) (i : Nat) (gd : Reg) (n : Nat) (sg : Bool), s.fabNs ≤ r.deadline → (s.tagAt r.tag).busy = true →
        (s.tagAt r.tag).gen = r.gen → s.task? (s.tagAt r.tag).task = some k → k.st = .waiting (.tag i gd n sg) →
        (s.tagAt r.tag).store = false → s.parts[k.part].gen = (s.tagAt r.tag).pgen → r.err = 0 → s.nextOk k →
        s.gives (.responseRx ⟨r, src, seq⟩) fun u => (u.tagAt r.tag).busy = false ∧
          u.woken (s.tagAt r.tag).task k gd 0 (extLoad n sg r.data) 0)) ∧
    (∀ (q : MemRequest) (seq : BitVec 16), s.isHere (refNode q.ref) = true →
      seqSeen (tblGet [] q.node.toNat s.fab.seen) seq.toNat = true →
        s.gives (.homeRequestRx ⟨q, seq⟩) fun u => u.fab = { s.fab with dup := true } ∧ u.ms = s.ms) ∧
    (∀ (q : MemRequest) (seq : BitVec 16), s.isHere (refNode q.ref) = true →
      seqSeen (tblGet [] q.node.toNat s.fab.seen) seq.toNat = false → tblFind (q.node.toNat * 8 + q.part.val) s.fab.notices = none →
      s.homeBlocked q = false → s.allocatedRange (refPart q.ref) (refVa q.ref) q.bytes = true →
      (q.op = 0 → s.sound (refPart q.ref) (refVa q.ref) q.bytes → q.deadline < s.fabNs →
        s.gives (.homeRequestRx ⟨q, seq⟩) fun u => s.sameMem u ∧ u.fab.out = s.fab.out) ∧
      (q.op = 0 → s.sound (refPart q.ref) (refVa q.ref) q.bytes → s.fabNs ≤ q.deadline → s.fab.addr.isSome = true →
        s.fab.noAddr = false → s.cutOff q.node = false →
        s.gives (.homeRequestRx ⟨q, seq⟩) fun u => s.sameMem u ∧ ∀ l ∈ s.openPorts, s.queueFull l = false → ∃ p ∈ u.fab.out, p.link = l ∧ p.dst = q.node ∧
          p.body = .response { tag := q.tag, gen := q.gen, deadline := q.deadline, err := 0
                               data := memWord s.ms.mem (memKey (refPart q.ref) (refVa q.ref)) q.bytes }) ∧
      (q.op = 1 → memWf s.ms.mem = true →
        s.gives (.homeRequestRx ⟨q, seq⟩) fun u =>
          memBytes u.ms.mem (memKey (refPart q.ref) (refVa q.ref)) q.bytes = natToBytes q.data.toNat q.bytes ∧
          s.sameMemBut u (memKey (refPart q.ref) (refVa q.ref)) q.bytes)) ∧
    (s.gives .faultReportHoldExpire fun u => u.fab.held = s.fab.held.filter fun h =>
      decide (s.clk.ed < h.at' + 9831) && decide (s.clk.ed < h.since + 983040)) ∧
    (∀ f : EthFrame, s.links[tapLink].st = .up →
      (f.fcsOk = false ∨ f.len < 64 ∨ 2000 < f.len →
        s.gives (.tapFrameRx f) fun u => u = { s with obs := u.obs }) ∧
      (f.fcsOk = true → 64 ≤ f.len → f.len ≤ 2000 → f.etype ≠ 0x88F7 → s.vlanHere (s.vlanOf f) = true →
        s.gives (.tapFrameRx f) fun u => u.learned (s.vlanOf f) f.src = some s.senderNode)) ∧
    (∀ (vid : BitVec 12) (mac : Mac),
      s.gives (.macAgeing vid mac) fun u => ∀ e, e ∈ u.fab.macs ↔
        e ∈ s.fab.macs ∧ ¬(e.vid = vid ∧ e.mac = mac ∧ e.at' + 294912000000 ≤ s.clk.ed))

/-- The time unit's transfer and states (R247, R249 to R253, R255, R259). -/
def TimeTransferAndStates : Prop :=
  ∀ (s : State),
    (∀ (l : ChainId) (b : BitVec 64), s.links[chainLink l].controls = true →
      (∀ (frame : BitVec 16) (arr : Nat), b.toNat / 2 ^ 60 = 1 →
        s.gives (.timeSyncRx l frame b arr) fun u => u.links[chainLink l].synced = true ∧
          u.links[chainLink l].syncT3 = b.toNat % 2 ^ 60 ∧ u.links[chainLink l].syncT4 = arr) ∧
      (∀ t1 : Nat, b.toNat / 2 ^ 60 = 2 → s.links[chainLink l].synced = true →
        let left := s.links[chainLink l].departure b t1
        (∀ e ∈ s.links[chainLink l].departed, e.1 = b.setWidth 16 → ∃ e' ∈ s.links[chainLink l].departed, e'.1 = e.1 ∧ left = e'.2) ∧
        s.gives (.timeEchoRx l b t1) fun u =>
          u.links[chainLink l].delays = (quotient (s.links[chainLink l].roundTrip (b.toNat / 2 ^ 16 % 2 ^ 44) left) 2
            :: s.links[chainLink l].delays).take 1024 ∧
          (s.isParent l = false → u.clk = s.clk ∧ u.tsu = s.tsu) ∧
          (s.isParent l = true → s.tsu.peerState ≠ 3 → u.tsu.srcPresent = true)) ∧
      (b.toNat / 2 ^ 60 = 3 → s.isParent l = true →
        s.gives (.timeInfoRx l b) fun u => u.tsu.peerState.toNat = b.toNat / 2 ^ 8 % 8 ∧ u.tsu.trace = b.getLsbD 11 ∧
          u.tsu.hops = BitVec.ofNat 12 (b.toNat / 2 ^ 12 % 2 ^ 12 + 1))) ∧
    (∀ (t : TaskId) (k : Task) (c : Nat) (v : Word), s.runs t k c → s.nextOk k → k.part = 0 →
      (s.fab.isHead = true →
        s.gives (.tsuSet t v) fun u => u.tsu.set = some (v, s.setDue) ∧ u.task? t = some { k with pc := k.pc + 4 }) ∧
      (s.fab.isHead = false → s.gives (.tsuSet t v) fun u => s.becomes u t { k with pc := k.pc + 4 })) ∧
    (∀ v due, s.tsu.set = some (v, due) →
      s.gives .tsuSetApply fun u => u.clk.fab = v.toNat * 65536 ∧ u.tsu.set = none ∧ u.tsu.step = true) ∧
    (∀ e, s.tsu.st = 1 → s.tsu.srcPresent = true → s.tsu.inSince = some e → e + 9830400000 ≤ s.clk.ed →
      s.gives .tsuLocked fun u => u.tsu.st = 2 ∧ u.tsu.everLocked = true) ∧
    (∀ e, s.tsu.st = 2 → s.tsu.outSince = some e → e + 983040000 ≤ s.clk.ed →
      s.gives .tsuUnlock fun u => u.tsu.st = 1) ∧
    (s.tsu.srcPresent = true → s.sourceGone = true →
      s.gives .tsuSourceLost fun u => u.tsu.srcPresent = false ∧ u.tsu.st = (if s.tsu.everLocked then 3 else 0) ∧
        (s.syn.ref = 2 → u.syn.ref = 3))

/-- PTP and the PPS pins (R261 to R266): a message of another TAP leaves with its correction; the head selects the best of the
grandmasters that announce themselves, and loses its source with the last of them; a master sends its own Announce and its own
two-step Sync; an edge within 1 ms of a whole second sets the phase. -/
def PtpAndPps : Prop :=
  ∀ (s : State),
    (∀ (seq : BitVec 16) (d : Nat), s.tapUp = true →
      exec (.pdelayReqRx seq d) s =
        .next { s with tsu := { s.tsu with pdelay := d, pdelayOut := s.tsu.pdelayOut ++ [seq.toNat] } }) ∧
    (∀ m : PtpEvent, s.tapUp = true → m.here = false → s.ptpSlave m = false → s.tsu.ptpm = false ∨ m.sync = false →
      m.twoStep = false →
      exec (.ptpEventRx m) s = .next { s with tsu := { s.tsu with ptpOut := s.tsu.ptpOut ++
        [{ m with correction := m.correction + 65536 * (m.egress - m.ingress + m.linkDelay) }] } }) ∧
    (∀ m : PtpEvent, s.ptpSlave m = false → m.here = true → exec (.ptpEventRx m) s = .next s) ∧
    (∀ m : PtpEvent, s.ptpSlave m = false → s.tsu.ptpm = true → m.sync = true → exec (.ptpEventRx m) s = .next s) ∧
    (∀ a : PtpAnnounce, s.fab.isHead = false →
      exec (.ptpAnnounceRx a) s = .next (if s.tapUp = true ∧ a.here = false ∧ s.tsu.ptpm = false then
        { s with tsu := { s.tsu with annOut := s.tsu.annOut ++ [a] } } else s)) ∧
    (∀ a : PtpAnnounce, s.fab.isHead = true → s.tsu.src = 1 → a.domain = s.tsu.domain →
      let l := (a, s.clk.ed) :: s.announcing.filter fun e => decide (e.1.identity ≠ a.identity)
      s.gives (.ptpAnnounceRx a) fun u => u.tsu.gms = l ∧
        ∃ e ∈ l, u.tsu.gm = some e.1 ∧ u.tsu.tai = e.1.utcOffset ∧ ∀ o ∈ l, announceKey e.1 ≤ announceKey o.1) ∧
    (s.fab.isHead = true → s.tsu.src = 1 → s.tsu.gm.isSome = true →
      (s.announcing = [] → s.gives .grandmasterLoss fun u => u.tsu.gm = none ∧ u.tsu.srcPresent = false) ∧
      (s.announcing ≠ [] → s.gives .grandmasterLoss fun u => u.tsu.gms = s.announcing ∧ u.tsu.srcPresent = s.tsu.srcPresent ∧
        ∃ e ∈ s.announcing, u.tsu.gm = some e.1 ∧ ∀ o ∈ s.announcing, announceKey e.1 ≤ announceKey o.1)) ∧
    (s.tsu.ptpm = true → s.tapUp = true →
      s.gives .ptpMasterSend fun u =>
        let class' : Byte :=
          if s.tsu.st = 2 ∧ s.tsu.trace = true then 6 else if s.tsu.st = 3 then 7 else if s.tsu.st = 0 then 248 else 52
        u.tsu.adv = some class' ∧
        (∃ a, u.tsu.annOut = s.tsu.annOut ++ [a] ∧ a.clockClass = class' ∧ a.domain = s.tsu.domain ∧ a.here = true) ∧
        ∃ x y, u.tsu.ptpOut = s.tsu.ptpOut ++ [x, y] ∧ x.sync = true ∧ x.twoStep = true ∧ x.followUp = false ∧
          y.followUp = true ∧ y.origin = (s.fabNs : Int) ∧ x.domain = s.tsu.domain ∧ y.domain = s.tsu.domain) ∧
    (∀ i : Nat,
      let o := secondOffset ((i : Int) - s.tsu.ppsd)
      (s.ppsHead = false → exec (.ppsInEdge i) s = .next { s with tsu := { s.tsu with ppsOff := o } }) ∧
      (s.ppsHead = true → o.natAbs ≤ 1000000 →
        s.gives (.ppsInEdge i) fun u => u.tsu.ppsOff = o ∧ u.tsu.ppsBad = 0 ∧ u.tsu.srcPresent = true ∧
          u.tsu.offs = -16 * o ∧ u.clk.fab = (((s.clk.fab : Int) - o * 65536) % 2 ^ 80).toNat) ∧
      (s.ppsHead = true → 1000000 < o.natAbs →
        s.gives (.ppsInEdge i) fun u => u.tsu.ppsin = true ∧ u.tsu.ppsBad = s.tsu.ppsBad + 1)) ∧
    (s.ppsHead = true →
      s.gives .ppsInMissing fun u => u.tsu.ppsBad = s.tsu.ppsBad + 1 ∧ (s.tsu.ppsBad = 2 → u.tsu.srcPresent = false)) ∧
    (s.pwr.mode ≠ .off → s.pwr.mode ≠ .reset →
      s.gives .ppsOutSecond fun u => u.tsu.ppsOut = (s.tsu.ppsoe && decide (s.pwr.mode ≠ .boot)) ∧ u.tsu.ppsRise = u.clk.ed ∧ s.clk.ed ≤ u.clk.ed) ∧
    (s.tsu.ppsOut = true → s.tsu.ppsRise + 983040 * max s.tsu.ppsw.toNat 1 ≤ s.clk.ed →
      exec .ppsOutFall s = .next { s with tsu := { s.tsu with ppsOut := false } })

/-- The time unit: transfer over the links, its states, PTP and the PPS pins (R247 to R266). -/
def Obligations.TimeUnit : Prop := TimeTransferAndStates ∧ PtpAndPps

/-! Converters and the host port (R38, R46, R63 to R68, R80, R272, R273, R405 to R427, R464, R465). -/

/-- The composite limiter (R46): a window over the limit is scaled down by the excess in steps of 0.1 dB, rounded up, and
the scaling is restored by 0.1 dB; no channel's gain or state changes; the DAC words fit 16 bits, and are zero while the port
delivers no output (R38, R100). The converters (R63, R65, R66, R68, R80): a clip is latched and the
first of an interval counts; CNV adapts in an interval with valid samples, no clip and a composite of −75 dBm or more, its
coefficients being in force and kept for their bank and LO, and
CONV follows its spur estimate of −85 dBc, or its time limit; leakage over −60 dBc or an image over −65 dBc raises CNV's line;
reading CLIPCNT clears it. -/
def Obligations.ConvertersAndLimiter : Prop :=
  ∀ (s : State) (p : PortId),
    (∀ (power : Level) (sums : List (Int × Int)),
      s.gives (.compositeLimitScale p ⟨power, sums⟩) fun u =>
        (∀ n, u.slot n = { s.slot n with sats := (u.slot n).sats }) ∧ (sums = [] → u = { s with ports := u.ports }) ∧
        (sums ≠ [] → -32768 ≤ u.ports[p].dac.1 ∧ u.ports[p].dac.1 ≤ 32767 ∧
          -32768 ≤ u.ports[p].dac.2 ∧ u.ports[p].dac.2 ≤ 32767 ∧
          (s.ports[p].outputs s.clk.ed = false → u.ports[p].dac = (0, 0))) ∧
        s.ports[p].scale ≤ u.ports[p].scale ∧
        (s.ports[p].scale = 0 → power - s.compositeLimit p ≤ 128 * (u.ports[p].scale : Int) ∧
          (0 < power - s.compositeLimit p → 128 * (u.ports[p].scale : Int) < power - s.compositeLimit p + 128))) ∧
    (s.gives (.compositeLimitRestore p) fun u => u = { s with ports := u.ports } ∧
      u.ports[p].scale = s.ports[p].scale - 1) ∧
    (s.gives (.adcClip p) fun u => u.ports[p] = { s.ports[p] with
        clip := true, clipMs := true
        clipCnt := if s.ports[p].clipMs ∨ s.ports[p].clipCnt = 255 then s.ports[p].clipCnt else s.ports[p].clipCnt + 1 } ∧
      ∀ q : PortId, q ≠ p → u.ports[q] = s.ports[q]) ∧
    (∀ (composite spur : Level) (est : List Int),
      (s.ports[p].rxv = true → s.ports[p].st.receives s.ports[p].tune.donor = true → s.ports[p].clipMs = false →
        -96000 ≤ composite →
        s.gives (.cnvAdaptUpdate p composite ⟨spur, est⟩) fun u => u.ports[p].adapt = true ∧ u.ports[p].coef = est ∧
          u.ports[p].coefs.head? = some ((s.ports[p].tune.bank.toNat, s.ports[p].tune.rxlo), est) ∧
          u.ports[p].coefs.length ≤ 16 ∧ (spur ≤ -108800 → u.ports[p].conv = true) ∧
          (-108800 < spur → s.ports[p].conv = true → u.ports[p].conv = false ∧ u.ports[p].convMax = 50) ∧
          (-108800 < spur → s.ports[p].conv = false →
            u.ports[p].conv = decide (s.ports[p].convMax ≤ s.ports[p].adaptMs + 1))) ∧
      (s.ports[p].rxv = false ∨ s.ports[p].st.receives s.ports[p].tune.donor = false ∨ s.ports[p].clipMs = true ∨
          composite < -96000 →
        s.gives (.cnvAdaptUpdate p composite ⟨spur, est⟩) fun u =>
          u.ports[p] = { s.ports[p] with adapt := false, clipMs := false })) ∧
    (∀ leak image : Level, s.ports[p].tx = .on → s.ports[p].retune = none →
      (leak ≤ -76800 → image ≤ -83200 →
        s.gives (.txCalTrack p leak image) fun u => u = { s with ports := u.ports } ∧
          u.ports[p] = { s.ports[p] with txLeak := leak, txImage := image }) ∧
      (-76800 < leak ∨ -83200 < image → s.obs.live.getLsbD 2 = false →
        s.gives (.txCalTrack p leak image) fun u =>
          u.obs.sticky.getLsbD 2 = true ∧ u.obs.live = s.obs.live ∧
          u.ports[p] = { s.ports[p] with txLeak := leak, txImage := image })) ∧
    (s.busOpen = true →
      s.gives (.clipcntRead p) fun u => u.hpi.hd.toNat / 256 = s.ports[p].clipCnt.toNat ∧
        u.ports[p] = { s.ports[p] with clipCnt := 0 })

/-- The host's registers (R272, R273, R407 to R411, R420, R423, R424, R464, R465). Reading the lowest word of a wide register
holds the register for the higher ones; an unmapped access counts and reads zero; a posted write waits in its queue of 32 and
takes effect in its turn: a W1C bit written as 1 clears, a word lands in the inbound slot or the aperture; a full queue
discards it and sets its crossing bit; GO counts only while READY is 1; reading a cuff marks it seen; while RST_N is low a
read gives zero. -/
def Obligations.HostRegisters : Prop :=
  ∀ (s : State),
    (s.pwr.mode ≠ .off → s.pwr.rst = false → ∀ a : BitVec 14,
      exec (.hostSnapshotRead a) s = .next { s with hpi := { s.hpi with hd := 0 } }) ∧
    (s.busOpen = true →
      (s.gives (.hostSnapshotRead 0x0054) fun u => u.hpi.hd.toNat = s.fab.epoch.toNat % 2 ^ 16 ∧
        tblFind 0x0054 u.hpi.snaps = some s.fab.epoch.toNat) ∧
      (∀ v : Nat, tblFind 0x0054 s.hpi.snaps = some v →
        exec (.hostSnapshotRead 0x0056) s = .next { s with hpi := { s.hpi with hd := BitVec.ofNat 16 (v / 2 ^ 16) } }) ∧
      (s.gives (.hostSnapshotRead 0x0FFC) fun u => u.hpi.hd = 0x6192) ∧
      (∀ (a : BitVec 14) (w : Bool), s.mapped a.toNat = false →
        exec (.hostUnmappedAccess a w) s = .next { s with hpi := { s.hpi with
          viol := if s.hpi.viol = 0xFFFF then 0xFFFF else s.hpi.viol + 1, hd := if w then s.hpi.hd else 0 } }) ∧
      exec .hpiViolRead s = .next { s with hpi := { s.hpi with hd := s.hpi.viol, viol := 0 } } ∧
      (∀ (a : BitVec 14) (d : BitVec 16), s.mapped a.toNat = true →
        (s.hpi.wq.length < 32 →
          exec (.hostWrite a d) s = .next { s with hpi := { s.hpi with wq := s.hpi.wq ++ [(a, d)] } }) ∧
        (32 ≤ s.hpi.wq.length →
          s.gives (.hostWrite a d) fun u => u.hpi.wq = s.hpi.wq ∧ u.hpi.xing.getLsbD 9 = true)) ∧
      (s.hpi.bootReady = true →
        exec .bootGo s = .next { s with hpi := { s.hpi with bootReady := false, bootGo := true } }) ∧
      (s.hpi.bootReady = false → exec .bootGo s = .next s) ∧
      (∀ n : SubId, s.gives (.cuffRead n) fun u => u.hpi.hd.toNat % 256 = (s.cuff n).kind.toNat ∧
        u.cuff n = { s.cuff n with seen := true } ∧ u.obs.sticky = s.obs.sticky)) ∧
    (∀ (a : BitVec 14) (d : BitVec 16) (rest : List (BitVec 14 × BitVec 16)), s.hpi.wq = (a, d) :: rest →
      (a = 0x0104 → exec .hostWriteApply s = .next { s with hpi := { s.hpi with wq := rest, ien := d.setWidth 6 } }) ∧
      (a = 0x0102 → exec .hostWriteApply s = .next { s with hpi := { s.hpi with
        wq := rest, int := s.hpi.int &&& ~~~(d.setWidth 6) } }) ∧
      (a = 0x0020 → s.gives .hostWriteApply fun u => u.hpi.wq = rest ∧ u.rad.sat = (s.rad.sat && !d.getLsbD 0) ∧
        u.rad.noBud = (s.rad.noBud && !d.getLsbD 1) ∧ u.rad.refill = (s.rad.refill && !d.getLsbD 2)) ∧
      (0x1000 ≤ a.toNat → a.toNat < 0x1800 → a.toNat % 2 = 0 → s.hpi.iown = false → memWf s.hpi.inbuf = true →
        s.gives .hostWriteApply fun u => u.hpi.wq = rest ∧
          memBytes u.hpi.inbuf (a.toNat - 0x1000) 2 = natToBytes d.toNat 2 ∧
          ∀ b, b < a.toNat - 0x1000 ∨ a.toNat - 0x1000 + 2 ≤ b → memRead b u.hpi.inbuf = memRead b s.hpi.inbuf) ∧
      (0x2000 ≤ a.toNat → a.toNat < 0x4000 → a.toNat % 2 = 0 →
        (s.hpi.busy = false → memWf s.hpi.aper = true →
          s.gives .hostWriteApply fun u => u.hpi.wq = rest ∧
            memBytes u.hpi.aper (a.toNat - 0x2000) 2 = natToBytes d.toNat 2) ∧
        (s.hpi.busy = true →
          exec .hostWriteApply s = .next { s with hpi := { s.hpi with wq := rest, wbusy := true } }))) ∧
    (∀ mask : BitVec 20, s.gives (.fswStickyClear mask) fun u =>
      u.obs.sticky = (s.obs.sticky &&& ~~~mask) ||| (s.obs.live &&& mask) ∧ u.obs.gone = s.obs.gone &&& ~~~mask ∧
        u.obs.live = s.obs.live)

/-- The mailbox slots (R413, R414, R425). The host hands the inbound slot over and its message is placed as from node 2,046 and
partition 0, held while the mailbox is full, discarded where INEN is 0; the oldest message of the host-bound mailbox goes to
the outbound slot, which the host returns. -/
def HostMailboxes : Prop :=
  ∀ (s : State),
    (s.busOpen = true →
      (s.hpi.iown = false →
        exec .mbxIgo s = .next { s with
          hpi := { s.hpi with iown := true, isamp := s.hpi.idesc }
          pwr := { s.pwr with unann := s.pwr.unann || decide (s.pwr.mode = .hibernate) } }) ∧
      (s.hpi.iown = true → exec .mbxIgo s = .next s) ∧
      (s.hpi.oown = false →
        exec .mbxOdone s = .next { s with
          hpi := { s.hpi with oown := true }
          pwr := { s.pwr with unann := s.pwr.unann || decide (s.pwr.mode = .hibernate) } }) ∧
      (s.hpi.oown = true → exec .mbxOdone s = .next s)) ∧
    (s.hpi.iown = true →
      let p := s.hpi.inPart
      let key := p.val * 8 + s.hpi.inBox.val
      (s.hpi.inen = true → s.partActive p = true →
        ((s.box key).length < 16 → s.nobodyWaits →
          s.gives .inboundPlace fun u => u.hpi.iown = false ∧ u.hpi.int.getLsbD 0 = true ∧
            u.box key = s.box key ++ [({
              body := memBytes s.hpi.inbuf 0 (s.hpi.isamp.toNat / 2 ^ 16 % 2 ^ 11 + 1), srcNode := 2046, srcPart := 0, seen := [], seq := none } : Msg)]) ∧
        (16 ≤ (s.box key).length → exec .inboundPlace s = .next s)) ∧
      (s.hpi.inen = false →
        s.gives .inboundPlace fun u => u.hpi.iown = false ∧ u.hpi.int.getLsbD 0 = true ∧ u.hpi.idrop = true ∧
          u.mail = s.mail)) ∧
    (∀ (m : Msg) (rest : List Msg),
      let key := s.hpi.mbpart.val * 8 + s.hpi.mbbox.val
      s.box key = m :: rest → s.hpi.mben = true → s.hpi.oown = true → memWf s.hpi.outbuf = true →
        1 ≤ m.body.length → m.body.length ≤ 2048 →
        s.gives .outboundReady fun u => u.hpi.oown = false ∧ u.hpi.int.getLsbD 1 = true ∧ u.box key = rest ∧
          memBytes u.hpi.outbuf 0 m.body.length = m.body ∧
          u.hpi.oinfo.toNat = m.body.length - 1 + 2 ^ 12 * m.srcPart.val + 2 ^ 16 * m.srcNode.toNat)

/-- The aperture (R416 to R418, R426). A command is refused with CERR while another runs and with error 5 while AEN is 0; else
it runs on the lines it names, cut at line 127. At its end FILL has put a line's bytes into the buffer, FLUSH the buffer's
bytes at the line's reference; BUSY clears and its interrupt sets. -/
def ApertureCommands : Prop :=
  ∀ (s : State),
    (s.busOpen = true → s.pwr.mode ≠ .boot → ∀ line cnt : Fin 128,
      ∀ e ∈ ([(.aprFill line cnt, 1), (.aprFlush line cnt, 2)] : List (Instr × BitVec 2)),
        (s.hpi.busy = true → exec e.1 s = .next { s with hpi := { s.hpi with cerr := true } }) ∧
        (s.hpi.busy = false → s.hpi.aen = false → exec e.1 s = .next { s with hpi := { s.hpi with
          aerr := 5, fline := BitVec.ofNat 7 line.val, int := s.hpi.int ||| 4 } }) ∧
        (s.hpi.busy = false → s.hpi.aen = true →
          s.gives e.1 fun u => u.hpi.busy = true ∧ u.hpi.aprOp = e.2 ∧ u.hpi.aprAt = s.hpi.aprRef ∧ s.sameMem u ∧
            u.hpi.aper = s.hpi.aper ∧ u.hpi.aprLines.length = min (cnt.val + 1) (128 - line.val))) ∧
    (∀ (k : Nat) (bs : List Byte) (l : List RemoteLine), s.hpi.busy = true → NothingWaits s → k < 128 →
      (s.hpi.aprOp = 1 → s.hpi.aprLines = [(k, .read bs)] → bs.length = 64 → memWf s.hpi.aper = true →
        s.gives (.aprCommandEnd l) fun u => u.hpi.busy = false ∧ u.hpi.aerr = 0 ∧ u.hpi.int.getLsbD 2 = true ∧
          u.hpi.aprLines = [] ∧ memBytes u.hpi.aper (64 * k) 64 = bs ∧ s.sameMem u) ∧
      (let r := lineRef s.hpi.aprAt k
       let a := memKey (refPart r) (refVa r)
       s.hpi.aprOp = 2 → s.hpi.aprLines = [(k, .store)] → memWf s.ms.mem = true →
         s.storeBlocked (refPart r) { va := refVa r, bytes := 64, value := 0 } = false →
         s.gives (.aprCommandEnd l) fun u => u.hpi.busy = false ∧ u.hpi.aerr = 0 ∧ u.hpi.int.getLsbD 2 = true ∧
           memBytes u.ms.mem a 64 = memBytes s.hpi.aper (64 * k) 64 ∧ s.sameMemBut u a 64))

/-- The host's mailbox slots and its aperture (R413 to R418, R425, R426). -/
def Obligations.MailboxesAndAperture : Prop := HostMailboxes ∧ ApertureCommands

/-! Memory's own events and partitions (R360 to R382, R385 to R391, R401, R402). -/

/-- The memory system (R367, R369, R370, R372, R373, R378, R380, R381): the oldest entry of the keep write buffer reaches MRAM;
heat halves; a page moves with its content, keep attribute and address; the home records a replica's holder and forgets it
once it has acknowledged; a holder drops its replica; the scrub finds nothing, a corrected or an uncorrectable error, in a page's frame,
in a keep page's MRAM copy, or in a free frame. -/
def Obligations.MemorySystemEvents : Prop :=
  ∀ (s : State),
    (∀ (l : Nat) (bs : List Byte) (rest : List (Nat × List Byte)), s.ms.kwb = (l, bs) :: rest → NothingWaits s →
      memWf s.ms.mram = true →
      s.gives .keepBufferWrite fun u => u.ms.kwb = rest ∧ memBytes u.ms.mram (l * 64) bs.length = bs ∧ s.sameMem u ∧
        ∀ a, a < l * 64 ∨ l * 64 + bs.length ≤ a → memRead a u.ms.mram = memRead a s.ms.mram) ∧
    (s.pagerRuns = true → s.gives .heatDecay fun u => u = { s with ms := u.ms } ∧ s.sameMem u ∧
      u.ms.pages.map (fun q => q.heat) = s.ms.pages.map (fun q => q.heat / 2)) ∧
    (∀ (p : PartId) (va : BitVec 48) (q : Page), s.pageAt p va.toNat = some q →
      (s.pagerRuns = true → q.tier = 2 → 64 < q.heat → s.heldOut q = false → q.gills ≤ s.roomGills 1 →
        s.gives (.pageMigrate p va 1) fun u => s.sameMem u ∧
          ∃ x, u.pageAt p va.toNat = some x ∧ x.tier = 1 ∧ x.va = q.va ∧ x.keep = q.keep) ∧
      (s.pagerRuns = true → q.tier = 1 → s.coldPage q = true → q.keep = true ∨ q.gills ≤ s.freeGills 2 →
        s.gives (.pageMigrate p va 2) fun u => s.sameMem u ∧
          ∃ x, u.pageAt p va.toNat = some x ∧ x.tier = 2 ∧ x.va = q.va ∧ x.keep = q.keep)) ∧
    (s.ms.band ≠ 4 → exec .band4Evict s = .next { s with ms := { s.ms with evict := false } }) ∧
    (∀ q, s.pagerRuns = true → s.ms.band = 4 →
        coldest (s.ms.pages.filter fun p => p.tier = 1 && !p.keep && decide (p.gills ≤ s.freeGills 2)) = some q →
      s.gives .band4Evict fun u => u.ms.evict = true ∧ s.sameMem u ∧
        ∃ x ∈ u.ms.pages, x.part = q.part ∧ x.va = q.va ∧ x.tier = 2) ∧
    (∀ (node : NodeId) (ref : Word) (data : PageImage),
      (∀ q, s.isHere (refNode ref) = true → s.pageAt (refPart ref) (refVa ref) = some q → s.isHere node = false →
        s.reachable node = true → memKey (refPart ref) q.va ∉ s.ms.asked →
        s.gives (.replicaRequest node ref data) fun u => s.sameMem u ∧
          node.toNat ∈ tblGet [] (memKey (refPart ref) q.va) u.ms.directory) ∧
      (let base := ref.toNat % 2 ^ 62 / 4096 * 4096
       s.isHere (refNode ref) = false → s.isHere node = true → s.reachable (refNode ref) = true → data.bytes.length = 4096 →
        (256 ≤ s.remoteHeat base 4096 → 1 ≤ s.freeGills 1 →
          s.gives (.replicaRequest node ref data) fun u => ∃ r ∈ u.ms.replicas, r.ref = base ∧ r.data = data.bytes ∧ r.bad = data.bad) ∧
        (s.remoteHeat base 4096 < 256 → exec (.replicaRequest node ref data) s = .next s)) ∧
      (s.gives (.replicaDiscardRx ref) fun u => ∀ r, r ∈ u.ms.replicas ↔
        r ∈ s.ms.replicas ∧ ¬(r.ref ≤ ref.toNat % 2 ^ 62 ∧ ref.toNat % 2 ^ 62 < r.ref + r.data.length)) ∧
      (∀ hs, tblFind (s.pageKey (refPart ref) (refVa ref)) s.ms.directory = some hs → NothingWaits s →
        s.gives (.replicaAckRx node ref) fun u =>
          tblGet [] (s.pageKey (refPart ref) (refVa ref)) u.ms.directory = hs.filter fun h => h ≠ node.toNat)) ∧
    (∀ (p : PartId) (va : BitVec 48) (q : Page), s.scrubs = true → s.pageAt p va.toNat = some q →
      ∀ (copy : Bool) (n : BitVec 2),
        let frame : ScrubFrame := if copy then .copy else .working
        let old := s.flawsAt copy (memKey p va.toNat / 32 * 32) 32
        let wrong := n.toNat + (old.map (·.wrong)).sum
        let most := if copy = true ∨ q.tier = 2 then 2 else 1
        (copy = true → q.keep = true ∧ q.tier ≠ 2) →
          (old = [] → n = 0 → exec (.patrolScrub p va ⟨frame, n⟩) s =
            .next { s with ms := { s.ms with scrub := copy || !s.lastBlock q va.toNat } }) ∧
          (0 < wrong → wrong ≤ most → s.gives (.patrolScrub p va ⟨frame, n⟩) fun u => u.ms.ce = true ∧ s.sameMem u) ∧
          (most < wrong → s.gives (.patrolScrub p va ⟨frame, n⟩) fun u => u.ms.ue = true ∧
            memKey p va.toNat / 32 ∈ u.ms.poison ∧ u.parts[p].poison = true ∧ s.sameMem u)) ∧
    (∀ (p : PartId) (va : BitVec 48) (tier : Fin 3) (i : Nat) (n : BitVec 2), s.scrubs = true → 0 < s.freeGills tier →
      0 < n.toNat → n.toNat ≤ (if tier = 2 then 2 else 1) →
      s.gives (.patrolScrub p va ⟨.free tier i, n⟩) fun u => u.ms.ce = true ∧ s.sameMem u)

/-- The partition operations of the Warden (R364, R368, R386 to R391, R401, R402). -/
def PartitionOperations : Prop :=
  ∀ (s : State) (t : TaskId) (k : Task) (c : Nat), s.runs t k c → s.nextOk k → k.part = 0 →
    (∀ p : PartId, p ≠ 0 →
      (s.parts[p].life = .absent →
        (s.parts[p].grants.inRange = true → s.grantsFit p s.parts[p].grants = true →
          s.gives (.partCreate t p) fun u => u.parts[p].life = .active ∧ u.parts[p].gen = s.parts[p].gen ∧
            u.parts[p].effEng = s.parts[p].grants.eng ∧ u.parts[p].effCan = s.parts[p].grants.can ∧ u.pw.pnum = p ∧
            u.task? t = some { k with pc := k.pc + 4 }) ∧
        (s.parts[p].grants.inRange = false ∨ s.grantsFit p s.parts[p].grants = false →
          s.gives (.partCreate t p) fun u => u.parts[p] = s.parts[p] ∧ u.pw.qerr = true) ∧
        (s.gives (.partRelease t p) fun u => u.ms.keptMram = s.ms.keptMram.filter (fun q => q.part ≠ p) ∧
          ∀ q ∈ s.ms.keptMram, q.part = p → ∀ a, q.va ≤ a → a < q.va + q.size →
            memRead (memKey p a) u.ms.mram = 0)) ∧
      (s.parts[p].life = .active →
        (∀ i, s.tasksOf p < s.parts[p].grants.taskq → s.freeTask = some i → t.val ∉ s.cpu.ready →
          s.fetchClean p (s.pw.entry &&& ~~~3#64) →
          s.gives (.partStart t p) fun u => u.task? t = some { k with pc := k.pc + 4 } ∧
            ∃ x, u.task? i = some x ∧ x.part = p ∧ x.pc = s.pw.entry &&& ~~~3#64 ∧
              ∀ r : Reg, x.get r = if r = 1 then s.pw.arg else 0) ∧
        (∀ e ∈ ([(.partReset t p, false), (.partDestroy t p, true)] : List (Instr × Bool)),
          s.gives e.1 fun u => u.parts[p].life = .resetting e.2 ∧ u.parts[p].resetMuted = true ∧
            ∀ i x, u.task? i = some x → x.part = p → x.st = .done 0)) ∧
      (s.pw.pnum = p → ∀ (w : Fin 3) (v : Word),
        let g := s.parts[p].grants.write w.val v.toNat
        (g.inRange = true → s.grantsFit p g = true →
          s.gives (.partGrantWrite t w v) fun u => u.parts[p] = { s.parts[p] with grants := g } ∧ u.pw = s.pw) ∧
        (g.inRange = false →
          s.gives (.partGrantWrite t w v) fun u => u.parts[p] = s.parts[p] ∧ u.pw.qerr = true))) ∧
    (∀ p : PartId, s.parts[p].life.busy = false →
      s.gives (.partClear t p) fun u => u.parts[p] = { s.parts[p] with viol := 0, lastK := 0 } ∧
        u.task? t = some { k with pc := k.pc + 4 }) ∧
    (∀ v : Word,
      let len := v.toNat % 2 ^ 48
      (∀ va, s.partActive s.pw.pnum = true →
        (s.allocFor s.pw.pnum len (bitN v.toNat 48) (bitN v.toNat 49)).2 = (1, va) →
        s.gives (.partAlloc t v) fun u => u.pw.acode = 1 ∧ u.pw.abase = BitVec.ofNat 48 va) ∧
      (s.partActive s.pw.pnum = false →
        s.gives (.partAlloc t v) fun u => u.pw.acode = 6 ∧ u.pw.abase = 0 ∧ u.ms = s.ms))

/-- The end of a partition's reset (R401, R403) and the notice of another node's (R402): the generation rises, the violation
counter clears, no task of the partition is left, its mailboxes are empty, its pages but the keep pages are gone, with
DESTROY all of them, and it is active or absent. -/
def PartitionResetCompletes : Prop :=
  (∀ (s : State) (p : PartId) (d : Bool), s.parts[p].life = .resetting d → s.resetSilent p = true → NothingWaits s →
    s.gives (.partResetComplete p) fun u => u.parts[p].life = (if d then .absent else .active) ∧
      u.parts[p].gen = s.parts[p].gen + 1 ∧ u.parts[p].viol = 0 ∧ u.parts[p].tabs = Tables.initial ∧
      (∀ x ∈ u.cpu.tasks, x.2.part ≠ p) ∧ (∀ m : Fin 8, u.box (p.val * 8 + m.val) = []) ∧
      ∀ q ∈ u.ms.pages, q.part = p → q.keep = true ∧ d = false) ∧
  (∀ (s : State) (node : NodeId) (p : PartId) (g : Byte),
    exec (.partResetNoticeRx node p g) s =
      .next { s with fab := { s.fab with notices := tblPut (node.toNat * 8 + p.val) g s.fab.notices } })

/-- Partitions are created, started, granted, reset and released (R364, R368, R386 to R391, R401 to R403). -/
def Obligations.PartitionsRunAndReset : Prop := PartitionOperations ∧ PartitionResetCompletes

/-! Scheduling, modes and power (R284, R285, R392 to R396, R429 to R444, R490 to R494, R506). -/

/-- Windows, credit, slices and worker cores (R285, R389, R392 to R396): a window gives every tenant that is active as it begins its
contexts, its time and the credit of TIME ns; a partition without credit leaves its contexts; a task that has run 10 µs makes way for a
READY one; a faulty core is withdrawn, its task ended with cause CORE, and with the last core the engine enters WATCH. -/
def Obligations.WindowsSlicesAndCores : Prop :=
  ∀ (s : State),
    (let b := if s.fabNs < s.cpu.windowEnd then s.passTime (s.cyclesTo s.cpu.windowEnd) else s
     s.gives .schedWindowStart fun u => u.cpu.windowEnd % 100000 = 0 ∧ s.cpu.windowEnd < u.cpu.windowEnd ∧
      ∀ p : PartId,
        if p ≠ 0 ∧ b.parts[p].life = .active then
          u.parts[p].effCtx = b.parts[p].grants.ctx ∧ u.parts[p].effTime = b.parts[p].grants.time ∧
            u.parts[p].credit = b.parts[p].grants.time * 1000 * 65536
        else u.parts[p].credit = 0) ∧
    (∀ p : PartId, p ≠ 0 → s.parts[p].credit = 0 → 0 < s.runningOf p →
      s.gives (.creditExhausted p) fun u => u.cpu.outC = true ∧
        ∀ i x, u.task? i = some x → x.part = p → ∀ c, x.st ≠ .running c) ∧
    (∀ (t : TaskId) (k y : Task) (c j : Nat), s.runs t k c → k.part = 0 → k.placedAt + 9831 ≤ s.clk.ed →
      s.programsRun = true → s.cpu.ready = [j] → s.task? j = some y → y.part = 0 → y.st = .ready → y.lastCtx = none →
      c ∈ [32, 33, 34, 35] → (∀ d ∈ [32, 33, 34, 35], s.ctxBusy d = true) →
      s.cpu.tasks.Pairwise (fun a b => a.1 < b.1) → (∀ x ∈ s.cpu.tasks, x.2.st = .running c → x.1 = t.val) →
      s.gives (.taskTimeslice t) fun u => u.cpu.ready = [t.val] ∧ u.task? t = some { k with st := .ready } ∧
        u.task? j = some { y with st := .running c, placedAt := s.clk.ed, lastCtx := some c }) ∧
    (∀ core : CoreId, s.cpu.coreUp.getLsbD core.val = true →
      (s.gives (.workerCoreFault core) fun u => u.cpu.coreUp = s.cpu.coreUp &&& ~~~(1#8 <<< core.val) ∧ u.cpu.wdr = true ∧
        (s.pwr.mode = .quiet → s.cpu.coreUp = 1#8 <<< core.val → u.pwr.mode = .watch)) ∧
      (∀ (i : Nat) (x : Task) (c : Nat), s.task? i = some x → x.st = .running c → c / 4 = core.val → i ∉ s.cpu.ready →
        (∀ y ∈ s.cpu.tasks, ∀ gd gb h, y.2.st ≠ .waiting (.join gd gb h)) →
        s.gives (.workerCoreFault core) fun u =>
          ∃ y, u.task? i = some y ∧ y.st = .done 0xFFFFFFFFFFFFFF05 ∧ y.cause = 5))

/-- The Warden pair and the modes (R20, R21, R22, R284, R429, R430, R497): a stop discards a request and enters WATCH, and every task
ends, from DOZE or HIBERNATE once their exit has come; a third within 10 minutes keeps the pair stopped, and WATCH lasts while it is; a restart runs P0's first task at the image's entry; a request takes
effect at a round boundary that does not itself bring SILENCED, which discards it, but RELAY waits for the first calibration. -/
def Obligations.WardenAndModes : Prop :=
  ∀ (s : State),
    (∀ h : Bool, s.cpu.wrun = true →
      s.gives (.wardenStop h) fun u => u.cpu.wrun = false ∧ u.pwr.req = none ∧
        (s.dozing = false → u.cpu.tasks = []) ∧
        (s.dozing = true → u.pwr.mode = s.pwr.mode ∧ u.pwr.wardenWait = true ∧ u.pwr.wakeReq = true) ∧ u.cpu.stops = s.opMs :: s.recentStops ∧
        (s.pwr.mode = .quiet → u.pwr.mode = .watch ∧ u.pwr.watchFrom = .quiet) ∧
        (2 ≤ s.recentStops.length → u.cpu.wardenHeld = true)) ∧
    (s.cpu.wrun = false → s.cpu.wardenHeld = false → s.pwr.mode.programs = true → s.cpu.tasks = [] → s.cpu.ready = [] →
      s.gives .wardenRestart fun u => u.cpu.wrun = true ∧ ∃ x, u.task? 0 = some x ∧ x.part = 0 ∧ x.st = .running 32 ∧
        x.pc = imageEntry s.svc.image ∧ ∀ r : Reg, x.get r = if r = 1 then BitVec.ofNat 64 s.svc.source else 0) ∧
    (s.pwr.mode = .watch → s.cpu.wrun = false → exec .modeTransition s = .next s) ∧
    (∀ m : Mode, s.pwr.req = some m →
      s.pwr.mode ∈ [Mode.quiet, .survey, .isolate, .relay] ∨ (s.pwr.mode = .watch ∧ s.cpu.wrun = true) →
      (s.pwr.calib ≠ 1 ∨ m ≠ .relay →
        (s.nextBoundary.pwr.req = some m → s.nextBoundary.pwr.mode = s.pwr.mode →
          s.gives .modeTransition fun u => u.pwr.mode = m ∧ u.pwr.req = none) ∧
        (s.nextBoundary.pwr.req = none → exec .modeTransition s = .next s.nextBoundary)) ∧
      (s.pwr.calib = 1 → m = .relay → exec .modeTransition s = .next s)) ∧
    (s.pwr.calib = 1 → s.pwr.calibAt + 1966080000 ≤ s.clk.ed →
      (s.pwr.req ≠ some .relay →
        exec .isolateCalibrationEnd s = .next { s with pwr := { s.pwr with calib := 2 } }) ∧
      (s.pwr.req = some .relay → s.pwr.mode = .isolate →
        let b := ({ s with pwr := { s.pwr with calib := 2 } }).nextBoundary
        b.pwr.req = some .relay → b.pwr.mode = .isolate → b.pwr.calib = 2 →
        s.gives .isolateCalibrationEnd fun u => u.pwr.mode = .relay ∧ u.pwr.calib = 2))

/-- DOZE, HIBERNATE, the wake-ups, the lead time and the idle depth of a core (R434 to R439, R456, R460); modes change at a round
boundary that does not itself bring SILENCED. -/
def Obligations.DozeAndIdle : Prop :=
  ∀ (s : State),
    (s.mayDoze = true → s.pwr.mode = .quiet ∨ s.pwr.mode = .relay → s.pwr.req = none → 20000000 ≤ s.leadNs →
      s.nextBoundary.pwr.mode = s.pwr.mode →
      s.gives .dozeEnter fun u => u.pwr.mode = .doze ∧ u.pwr.base = s.pwr.mode) ∧
    (s.mayDoze = true → s.pwr.hben = true → s.pwr.d3en = true → s.pwr.mode = .doze → s.pwr.wakeReq = false →
      s.tasksQuiet = true → s.noLanes = true → s.hpi.iown = false → s.hpi.busy = false → 2000000000 ≤ s.leadNs →
      s.nextBoundary.pwr.mode = s.pwr.mode →
      s.gives .hibernateEnter fun u => u.pwr.mode = .hibernate ∧ ∀ c : CoreId, u.pwr.depth[c] = 3) ∧
    (let b := s.nextBoundary
     s.dozing = true → s.pwr.wakeReq = true → s.pwr.wardenWait = false → b.cpu.heldQ = [] → b.pwr.mode = s.pwr.mode →
      s.gives .dozeExit fun u => u.pwr.mode = b.pwr.req.getD b.pwr.base ∧ u.pwr.wakeReq = false ∧ u.pwr.req = none) ∧
    (s.pwr.mode = .hibernate → s.leadNs ≤ 2000000 ∨ s.pwr.unann = true →
      s.gives .hibernateWake fun u => u.pwr.mode = .doze ∧ u.pwr.unann = false) ∧
    (s.pwr.mode ≠ .off → exec .wakeEdge s =
      .next { s with pwr := { s.pwr with wake := true, wakeReq := s.pwr.wakeReq || s.dozing } }) ∧
    (s.pwr.tmr ≠ 0 → s.pwr.tmr.toNat ≤ s.fabNs → exec .pwrTimerExpire s =
      .next { s with pwr := { s.pwr with tmr := 0, wakeReq := s.pwr.wakeReq || s.dozing } }) ∧
    (s.gives .leadTimeRecompute fun u => u = { s with pwr := { s.pwr with lead := u.pwr.lead } } ∧ u.pwr.lead < 2 ^ 32 ∧
      (s.pwr.tmr ≠ 0 → u.pwr.lead ≤ (s.pwr.tmr.toNat - s.fabNs) / 1000)) ∧
    (∀ c : CoreId,
      (s.cpu.coreUp.getLsbD c.val = true → s.coreIdle c.val = true →
        s.gives (.coreIdleEnter c) fun u =>
          u.pwr.depth[c] = (if s.pwr.d3en = true ∧ 4000000 ≤ s.leadNs then 3 else if 40000 ≤ s.leadNs then 2
            else if 200 ≤ s.leadNs then 1 else 0) ∧
          ∀ d : CoreId, d ≠ c → u.pwr.depth[d] = s.pwr.depth[d]) ∧
      (exec (.coreIdleExit c) s = .next { s with pwr := { s.pwr with depth := s.pwr.depth.set c 0 } }))

/-- The feeds, power loss, reset and boot (R420, R429, R431, R432, R441 to R444, R475, R490, R493, R494, R506): a lost feed
holds PWR's line; the power-fail warning stops every transmitter; at its end records and keep stores are in MRAM and the
engine is in RESET with no task and no channel; with power good and RST_N high it boots; a verified image enters QUIET, or WATCH
where no worker core is able to run tasks (R20). -/
def Obligations.FeedsResetAndBoot : Prop :=
  ∀ (s : State),
    (∀ b : Bool,
      (s.pwr.mode ≠ .off → s.pwr.feed b = true →
        s.gives (.feedLost b) fun u => u.pwr.feed b = false ∧ u.pwr.flost = true ∧ u.obs.live.getLsbD 18 = true) ∧
      (s.pwr.mode ≠ .off → s.pwr.feed b = false → s.pwr.cut b = false →
        s.gives (.feedRecovery b) fun u => u.pwr.feed b = true ∧ u.pwr.feed (!b) = s.pwr.feed (!b)) ∧
      (s.pwr.mode ≠ .off → s.pwr.cut b = false →
        s.gives (.feedOvervoltage b) fun u => u.pwr.cut b = true ∧ u.pwr.feed b = false ∧ u.pwr.flost = true) ∧
      (s.pwr.cut b = true → s.gives (.feedReconnect b) fun u => u.pwr.cut b = false ∧ u.pwr.feed b = true)) ∧
    (s.pwr.good = true → s.pwr.seqRun = false →
      exec .holdUpCharged s = .next { s with pwr := { s.pwr with hold := true } }) ∧
    (∀ f : BitVec 12, s.pwr.mode ≠ .off → s.pwr.seqRun = false →
      s.gives (.powerFailWarning f) fun u => u.pwr.seqRun = true ∧ u.pwr.pfw = true ∧ u.pwr.hold = false ∧
        ∀ p : PortId, u.ports[p].tx ≠ .on ∧ u.ports[p].tx ≠ .starting) ∧
    (s.pwr.seqRun = true →
      (s.pwr.mode ≠ .halt →
        s.gives .powerLossComplete fun u => u.pwr.mode = .reset ∧ u.cpu.tasks = [] ∧ u.rad.slots = [] ∧
          u.obs.queue = [] ∧ u.ms.kwb = [] ∧ u.obs.optSaved = s.opMs ∧ u.obs.next = s.obs.next) ∧
      (s.gives .holdupExhausted fun u => u.pwr.mode = .off ∧ u.pwr.good = false ∧ u.obs.queue = []) ∧
      (∀ sel, s.pwr.mode = .reset → s.pwr.rst = true → s.pwr.good = true →
        s.gives (.feedRestored sel) fun u => u.pwr.mode = .boot ∧ u.pwr.seqRun = false ∧ u.svc.bootsel = sel)) ∧
    (s.pwr.mode = .off →
      s.gives .feedPowerOn fun u => u.pwr = { s.pwr with mode := .reset } ∧ u.obs.pcc = s.obs.pcc + 1 ∧
        u.opMs = s.obs.optSaved) ∧
    (s.pwr.mode ≠ .off → s.pwr.mode ≠ .halt →
      s.gives .rstAssert fun u => u.pwr.mode = .reset ∧ u.pwr.rst = false ∧ u.cpu.tasks = [] ∧ u.rad.slots = []) ∧
    (s.pwr.mode = .off ∨ s.pwr.mode = .halt →
      exec .rstAssert s = .next { s with pwr := { s.pwr with rst := false } }) ∧
    (∀ (sel : BitVec 2) (hv : Bool), s.pwr.mode = .reset → s.pwr.seqRun = false →
      (s.pwr.good = true → s.pwr.rst = false →
        s.gives (.rstRelease sel) fun u => u.pwr.mode = .boot ∧ u.pwr.rst = true ∧ u.svc.bootsel = sel ∧
          u.cpu.coreUp = 0xFF ∧ (u.hpi.bootReady = true ↔ sel = 1)) ∧
      (s.pwr.good = false →
        s.gives (.powerGood sel hv) fun u => u.pwr.good = true ∧ u.hpi.io18 = hv ∧
          u.pwr.mode = if s.pwr.rst then .boot else .reset)) ∧
    (s.pwr.mode = .boot →
      (s.hpi.bootReady = false → s.hpi.bootGo = false → s.svc.bootsel = 0 →
        (∀ b, s.bootSlot = some b →
          s.gives .imageVerified fun u => u.pwr.mode = (if s.cpu.coreUp = 0 then .watch else .quiet) ∧ u.cpu.wrun = true ∧
            u.svc.run = b ∧ u.svc.image = s.svc.slotBytes b) ∧
        (s.bootSlot = none →
          s.gives .imageVerified fun u => u.pwr.mode = .boot ∧ u.hpi.bootReady = true ∧ u.hpi.int.getLsbD 3 = true)) ∧
      (s.hpi.bootReady = false → s.hpi.bootGo = true → s.imageVerifies s.hostImage = false →
        s.gives .imageVerified fun u => u.pwr.mode = .boot ∧ u.hpi.bootFail = true ∧ u.hpi.bootReady = true) ∧
      (∀ im : List Byte, s.svc.chainAsk = true →
        (s.imageVerifies im = true →
          s.gives (.chainImageReceived im) fun u => u.pwr.mode = (if s.cpu.coreUp = 0 then .watch else .quiet) ∧
            u.svc.image = im ∧ u.svc.source = 3) ∧
        (s.imageVerifies im = false → exec (.chainImageReceived im) s = .next s))) ∧
    (∀ l : ChainId, s.links[chainLink l].controls = true → s.links[chainLink l].child = true →
      exec (.chainImageRequestRx l) s = .next { s with svc := { s.svc with relay := some l } })

/-! The thermal manager, OBS, tables and service (R134 to R136, R147, R152, R432, R445 to R489, R495 to R502, R512). -/

/-- The housekeeping converter and the thermal manager (R432, R445 to R455, R458): a trigger starts a scan or is latched behind
one; a conversion's result is kept and is valid, but that of a remote input that is open or shorted; a scan ends with the
latched one next; a round with sound diodes warns, throttles and shuts down at its thresholds; a housekeeping record is
written every HKR rounds. -/
def Obligations.ThermalManager : Prop :=
  ∀ (s : State), s.pwr.mode ≠ .off →
    (s.thm.scan = none →
      exec .hkaRoundTrigger s = .next { s with thm := { s.thm with scan := some true, roundAt := s.clk.ed, nextInput := 0 } }) ∧
    (∀ b, s.thm.scan = some b → s.thm.pend = none →
      exec .hkaRoundTrigger s = .next { s with thm := { s.thm with pend := some true, roundAt := s.clk.ed } }) ∧
    (∀ (t : TaskId) (k : Task) (c : Nat), s.runs t k c → s.nextOk k → k.part = 0 → s.thm.scan = none →
      s.gives (.hkaTrig t) fun u =>
        ({ s with thm := { s.thm with scan := some false, nextInput := 0 } }).becomes u t { k with pc := k.pc + 4 }) ∧
    (∀ (i : HkaId) (v : BitVec 12) (conn : Bool), s.thm.scan.isSome = true → s.thm.mask.getLsbD i.val = true →
      s.thm.nextInput ≤ i.val → s.thm.convertedTo i.val = true →
      (i ≠ 12 → i ≠ 13 → 12 ≤ i.val ∨ s.thm.brk.getLsbD i.val = false →
        s.gives (.hkaConversionEnd i v conn) fun u => u.thm.value = s.thm.value.set i (if 26 ≤ i.val then 0 else v) ∧
          u.thm.valid.getLsbD i.val = true) ∧
      (i = 12 ∨ i = 13 →
        (conn = true → s.gives (.hkaConversionEnd i v conn) fun u => u.thm.value = s.thm.value.set i v ∧
          u.thm.valid.getLsbD i.val = true) ∧
        (conn = false → s.gives (.hkaConversionEnd i v conn) fun u => u.thm.valid.getLsbD i.val = false ∧
          u.obs.live.getLsbD 17 = true))) ∧
    (s.thm.scan = some false → s.thm.convertedTo 32 = true →
      exec .hkaScanEnd s = .next { s with thm := { s.thm with scan := s.thm.pend, pend := none, nextInput := 0 } }) ∧
    (∀ t : Int, s.thm.scan = some true → s.thm.convertedTo 32 = true → s.thm.brk = 0 → (∀ k : Fin 12, s.thm.strays k = false) → s.thm.tMax = some t →
      s.gives .hkaScanEnd fun u => u.thm.rounds = s.thm.rounds + 1 ∧ u.thm.scan = s.thm.pend ∧
        (8 * (s.thm.warn : Int) ≤ t → u.thm.fWarn = true ∧ (s.thm.fWarn = false → u.thm.wseen = true)) ∧
        (t ≤ 8 * (s.thm.warn : Int) - 40 → u.thm.fWarn = false) ∧
        (8 * (s.thm.throt : Int) ≤ t → u.thm.fThr = true ∧ u.thm.backoff = min (s.thm.backoff + 1) 23) ∧
        (8 * (s.thm.shut : Int) ≤ t → s.pwr.mode ≠ .halt →
          u.pwr.mode = .halt ∧ u.thm.fShut = true ∧ u.cpu.tasks = [] ∧ u.cpu.coreUp = 0 ∧
            ∀ p : PortId, u.ports[p].tx ≠ .on ∧ u.ports[p].tx ≠ .starting)) ∧
    (max s.pwr.hkr 1 ≤ s.thm.rounds → (s.bucket 0x2100).tokens ≠ 0 → s.obs.queue.length < 64 →
      s.gives .housekeepingRecord fun u => u.thm = { s.thm with rounds := 0 } ∧ u.obs.next = s.obs.next + 1 ∧
        ∃ r, u.obs.queue = s.obs.queue ++ [r] ∧ r.toNat % 2 ^ 16 = 0x2100)

/-- The fault status word, fault messages and event records (R463 to R466, R470, R472, R475 to R478): a rising error line sets
STICKY and fills the cuff, or marks that more came; a falling one sets GONE if the cuff was not read; the head places a
received message in mailbox 6 of P0 or drops it; the oldest queued record reaches MRAM; a bucket refills by one up to 32, once in
125 ms. -/
def Obligations.FaultStatusAndRecords : Prop :=
  ∀ (s : State),
    (∀ (n : SubId) (kind : Byte),
      (s.pwr.mode ≠ .off → (faultKinds n.val).contains kind.toNat = true → s.obs.live.getLsbD n.val = false →
        s.gives (.errorLineRise n kind) fun u => u.obs.live.getLsbD n.val = true ∧ u.obs.sticky.getLsbD n.val = true ∧
          (s.obs.sticky.getLsbD n.val = false → (u.cuff n).kind = kind ∧ (u.cuff n).more = false ∧
            u.hpi.int.getLsbD 5 = true) ∧
          (s.obs.sticky.getLsbD n.val = true → (u.cuff n).kind = (s.cuff n).kind ∧ (u.cuff n).more = true)) ∧
      (s.obs.live.getLsbD n.val = true →
        s.gives (.errorLineFall n) fun u => u.obs.live.getLsbD n.val = false ∧ u.obs.sticky = s.obs.sticky ∧
          (s.obs.sticky.getLsbD n.val = true → (s.cuff n).seen = false → u.obs.gone.getLsbD n.val = true)) ∧
      (s.obs.live.getLsbD n.val = false → exec (.errorLineFall n) s = .next s)) ∧
    (∀ m : BitVec 128, s.fab.isHead = true →
      ((s.box 6).length < 16 →
        s.gives (.faultMsgRx m) fun u =>
          u.box 6 = s.box 6 ++ [({ body := natToBytes m.toNat 16, srcNode := s.selfNode, srcPart := 0, seen := [], seq := none } : Msg)]) ∧
      (16 ≤ (s.box 6).length → s.gives (.faultMsgRx m) fun u => u.mail = s.mail ∧ u.obs.fdrop = true)) ∧
    (∀ n : Nat, s.windowPassed n = true →
      s.gives (.severityWindowExpire n) fun u => (u.source n).severe = false ∧ (u.source n).times = []) ∧
    (∀ (r : BitVec 256) (rest : List (BitVec 256)), s.obs.queue = r :: rest →
      let r' := if s.obs.pcount < 4096 then withPerm r else r
      s.gives .eventRecordCommit fun u => u.obs.queue = rest ∧ tblFind (recordSeq r % 16384) u.obs.circ = some r' ∧
        (s.obs.pcount < 4096 → u.obs.pcount = s.obs.pcount + 1 ∧ tblFind s.obs.pcount u.obs.perm = some r') ∧
        (4096 ≤ s.obs.pcount → u.obs.pcount = s.obs.pcount ∧ u.obs.perm = s.obs.perm)) ∧
    (∀ code : BitVec 16,
      let b := s.bucket code.toNat
      (b.last < s.tokenClock → s.gives (.tokenRefill code) fun u =>
        u.bucket code.toNat = { b with tokens := min (b.tokens + 1) 32, last := b.last + 1 }) ∧
      (s.tokenClock ≤ b.last → exec (.tokenRefill code) s = .next s)) ∧
    (s.pwr.mode ≠ .off → exec .optimeSave s = .next { s with obs := { s.obs with optSaved := s.opMs } })

/-- Bushels, samples and the recorder's words (R481, R484 to R488): at its instant a dump with LEN 0 only takes the settings; with
LEN 1 it writes a bushel of 2,112 bytes at BASE, or is skipped where no memory is there; a sample of 16 bytes that is due goes into
the ring, or is dropped and counted; a program emits records of its own range only; RDATA reads piece by piece. -/
def Obligations.BushelsSamplesAndWords : Prop :=
  ∀ (s : State),
    (s.pwr.mode ≠ .off → s.pwr.mode ≠ .reset →
      let b := s.passTime (s.cyclesTo s.dumpInstant)
      memWf b.ms.mem = true →
      (b.obs.lenNext = 0 →
        s.gives .bushelDump fun u => u.obs.ringLen = 0 ∧ u.obs.period = b.obs.periodNext ∧ u.obs.bseq = b.obs.bseq ∧
          u.ms = b.ms) ∧
      (b.obs.lenNext = 1 →
        let a := b.obs.baseNext / 64 * 64
        (b.bushelFits a = true →
          s.gives .bushelDump fun u => u.obs.bseq = b.obs.bseq + 1 ∧
            memBytes u.ms.mem a 4 = natToBytes b.obs.bseq.toNat 4 ∧ b.sameMemBut u a 2112) ∧
        (b.bushelFits a = false →
          s.gives .bushelDump fun u => u.obs.bseq = b.obs.bseq ∧ u.obs.bskip = true ∧ u.ms = b.ms))) ∧
    (∀ (t : TaskId) (k : Task) (c : Nat) (pc : Word), s.runs t k c → s.parts[k.part].samp.en = true →
      s.mayCount k.part s.parts[k.part].samp.event.toNat = true → (s.sampling k.part).2 ≠ 0 →
      let x := s.parts[k.part].samp
      let a := x.base / 16 * 16 + 16 * (x.snext.toNat % max x.len 1)
      (s.allocatedRange k.part a 16 = true → memWf s.ms.mem = true →
        s.gives (.perfSample t pc) fun u => u.parts[k.part].samp = { x with snext := x.snext + 1 } ∧
          (u.sampling k.part).2 + 1 = (s.sampling k.part).2 ∧
          memBytes u.ms.mem (memKey k.part a) 8 = natToBytes pc.toNat 8 ∧ s.sameMemBut u (memKey k.part a) 16) ∧
      (s.allocatedRange k.part a 16 = false →
        s.gives (.perfSample t pc) fun u => u.parts[k.part].samp = { x with drop := min (x.drop + 1) 65535 } ∧
          u.ms = s.ms)) ∧
    (∀ (t : TaskId) (k : Task) (c : Nat) (v : Word) (gd : Reg), s.runs t k c → s.nextOk k →
      let done (u : State) : Prop := u.task? t = some { k with pc := k.pc + 4 }
      (s.gives (.obsSampEnable t v) fun u => done u ∧ u.parts[k.part].samp = { s.parts[k.part].samp with
        event := v.setWidth 6, en := true, period := v.toNat / 2 ^ 8 % 2 ^ 24, snext := 0, drop := 0 }) ∧
      (v.toNat % 2 ^ 16 < 0x8000 → s.gives (.obsEmit t v) fun u => s.becomes u t { k with pc := k.pc + 4 }) ∧
      (0x8000 ≤ v.toNat % 2 ^ 16 → (s.bucket (v.toNat % 2 ^ 16)).tokens ≠ 0 → s.obs.queue.length < 64 →
        s.gives (.obsEmit t v) fun u => done u ∧ u.obs.next = s.obs.next + 1 ∧
          ∃ r, u.obs.queue = s.obs.queue ++ [r] ∧ r.toNat % 2 ^ 16 = v.toNat % 2 ^ 16) ∧
      (k.part = 0 →
        (s.gives (.obsFclr t v) fun u => done u ∧
          u.obs.sticky = (s.obs.sticky &&& ~~~(v.setWidth 20)) ||| (s.obs.live &&& v.setWidth 20)) ∧
        (s.gives (.obsPclr t) fun u => done u ∧ u.obs.perm = [] ∧ u.obs.pcount = 0) ∧
        (s.gives (.obsRdataRead t gd) fun u =>
          ({ s with obs := { s.obs with rptr := s.obs.rptr + 1 } }).becomes u t (k.step gd s.obs.piece))) ∧
      (k.part ≠ 0 → s.gives (.obsRdataRead t gd) fun u => s.violates u t (k.step gd 0) 2))

/-- The tables of GLC and FBC and the canceller's taps (R134 to R136, R147, R152, R153, R500): an entry goes into the shadow at
PTR, which advances; a swap waits for the round boundary and leaves the active table; a tap written with the model frozen is
stored and makes the model not valid; an invalid handle is a violation of kind 0x03. -/
def Obligations.TablesAndTaps : Prop :=
  ∀ (s : State) (t : TaskId) (k : Task) (c : Nat) (v : Word) (gd : Reg), s.runs t k c → s.nextOk k →
    let x := s.parts[k.part].tabs
    let done (u : State) : Prop := u.task? t = some { k with pc := k.pc + 4 }
    let only (u : State) (y : Tables) (k' : Task) : Prop :=
      (let q := { s.parts[k.part] with tabs := y }
       { s with parts := s.parts.set k.part q }).becomes u t k'
    (s.gives (.glcTableSwap t v) fun u => done u ∧
      u.parts[k.part].tabs.gPend = x.gPend ||| (1#8 <<< gKey (v.getLsbD 2) (v.setWidth 2)) ∧
      u.parts[k.part].tabs.gActive = x.gActive) ∧
    (s.gives (.glcEset t v) fun u => done u ∧
      (tblGet GTab.initial (gKey (v.getLsbD 2) (v.setWidth 2)) u.parts[k.part].tabs.gShadow).eres =
        BitVec.ofNat 2 (v.toNat / 2 ^ 4)) ∧
    (s.gives (.glcTdataWrite t v) fun u => done u ∧ u.parts[k.part].tabs.gPtr = x.gPtr + 1 ∧
      tblFind x.gPtr.toNat u.parts[k.part].tabs.gTab.ent = some (v.setWidth 16)) ∧
    (s.gives (.glcTdataRead t gd) fun u => only u { x with gPtr := x.gPtr + 1 } (k.step gd (BitVec.ofNat 64 x.readTdata))) ∧
    (s.gives (.fbcTableSwap t v) fun u => done u ∧
      u.parts[k.part].tabs.fPend = x.fPend ||| (1#4 <<< (v.toNat % 4)) ∧ u.parts[k.part].tabs.fActive = x.fActive) ∧
    (s.gives (.fbcTdataWrite t v) fun u => done u ∧ u.parts[k.part].tabs.fPtr = x.fPtr + 1 ∧
      tblFind x.fPtr.toNat (tblGet [] x.fTnum.toNat u.parts[k.part].tabs.fShadow) = some (v.setWidth 16)) ∧
    (s.gives (.fbcTdataRead t gd) fun u => only u { x with fPtr := x.fPtr + 1 } (k.step gd (BitVec.ofNat 64 x.readFdata))) ∧
    (∀ n, s.tapChan k.part = some n → x.tapPtr.toNat < 48 →
      (s.adapting (s.slot n) = false →
        s.gives (.fbcTapdWrite t v) fun u => done u ∧ (u.slot n).fbc.valid = false ∧
          tblFind x.tapPtr.toNat (u.slot n).fbc.taps = some (signedN 32 v.toNat, signedN 32 (v.toNat / 2 ^ 32)) ∧
          u.parts[k.part].tabs.tapPtr = tapNext x.tapPtr) ∧
      (let tap := tblGet (0, 0) x.tapPtr.toNat (s.slot n).fbc.taps
       s.gives (.fbcTapdRead t gd) fun u => only u { x with tapPtr := tapNext x.tapPtr }
         (k.step gd (BitVec.ofNat 64 (toUnsignedN 32 tap.1 + 2 ^ 32 * toUnsignedN 32 tap.2))))) ∧
    (s.tapChan k.part = none →
      (s.gives (.fbcTapdWrite t v) fun u => s.violates u t { k with pc := k.pc + 4 } 3) ∧
      (s.gives (.fbcTapdRead t gd) fun u => s.violates u t (k.step gd 0) 3)) ∧
    (let n := x.findSlot.toNat
     s.gives (.chFindRead t gd) fun u => s.becomes u t (k.step gd (BitVec.ofNat 64 (n + 2 ^ 32 *
       (if n < 192 ∧ (s.slot n).phase = .owned ∧ (s.slot n).owner = k.part then (s.handleOf n).toNat % 2 ^ 19 else 0)))))

/-- Slot operations, charters and service (R182, R183, R495 to R499, R501, R502, R512): an operation starts where none runs and is
ignored where one does; at its end BUSY clears and RES tells the result; a charter that verifies at the next round boundary comes
into force, one that does not leaves the charter in force and sets VFAIL; personalities are offered and adopted; the test access port follows its
controller. -/
def Obligations.SlotOperationsAndService : Prop :=
  ∀ (s : State),
    (∀ (t : TaskId) (k : Task) (c : Nat), s.runs t k c → s.nextOk k → k.part = 0 →
      ∀ e ∈ ([(.wrimg, .wrimg), (.wrcht, .wrcht), (.actcht, .actcht), (.restart, .restart), (.confirm, .confirm),
              (.fuse, .fuse)] : List ((TaskId → Instr) × SlotOp)),
        (s.svc.op = .none →
          s.gives (e.1 t) fun u => u.svc = { s.svc with op := e.2 } ∧ u.task? t = some { k with pc := k.pc + 4 }) ∧
        (s.svc.op ≠ .none → s.gives (e.1 t) fun u => s.becomes u t { k with pc := k.pc + 4 })) ∧
    (s.svc.op = .none → exec .slotOpComplete s = .next s) ∧
    (s.svc.op = .confirm →
      s.gives .slotOpComplete fun u => u.svc.op = .none ∧ u.svc.res = 1 ∧ u.svc.trial = false ∧
        u.svc.confirmed.toNat = max s.svc.confirmed.toNat (imageVersion s.svc.image).toNat) ∧
    (s.svc.op = .wrimg →
      (s.stagedImage = none → s.gives .slotOpComplete fun u => u.svc = { s.svc with op := .none, res := 4 }) ∧
      (∀ b, s.stagedImage = some b →
        (s.imageVerifies b = false → s.gives .slotOpComplete fun u => u.svc = { s.svc with op := .none, res := 2 }) ∧
        (s.imageVerifies b = true → s.gives .slotOpComplete fun u => u.svc.res = 1 ∧ u.svc.op = .none ∧
          u.svc.slotBytes (!s.svc.run) = b ∧ u.svc.rejected (!s.svc.run) = false ∧
          u.svc.slotBytes s.svc.run = s.svc.slotBytes s.svc.run))) ∧
    (s.svc.op = .wrcht → ∀ b, s.stagedCharter = some b →
      s.gives .slotOpComplete fun u => u.svc = { s.svc with op := .none, res := 1 } ∧
        u.cht.slotBytes s.cht.idleB = b ∧ u.cht.force = s.cht.force) ∧
    (s.svc.op = .restart → s.imageVerifies (s.svc.slotBytes (!s.svc.run)) = true →
      s.svc.rejected (!s.svc.run) = false →
      s.gives .slotOpComplete fun u => u.svc.res = 1 ∧ u.svc.trial = true ∧ u.svc.run = !s.svc.run ∧
        u.cpu.wrun = false ∧ u.pwr.req = none ∧ (s.dozing = false → u.cpu.tasks = []) ∧ (s.pwr.mode = .quiet → u.pwr.mode = .watch)) ∧
    (s.cht.actReq = true →
      let b := s.nextBoundary
      (b.charterVerifies (b.cht.slotBytes b.cht.idleB) = true →
        s.gives .charterActivate fun u => u.cht.force = some b.cht.idleB ∧ u.cht.actReq = false ∧ u.svc.res = 1 ∧
          u.cht.seq = charterSeq (b.cht.slotBytes b.cht.idleB)) ∧
      (b.charterVerifies (b.cht.slotBytes b.cht.idleB) = false →
        s.gives .charterActivate fun u => u.cht = { b.cht with actReq := false } ∧ u.svc.res = 2 ∧ u.rad.vfail = true)) ∧
    (s.svc.replicaOut = true → exec .personalitySend s =
      .next { s with svc := { s.svc with replicaOut := false, persOut := some s.personality } }) ∧
    (∀ o : ReplicaOffer, o.neighboursMatch = true → o.idHasAddress = false → s.svc.offerBad = false → s.svc.offer = none →
      s.fab.idSet = false →
      s.gives (.personalityOfferRx o) fun u => u.fab.idSet = true ∧ u.fab.nodeId = o.fabCfg.setWidth 11 ∧
        u.fab.elect = true ∧ u.cht.slotA = if o.charter.isEmpty then s.cht.slotA else o.charter) ∧
    (∀ tms tdi : Bool, s.pwr.mode ≠ .off →
      (s.gives (.testAccessPortClock tms tdi true) fun u => u.tap.st = 0 ∧ u.tap.ir = []) ∧
      (s.gives (.testAccessPortClock tms tdi false) fun u => u.tap.st = tapNextState s.tap.st tms))

/-! Invariants. -/

/-- Every step keeps the canonical form of all byte memory: addresses rise and no zero is listed. -/
def Obligations.MemoryStaysCanonical : Prop :=
  ∀ s u : State, s.memOk → step s = .next u → u.memOk

/-- Every step keeps every task sound: g0 holds zero (R286), and the program counter and the handler's address are multiples of
4 (R290, R305). -/
def Obligations.TasksStaySound : Prop :=
  ∀ s u : State, s.tasksOk → step s = .next u → u.tasksOk

/-- Every step keeps every port safe (R38, R39, R41, R48, R49, R53, R73): a port that RFKILL_N, a booster fault or a lost lock
holds does not transmit, a booster is keyed only with its supply on, and only while its port transmits or a running schedule is
about to let it, and no record programs PROBE. -/
def Obligations.PortsStaySafe : Prop :=
  ∀ s u : State, s.portsOk → step s = .next u → u.portsOk

/-- Right after reset the three invariants hold (R7, R32, R36): the engine is in RESET with no task, no channel slot in use, no
port on and no link up. The values that the manual states no reset for are the model's choice (log 2). -/
def Obligations.ResetIsSafe : Prop :=
  State.reset.memOk ∧ State.reset.tasksOk ∧ State.reset.portsOk ∧ State.reset.pwr.mode = .reset ∧
    State.reset.pending = [] ∧ State.reset.cpu.tasks = [] ∧ (∀ n, (State.reset.slot n).phase = .free) ∧
    (∀ p : PortId, State.reset.ports[p].st = .off ∧ State.reset.ports[p].tx = .off ∧ State.reset.ports[p].ben = false) ∧
    ∀ l : LinkId, State.reset.links[l].st = .down
end

