-- ==== Sys2Proof/Laws/Tbl.lean ====
section
/-! SUPPORT. What the tables and byte memory do: a find after a put or a deletion, a read after a write, and that every
operation on memory keeps its canonical form. -/

namespace Sys2Proof.Machine

/-! Tables. -/

@[simp] theorem tblFind_tblPut_same {α : Type} (k : Nat) (a : α) (t : List (Nat × α)) : tblFind k (tblPut k a t) = some a := by
  induction t with
  | nil => simp [tblPut, tblFind]
  | cons x t ih =>
    obtain ⟨j, b⟩ := x
    by_cases h : j = k
    · simp [tblPut, tblFind, h]
    · by_cases h2 : k < j <;> simp [tblPut, tblFind, h, h2, ih]

theorem tblFind_tblPut_ne {α : Type} {i k : Nat} (h : i ≠ k) (a : α) (t : List (Nat × α)) :
    tblFind i (tblPut k a t) = tblFind i t := by
  induction t with
  | nil => simp [tblPut, tblFind, h.symm]
  | cons x t ih =>
    obtain ⟨j, b⟩ := x
    by_cases hj : j = k
    · subst hj
      simp [tblPut, tblFind, h.symm]
    · by_cases h2 : k < j <;> simp [tblPut, tblFind, hj, h2, ih, h.symm]

theorem tblFind_tblPut {α : Type} (i k : Nat) (a : α) (t : List (Nat × α)) :
    tblFind i (tblPut k a t) = if i = k then some a else tblFind i t := by
  by_cases h : i = k
  · subst h
    simp
  · simp [h, tblFind_tblPut_ne h]

@[simp] theorem tblPut_tblPut {α : Type} (k : Nat) (a b : α) (t : List (Nat × α)) : tblPut k a (tblPut k b t) = tblPut k a t := by
  induction t with
  | nil => simp [tblPut]
  | cons x t ih =>
    obtain ⟨j, c⟩ := x
    by_cases h : j = k
    · simp [tblPut, h]
    · by_cases h2 : k < j <;> simp [tblPut, h, h2, ih]

theorem tblPut_found {α : Type} {k : Nat} {a : α} {t : List (Nat × α)} (h : tblFind k t = some a)
    (hs : t.Pairwise fun x y => x.1 < y.1) : tblPut k a t = t := by
  induction t with
  | nil => simp [tblFind] at h
  | cons x t ih =>
    obtain ⟨j, b⟩ := x
    rw [List.pairwise_cons] at hs
    by_cases hj : j = k
    · subst hj
      simp [tblFind] at h
      simp [tblPut, h]
    · simp only [tblFind, hj, if_false] at h
      have hk : j < k := by
        clear ih
        have key : ∀ l : List (Nat × α), tblFind k l = some a → ∃ y ∈ l, y.1 = k := by
          intro l
          induction l with
          | nil => simp [tblFind]
          | cons y l ih =>
            intro hl
            by_cases hy : y.1 = k
            · exact ⟨y, by simp, hy⟩
            · simp only [tblFind, hy, if_false] at hl
              obtain ⟨z, hz, e⟩ := ih hl
              exact ⟨z, by simp [hz], e⟩
        obtain ⟨y, hy, e⟩ := key t h
        have := hs.1 y hy
        simp only at this
        omega
      simp [tblPut, hj, Nat.not_lt.mpr hk.le, ih h hs.2]

@[simp] theorem tblGet_tblPut_same {α : Type} (d : α) (k : Nat) (a : α) (t : List (Nat × α)) :
    tblGet d k (tblPut k a t) = a := by
  simp [tblGet]

theorem tblGet_tblPut {α : Type} (d : α) (i k : Nat) (a : α) (t : List (Nat × α)) :
    tblGet d i (tblPut k a t) = if i = k then a else tblGet d i t := by
  simp only [tblGet, tblFind_tblPut]
  split <;> rfl

@[simp] theorem tblFind_tblDel_same {α : Type} (k : Nat) (t : List (Nat × α)) : tblFind k (tblDel k t) = none := by
  induction t with
  | nil => rfl
  | cons x t ih =>
    obtain ⟨j, b⟩ := x
    by_cases h : j = k <;> simp [tblDel, tblFind, h, ih]

theorem tblFind_tblDel {α : Type} (i k : Nat) (t : List (Nat × α)) :
    tblFind i (tblDel k t) = if i = k then none else tblFind i t := by
  induction t with
  | nil => simp [tblDel, tblFind]
  | cons x t ih =>
    obtain ⟨j, b⟩ := x
    by_cases h : j = k
    · subst h
      by_cases hi : i = j
      · simp [tblDel, hi]
      · simp [tblDel, tblFind, ih, hi, Ne.symm hi]
    · by_cases hi : i = k
      · subst hi
        simp [tblDel, tblFind, h]
      · simp only [tblDel, h, if_false, tblFind, ih, hi]

@[simp] theorem tblFind_tblMap {α : Type} (f : Nat → α → α) (k : Nat) (t : List (Nat × α)) :
    tblFind k (tblMap f t) = (tblFind k t).map (f k) := by
  induction t with
  | nil => rfl
  | cons x t ih =>
    obtain ⟨j, b⟩ := x
    by_cases h : j = k
    · subst h
      simp [tblMap, tblFind]
    · simp [tblMap, tblFind, h, ih]

/-! Byte memory: the canonical form. -/

theorem memWfFrom_cons (lo j : Nat) (c : Byte) (m : Mem) :
    memWfFrom lo ((j, c) :: m) = true ↔ lo ≤ j ∧ c ≠ 0 ∧ memWfFrom (j + 1) m = true := by
  simp [memWfFrom, and_assoc]

theorem memWfFrom_mono {lo hi : Nat} {m : Mem} (h : lo ≤ hi) (hm : memWfFrom hi m = true) : memWfFrom lo m = true := by
  cases m with
  | nil => rfl
  | cons x m =>
    obtain ⟨j, c⟩ := x
    rw [memWfFrom_cons] at hm ⊢
    exact ⟨h.trans hm.1, hm.2⟩

/-- No address below the first listed one reads as anything but zero. -/
theorem memRead_below {lo a : Nat} {m : Mem} (hm : memWfFrom lo m = true) (h : a < lo) : memRead a m = 0 := by
  cases m with
  | nil => rfl
  | cons x m =>
    obtain ⟨j, c⟩ := x
    rw [memWfFrom_cons] at hm
    have h1 : j ≠ a := by omega
    have h2 : a < j := by omega
    simp [memRead, h1, h2]

theorem memWfFrom_memWrite {lo a : Nat} {m : Mem} (b : Byte) (hm : memWfFrom lo m = true) (h : lo ≤ a) :
    memWfFrom lo (memWrite a b m) = true := by
  induction m generalizing lo with
  | nil => by_cases hb : b = 0#8 <;> simp [memWrite, memWfFrom, hb, h]
  | cons x m ih =>
    obtain ⟨j, c⟩ := x
    have hm' := (memWfFrom_cons lo j c m).mp hm
    by_cases hj : j = a
    · subst hj
      by_cases hb : b = 0#8
      · simpa [memWrite, hb] using memWfFrom_mono (by omega) hm'.2.2
      · simpa [memWrite, hb, memWfFrom_cons] using ⟨h, hm'.2.2⟩
    · by_cases h2 : a < j
      · by_cases hb : b = 0#8
        · simpa [memWrite, hj, h2, hb] using hm
        · simpa [memWrite, hj, h2, hb, memWfFrom_cons, h] using hm'.2
      · simpa [memWrite, hj, h2, memWfFrom_cons] using ⟨hm'.1, hm'.2.1, ih hm'.2.2 (by omega)⟩

/-- A write keeps the canonical form. -/
theorem memWf_memWrite (a : Nat) (b : Byte) {m : Mem} (hm : memWf m = true) : memWf (memWrite a b m) = true :=
  memWfFrom_memWrite b hm (Nat.zero_le a)

theorem memWfFrom_memZero {lo : Nat} (a n : Nat) {m : Mem} (hm : memWfFrom lo m = true) : memWfFrom lo (memZero a n m) = true := by
  induction m generalizing lo with
  | nil => rfl
  | cons x m ih =>
    obtain ⟨j, c⟩ := x
    have hm' := (memWfFrom_cons lo j c m).mp hm
    simp only [memZero]
    split
    · exact memWfFrom_mono (by omega) (ih hm'.2.2)
    · exact (memWfFrom_cons lo j c _).mpr ⟨hm'.1, hm'.2.1, ih hm'.2.2⟩

/-- Zeroing a range keeps the canonical form. -/
theorem memWf_memZero (a n : Nat) {m : Mem} (hm : memWf m = true) : memWf (memZero a n m) = true := memWfFrom_memZero a n hm

/-- Writing bytes keeps the canonical form. -/
theorem memWf_memPutBytes (a : Nat) (bs : List Byte) {m : Mem} (hm : memWf m = true) : memWf (memPutBytes a bs m) = true := by
  induction bs generalizing a m with
  | nil => exact hm
  | cons b bs ih => exact ih (a + 1) (memWf_memWrite a b hm)

/-- Writing a list of cells keeps the canonical form. -/
theorem memWf_writeCells (cells : Mem) {m : Mem} (hm : memWf m = true) :
    memWf (cells.foldl (fun m c => memWrite c.1 c.2 m) m) = true := by
  induction cells generalizing m with
  | nil => exact hm
  | cons x cells ih => exact ih (memWf_memWrite x.1 x.2 hm)

/-- Writing a list of lines keeps the canonical form. -/
theorem memWf_writeLines (ls : List (Nat × List Byte)) {m : Mem} (hm : memWf m = true) :
    memWf (ls.foldl (fun m e => memPutBytes (e.1 * 64) e.2 m) m) = true := by
  induction ls generalizing m with
  | nil => exact hm
  | cons x ls ih => exact ih (memWf_memPutBytes _ _ hm)

/-- Equal reads are equal memories: the form is canonical. -/
theorem mem_ext {m m' : Mem} (hm : memWf m = true) (hm' : memWf m' = true) (h : ∀ a, memRead a m = memRead a m') : m = m' := by
  have key : ∀ (m m' : Mem) (lo : Nat), memWfFrom lo m = true → memWfFrom lo m' = true →
      (∀ a, memRead a m = memRead a m') → m = m' := by
    intro m
    induction m with
    | nil =>
      intro m' lo _ h2 h
      cases m' with
      | nil => rfl
      | cons y m' =>
        obtain ⟨i, d⟩ := y
        have := h i
        simp [memRead] at this
        exact absurd this.symm ((memWfFrom_cons lo i d m').mp h2).2.1
    | cons x m ih =>
      intro m' lo h1 h2 h
      obtain ⟨j, c⟩ := x
      have h1' := (memWfFrom_cons lo j c m).mp h1
      cases m' with
      | nil =>
        have := h j
        simp [memRead] at this
        exact absurd this h1'.2.1
      | cons y m' =>
        obtain ⟨i, d⟩ := y
        have h2' := (memWfFrom_cons lo i d m').mp h2
        have hij : i = j := by
          rcases Nat.lt_trichotomy i j with hl | hl | hl
          · have := h i
            have hn : j ≠ i := by omega
            simp [memRead, hn, hl] at this
            exact absurd this.symm h2'.2.1
          · exact hl
          · have := h j
            have hn : i ≠ j := by omega
            simp [memRead, hn, hl] at this
            exact absurd this h1'.2.1
        subst hij
        have hc : c = d := by simpa [memRead] using h i
        subst hc
        congr 1
        refine ih m' (i + 1) h1'.2.2 h2'.2.2 fun a => ?_
        by_cases ha : a < i + 1
        · rw [memRead_below h1'.2.2 ha, memRead_below h2'.2.2 ha]
        · have := h a
          have hn : i ≠ a := by omega
          have hl : ¬ a < i := by omega
          simpa [memRead, hn, hl] using this
  exact key m m' 0 hm hm' h

/-! Byte memory: reads after writes. -/

theorem memRead_memWriteFrom {lo a : Nat} {m : Mem} (x : Nat) (b : Byte) (hm : memWfFrom lo m = true) :
    memRead x (memWrite a b m) = if x = a then b else memRead x m := by
  induction m generalizing lo with
  | nil =>
    by_cases hb : b = 0#8
    · simp [memWrite, memRead, hb]
    · by_cases hx : x = a
      · simp [memWrite, memRead, hb, hx]
      · simp [memWrite, memRead, hb, hx, Ne.symm hx]
  | cons y m ih =>
    obtain ⟨j, c⟩ := y
    have hm' := (memWfFrom_cons lo j c m).mp hm
    by_cases hj : j = a
    · subst hj
      by_cases hb : b = 0#8
      · by_cases hx : x = j
        · simp [memWrite, hb, hx, memRead_below hm'.2.2 (Nat.lt_succ_self j)]
        · by_cases hl : x < j
          · simp [memWrite, hb, memRead, hx, Ne.symm hx, hl, memRead_below hm'.2.2 (Nat.lt_succ_of_lt hl)]
          · simp [memWrite, hb, memRead, hx, Ne.symm hx, hl]
      · by_cases hx : x = j
        · simp [memWrite, hb, memRead, hx]
        · simp [memWrite, hb, memRead, hx, Ne.symm hx]
    · by_cases h2 : a < j
      · by_cases hx : x = a
        · subst hx
          by_cases hb : b = 0#8 <;> simp [memWrite, memRead, hj, h2, hb]
        · by_cases hb : b = 0#8
          · simp [memWrite, memRead, hj, h2, hb, hx]
          · by_cases hl : x < a
            · have h3 : j ≠ x := by omega
              have h4 : x < j := by omega
              simp [memWrite, memRead, hj, h2, hb, hx, Ne.symm hx, hl, h3, h4]
            · simp [memWrite, memRead, hj, h2, hb, hx, Ne.symm hx, hl]
      · by_cases hx : x = a
        · subst hx
          simpa [memWrite, memRead, hj, h2] using ih hm'.2.2
        · have e := ih hm'.2.2
          simp only [hx, if_false] at e ⊢
          simp only [memWrite, hj, h2, if_false, memRead, e]

/-- A read after a write: the byte written at its address, every other byte as before. -/
theorem memRead_memWrite (x a : Nat) (b : Byte) {m : Mem} (hm : memWf m = true) :
    memRead x (memWrite a b m) = if x = a then b else memRead x m := memRead_memWriteFrom x b hm

theorem memRead_memZeroFrom {lo : Nat} (x a n : Nat) {m : Mem} (hm : memWfFrom lo m = true) :
    memRead x (memZero a n m) = if a ≤ x ∧ x < a + n then 0 else memRead x m := by
  induction m generalizing lo with
  | nil => simp [memZero, memRead]
  | cons y m ih =>
    obtain ⟨j, c⟩ := y
    have hm' := (memWfFrom_cons lo j c m).mp hm
    have e := ih hm'.2.2
    simp only [memZero]
    split
    · rename_i h
      rw [e]
      by_cases hx : a ≤ x ∧ x < a + n
      · simp [hx]
      · have h1 : j ≠ x := by
          rintro rfl
          exact hx h
        simp only [hx, if_false, memRead, h1]
        split
        · exact memRead_below hm'.2.2 (by omega)
        · rfl
    · rename_i h
      by_cases hj : j = x
      · subst hj
        simp [memRead, h]
      · simp only [memRead, hj, if_false, e]
        by_cases hl : x < j <;> simp [hl]

/-- A read after zeroing: zero in the range, every other byte as before. -/
theorem memRead_memZero (x a n : Nat) {m : Mem} (hm : memWf m = true) :
    memRead x (memZero a n m) = if a ≤ x ∧ x < a + n then 0 else memRead x m := memRead_memZeroFrom x a n hm

/-- A read after bytes are written: the bytes from their address up, every other byte as before. -/
theorem memRead_memPutBytes (x a : Nat) (bs : List Byte) {m : Mem} (hm : memWf m = true) :
    memRead x (memPutBytes a bs m) = if a ≤ x ∧ x < a + bs.length then bs.getD (x - a) 0 else memRead x m := by
  induction bs generalizing a m with
  | nil =>
    have h : ¬(a ≤ x ∧ x < a + ([] : List Byte).length) := by
      simp only [List.length_nil, Nat.add_zero]
      omega
    rw [if_neg h]
    rfl
  | cons b bs ih =>
    rw [memPutBytes, ih (a + 1) (memWf_memWrite a b hm), memRead_memWrite x a b hm]
    by_cases h1 : x = a
    · subst h1
      simp
    · by_cases h2 : a + 1 ≤ x ∧ x < a + 1 + bs.length
      · have h3 : a ≤ x ∧ x < a + (b :: bs).length := by
          simp only [List.length_cons]
          omega
        have h4 : x - a = (x - (a + 1)) + 1 := by omega
        rw [if_pos h2, if_pos h3, h4, List.getD_cons_succ]
      · have h3 : ¬(a ≤ x ∧ x < a + (b :: bs).length) := by
          simp only [List.length_cons]
          omega
        rw [if_neg h2, if_neg h3, if_neg h1]

@[simp] theorem memBytes_length (m : Mem) (a n : Nat) : (memBytes m a n).length = n := by
  induction n generalizing a with
  | zero => rfl
  | succ n ih => simp [memBytes, ih]

/-- The bytes just written are read back. -/
theorem memBytes_memPutBytes (a : Nat) (bs : List Byte) {m : Mem} (hm : memWf m = true) :
    memBytes (memPutBytes a bs m) a bs.length = bs := by
  have key : ∀ (m' : Mem) (bs : List Byte) (a : Nat),
      (∀ i, i < bs.length → memRead (a + i) m' = bs.getD i 0) → memBytes m' a bs.length = bs := by
    intro m' bs
    induction bs with
    | nil => intro a _; rfl
    | cons b bs ih =>
      intro a h
      have h0 := h 0 (by simp)
      simp only [Nat.add_zero, List.getD_cons_zero] at h0
      rw [List.length_cons, memBytes, h0, ih (a + 1)]
      intro i hi
      have := h (i + 1) (by simpa using hi)
      rw [List.getD_cons_succ] at this
      rw [← this]
      congr 1
      omega
  apply key
  intro i hi
  rw [memRead_memPutBytes _ _ _ hm, if_pos ⟨by omega, by omega⟩]
  congr 1
  omega

/-- Bytes outside a written range are read as before. -/
theorem memBytes_memPutBytes_apart (a b n : Nat) (bs : List Byte) {m : Mem} (hm : memWf m = true)
    (h : b + n ≤ a ∨ a + bs.length ≤ b) : memBytes (memPutBytes a bs m) b n = memBytes m b n := by
  induction n generalizing b with
  | zero => rfl
  | succ n ih =>
    have h1 : ¬(a ≤ b ∧ b < a + bs.length) := by omega
    rw [memBytes, memBytes, memRead_memPutBytes _ _ _ hm, if_neg h1, ih (b + 1) (by omega)]

/-! Little-endian numbers (R6). -/

@[simp] theorem natToBytes_length (x n : Nat) : (natToBytes x n).length = n := by
  induction n generalizing x with
  | zero => rfl
  | succ n ih => simp [natToBytes, ih]

theorem natToBytes_getD (x n i : Nat) (h : i < n) : (natToBytes x n).getD i 0 = BitVec.ofNat 8 (x / 256 ^ i) := by
  induction n generalizing x i with
  | zero => omega
  | succ n ih =>
    cases i with
    | zero => simp [natToBytes]
    | succ i =>
      rw [natToBytes, List.getD_cons_succ, ih (x / 256) i (by omega), Nat.div_div_eq_div_mul, Nat.pow_succ, Nat.mul_comm]

/-- Bytes spell their number back, modulo their range. -/
theorem bytesToNat_natToBytes (x n : Nat) : bytesToNat (natToBytes x n) = x % 256 ^ n := by
  induction n generalizing x with
  | zero => simp [natToBytes, bytesToNat, Nat.mod_one]
  | succ n ih =>
    rw [natToBytes, bytesToNat, ih, BitVec.toNat_ofNat, show (256 : Nat) ^ (n + 1) = 256 * 256 ^ n by rw [Nat.pow_succ, Nat.mul_comm],
      Nat.mod_mul]

theorem bytesToNat_lt (bs : List Byte) : bytesToNat bs < 256 ^ bs.length := by
  induction bs with
  | nil => simp [bytesToNat]
  | cons b bs ih =>
    have := b.isLt
    rw [bytesToNat, List.length_cons, Nat.pow_succ]
    omega

end Sys2Proof.Machine
end

