-- ==== Sys2Proof/Laws/State.lean ====
section
/-! SUPPORT. The state's fields after each update by a named operation: the field it changes, and every other as it was. -/

namespace Sys2Proof.Machine

/-! setSlot puts the record of one slot. -/

@[simp] theorem State.setSlot_pending (s : State) (k : Nat) (x : Slot) : (s.setSlot k x).pending = s.pending := rfl
@[simp] theorem State.setSlot_free (s : State) (k : Nat) (x : Slot) : (s.setSlot k x).free = s.free := rfl
@[simp] theorem State.setSlot_clk (s : State) (k : Nat) (x : Slot) : (s.setSlot k x).clk = s.clk := rfl
@[simp] theorem State.setSlot_cpu (s : State) (k : Nat) (x : Slot) : (s.setSlot k x).cpu = s.cpu := rfl
@[simp] theorem State.setSlot_parts (s : State) (k : Nat) (x : Slot) : (s.setSlot k x).parts = s.parts := rfl
@[simp] theorem State.setSlot_pw (s : State) (k : Nat) (x : Slot) : (s.setSlot k x).pw = s.pw := rfl
@[simp] theorem State.setSlot_mail (s : State) (k : Nat) (x : Slot) : (s.setSlot k x).mail = s.mail := rfl
@[simp] theorem State.setSlot_ms (s : State) (k : Nat) (x : Slot) : (s.setSlot k x).ms = s.ms := rfl
@[simp] theorem State.setSlot_rad (s : State) (k : Nat) (x : Slot) :
    (s.setSlot k x).rad = { s.rad with slots := tblPut k x s.rad.slots } := rfl
@[simp] theorem State.setSlot_cht (s : State) (k : Nat) (x : Slot) : (s.setSlot k x).cht = s.cht := rfl
@[simp] theorem State.setSlot_ports (s : State) (k : Nat) (x : Slot) : (s.setSlot k x).ports = s.ports := rfl
@[simp] theorem State.setSlot_syn (s : State) (k : Nat) (x : Slot) : (s.setSlot k x).syn = s.syn := rfl
@[simp] theorem State.setSlot_links (s : State) (k : Nat) (x : Slot) : (s.setSlot k x).links = s.links := rfl
@[simp] theorem State.setSlot_fab (s : State) (k : Nat) (x : Slot) : (s.setSlot k x).fab = s.fab := rfl
@[simp] theorem State.setSlot_tsu (s : State) (k : Nat) (x : Slot) : (s.setSlot k x).tsu = s.tsu := rfl
@[simp] theorem State.setSlot_hpi (s : State) (k : Nat) (x : Slot) : (s.setSlot k x).hpi = s.hpi := rfl
@[simp] theorem State.setSlot_pwr (s : State) (k : Nat) (x : Slot) : (s.setSlot k x).pwr = s.pwr := rfl
@[simp] theorem State.setSlot_thm (s : State) (k : Nat) (x : Slot) : (s.setSlot k x).thm = s.thm := rfl
@[simp] theorem State.setSlot_obs (s : State) (k : Nat) (x : Slot) : (s.setSlot k x).obs = s.obs := rfl
@[simp] theorem State.setSlot_svc (s : State) (k : Nat) (x : Slot) : (s.setSlot k x).svc = s.svc := rfl
@[simp] theorem State.setSlot_tap (s : State) (k : Nat) (x : Slot) : (s.setSlot k x).tap = s.tap := rfl

/-! mapSlot changes one slot. -/

@[simp] theorem State.mapSlot_pending (s : State) (k : Nat) (f : Slot → Slot) : (s.mapSlot k f).pending = s.pending := rfl
@[simp] theorem State.mapSlot_free (s : State) (k : Nat) (f : Slot → Slot) : (s.mapSlot k f).free = s.free := rfl
@[simp] theorem State.mapSlot_clk (s : State) (k : Nat) (f : Slot → Slot) : (s.mapSlot k f).clk = s.clk := rfl
@[simp] theorem State.mapSlot_cpu (s : State) (k : Nat) (f : Slot → Slot) : (s.mapSlot k f).cpu = s.cpu := rfl
@[simp] theorem State.mapSlot_parts (s : State) (k : Nat) (f : Slot → Slot) : (s.mapSlot k f).parts = s.parts := rfl
@[simp] theorem State.mapSlot_pw (s : State) (k : Nat) (f : Slot → Slot) : (s.mapSlot k f).pw = s.pw := rfl
@[simp] theorem State.mapSlot_mail (s : State) (k : Nat) (f : Slot → Slot) : (s.mapSlot k f).mail = s.mail := rfl
@[simp] theorem State.mapSlot_ms (s : State) (k : Nat) (f : Slot → Slot) : (s.mapSlot k f).ms = s.ms := rfl
@[simp] theorem State.mapSlot_rad (s : State) (k : Nat) (f : Slot → Slot) :
    (s.mapSlot k f).rad = { s.rad with slots := tblPut k (f (s.slot k)) s.rad.slots } := rfl
@[simp] theorem State.mapSlot_cht (s : State) (k : Nat) (f : Slot → Slot) : (s.mapSlot k f).cht = s.cht := rfl
@[simp] theorem State.mapSlot_ports (s : State) (k : Nat) (f : Slot → Slot) : (s.mapSlot k f).ports = s.ports := rfl
@[simp] theorem State.mapSlot_syn (s : State) (k : Nat) (f : Slot → Slot) : (s.mapSlot k f).syn = s.syn := rfl
@[simp] theorem State.mapSlot_links (s : State) (k : Nat) (f : Slot → Slot) : (s.mapSlot k f).links = s.links := rfl
@[simp] theorem State.mapSlot_fab (s : State) (k : Nat) (f : Slot → Slot) : (s.mapSlot k f).fab = s.fab := rfl
@[simp] theorem State.mapSlot_tsu (s : State) (k : Nat) (f : Slot → Slot) : (s.mapSlot k f).tsu = s.tsu := rfl
@[simp] theorem State.mapSlot_hpi (s : State) (k : Nat) (f : Slot → Slot) : (s.mapSlot k f).hpi = s.hpi := rfl
@[simp] theorem State.mapSlot_pwr (s : State) (k : Nat) (f : Slot → Slot) : (s.mapSlot k f).pwr = s.pwr := rfl
@[simp] theorem State.mapSlot_thm (s : State) (k : Nat) (f : Slot → Slot) : (s.mapSlot k f).thm = s.thm := rfl
@[simp] theorem State.mapSlot_obs (s : State) (k : Nat) (f : Slot → Slot) : (s.mapSlot k f).obs = s.obs := rfl
@[simp] theorem State.mapSlot_svc (s : State) (k : Nat) (f : Slot → Slot) : (s.mapSlot k f).svc = s.svc := rfl
@[simp] theorem State.mapSlot_tap (s : State) (k : Nat) (f : Slot → Slot) : (s.mapSlot k f).tap = s.tap := rfl

/-! mapPort changes one port. -/

@[simp] theorem State.mapPort_pending (s : State) (p : PortId) (f : Port → Port) : (s.mapPort p f).pending = s.pending := rfl
@[simp] theorem State.mapPort_free (s : State) (p : PortId) (f : Port → Port) : (s.mapPort p f).free = s.free := rfl
@[simp] theorem State.mapPort_clk (s : State) (p : PortId) (f : Port → Port) : (s.mapPort p f).clk = s.clk := rfl
@[simp] theorem State.mapPort_cpu (s : State) (p : PortId) (f : Port → Port) : (s.mapPort p f).cpu = s.cpu := rfl
@[simp] theorem State.mapPort_parts (s : State) (p : PortId) (f : Port → Port) : (s.mapPort p f).parts = s.parts := rfl
@[simp] theorem State.mapPort_pw (s : State) (p : PortId) (f : Port → Port) : (s.mapPort p f).pw = s.pw := rfl
@[simp] theorem State.mapPort_mail (s : State) (p : PortId) (f : Port → Port) : (s.mapPort p f).mail = s.mail := rfl
@[simp] theorem State.mapPort_ms (s : State) (p : PortId) (f : Port → Port) : (s.mapPort p f).ms = s.ms := rfl
@[simp] theorem State.mapPort_rad (s : State) (p : PortId) (f : Port → Port) : (s.mapPort p f).rad = s.rad := rfl
@[simp] theorem State.mapPort_cht (s : State) (p : PortId) (f : Port → Port) : (s.mapPort p f).cht = s.cht := rfl
@[simp] theorem State.mapPort_ports (s : State) (p : PortId) (f : Port → Port) :
    (s.mapPort p f).ports = s.ports.set p (f s.ports[p]) := rfl
@[simp] theorem State.mapPort_syn (s : State) (p : PortId) (f : Port → Port) : (s.mapPort p f).syn = s.syn := rfl
@[simp] theorem State.mapPort_links (s : State) (p : PortId) (f : Port → Port) : (s.mapPort p f).links = s.links := rfl
@[simp] theorem State.mapPort_fab (s : State) (p : PortId) (f : Port → Port) : (s.mapPort p f).fab = s.fab := rfl
@[simp] theorem State.mapPort_tsu (s : State) (p : PortId) (f : Port → Port) : (s.mapPort p f).tsu = s.tsu := rfl
@[simp] theorem State.mapPort_hpi (s : State) (p : PortId) (f : Port → Port) : (s.mapPort p f).hpi = s.hpi := rfl
@[simp] theorem State.mapPort_pwr (s : State) (p : PortId) (f : Port → Port) : (s.mapPort p f).pwr = s.pwr := rfl
@[simp] theorem State.mapPort_thm (s : State) (p : PortId) (f : Port → Port) : (s.mapPort p f).thm = s.thm := rfl
@[simp] theorem State.mapPort_obs (s : State) (p : PortId) (f : Port → Port) : (s.mapPort p f).obs = s.obs := rfl
@[simp] theorem State.mapPort_svc (s : State) (p : PortId) (f : Port → Port) : (s.mapPort p f).svc = s.svc := rfl
@[simp] theorem State.mapPort_tap (s : State) (p : PortId) (f : Port → Port) : (s.mapPort p f).tap = s.tap := rfl

/-! mapPorts changes every port. -/

@[simp] theorem State.mapPorts_pending (s : State) (f : Port → Port) : (s.mapPorts f).pending = s.pending := rfl
@[simp] theorem State.mapPorts_free (s : State) (f : Port → Port) : (s.mapPorts f).free = s.free := rfl
@[simp] theorem State.mapPorts_clk (s : State) (f : Port → Port) : (s.mapPorts f).clk = s.clk := rfl
@[simp] theorem State.mapPorts_cpu (s : State) (f : Port → Port) : (s.mapPorts f).cpu = s.cpu := rfl
@[simp] theorem State.mapPorts_parts (s : State) (f : Port → Port) : (s.mapPorts f).parts = s.parts := rfl
@[simp] theorem State.mapPorts_pw (s : State) (f : Port → Port) : (s.mapPorts f).pw = s.pw := rfl
@[simp] theorem State.mapPorts_mail (s : State) (f : Port → Port) : (s.mapPorts f).mail = s.mail := rfl
@[simp] theorem State.mapPorts_ms (s : State) (f : Port → Port) : (s.mapPorts f).ms = s.ms := rfl
@[simp] theorem State.mapPorts_rad (s : State) (f : Port → Port) : (s.mapPorts f).rad = s.rad := rfl
@[simp] theorem State.mapPorts_cht (s : State) (f : Port → Port) : (s.mapPorts f).cht = s.cht := rfl
@[simp] theorem State.mapPorts_ports (s : State) (f : Port → Port) :
    (s.mapPorts f).ports = Vector.ofFn fun p => f s.ports[p] := rfl
@[simp] theorem State.mapPorts_syn (s : State) (f : Port → Port) : (s.mapPorts f).syn = s.syn := rfl
@[simp] theorem State.mapPorts_links (s : State) (f : Port → Port) : (s.mapPorts f).links = s.links := rfl
@[simp] theorem State.mapPorts_fab (s : State) (f : Port → Port) : (s.mapPorts f).fab = s.fab := rfl
@[simp] theorem State.mapPorts_tsu (s : State) (f : Port → Port) : (s.mapPorts f).tsu = s.tsu := rfl
@[simp] theorem State.mapPorts_hpi (s : State) (f : Port → Port) : (s.mapPorts f).hpi = s.hpi := rfl
@[simp] theorem State.mapPorts_pwr (s : State) (f : Port → Port) : (s.mapPorts f).pwr = s.pwr := rfl
@[simp] theorem State.mapPorts_thm (s : State) (f : Port → Port) : (s.mapPorts f).thm = s.thm := rfl
@[simp] theorem State.mapPorts_obs (s : State) (f : Port → Port) : (s.mapPorts f).obs = s.obs := rfl
@[simp] theorem State.mapPorts_svc (s : State) (f : Port → Port) : (s.mapPorts f).svc = s.svc := rfl
@[simp] theorem State.mapPorts_tap (s : State) (f : Port → Port) : (s.mapPorts f).tap = s.tap := rfl

/-! mapLink changes one link. -/

@[simp] theorem State.mapLink_pending (s : State) (l : LinkId) (f : Link → Link) : (s.mapLink l f).pending = s.pending := rfl
@[simp] theorem State.mapLink_free (s : State) (l : LinkId) (f : Link → Link) : (s.mapLink l f).free = s.free := rfl
@[simp] theorem State.mapLink_clk (s : State) (l : LinkId) (f : Link → Link) : (s.mapLink l f).clk = s.clk := rfl
@[simp] theorem State.mapLink_cpu (s : State) (l : LinkId) (f : Link → Link) : (s.mapLink l f).cpu = s.cpu := rfl
@[simp] theorem State.mapLink_parts (s : State) (l : LinkId) (f : Link → Link) : (s.mapLink l f).parts = s.parts := rfl
@[simp] theorem State.mapLink_pw (s : State) (l : LinkId) (f : Link → Link) : (s.mapLink l f).pw = s.pw := rfl
@[simp] theorem State.mapLink_mail (s : State) (l : LinkId) (f : Link → Link) : (s.mapLink l f).mail = s.mail := rfl
@[simp] theorem State.mapLink_ms (s : State) (l : LinkId) (f : Link → Link) : (s.mapLink l f).ms = s.ms := rfl
@[simp] theorem State.mapLink_rad (s : State) (l : LinkId) (f : Link → Link) : (s.mapLink l f).rad = s.rad := rfl
@[simp] theorem State.mapLink_cht (s : State) (l : LinkId) (f : Link → Link) : (s.mapLink l f).cht = s.cht := rfl
@[simp] theorem State.mapLink_ports (s : State) (l : LinkId) (f : Link → Link) : (s.mapLink l f).ports = s.ports := rfl
@[simp] theorem State.mapLink_syn (s : State) (l : LinkId) (f : Link → Link) : (s.mapLink l f).syn = s.syn := rfl
@[simp] theorem State.mapLink_links (s : State) (l : LinkId) (f : Link → Link) :
    (s.mapLink l f).links = s.links.set l (f s.links[l]) := rfl
@[simp] theorem State.mapLink_fab (s : State) (l : LinkId) (f : Link → Link) : (s.mapLink l f).fab = s.fab := rfl
@[simp] theorem State.mapLink_tsu (s : State) (l : LinkId) (f : Link → Link) : (s.mapLink l f).tsu = s.tsu := rfl
@[simp] theorem State.mapLink_hpi (s : State) (l : LinkId) (f : Link → Link) : (s.mapLink l f).hpi = s.hpi := rfl
@[simp] theorem State.mapLink_pwr (s : State) (l : LinkId) (f : Link → Link) : (s.mapLink l f).pwr = s.pwr := rfl
@[simp] theorem State.mapLink_thm (s : State) (l : LinkId) (f : Link → Link) : (s.mapLink l f).thm = s.thm := rfl
@[simp] theorem State.mapLink_obs (s : State) (l : LinkId) (f : Link → Link) : (s.mapLink l f).obs = s.obs := rfl
@[simp] theorem State.mapLink_svc (s : State) (l : LinkId) (f : Link → Link) : (s.mapLink l f).svc = s.svc := rfl
@[simp] theorem State.mapLink_tap (s : State) (l : LinkId) (f : Link → Link) : (s.mapLink l f).tap = s.tap := rfl

/-! mapPart changes one partition. -/

@[simp] theorem State.mapPart_pending (s : State) (p : PartId) (f : Part → Part) : (s.mapPart p f).pending = s.pending := rfl
@[simp] theorem State.mapPart_free (s : State) (p : PartId) (f : Part → Part) : (s.mapPart p f).free = s.free := rfl
@[simp] theorem State.mapPart_clk (s : State) (p : PartId) (f : Part → Part) : (s.mapPart p f).clk = s.clk := rfl
@[simp] theorem State.mapPart_cpu (s : State) (p : PartId) (f : Part → Part) : (s.mapPart p f).cpu = s.cpu := rfl
@[simp] theorem State.mapPart_parts (s : State) (p : PartId) (f : Part → Part) :
    (s.mapPart p f).parts = s.parts.set p (f s.parts[p]) := rfl
@[simp] theorem State.mapPart_pw (s : State) (p : PartId) (f : Part → Part) : (s.mapPart p f).pw = s.pw := rfl
@[simp] theorem State.mapPart_mail (s : State) (p : PartId) (f : Part → Part) : (s.mapPart p f).mail = s.mail := rfl
@[simp] theorem State.mapPart_ms (s : State) (p : PartId) (f : Part → Part) : (s.mapPart p f).ms = s.ms := rfl
@[simp] theorem State.mapPart_rad (s : State) (p : PartId) (f : Part → Part) : (s.mapPart p f).rad = s.rad := rfl
@[simp] theorem State.mapPart_cht (s : State) (p : PartId) (f : Part → Part) : (s.mapPart p f).cht = s.cht := rfl
@[simp] theorem State.mapPart_ports (s : State) (p : PartId) (f : Part → Part) : (s.mapPart p f).ports = s.ports := rfl
@[simp] theorem State.mapPart_syn (s : State) (p : PartId) (f : Part → Part) : (s.mapPart p f).syn = s.syn := rfl
@[simp] theorem State.mapPart_links (s : State) (p : PartId) (f : Part → Part) : (s.mapPart p f).links = s.links := rfl
@[simp] theorem State.mapPart_fab (s : State) (p : PartId) (f : Part → Part) : (s.mapPart p f).fab = s.fab := rfl
@[simp] theorem State.mapPart_tsu (s : State) (p : PartId) (f : Part → Part) : (s.mapPart p f).tsu = s.tsu := rfl
@[simp] theorem State.mapPart_hpi (s : State) (p : PartId) (f : Part → Part) : (s.mapPart p f).hpi = s.hpi := rfl
@[simp] theorem State.mapPart_pwr (s : State) (p : PartId) (f : Part → Part) : (s.mapPart p f).pwr = s.pwr := rfl
@[simp] theorem State.mapPart_thm (s : State) (p : PartId) (f : Part → Part) : (s.mapPart p f).thm = s.thm := rfl
@[simp] theorem State.mapPart_obs (s : State) (p : PartId) (f : Part → Part) : (s.mapPart p f).obs = s.obs := rfl
@[simp] theorem State.mapPart_svc (s : State) (p : PartId) (f : Part → Part) : (s.mapPart p f).svc = s.svc := rfl
@[simp] theorem State.mapPart_tap (s : State) (p : PartId) (f : Part → Part) : (s.mapPart p f).tap = s.tap := rfl

/-! setTask puts the record of one task. -/

@[simp] theorem State.setTask_pending (s : State) (t : Nat) (k : Task) : (s.setTask t k).pending = s.pending := rfl
@[simp] theorem State.setTask_free (s : State) (t : Nat) (k : Task) : (s.setTask t k).free = s.free := rfl
@[simp] theorem State.setTask_clk (s : State) (t : Nat) (k : Task) : (s.setTask t k).clk = s.clk := rfl
@[simp] theorem State.setTask_cpu (s : State) (t : Nat) (k : Task) :
    (s.setTask t k).cpu = { s.cpu with tasks := tblPut t k s.cpu.tasks } := rfl
@[simp] theorem State.setTask_parts (s : State) (t : Nat) (k : Task) : (s.setTask t k).parts = s.parts := rfl
@[simp] theorem State.setTask_pw (s : State) (t : Nat) (k : Task) : (s.setTask t k).pw = s.pw := rfl
@[simp] theorem State.setTask_mail (s : State) (t : Nat) (k : Task) : (s.setTask t k).mail = s.mail := rfl
@[simp] theorem State.setTask_ms (s : State) (t : Nat) (k : Task) : (s.setTask t k).ms = s.ms := rfl
@[simp] theorem State.setTask_rad (s : State) (t : Nat) (k : Task) : (s.setTask t k).rad = s.rad := rfl
@[simp] theorem State.setTask_cht (s : State) (t : Nat) (k : Task) : (s.setTask t k).cht = s.cht := rfl
@[simp] theorem State.setTask_ports (s : State) (t : Nat) (k : Task) : (s.setTask t k).ports = s.ports := rfl
@[simp] theorem State.setTask_syn (s : State) (t : Nat) (k : Task) : (s.setTask t k).syn = s.syn := rfl
@[simp] theorem State.setTask_links (s : State) (t : Nat) (k : Task) : (s.setTask t k).links = s.links := rfl
@[simp] theorem State.setTask_fab (s : State) (t : Nat) (k : Task) : (s.setTask t k).fab = s.fab := rfl
@[simp] theorem State.setTask_tsu (s : State) (t : Nat) (k : Task) : (s.setTask t k).tsu = s.tsu := rfl
@[simp] theorem State.setTask_hpi (s : State) (t : Nat) (k : Task) : (s.setTask t k).hpi = s.hpi := rfl
@[simp] theorem State.setTask_pwr (s : State) (t : Nat) (k : Task) : (s.setTask t k).pwr = s.pwr := rfl
@[simp] theorem State.setTask_thm (s : State) (t : Nat) (k : Task) : (s.setTask t k).thm = s.thm := rfl
@[simp] theorem State.setTask_obs (s : State) (t : Nat) (k : Task) : (s.setTask t k).obs = s.obs := rfl
@[simp] theorem State.setTask_svc (s : State) (t : Nat) (k : Task) : (s.setTask t k).svc = s.svc := rfl
@[simp] theorem State.setTask_tap (s : State) (t : Nat) (k : Task) : (s.setTask t k).tap = s.tap := rfl

/-! useFree advances the count of free values. -/

@[simp] theorem State.useFree_pending (s : State) (n : Nat) : (s.useFree n).pending = s.pending := rfl
@[simp] theorem State.useFree_free (s : State) (n : Nat) : (s.useFree n).free = s.free + n := rfl
@[simp] theorem State.useFree_clk (s : State) (n : Nat) : (s.useFree n).clk = s.clk := rfl
@[simp] theorem State.useFree_cpu (s : State) (n : Nat) : (s.useFree n).cpu = s.cpu := rfl
@[simp] theorem State.useFree_parts (s : State) (n : Nat) : (s.useFree n).parts = s.parts := rfl
@[simp] theorem State.useFree_pw (s : State) (n : Nat) : (s.useFree n).pw = s.pw := rfl
@[simp] theorem State.useFree_mail (s : State) (n : Nat) : (s.useFree n).mail = s.mail := rfl
@[simp] theorem State.useFree_ms (s : State) (n : Nat) : (s.useFree n).ms = s.ms := rfl
@[simp] theorem State.useFree_rad (s : State) (n : Nat) : (s.useFree n).rad = s.rad := rfl
@[simp] theorem State.useFree_cht (s : State) (n : Nat) : (s.useFree n).cht = s.cht := rfl
@[simp] theorem State.useFree_ports (s : State) (n : Nat) : (s.useFree n).ports = s.ports := rfl
@[simp] theorem State.useFree_syn (s : State) (n : Nat) : (s.useFree n).syn = s.syn := rfl
@[simp] theorem State.useFree_links (s : State) (n : Nat) : (s.useFree n).links = s.links := rfl
@[simp] theorem State.useFree_fab (s : State) (n : Nat) : (s.useFree n).fab = s.fab := rfl
@[simp] theorem State.useFree_tsu (s : State) (n : Nat) : (s.useFree n).tsu = s.tsu := rfl
@[simp] theorem State.useFree_hpi (s : State) (n : Nat) : (s.useFree n).hpi = s.hpi := rfl
@[simp] theorem State.useFree_pwr (s : State) (n : Nat) : (s.useFree n).pwr = s.pwr := rfl
@[simp] theorem State.useFree_thm (s : State) (n : Nat) : (s.useFree n).thm = s.thm := rfl
@[simp] theorem State.useFree_obs (s : State) (n : Nat) : (s.useFree n).obs = s.obs := rfl
@[simp] theorem State.useFree_svc (s : State) (n : Nat) : (s.useFree n).svc = s.svc := rfl
@[simp] theorem State.useFree_tap (s : State) (n : Nat) : (s.useFree n).tap = s.tap := rfl

/-! setBox puts one mailbox. -/

@[simp] theorem State.setBox_pending (s : State) (k : Nat) (l : List Msg) : (s.setBox k l).pending = s.pending := rfl
@[simp] theorem State.setBox_free (s : State) (k : Nat) (l : List Msg) : (s.setBox k l).free = s.free := rfl
@[simp] theorem State.setBox_clk (s : State) (k : Nat) (l : List Msg) : (s.setBox k l).clk = s.clk := rfl
@[simp] theorem State.setBox_cpu (s : State) (k : Nat) (l : List Msg) : (s.setBox k l).cpu = s.cpu := rfl
@[simp] theorem State.setBox_parts (s : State) (k : Nat) (l : List Msg) : (s.setBox k l).parts = s.parts := rfl
@[simp] theorem State.setBox_pw (s : State) (k : Nat) (l : List Msg) : (s.setBox k l).pw = s.pw := rfl
@[simp] theorem State.setBox_mail (s : State) (k : Nat) (l : List Msg) : (s.setBox k l).mail = tblPut k l s.mail := rfl
@[simp] theorem State.setBox_ms (s : State) (k : Nat) (l : List Msg) : (s.setBox k l).ms = s.ms := rfl
@[simp] theorem State.setBox_rad (s : State) (k : Nat) (l : List Msg) : (s.setBox k l).rad = s.rad := rfl
@[simp] theorem State.setBox_cht (s : State) (k : Nat) (l : List Msg) : (s.setBox k l).cht = s.cht := rfl
@[simp] theorem State.setBox_ports (s : State) (k : Nat) (l : List Msg) : (s.setBox k l).ports = s.ports := rfl
@[simp] theorem State.setBox_syn (s : State) (k : Nat) (l : List Msg) : (s.setBox k l).syn = s.syn := rfl
@[simp] theorem State.setBox_links (s : State) (k : Nat) (l : List Msg) : (s.setBox k l).links = s.links := rfl
@[simp] theorem State.setBox_fab (s : State) (k : Nat) (l : List Msg) : (s.setBox k l).fab = s.fab := rfl
@[simp] theorem State.setBox_tsu (s : State) (k : Nat) (l : List Msg) : (s.setBox k l).tsu = s.tsu := rfl
@[simp] theorem State.setBox_hpi (s : State) (k : Nat) (l : List Msg) : (s.setBox k l).hpi = s.hpi := rfl
@[simp] theorem State.setBox_pwr (s : State) (k : Nat) (l : List Msg) : (s.setBox k l).pwr = s.pwr := rfl
@[simp] theorem State.setBox_thm (s : State) (k : Nat) (l : List Msg) : (s.setBox k l).thm = s.thm := rfl
@[simp] theorem State.setBox_obs (s : State) (k : Nat) (l : List Msg) : (s.setBox k l).obs = s.obs := rfl
@[simp] theorem State.setBox_svc (s : State) (k : Nat) (l : List Msg) : (s.setBox k l).svc = s.svc := rfl
@[simp] theorem State.setBox_tap (s : State) (k : Nat) (l : List Msg) : (s.setBox k l).tap = s.tap := rfl

/-! Reading back what was put. -/

@[simp] theorem State.slot_setSlot (s : State) (k : Nat) (x : Slot) : (s.setSlot k x).slot k = x := by simp [State.slot]

theorem State.slot_setSlot_ne (s : State) {i k : Nat} (h : i ≠ k) (x : Slot) : (s.setSlot k x).slot i = s.slot i := by
  simp [State.slot, tblGet, tblFind_tblPut_ne h]

@[simp] theorem State.slot_mapSlot (s : State) (k : Nat) (f : Slot → Slot) : (s.mapSlot k f).slot k = f (s.slot k) :=
  State.slot_setSlot s k _

theorem State.slot_mapSlot_ne (s : State) {i k : Nat} (h : i ≠ k) (f : Slot → Slot) : (s.mapSlot k f).slot i = s.slot i :=
  State.slot_setSlot_ne s h _

@[simp] theorem State.task?_setTask (s : State) (t : Nat) (k : Task) : (s.setTask t k).task? t = some k := by simp [State.task?]

theorem State.task?_setTask_ne (s : State) {i t : Nat} (h : i ≠ t) (k : Task) : (s.setTask t k).task? i = s.task? i := by
  simp [State.task?, tblFind_tblPut_ne h]

@[simp] theorem State.setTask_setTask (s : State) (t : Nat) (k k' : Task) : (s.setTask t k).setTask t k' = s.setTask t k' := by
  simp [State.setTask]

@[simp] theorem State.box_setBox (s : State) (k : Nat) (l : List Msg) : (s.setBox k l).box k = l := by simp [State.box]

theorem State.box_setBox_ne (s : State) {i k : Nat} (h : i ≠ k) (l : List Msg) : (s.setBox k l).box i = s.box i := by
  simp [State.box, tblGet, tblFind_tblPut_ne h]

@[simp] theorem Task.get_zero (k : Task) : k.get 0 = 0 := rfl

@[simp] theorem Task.put_zero (k : Task) (v : Word) : k.put 0 v = k := rfl

theorem Task.get_put (k : Task) (r q : Reg) (v : Word) : (k.put r v).get q = if q = r ∧ r ≠ 0 then v else k.get q := by
  by_cases hr : r = 0
  · simp [Task.put, hr]
  · by_cases hq : q = 0
    · subst hq
      simp [Task.get, Ne.symm hr]
    · by_cases e : q = r
      · subst e
        simp [Task.put, Task.get, hr]
      · have h1 : (r : Nat) ≠ q := fun h => e (Fin.ext h.symm)
        simp [Task.put, Task.get, hr, hq, e, h1]

@[simp] theorem Task.put_st (k : Task) (r : Reg) (v : Word) : (k.put r v).st = k.st := by
  unfold Task.put
  split <;> rfl

@[simp] theorem Task.put_part (k : Task) (r : Reg) (v : Word) : (k.put r v).part = k.part := by
  unfold Task.put
  split <;> rfl

@[simp] theorem Task.put_pc (k : Task) (r : Reg) (v : Word) : (k.put r v).pc = k.pc := by
  unfold Task.put
  split <;> rfl

@[simp] theorem Task.put_sq (k : Task) (r : Reg) (v : Word) : (k.put r v).sq = k.sq := by
  unfold Task.put
  split <;> rfl

/-! Counters (R482). -/

/-- A counted event changes the performance counters at most. -/
theorem State.countBy_eq (s : State) (c n : Nat) :
    s.countBy c n = { s with obs := { s.obs with counters := (s.countBy c n).obs.counters } } := by
  unfold State.countBy
  split <;> rfl

theorem State.count_eq (s : State) (c : Nat) :
    s.count c = { s with obs := { s.obs with counters := (s.count c).obs.counters } } := s.countBy_eq c 1

@[simp] theorem State.countBy_pending (s : State) (c n : Nat) : (s.countBy c n).pending = s.pending := by rw [State.countBy_eq]
@[simp] theorem State.countBy_free (s : State) (c n : Nat) : (s.countBy c n).free = s.free := by rw [State.countBy_eq]
@[simp] theorem State.countBy_clk (s : State) (c n : Nat) : (s.countBy c n).clk = s.clk := by rw [State.countBy_eq]
@[simp] theorem State.countBy_cpu (s : State) (c n : Nat) : (s.countBy c n).cpu = s.cpu := by rw [State.countBy_eq]
@[simp] theorem State.countBy_parts (s : State) (c n : Nat) : (s.countBy c n).parts = s.parts := by rw [State.countBy_eq]
@[simp] theorem State.countBy_pw (s : State) (c n : Nat) : (s.countBy c n).pw = s.pw := by rw [State.countBy_eq]
@[simp] theorem State.countBy_mail (s : State) (c n : Nat) : (s.countBy c n).mail = s.mail := by rw [State.countBy_eq]
@[simp] theorem State.countBy_ms (s : State) (c n : Nat) : (s.countBy c n).ms = s.ms := by rw [State.countBy_eq]
@[simp] theorem State.countBy_rad (s : State) (c n : Nat) : (s.countBy c n).rad = s.rad := by rw [State.countBy_eq]
@[simp] theorem State.countBy_cht (s : State) (c n : Nat) : (s.countBy c n).cht = s.cht := by rw [State.countBy_eq]
@[simp] theorem State.countBy_ports (s : State) (c n : Nat) : (s.countBy c n).ports = s.ports := by rw [State.countBy_eq]
@[simp] theorem State.countBy_syn (s : State) (c n : Nat) : (s.countBy c n).syn = s.syn := by rw [State.countBy_eq]
@[simp] theorem State.countBy_links (s : State) (c n : Nat) : (s.countBy c n).links = s.links := by rw [State.countBy_eq]
@[simp] theorem State.countBy_fab (s : State) (c n : Nat) : (s.countBy c n).fab = s.fab := by rw [State.countBy_eq]
@[simp] theorem State.countBy_tsu (s : State) (c n : Nat) : (s.countBy c n).tsu = s.tsu := by rw [State.countBy_eq]
@[simp] theorem State.countBy_hpi (s : State) (c n : Nat) : (s.countBy c n).hpi = s.hpi := by rw [State.countBy_eq]
@[simp] theorem State.countBy_pwr (s : State) (c n : Nat) : (s.countBy c n).pwr = s.pwr := by rw [State.countBy_eq]
@[simp] theorem State.countBy_thm (s : State) (c n : Nat) : (s.countBy c n).thm = s.thm := by rw [State.countBy_eq]
@[simp] theorem State.countBy_svc (s : State) (c n : Nat) : (s.countBy c n).svc = s.svc := by rw [State.countBy_eq]
@[simp] theorem State.countBy_tap (s : State) (c n : Nat) : (s.countBy c n).tap = s.tap := by rw [State.countBy_eq]

@[simp] theorem State.count_pending (s : State) (c : Nat) : (s.count c).pending = s.pending := by rw [State.count_eq]
@[simp] theorem State.count_free (s : State) (c : Nat) : (s.count c).free = s.free := by rw [State.count_eq]
@[simp] theorem State.count_clk (s : State) (c : Nat) : (s.count c).clk = s.clk := by rw [State.count_eq]
@[simp] theorem State.count_cpu (s : State) (c : Nat) : (s.count c).cpu = s.cpu := by rw [State.count_eq]
@[simp] theorem State.count_parts (s : State) (c : Nat) : (s.count c).parts = s.parts := by rw [State.count_eq]
@[simp] theorem State.count_pw (s : State) (c : Nat) : (s.count c).pw = s.pw := by rw [State.count_eq]
@[simp] theorem State.count_mail (s : State) (c : Nat) : (s.count c).mail = s.mail := by rw [State.count_eq]
@[simp] theorem State.count_ms (s : State) (c : Nat) : (s.count c).ms = s.ms := by rw [State.count_eq]
@[simp] theorem State.count_rad (s : State) (c : Nat) : (s.count c).rad = s.rad := by rw [State.count_eq]
@[simp] theorem State.count_cht (s : State) (c : Nat) : (s.count c).cht = s.cht := by rw [State.count_eq]
@[simp] theorem State.count_ports (s : State) (c : Nat) : (s.count c).ports = s.ports := by rw [State.count_eq]
@[simp] theorem State.count_syn (s : State) (c : Nat) : (s.count c).syn = s.syn := by rw [State.count_eq]
@[simp] theorem State.count_links (s : State) (c : Nat) : (s.count c).links = s.links := by rw [State.count_eq]
@[simp] theorem State.count_fab (s : State) (c : Nat) : (s.count c).fab = s.fab := by rw [State.count_eq]
@[simp] theorem State.count_tsu (s : State) (c : Nat) : (s.count c).tsu = s.tsu := by rw [State.count_eq]
@[simp] theorem State.count_hpi (s : State) (c : Nat) : (s.count c).hpi = s.hpi := by rw [State.count_eq]
@[simp] theorem State.count_pwr (s : State) (c : Nat) : (s.count c).pwr = s.pwr := by rw [State.count_eq]
@[simp] theorem State.count_thm (s : State) (c : Nat) : (s.count c).thm = s.thm := by rw [State.count_eq]
@[simp] theorem State.count_svc (s : State) (c : Nat) : (s.count c).svc = s.svc := by rw [State.count_eq]
@[simp] theorem State.count_tap (s : State) (c : Nat) : (s.count c).tap = s.tap := by rw [State.count_eq]

/-- A core event counted for a partition changes the performance counters and the sampled copies at most (R487). -/
theorem State.countFor_eq (s : State) (p : PartId) (c : Nat) :
    s.countFor p c = { s with obs := { s.obs with
      counters := (s.countFor p c).obs.counters, sampled := (s.countFor p c).obs.sampled } } := by
  unfold State.countFor
  rw [State.count_eq]
  dsimp only
  split <;> rfl

@[simp] theorem State.countFor_counters (s : State) (p : PartId) (c : Nat) :
    (s.countFor p c).obs.counters = (s.count c).obs.counters := by
  unfold State.countFor
  dsimp only
  split <;> rfl

@[simp] theorem State.countFor_pending (s : State) (p : PartId) (c : Nat) : (s.countFor p c).pending = s.pending := by rw [State.countFor_eq]
@[simp] theorem State.countFor_free (s : State) (p : PartId) (c : Nat) : (s.countFor p c).free = s.free := by rw [State.countFor_eq]
@[simp] theorem State.countFor_clk (s : State) (p : PartId) (c : Nat) : (s.countFor p c).clk = s.clk := by rw [State.countFor_eq]
@[simp] theorem State.countFor_cpu (s : State) (p : PartId) (c : Nat) : (s.countFor p c).cpu = s.cpu := by rw [State.countFor_eq]
@[simp] theorem State.countFor_parts (s : State) (p : PartId) (c : Nat) : (s.countFor p c).parts = s.parts := by rw [State.countFor_eq]
@[simp] theorem State.countFor_pw (s : State) (p : PartId) (c : Nat) : (s.countFor p c).pw = s.pw := by rw [State.countFor_eq]
@[simp] theorem State.countFor_mail (s : State) (p : PartId) (c : Nat) : (s.countFor p c).mail = s.mail := by rw [State.countFor_eq]
@[simp] theorem State.countFor_ms (s : State) (p : PartId) (c : Nat) : (s.countFor p c).ms = s.ms := by rw [State.countFor_eq]
@[simp] theorem State.countFor_rad (s : State) (p : PartId) (c : Nat) : (s.countFor p c).rad = s.rad := by rw [State.countFor_eq]
@[simp] theorem State.countFor_cht (s : State) (p : PartId) (c : Nat) : (s.countFor p c).cht = s.cht := by rw [State.countFor_eq]
@[simp] theorem State.countFor_ports (s : State) (p : PartId) (c : Nat) : (s.countFor p c).ports = s.ports := by rw [State.countFor_eq]
@[simp] theorem State.countFor_syn (s : State) (p : PartId) (c : Nat) : (s.countFor p c).syn = s.syn := by rw [State.countFor_eq]
@[simp] theorem State.countFor_links (s : State) (p : PartId) (c : Nat) : (s.countFor p c).links = s.links := by rw [State.countFor_eq]
@[simp] theorem State.countFor_fab (s : State) (p : PartId) (c : Nat) : (s.countFor p c).fab = s.fab := by rw [State.countFor_eq]
@[simp] theorem State.countFor_tsu (s : State) (p : PartId) (c : Nat) : (s.countFor p c).tsu = s.tsu := by rw [State.countFor_eq]
@[simp] theorem State.countFor_hpi (s : State) (p : PartId) (c : Nat) : (s.countFor p c).hpi = s.hpi := by rw [State.countFor_eq]
@[simp] theorem State.countFor_pwr (s : State) (p : PartId) (c : Nat) : (s.countFor p c).pwr = s.pwr := by rw [State.countFor_eq]
@[simp] theorem State.countFor_thm (s : State) (p : PartId) (c : Nat) : (s.countFor p c).thm = s.thm := by rw [State.countFor_eq]
@[simp] theorem State.countFor_svc (s : State) (p : PartId) (c : Nat) : (s.countFor p c).svc = s.svc := by rw [State.countFor_eq]
@[simp] theorem State.countFor_tap (s : State) (p : PartId) (c : Nat) : (s.countFor p c).tap = s.tap := by rw [State.countFor_eq]

theorem State.countInstr_counts (s : State) (k : Task) :
    ∃ x y, s.countInstr k = { s with obs := { s.obs with counters := x, sampled := y } } := by
  have key : ∀ (u : State) (c : Nat),
      ∃ x y, u.countFor k.part c = { u with obs := { u.obs with counters := x, sampled := y } } :=
    fun u c => ⟨_, _, u.countFor_eq k.part c⟩
  unfold State.countInstr
  obtain ⟨x, y, hx⟩ := key s (if k.part = 0 then 2 else 1)
  simp only [hx]
  split
  · split
    · rename_i c _ _
      obtain ⟨z, w, hz⟩ := key { s with obs := { s.obs with counters := x, sampled := y } } (16 + c)
      exact ⟨z, w, hz⟩
    · exact ⟨x, y, rfl⟩
  · exact ⟨x, y, rfl⟩

theorem State.countInstr_eq (s : State) (k : Task) :
    s.countInstr k = { s with obs := { s.obs with
      counters := (s.countInstr k).obs.counters, sampled := (s.countInstr k).obs.sampled } } := by
  obtain ⟨x, y, hx⟩ := s.countInstr_counts k
  rw [hx]

@[simp] theorem State.countInstr_pending (s : State) (k : Task) : (s.countInstr k).pending = s.pending := by rw [State.countInstr_eq]
@[simp] theorem State.countInstr_free (s : State) (k : Task) : (s.countInstr k).free = s.free := by rw [State.countInstr_eq]
@[simp] theorem State.countInstr_clk (s : State) (k : Task) : (s.countInstr k).clk = s.clk := by rw [State.countInstr_eq]
@[simp] theorem State.countInstr_cpu (s : State) (k : Task) : (s.countInstr k).cpu = s.cpu := by rw [State.countInstr_eq]
@[simp] theorem State.countInstr_parts (s : State) (k : Task) : (s.countInstr k).parts = s.parts := by rw [State.countInstr_eq]
@[simp] theorem State.countInstr_pw (s : State) (k : Task) : (s.countInstr k).pw = s.pw := by rw [State.countInstr_eq]
@[simp] theorem State.countInstr_mail (s : State) (k : Task) : (s.countInstr k).mail = s.mail := by rw [State.countInstr_eq]
@[simp] theorem State.countInstr_ms (s : State) (k : Task) : (s.countInstr k).ms = s.ms := by rw [State.countInstr_eq]
@[simp] theorem State.countInstr_rad (s : State) (k : Task) : (s.countInstr k).rad = s.rad := by rw [State.countInstr_eq]
@[simp] theorem State.countInstr_cht (s : State) (k : Task) : (s.countInstr k).cht = s.cht := by rw [State.countInstr_eq]
@[simp] theorem State.countInstr_ports (s : State) (k : Task) : (s.countInstr k).ports = s.ports := by rw [State.countInstr_eq]
@[simp] theorem State.countInstr_syn (s : State) (k : Task) : (s.countInstr k).syn = s.syn := by rw [State.countInstr_eq]
@[simp] theorem State.countInstr_links (s : State) (k : Task) : (s.countInstr k).links = s.links := by rw [State.countInstr_eq]
@[simp] theorem State.countInstr_fab (s : State) (k : Task) : (s.countInstr k).fab = s.fab := by rw [State.countInstr_eq]
@[simp] theorem State.countInstr_tsu (s : State) (k : Task) : (s.countInstr k).tsu = s.tsu := by rw [State.countInstr_eq]
@[simp] theorem State.countInstr_hpi (s : State) (k : Task) : (s.countInstr k).hpi = s.hpi := by rw [State.countInstr_eq]
@[simp] theorem State.countInstr_pwr (s : State) (k : Task) : (s.countInstr k).pwr = s.pwr := by rw [State.countInstr_eq]
@[simp] theorem State.countInstr_thm (s : State) (k : Task) : (s.countInstr k).thm = s.thm := by rw [State.countInstr_eq]
@[simp] theorem State.countInstr_svc (s : State) (k : Task) : (s.countInstr k).svc = s.svc := by rw [State.countInstr_eq]
@[simp] theorem State.countInstr_tap (s : State) (k : Task) : (s.countInstr k).tap = s.tap := by rw [State.countInstr_eq]

end Sys2Proof.Machine
end

