-- ==== Sys2Proof/Laws/Ops.lean ====
section
/-! SUPPORT. What the shared operations on tasks, messages, packets and memory do: each once, for the provers to cite. The
first part is the case in which an instruction goes on at an address that may be fetched; the second what no shared operation
changes. -/

namespace Sys2Proof.Machine

/-! The instruction goes on (R292, R313, R334). -/

/-- What may be fetched depends on the memory system alone. -/
theorem State.fetchClean_congr {s u : State} (h : u.ms = s.ms) : u.fetchClean = s.fetchClean := by
  funext p a
  simp only [State.fetchClean, State.fetchOk, State.allocatedRange, State.allocated, State.pageAt, State.badRead, State.poisoned,
    State.flawsAt, State.soundCopy, h]

@[simp] theorem State.fetchClean_setTask (s : State) (t : Nat) (k : Task) : (s.setTask t k).fetchClean = s.fetchClean := rfl

@[simp] theorem State.fetchClean_count (s : State) (c : Nat) : (s.count c).fetchClean = s.fetchClean := by rw [State.count_eq]; rfl

@[simp] theorem State.fetchClean_countInstr (s : State) (k : Task) : (s.countInstr k).fetchClean = s.fetchClean := by
  rw [State.countInstr_eq]; rfl

/-- A fetch from a block with no wrong bit changes nothing. -/
theorem State.readErrors_clean {s : State} {p : PartId} {va n : Nat} (h : s.flawsAt false (memKey p va) n = []) :
    s.readErrors p va n = s := by
  simp [State.readErrors, h]

@[simp] theorem State.task?_count (s : State) (c : Nat) : (s.count c).task? = s.task? := by rw [State.count_eq]; rfl

@[simp] theorem State.fetchClean_countFor (s : State) (p : PartId) (c : Nat) : (s.countFor p c).fetchClean = s.fetchClean := by
  rw [State.countFor_eq]; rfl

@[simp] theorem State.task?_countFor (s : State) (p : PartId) (c : Nat) : (s.countFor p c).task? = s.task? := by
  rw [State.countFor_eq]; rfl

@[simp] theorem State.task?_countInstr (s : State) (k : Task) : (s.countInstr k).task? = s.task? := by
  rw [State.countInstr_eq]; rfl

theorem State.becomes_refl {s : State} {t : Nat} {k : Task} (h : tblPut t k s.cpu.tasks = s.cpu.tasks) : s.becomes s t k := by
  unfold State.becomes
  rw [h]

/-- Two changes of one task's record are the second. -/
theorem State.becomes_trans {s u v : State} {t : Nat} {k k' : Task} (h1 : s.becomes u t k) (h2 : u.becomes v t k') :
    s.becomes v t k' := by
  unfold State.becomes at *
  generalize hx : u.obs.counters = x at h1
  generalize hx' : u.obs.sampled = x' at h1
  generalize hy : v.obs.counters = y at h2
  generalize hy' : v.obs.sampled = y' at h2
  subst h1
  subst h2
  simp

/-- A counted event before a change. -/
theorem State.becomes_of_countFor {s u : State} {t : Nat} {k : Task} (p : PartId) (c : Nat) (h : (s.countFor p c).becomes u t k) :
    s.becomes u t k := by
  obtain ⟨x, y, hx⟩ : ∃ x y, s.countFor p c = { s with obs := { s.obs with counters := x, sampled := y } } :=
    ⟨_, _, s.countFor_eq p c⟩
  unfold State.becomes at *
  rw [hx] at h
  exact h

theorem State.setTask_becomes (s : State) (t : Nat) (k : Task) : s.becomes (s.setTask t k) t k := rfl

theorem State.task?_becomes {s u : State} {t : Nat} {k : Task} (h : s.becomes u t k) : u.task? t = some k := by
  unfold State.becomes at h
  unfold State.task?
  rw [h]
  simp

/-- A RUNNING task issues its instruction (R277, R526). -/
theorem onRunning_runs {s : State} {t : TaskId} {k : Task} {c : Nat} (h : s.runs t k c) (f : Task → State → State) :
    onRunning t s f = .next (f k (if k.part = 0 ∨ 64 ≤ c then s else s.countFor k.part 0)) := by
  simp [onRunning, h.1, h.2]

/-- What a RUNNING task's instruction changes, if it changes its own record only. -/
theorem onRunning_becomes {s : State} {t : TaskId} {k k' : Task} {c : Nat} (h : s.runs t k c) {f : Task → State → State}
    (hf : ∀ u : State, u.task? t = some k → u.fetchClean = s.fetchClean → u.becomes (f k u) t k') :
    ∃ u, onRunning t s f = .next u ∧ s.becomes u t k' := by
  rw [onRunning_runs h]
  split
  · exact ⟨_, rfl, hf s h.1 rfl⟩
  · exact ⟨_, rfl, State.becomes_of_countFor _ 0 (hf _ (by rw [State.task?_countFor]; exact h.1) (by simp))⟩

theorem State.putReg_eq {s : State} {t : Nat} {k : Task} (h : s.task? t = some k) (r : Reg) (v : Word) :
    s.putReg t r v = s.setTask t (k.put r v) := by
  simp [State.putReg, h]

theorem State.goto_eq {s : State} {t : Nat} {k : Task} (h : s.task? t = some k) {target : Word}
    (hf : s.fetchClean k.part target) : s.goto t target = s.setTask t { k with pc := target } := by
  have e : (s.setTask t { k with pc := target }).flawsAt false (memKey k.part target.toNat) 4 = [] := hf.2
  simp [State.goto, h, hf.1, State.readErrors_clean e]

theorem State.pass_eq {s : State} {t : Nat} {k : Task} (h : s.task? t = some k) (hf : s.fetchClean k.part (k.pc + 4)) :
    s.pass t = s.setTask t { k with pc := k.pc + 4 } := by
  rw [← State.goto_eq h hf]
  simp only [State.pass, h]

theorem State.next_eq {s : State} {t : Nat} {k : Task} (h : s.task? t = some k) (hf : s.fetchClean k.part (k.pc + 4)) :
    s.next t = (s.countInstr k).setTask t { k with pc := k.pc + 4 } := by
  have h1 : (s.countInstr k).task? t = some k := by rw [State.task?_countInstr]; exact h
  have h2 : (s.countInstr k).fetchClean k.part (k.pc + 4) := by rw [State.fetchClean_countInstr]; exact hf
  rw [← State.goto_eq h1 h2]
  simp only [State.next, h]

theorem State.next_becomes {s : State} {t : Nat} {k : Task} (h : s.task? t = some k)
    (hf : s.fetchClean k.part (k.pc + 4)) : s.becomes (s.next t) t { k with pc := k.pc + 4 } := by
  rw [State.next_eq h hf]
  unfold State.becomes
  obtain ⟨x, y, hx⟩ := s.countInstr_counts k
  rw [hx]
  rfl

/-- An instruction that completes with a result in gd. -/
theorem State.finish_becomes {s : State} {t : Nat} {k : Task} (h : s.task? t = some k)
    (hf : s.fetchClean k.part (k.pc + 4)) (gd : Reg) (v : Word) : s.becomes (s.finish t gd v) t (k.step gd v) := by
  unfold State.finish
  rw [State.putReg_eq h]
  refine State.becomes_trans (State.setTask_becomes s t (k.put gd v)) ?_
  have e := State.next_becomes (s := s.setTask t (k.put gd v)) (t := t) (k := k.put gd v) (by simp) (by simpa using hf)
  simpa [Task.step] using e

/-- An instruction that completes with two results. -/
theorem State.finish2_becomes {s : State} {t : Nat} {k : Task} (h : s.task? t = some k)
    (hf : s.fetchClean k.part (k.pc + 4)) (gd gb : Reg) (v w : Word) :
    s.becomes (s.finish2 t gd gb v w) t (k.step2 gd gb v w) := by
  unfold State.finish2
  have h1 : (s.setTask t (k.put gd v)).task? t = some (k.put gd v) := by simp
  rw [State.putReg_eq h, State.putReg_eq h1, State.setTask_setTask]
  refine State.becomes_trans (State.setTask_becomes s t ((k.put gd v).put gb w)) ?_
  have e := State.next_becomes (s := s.setTask t ((k.put gd v).put gb w)) (t := t) (k := (k.put gd v).put gb w) (by simp)
    (by simpa using hf)
  simpa [Task.step2] using e

/-- A refusal: the code in gd, nothing else. -/
theorem State.refuse_eq {s : State} {t : Nat} {k : Task} (h : s.task? t = some k) (hf : s.fetchClean k.part (k.pc + 4))
    (gd : Reg) (code : Word) : s.refuse t gd code = s.setTask t (k.step gd code) := by
  have h1 : (s.setTask t (k.put gd code)).task? t = some (k.put gd code) := by simp
  rw [State.refuse, State.putReg_eq h, State.pass_eq h1 (by simpa using hf), State.setTask_setTask]
  simp [Task.step]

@[simp] theorem Task.step_part (k : Task) (gd : Reg) (v : Word) : (k.step gd v).part = k.part := by simp [Task.step]

/-- A violation is counted (R291, R298). -/
theorem State.violation_eq (s : State) (p : PartId) (kind : Byte) :
    s.violation p kind = { s with
      parts := s.parts.set p { s.parts[p] with
        viol := if s.parts[p].viol = 0xFFFFFFFF then s.parts[p].viol else s.parts[p].viol + 1, lastK := kind }
      obs := { s.obs with
        counters := (s.violation p kind).obs.counters, sampled := (s.violation p kind).obs.sampled } } := by
  unfold State.violation
  rw [State.countFor_eq]
  rfl

@[simp] theorem State.task?_violation (s : State) (p : PartId) (kind : Byte) : (s.violation p kind).task? = s.task? := by
  rw [State.violation_eq]; rfl

@[simp] theorem State.fetchClean_violation (s : State) (p : PartId) (kind : Byte) : (s.violation p kind).fetchClean = s.fetchClean := by
  rw [State.violation_eq]; rfl

/-- An instruction that ends as a violation: zero in gd, and the violation word. -/
theorem State.violate_violates {s : State} {t : Nat} {k : Task} (h : s.task? t = some k)
    (hf : s.fetchClean k.part (k.pc + 4)) (kind : Byte) (gd : Reg) :
    s.violates (s.violate t kind gd) t (k.step gd 0) kind := by
  have h1 : (s.violation k.part kind).task? t = some k := by simpa using h
  have h2 : ((s.violation k.part kind).setTask t (k.put gd 0)).task? t = some (k.put gd 0) := by simp
  have e : s.violate t kind gd = (s.violation k.part kind).setTask t (k.step gd 0) := by
    simp only [State.violate, h]
    rw [State.putReg_eq h1, State.pass_eq h2 (by simpa using hf), State.setTask_setTask]
    simp [Task.step]
  rw [e]
  unfold State.violates
  have hv : (if s.parts[k.part].viol = 0xFFFFFFFF then s.parts[k.part].viol else s.parts[k.part].viol + 1)
      = (if s.parts[k.part].viol = 0xFFFFFFFF then 0xFFFFFFFF else s.parts[k.part].viol + 1) := by
    split
    · assumption
    · rfl
  rw [State.violation_eq, hv]
  simp only [State.setTask, Task.step_part]

/-! What no shared operation changes. -/

/-- The parts of the state that no operation on tasks, messages, packets, faults and records changes; of the host port only the
interrupt flags change, and memory keeps its canonical form. -/
structure State.Keeps (s u : State) : Prop where
  pending : u.pending = s.pending
  free : u.free = s.free
  clk : u.clk = s.clk
  pw : u.pw = s.pw
  cht : u.cht = s.cht
  ports : u.ports = s.ports
  syn : u.syn = s.syn
  tsu : u.tsu = s.tsu
  pwr : u.pwr = s.pwr
  thm : u.thm = s.thm
  svc : u.svc = s.svc
  tap : u.tap = s.tap
  mram : memWf s.ms.mram = true → memWf u.ms.mram = true
  hpi : u.hpi = { s.hpi with int := u.hpi.int }
  mem : memWf s.ms.mem = true → memWf u.ms.mem = true

theorem State.keeps_refl (s : State) : s.Keeps s := by
  constructor <;> first | rfl | exact id

theorem State.Keeps.trans {s u v : State} (h1 : s.Keeps u) (h2 : u.Keeps v) : s.Keeps v where
  pending := h2.pending.trans h1.pending
  free := h2.free.trans h1.free
  clk := h2.clk.trans h1.clk
  pw := h2.pw.trans h1.pw
  cht := h2.cht.trans h1.cht
  ports := h2.ports.trans h1.ports
  syn := h2.syn.trans h1.syn
  tsu := h2.tsu.trans h1.tsu
  pwr := h2.pwr.trans h1.pwr
  thm := h2.thm.trans h1.thm
  svc := h2.svc.trans h1.svc
  tap := h2.tap.trans h1.tap
  mram := fun h => h2.mram (h1.mram h)
  hpi := h2.hpi.trans (by rw [h1.hpi])
  mem := fun h => h2.mem (h1.mem h)

/-- The same, the second change first. -/
theorem State.Keeps.after {s u v : State} (h2 : u.Keeps v) (h1 : s.Keeps u) : s.Keeps v := h1.trans h2

/-- A state that differs in the other parts only. -/
theorem State.keeps_of_update (s : State) (cpu : Cpu) (parts : Vector Part 8) (mail : List (Nat × List Msg)) (rad : Radio)
    (links : Vector Link 4) (fab : Fab) (int : BitVec 6) (obs : Obs) :
    s.Keeps { s with
      cpu := cpu, parts := parts, mail := mail, rad := rad, links := links, fab := fab, hpi := { s.hpi with int := int }, obs := obs } := by
  constructor <;> first | rfl | exact id

/-- A state whose memory system differs apart from what memory and the MRAM copies hold. -/
theorem State.keeps_of_ms (s : State) (ms : MemSys) (h1 : ms.mem = s.ms.mem) (h2 : ms.mram = s.ms.mram) : s.Keeps { s with ms := ms } := by
  constructor <;> first | rfl | (intro h; simpa [h1, h2] using h)

theorem State.keeps_foldl {α : Type} (f : State → α → State) (hf : ∀ (s : State) (a : α), s.Keeps (f s a)) (l : List α) (s : State) :
    s.Keeps (l.foldl f s) := by
  induction l generalizing s with
  | nil => exact s.keeps_refl
  | cons a l ih => exact (hf s a).trans (ih _)

theorem State.countBy_keeps (s : State) (c n : Nat) : s.Keeps (s.countBy c n) := by
  constructor <;> simp

theorem State.count_keeps (s : State) (c : Nat) : s.Keeps (s.count c) := s.countBy_keeps c 1

theorem State.countFor_keeps (s : State) (p : PartId) (c : Nat) : s.Keeps (s.countFor p c) := by
  constructor <;> simp

theorem State.countInstr_keeps (s : State) (k : Task) : s.Keeps (s.countInstr k) := by
  constructor <;> simp

theorem State.setTask_keeps (s : State) (t : Nat) (k : Task) : s.Keeps (s.setTask t k) := State.keeps_of_update s _ _ _ _ _ _ _ _

theorem State.setBox_keeps (s : State) (k : Nat) (l : List Msg) : s.Keeps (s.setBox k l) := State.keeps_of_update s _ _ _ _ _ _ _ _

theorem State.mapPart_keeps (s : State) (p : PartId) (f : Part → Part) : s.Keeps (s.mapPart p f) :=
  State.keeps_of_update s _ _ _ _ _ _ _ _

theorem State.mapLink_keeps (s : State) (l : LinkId) (f : Link → Link) : s.Keeps (s.mapLink l f) :=
  State.keeps_of_update s _ _ _ _ _ _ _ _

theorem State.setSlot_keeps (s : State) (k : Nat) (x : Slot) : s.Keeps (s.setSlot k x) := State.keeps_of_update s _ _ _ _ _ _ _ _

theorem State.countSource_keeps (s : State) (k : Nat) : s.Keeps (s.countSource k) := State.keeps_of_update s _ _ _ _ _ _ _ _

theorem State.lineRise_keeps (s : State) (n : SubId) (kind : Byte) : s.Keeps (s.lineRise n kind) := by
  unfold State.lineRise
  split
  · exact s.keeps_refl
  · exact State.Keeps.trans (State.keeps_of_update s _ _ _ _ _ _ _ _) (State.countSource_keeps _ _)

theorem State.lineFall_keeps (s : State) (n : SubId) : s.Keeps (s.lineFall n) := by
  unfold State.lineFall
  split
  · exact State.keeps_of_update s _ _ _ _ _ _ _ _
  · exact s.keeps_refl

theorem State.linePulse_keeps (s : State) (n : SubId) (kind : Byte) : s.Keeps (s.linePulse n kind) := by
  unfold State.linePulse
  split
  · exact s.keeps_refl
  · exact (s.lineRise_keeps n kind).trans (State.lineFall_keeps _ n)

theorem State.stickyClear_keeps (s : State) (mask : BitVec 20) : s.Keeps (s.stickyClear mask) :=
  State.keeps_of_update s _ _ _ _ _ _ _ _

theorem State.logFull_keeps (s : State) (code : Nat) (fl : RecFlags) (node : NodeId) (part p0 p1 p2 p3 : Nat) :
    s.Keeps (s.logFull code fl node part p0 p1 p2 p3) := by
  simp only [State.logFull]
  split
  · exact State.keeps_of_update s _ _ _ _ _ _ _ _
  · split
    · exact State.Keeps.trans (State.keeps_of_update s _ _ _ _ _ _ _ _) (State.linePulse_keeps _ _ _)
    · exact State.keeps_of_update s _ _ _ _ _ _ _ _

theorem State.log_keeps (s : State) (code p0 p1 p2 : Nat) : s.Keeps (s.log code p0 p1 p2) := s.logFull_keeps _ _ _ _ _ _ _ _

theorem State.logFault_keeps (s : State) (m : BitVec 128) (k : Byte) : s.Keeps (s.logFault m k) := s.logFull_keeps _ _ _ _ _ _ _ _

theorem State.placeFault_keeps (s : State) (m : BitVec 128) (k : Byte) : s.Keeps (s.placeFault m k) := by
  simp only [State.placeFault]
  refine State.Keeps.trans ?_ (State.logFault_keeps _ _ _)
  split
  · exact State.Keeps.trans (State.keeps_of_update s _ _ _ _ _ _ _ _) (State.linePulse_keeps _ _ _)
  · exact s.setBox_keeps _ _

theorem State.holdFault_keeps (s : State) (m : BitVec 128) (via : Option ChainId) : s.Keeps (s.holdFault m via) := by
  simp only [State.holdFault]
  split
  · exact State.Keeps.trans (State.keeps_of_update s _ _ _ _ _ _ _ _) (State.count_keeps _ _)
  · exact State.keeps_of_update s _ _ _ _ _ _ _ _

/-- A coded fault that is not merged into another is placed at the node and, on a node that is not head, held for it. -/
theorem State.codedFaultN_keeps (s : State) (sub kind part : Nat) (addr : Word) (n : Nat) (exc : Option Nat) :
    s.Keeps (s.codedFaultN sub kind part addr n exc) := by
  unfold State.codedFaultN
  extract_lets here s0 sev m link nest
  refine (show s.Keeps s0 from s.countSource_keeps _).trans ?_
  clear_value s0
  split
  · exact State.Keeps.trans (State.keeps_of_update s0 _ _ _ _ _ _ _ _) (State.logFault_keeps _ _ _)
  · split
    · exact State.Keeps.trans (State.keeps_of_update s0 _ _ _ _ _ _ _ _) (State.logFault_keeps _ _ _)
    · rename_i s1 _ s2 _ _ _
      refine (show s0.Keeps s1 from s0.placeFault_keeps m 0).trans ?_
      clear_value s1
      refine (show s1.Keeps s2 from ?_).trans ?_
      · unfold s2
        split
        · exact State.keeps_of_update s1 _ _ _ _ _ _ _ _
        · exact s1.keeps_refl
      · clear_value s2
        split
        · exact s2.keeps_refl
        · exact s2.holdFault_keeps _ _

theorem State.codedFault_keeps (s : State) (sub kind part : Nat) (addr : Word) : s.Keeps (s.codedFault sub kind part addr) :=
  s.codedFaultN_keeps _ _ _ _ _ _

theorem State.violation_keeps (s : State) (p : PartId) (kind : Byte) : s.Keeps (s.violation p kind) :=
  (s.mapPart_keeps p _).trans (State.countFor_keeps _ _ _)

/-! Memory. -/

theorem State.touch_keeps (s : State) (part : PartId) (va : Nat) : s.Keeps (s.touch part va) := by
  unfold State.touch
  split
  · exact s.keeps_refl
  · refine State.Keeps.trans ?_ (State.count_keeps _ _)
    constructor <;> first | rfl | exact id

theorem State.touch_mem (s : State) (part : PartId) (va : Nat) : (s.touch part va).ms.mem = s.ms.mem := by
  unfold State.touch
  split
  · rfl
  · simp

theorem State.touchRange_keeps (s : State) (part : PartId) (va n : Nat) : s.Keeps (s.touchRange part va n) :=
  State.keeps_foldl _ (fun u _ => u.touch_keeps _ _) _ _

theorem State.touchRange_mem (s : State) (part : PartId) (va n : Nat) : (s.touchRange part va n).ms.mem = s.ms.mem := by
  unfold State.touchRange
  generalize linesOf va n = l
  induction l generalizing s with
  | nil => rfl
  | cons a l ih => exact (ih _).trans (State.touch_mem _ _ _)

/-! Errors of memory (R379 to R382): what a fetch, a load or the pager meets changes no content. -/

theorem State.frameGone_keeps (s : State) (t g : Nat) : s.Keeps (s.frameGone t g) := by
  unfold State.frameGone
  refine State.Keeps.trans ?_ (State.log_keeps _ _ _ _ _)
  refine State.Keeps.trans ?_ (State.linePulse_keeps _ _ _)
  exact State.Keeps.after (State.count_keeps _ _) (State.keeps_of_ms s _ rfl rfl)

theorem State.leaveFrame_keeps (s : State) (t g : Nat) (ce : List Nat) : s.Keeps (s.leaveFrame t g ce) := by
  simp only [State.leaveFrame]
  split
  · exact s.frameGone_keeps _ _
  · split
    · exact s.keeps_refl
    · exact State.keeps_of_ms s _ rfl rfl

theorem State.takeFrame_keeps (s : State) (t g : Nat) : s.Keeps (s.takeFrame t g).1 := by
  simp only [State.takeFrame]
  split
  · exact s.keeps_refl
  · split
    · exact State.keeps_of_ms s _ rfl rfl
    · exact s.keeps_refl

theorem State.mapPage_keeps (s : State) (p : Page) (f : Page → Page) : s.Keeps (s.mapPage p f) := State.keeps_of_ms s _ rfl rfl

theorem State.dropFlaw_keeps (s : State) (f : Flaw) : s.Keeps (s.dropFlaw f) := State.keeps_of_ms s _ rfl rfl

theorem State.uncorrected_keeps (s : State) (part : PartId) (va : Nat) : s.Keeps (s.uncorrected part va) := by
  simp only [State.uncorrected]
  refine State.Keeps.trans ?_ (State.codedFault_keeps _ _ _ _ _)
  refine State.Keeps.trans ?_ (State.linePulse_keeps _ _ _)
  exact State.Keeps.after (State.count_keeps _ _) (State.keeps_of_ms s _ rfl rfl)

theorem State.poisonBlock_keeps (s : State) (part : PartId) (va : Nat) : s.Keeps (s.poisonBlock part va) := by
  simp only [State.poisonBlock]
  refine State.Keeps.trans ?_ (State.uncorrected_keeps _ _ _)
  exact State.Keeps.after (State.mapPart_keeps _ _ _) (State.keeps_of_ms s _ rfl rfl)

theorem State.corrected_keeps (s : State) : s.Keeps s.corrected :=
  State.Keeps.after (State.count_keeps _ _) (State.keeps_of_ms s _ rfl rfl)

theorem State.carryFlaw_keeps (s : State) (part : PartId) (t : Nat) (f : Flaw) : s.Keeps (s.carryFlaw part t f) := by
  unfold State.carryFlaw
  split
  · exact (s.dropFlaw_keeps f).trans (State.corrected_keeps _)
  · exact (s.dropFlaw_keeps f).trans (State.poisonBlock_keeps _ _ _)

theorem State.carryFlaws_keeps (s : State) (p : Page) (copy : Bool) : s.Keeps (s.carryFlaws p copy).1 :=
  State.keeps_foldl _ (fun u f => u.carryFlaw_keeps _ _ f) _ _

theorem State.releaseCopy_keeps (s : State) (p : Page) : s.Keeps (s.releaseCopy p) := by
  simp only [State.releaseCopy]
  refine State.Keeps.trans ?_ (State.keeps_of_ms _ _ rfl rfl)
  exact State.keeps_foldl _ (fun u f => (u.dropFlaw_keeps f).trans (State.uncorrected_keeps _ _ _)) _ _

/-- What becomes of the frame that a page leaves. -/
theorem State.outFrame_keeps (s : State) (gone : Bool) (t g : Nat) (ce : List Nat) :
    s.Keeps (if gone then s.frameGone t g else s.leaveFrame t g ce) := by
  split
  · exact s.frameGone_keeps _ _
  · exact s.leaveFrame_keeps _ _ _

theorem State.reframe_keeps (s : State) (p : Page) (tier : BitVec 2) (gone : Bool) : s.Keeps (s.reframe p tier gone) := by
  simp only [State.reframe]
  split
  · exact (s.releaseCopy_keeps p).trans ((State.mapPage_keeps _ _ _).trans (State.outFrame_keeps _ _ _ _ _))
  · have h := (s.carryFlaws_keeps p false).trans (State.takeFrame_keeps _ tier.toNat p.gills)
    split
    · exact h.trans (State.mapPage_keeps _ _ _)
    · exact h.trans ((State.mapPage_keeps _ _ _).trans (State.outFrame_keeps _ _ _ _ _))

theorem State.dropColdReplica_keeps (s : State) : s.Keeps s.dropColdReplica := by
  simp only [State.dropColdReplica]
  split
  · exact State.Keeps.after (State.count_keeps _ _) (State.keeps_of_ms s _ rfl rfl)
  · exact s.keeps_refl

theorem State.makeRoom_keeps (s : State) (g : Nat) : s.Keeps (s.makeRoom g) := by
  refine State.keeps_foldl _ (fun u i => ?_) _ s
  split
  · exact u.keeps_refl
  · exact u.dropColdReplica_keeps

theorem State.movePage_keeps (s : State) (p : Page) (tier : BitVec 2) : s.Keeps (s.movePage p tier) := by
  simp only [State.movePage]
  refine State.Keeps.trans ?_ (State.count_keeps _ _)
  refine State.Keeps.trans ?_ (State.mapPage_keeps _ _ _)
  split
  · exact (s.makeRoom_keeps _).trans (State.reframe_keeps _ _ _ _)
  · exact s.reframe_keeps _ _ _

theorem State.retireFrame_keeps (s : State) (p : Page) (copy : Bool) : s.Keeps (s.retireFrame p copy) := by
  simp only [State.retireFrame]
  split
  · split
    · exact (s.carryFlaws_keeps p true).trans ((State.takeFrame_keeps _ _ _).trans ((State.mapPage_keeps _ _ _).trans
        (State.frameGone_keeps _ _ _)))
    · exact s.keeps_refl
  · split
    · refine State.Keeps.trans ?_ (State.count_keeps _ _)
      split
      · exact (s.makeRoom_keeps _).trans (State.reframe_keeps _ _ _ _)
      · exact s.reframe_keeps _ _ _
    · exact s.keeps_refl

theorem State.correctedError_keeps (s : State) (p : Page) (copy : Bool) : s.Keeps (s.correctedError p copy) := by
  unfold State.correctedError
  extract_lets times s1
  have h : s.Keeps s1 := s.corrected_keeps.trans (State.mapPage_keeps _ _ _)
  split
  · exact h.trans (State.retireFrame_keeps _ _ _)
  · exact h

theorem State.meetFlaw_keeps (s : State) (part : PartId) (f : Flaw) : s.Keeps (s.meetFlaw part f) := by
  unfold State.meetFlaw
  split
  · exact s.keeps_refl
  · split
    · exact (s.dropFlaw_keeps f).trans (State.correctedError_keeps _ _ _)
    · simp only []
      split
      · exact (s.uncorrected_keeps _ _).trans (State.dropFlaw_keeps _ _)
      · exact s.uncorrected_keeps _ _

theorem State.readErrors_keeps (s : State) (part : PartId) (va n : Nat) : s.Keeps (s.readErrors part va n) :=
  State.keeps_foldl _ (fun u f => u.meetFlaw_keeps _ f) _ _

theorem memWf_putLines (es : List (Nat × List Byte)) (m : List Host.Cell) (h : memWf m = true) : memWf (putLines es m) = true := by
  unfold putLines
  induction es generalizing m with
  | nil => exact h
  | cons e es ih => exact ih _ (memWf_memPutBytes _ _ h)

theorem State.storeBytes_keeps (s : State) (part : PartId) (va : Nat) (bs : List Byte) : s.Keeps (s.storeBytes part va bs) := by
  simp only [State.storeBytes]
  refine State.Keeps.trans ?_ (State.touchRange_keeps _ _ _ _)
  constructor <;> first | rfl | exact memWf_memPutBytes _ _ | exact memWf_putLines _ _

/-- A store writes its bytes at their address and nowhere else. -/
theorem State.storeBytes_mem (s : State) (part : PartId) (va : Nat) (bs : List Byte) :
    (s.storeBytes part va bs).ms.mem = memPutBytes (memKey part va) bs s.ms.mem := by
  simp only [State.storeBytes, State.touchRange_mem, State.overwrite]

/-! Packets. -/

theorem State.enqueue_keeps (s : State) (p : TxPacket) : s.Keeps (s.enqueue p) := by
  unfold State.enqueue
  split
  · exact s.count_keeps _
  · exact State.keeps_of_update s _ _ _ _ _ _ _ _

theorem State.queuePri_keeps (s : State) (p : TxPacket) : s.Keeps (s.queuePri p) := by
  simp only [State.queuePri]
  split
  · exact s.enqueue_keeps _
  · split
    · exact (s.enqueue_keeps _).trans (State.mapLink_keeps _ _ _)
    · split
      · exact (s.enqueue_keeps _).trans (State.countBy_keeps _ _ _)
      · refine State.Keeps.trans ?_ (State.countBy_keeps _ _ _)
        refine State.Keeps.trans ?_ (State.mapLink_keeps _ _ _)
        exact (s.enqueue_keeps _).trans (State.keeps_of_update _ _ _ _ _ _ _ _ _)

theorem State.queueOn_keeps (s : State) (p : TxPacket) : s.Keeps (s.queueOn p) := by
  unfold State.queueOn
  split
  · exact (s.mapLink_keeps _ _).trans (State.queuePri_keeps _ _)
  · exact s.queuePri_keeps _

theorem State.deadEnd_keeps (s : State) (dst : NodeId) (cells : Nat) (first : Bool) : s.Keeps (s.deadEnd dst cells first) := by
  unfold State.deadEnd
  split
  · exact s.keeps_refl
  · split
    · split
      · exact s.countBy_keeps _ _
      · exact s.keeps_refl
    · split
      · exact s.count_keeps _
      · exact s.keeps_refl

theorem State.sendOnPorts_keeps (s : State) (ports : List ChainId) (dst : NodeId) (pri : BitVec 3) (typ : BitVec 4)
    (part : PartId) (body : PktBody) : s.Keeps (s.sendOnPorts ports dst pri typ part body) := by
  unfold State.sendOnPorts
  split
  · exact s.keeps_refl
  · split
    · exact s.deadEnd_keeps _ _ _
    · exact State.Keeps.trans (State.keeps_of_update s _ _ _ _ _ _ _ _)
        (State.keeps_foldl _ (fun u l => u.queueOn_keeps _) ports _)

theorem State.sendPacket_keeps (s : State) (dst : NodeId) (pri : BitVec 3) (typ : BitVec 4) (part : PartId) (body : PktBody) :
    s.Keeps (s.sendPacket dst pri typ part body) := s.sendOnPorts_keeps _ _ _ _ _ _

theorem State.askDiscard_keeps (s : State) (key : Nat) : s.Keeps (s.askDiscard key) := by
  unfold State.askDiscard
  split
  · exact s.keeps_refl
  · split
    · exact s.keeps_refl
    · exact State.Keeps.after (State.keeps_foldl _ (fun u h => u.sendPacket_keeps _ _ _ _ _) _ _) (State.keeps_of_ms s _ rfl rfl)

theorem State.askDiscardAt_keeps (s : State) (part : PartId) (va n : Nat) : s.Keeps (s.askDiscardAt part va n) := by
  have first : s.Keeps (match (s.pageAt part va).map fun p => memKey part p.va with
      | some k => s.askDiscard k | none => s) := by
    split
    · exact s.askDiscard_keeps _
    · exact s.keeps_refl
  simp only [State.askDiscardAt]
  split
  · exact first
  · split
    · exact first.trans (State.askDiscard_keeps _ _)
    · exact first

theorem drainList_keeps (part : PartId) (l : List StoreEntry) (n : Nat) (held : List StoreEntry) (s : State) :
    s.Keeps (drainList part n held l s).1 := by
  induction l generalizing s n held with
  | nil => exact s.keeps_refl
  | cons e l ih =>
    unfold drainList
    split
    · exact ih _ _ s
    · split
      · exact (s.askDiscardAt_keeps _ _ _).trans (ih _ _ _)
      · exact (s.storeBytes_keeps _ _ _).trans (ih _ _ _)

theorem State.drainSome_keeps (s : State) (t n : Nat) : s.Keeps (s.drainSome t n) := by
  unfold State.drainSome
  split
  · exact s.keeps_refl
  · exact (drainList_keeps _ _ _ _ s).trans (State.setTask_keeps _ _ _)

theorem State.drain_keeps (s : State) (t : Nat) : s.Keeps (s.drain t) := by
  unfold State.drain
  split
  · exact s.keeps_refl
  · exact s.drainSome_keeps _ _

/-! Tasks. -/

theorem State.placeOn_keeps (s : State) (t c : Nat) : s.Keeps (s.placeOn t c) := by
  unfold State.placeOn
  split
  · exact s.keeps_refl
  · split
    · exact State.keeps_of_update s _ _ _ _ _ _ _ _
    · refine (s.drain_keeps t).trans ?_
      simp only []
      split
      · exact State.keeps_refl _
      · split
        · exact State.Keeps.trans (State.keeps_of_update _ _ _ _ _ _ _ _ _) (State.countFor_keeps _ _ _)
        · exact State.keeps_refl _

theorem placeList_keeps (l : List Nat) (s : State) : s.Keeps (placeList l s) := by
  induction l generalizing s with
  | nil => exact s.keeps_refl
  | cons t l ih =>
    unfold placeList
    split
    · split
      · exact (s.placeOn_keeps _ _).trans (ih _)
      · exact ih s
    · exact State.Keeps.trans (State.keeps_of_update s _ _ _ _ _ _ _ _) (ih _)

theorem State.place_keeps (s : State) : s.Keeps s.place := by
  unfold State.place
  split
  · exact placeList_keeps _ _
  · exact s.keeps_refl

theorem State.makeReady_keeps (s : State) (t : Nat) : s.Keeps (s.makeReady t) := by
  unfold State.makeReady
  split
  · exact s.keeps_refl
  · exact State.Keeps.trans (State.keeps_of_update s _ _ _ _ _ _ _ _) (State.place_keeps _)

theorem State.makeWait_keeps (s : State) (t : Nat) (w : Wait) : s.Keeps (s.makeWait t w) := by
  unfold State.makeWait
  split
  · exact s.keeps_refl
  · exact (s.setTask_keeps _ _).trans (State.place_keeps _)

theorem State.dropPend_keeps (s : State) (t : Nat) : s.Keeps (s.dropPend t) := State.keeps_of_update s _ _ _ _ _ _ _ _

theorem State.freeIndex_keeps (s : State) (t : Nat) : s.Keeps (s.freeIndex t) := by
  constructor <;> first | rfl | exact id

theorem State.setKnow_keeps (s : State) (t : Nat) (k : Know) : s.Keeps (s.setKnow t k) := State.keeps_of_update s _ _ _ _ _ _ _ _

theorem State.taught_keeps (s : State) (t : Nat) (l : List (Nat × Nat)) : s.Keeps (s.taught t l) := by
  unfold State.taught
  split
  · exact s.keeps_refl
  · exact s.setKnow_keeps _ _

theorem State.taughtAt_keeps (s : State) (t a n : Nat) : s.Keeps (s.taughtAt t a n) :=
  State.keeps_foldl _ (fun u _ => u.taught_keeps _ _) _ _

theorem State.noteStore_keeps (s : State) (t a n : Nat) : s.Keeps (s.noteStore t a n) := s.setKnow_keeps _ _

theorem State.publish_keeps (s : State) (t : Nat) : s.Keeps (s.publish t) := by
  simp only [State.publish]
  split
  · exact s.keeps_refl
  · exact (s.setKnow_keeps t _).trans (State.keeps_of_ms _ _ rfl rfl)

theorem State.dropAsk_keeps (s : State) (k : Nat) : s.Keeps (s.dropAsk k) := State.keeps_of_update s _ _ _ _ _ _ _ _

theorem State.dropWait_keeps (s : State) (t : Nat) : s.Keeps (s.dropWait t) := by
  unfold State.dropWait
  split
  · split
    · exact s.dropAsk_keeps _
    · exact s.keeps_refl
  · exact s.keeps_refl

theorem State.endTask0_keeps (s : State) (t : Nat) (v : Word) : s.Keeps (s.endTask0 t v) := by
  unfold State.endTask0
  split
  · exact s.keeps_refl
  · exact (s.dropWait_keeps t).trans (State.Keeps.trans (State.keeps_of_update _ _ _ _ _ _ _ _ _) (State.dropPend_keeps _ _))

theorem State.exceptionEnd_keeps (s : State) (t : Nat) (cause : Byte) (pc addr : Word) (n : Nat) :
    s.Keeps (s.exceptionEnd t cause pc addr n) := by
  unfold State.exceptionEnd
  split
  · exact s.keeps_refl
  · exact (s.codedFaultN_keeps _ _ _ _ _ _).trans ((State.countFor_keeps _ _ _).trans ((State.setTask_keeps _ _ _).trans
      (State.endTask0_keeps _ _ _)))

theorem State.exception0_keeps (s : State) (t : Nat) (cause : Byte) (pc addr : Word) (n : Nat) :
    s.Keeps (s.exception0 t cause pc addr n) := by
  unfold State.exception0
  split
  · exact s.keeps_refl
  · split
    · rename_i k _ _
      simp only []
      refine ((s.codedFaultN_keeps (excSub k.part) cause.toNat k.part.val addr n (some t)).trans ((State.countFor_keeps _ k.part 10).trans
        ((State.dropPend_keeps _ t).trans (State.setTask_keeps _ t
          { k with cause := cause, excPc := pc, excAddr := addr, active := true, pc := k.evec })))).trans ?_
      split
      · exact State.readErrors_keeps _ _ _ _
      · split
        · exact State.exceptionEnd_keeps _ _ _ _ _ _
        · exact (State.violation_keeps _ _ _).trans (State.exceptionEnd_keeps _ _ _ _ _ _)
    · exact s.exceptionEnd_keeps _ _ _ _ _

theorem State.goto0_keeps (s : State) (t : Nat) (target : Word) : s.Keeps (s.goto0 t target) := by
  unfold State.goto0
  split
  · exact s.keeps_refl
  · split
    · exact (s.setTask_keeps _ _).trans (State.readErrors_keeps _ _ _ _)
    · split
      · exact (s.readErrors_keeps _ _ _).trans (State.exception0_keeps _ _ _ _ _ _)
      · exact (s.violation_keeps _ _).trans (State.exception0_keeps _ _ _ _ _ _)

theorem State.putReg_keeps (s : State) (t : Nat) (r : Reg) (v : Word) : s.Keeps (s.putReg t r v) := by
  unfold State.putReg
  split
  · exact s.keeps_refl
  · exact s.setTask_keeps _ _

theorem State.wakeRaw_keeps (s : State) (t : Nat) (gd gb : Reg) (v w : Word) : s.Keeps (s.wakeRaw t gd gb v w) := by
  unfold State.wakeRaw
  split
  · exact s.keeps_refl
  · rename_i k _
    simp only []
    refine ((s.putReg_keeps t gd v).trans ((State.putReg_keeps _ t gb w).trans (State.goto0_keeps _ t (k.pc + 4)))).trans ?_
    split
    · split
      · exact State.makeReady_keeps _ _
      · exact State.keeps_refl _
    · exact State.keeps_refl _

theorem State.serveJoins_keeps (fuel : Nat) (s : State) (t : Nat) : s.Keeps (s.serveJoins t fuel) := by
  induction fuel generalizing s t with
  | zero => exact s.keeps_refl
  | succ fuel ih =>
    unfold State.serveJoins
    split
    · exact s.keeps_refl
    · split
      · split
        · exact s.keeps_refl
        · refine State.Keeps.trans ?_ (State.keeps_foldl _ (fun u x => ?_) _ _)
          · exact (s.freeIndex_keeps t).trans ((State.taught_keeps _ _ _).trans ((State.countFor_keeps _ _ _).trans ((State.wakeRaw_keeps _ _ _ _ _ _).trans (ih _ _))))
          · exact (u.violation_keeps _ _).trans ((State.wakeRaw_keeps _ _ _ _ _ _).trans (ih _ _))
      · exact s.keeps_refl

theorem State.afterEnd_keeps (s : State) (t : Nat) : s.Keeps (s.afterEnd t) :=
  (s.serveJoins_keeps 512 t).trans (State.place_keeps _)

theorem State.endTask_keeps (s : State) (t : Nat) (v : Word) : s.Keeps (s.endTask t v) :=
  (s.endTask0_keeps t v).trans (State.afterEnd_keeps _ t)

theorem State.exceptionN_keeps (s : State) (t : Nat) (cause : Byte) (pc addr : Word) (n : Nat) :
    s.Keeps (s.exceptionN t cause pc addr n) := (s.exception0_keeps _ _ _ _ _).trans (State.afterEnd_keeps _ t)

theorem State.exception_keeps (s : State) (t : Nat) (cause : Byte) (pc addr : Word) : s.Keeps (s.exception t cause pc addr) :=
  s.exceptionN_keeps _ _ _ _ _

theorem State.goto_keeps (s : State) (t : Nat) (target : Word) : s.Keeps (s.goto t target) := by
  unfold State.goto
  split
  · exact s.keeps_refl
  · split
    · exact (s.setTask_keeps _ _).trans (State.readErrors_keeps _ _ _ _)
    · exact (s.goto0_keeps _ _).trans (State.afterEnd_keeps _ t)

theorem State.next_keeps (s : State) (t : Nat) : s.Keeps (s.next t) := by
  unfold State.next
  split
  · exact s.keeps_refl
  · exact (s.countInstr_keeps _).trans (State.goto_keeps _ _ _)

theorem State.finish_keeps (s : State) (t : Nat) (gd : Reg) (v : Word) : s.Keeps (s.finish t gd v) :=
  (s.putReg_keeps _ _ _).trans (State.next_keeps _ _)

theorem State.finish2_keeps (s : State) (t : Nat) (gd gb : Reg) (v w : Word) : s.Keeps (s.finish2 t gd gb v w) :=
  (s.putReg_keeps _ _ _).trans ((State.putReg_keeps _ _ _ _).trans (State.next_keeps _ _))

theorem State.pass_keeps (s : State) (t : Nat) : s.Keeps (s.pass t) := by
  unfold State.pass
  split
  · exact s.keeps_refl
  · exact s.goto_keeps _ _

theorem State.refuse_keeps (s : State) (t : Nat) (gd : Reg) (code : Word) : s.Keeps (s.refuse t gd code) :=
  (s.putReg_keeps _ _ _).trans (State.pass_keeps _ _)

theorem State.violate_keeps (s : State) (t : Nat) (kind : Byte) (gd : Reg) : s.Keeps (s.violate t kind gd) := by
  unfold State.violate
  split
  · exact s.keeps_refl
  · exact (s.violation_keeps _ _).trans ((State.putReg_keeps _ _ _ _).trans (State.pass_keeps _ _))

theorem State.violate2_keeps (s : State) (t : Nat) (kind : Byte) (gd gb : Reg) : s.Keeps (s.violate2 t kind gd gb) := by
  unfold State.violate2
  split
  · exact s.keeps_refl
  · exact (s.violation_keeps _ _).trans ((State.putReg_keeps _ _ _ _).trans ((State.putReg_keeps _ _ _ _).trans
      (State.pass_keeps _ _)))

theorem State.wakeWith_keeps (s : State) (t : Nat) (gd gb : Reg) (v w : Word) : s.Keeps (s.wakeWith t gd gb v w) :=
  (s.wakeRaw_keeps _ _ _ _ _).trans (State.afterEnd_keeps _ t)

theorem State.countDone_keeps (s : State) (t : Nat) : s.Keeps (s.countDone t) := by
  unfold State.countDone
  split
  · exact s.countInstr_keeps _
  · exact s.keeps_refl

theorem State.wake_keeps (s : State) (t : Nat) (gd : Reg) (v : Word) : s.Keeps (s.wake t gd v) :=
  (s.countDone_keeps t).trans (State.wakeWith_keeps _ _ _ _ _ _)

theorem State.wake2_keeps (s : State) (t : Nat) (gd gb : Reg) (v w : Word) : s.Keeps (s.wake2 t gd gb v w) :=
  (s.countDone_keeps t).trans (State.wakeWith_keeps _ _ _ _ _ _)

theorem State.wakeRefuse_keeps (s : State) (t : Nat) (gd : Reg) (code : Word) : s.Keeps (s.wakeRefuse t gd code) :=
  s.wakeWith_keeps _ _ _ _ _

theorem State.wakeException_keeps (s : State) (t : Nat) (cause : Byte) (addr : Word) (n : Nat) :
    s.Keeps (s.wakeException t cause addr n) := by
  unfold State.wakeException
  split
  · exact s.keeps_refl
  · rename_i k _
    simp only []
    refine (s.exceptionN_keeps t cause k.pc addr n).trans ?_
    split
    · split
      · exact State.makeReady_keeps _ _
      · exact State.keeps_refl _
    · exact State.keeps_refl _

theorem State.wakeRetries_keeps (s : State) : s.Keeps s.wakeRetries := State.keeps_foldl _ (fun u _ => u.makeReady_keeps _) _ _

theorem State.wakeEvents_keeps (s : State) (p : PartId) : s.Keeps (s.wakeEvents p) :=
  (s.mapPart_keeps p _).trans (State.keeps_foldl _ (fun u _ => u.wake_keeps _ _ _) _ _)

theorem State.event_keeps (s : State) (p : PartId) (bit : Nat) : s.Keeps (s.event p bit) :=
  (s.mapPart_keeps p _).trans (State.wakeEvents_keeps _ p)

theorem State.eventAll_keeps (s : State) (bit : Nat) : s.Keeps (s.eventAll bit) := by
  refine State.keeps_foldl _ (fun u p => ?_) _ _
  split
  · exact u.event_keeps _ _
  · exact u.keeps_refl

theorem State.hold_keeps (s : State) (t : Nat) (i : Instr) : s.Keeps (s.hold t i) :=
  State.Keeps.trans (State.keeps_of_update s _ _ _ _ _ _ _ _) (State.makeWait_keeps _ _ _)

/-- An instruction keeps what its function keeps, whatever the state of its task. -/
theorem onRunning_keeps {t : TaskId} {s : State} {f : Task → State → State}
    (hf : ∀ (k : Task) (u : State), u.Keeps (f k u)) :
    ∃ u, onRunning t s f = .next u ∧ s.Keeps u := by
  unfold onRunning
  split
  · split
    · refine ⟨_, rfl, State.Keeps.trans ?_ (hf _ _)⟩
      split
      · exact s.keeps_refl
      · exact s.countFor_keeps _ _
    · exact ⟨s, rfl, s.keeps_refl⟩
  · exact ⟨s, rfl, s.keeps_refl⟩

end Sys2Proof.Machine
end

