-- ==== Sys2Proof/Laws/Memory.lean ====
section
/-! SUPPORT. Every operation on the node's byte memories keeps their canonical form, and memory after reset has it; what the
operations on pages leave in memory; what a signature's verification depends on. -/

namespace Sys2Proof.Machine

theorem State.reset_memOk : State.reset.memOk := ⟨rfl, rfl, rfl, rfl, rfl, rfl⟩

theorem State.Keeps.memOk {s u : State} (h : s.Keeps u) (hs : s.memOk) : u.memOk := by
  obtain ⟨h1, h2, h3, h4, h5, h6⟩ := hs
  refine ⟨h.mem h1, h.mram h2, ?_, ?_, ?_, ?_⟩ <;> rw [h.hpi] <;> assumption

/-- A change of the node's memory system keeps the form where it keeps it of both memories. -/
theorem State.memOk_of_ms {s : State} (hs : s.memOk) (ms : MemSys) (h1 : memWf ms.mem = true) (h2 : memWf ms.mram = true) :
    ({ s with ms := ms }).memOk := ⟨h1, h2, hs.2.2⟩

theorem State.memOk_foldl {α : Type} (f : State → α → State) (hf : ∀ (s : State) (a : α), s.memOk → (f s a).memOk) (l : List α)
    {s : State} (h : s.memOk) : (l.foldl f s).memOk := by
  induction l generalizing s with
  | nil => exact h
  | cons a l ih => exact ih (hf s a h)

theorem State.zeroRange_memOk {s : State} (part : PartId) (va n : Nat) (h : s.memOk) : (s.zeroRange part va n).memOk :=
  State.memOk_of_ms h _ (memWf_memZero _ _ h.1) (memWf_memZero _ _ h.2.1)

/-- A zeroed range reads as zero, every other byte as before (R363, R364). -/
theorem State.zeroRange_mem {s : State} (part : PartId) (va n x : Nat) (h : s.memOk) :
    memRead x (s.zeroRange part va n).ms.mem =
      if memKey part va ≤ x ∧ x < memKey part va + n then 0 else memRead x s.ms.mem :=
  memRead_memZero x _ n h.1

/-- Replicas are dropped, and nothing of memory's content changes (R372). -/
theorem State.makeRoom_mem (s : State) (g : Nat) : (s.makeRoom g).ms.mem = s.ms.mem ∧ (s.makeRoom g).ms.mram = s.ms.mram := by
  unfold State.makeRoom
  generalize List.range s.ms.replicas.length = l
  induction l generalizing s with
  | nil => exact ⟨rfl, rfl⟩
  | cons a l ih =>
    have step : ∀ u : State, (if g ≤ u.freeGills 1 then u else u.dropColdReplica).ms.mem = u.ms.mem ∧
        (if g ≤ u.freeGills 1 then u else u.dropColdReplica).ms.mram = u.ms.mram := fun u => by
      split
      · exact ⟨rfl, rfl⟩
      · simp only [State.dropColdReplica]
        split
        · exact ⟨by rw [State.count_ms], by rw [State.count_ms]⟩
        · exact ⟨rfl, rfl⟩
    exact ⟨(ih _).1.trans (step s).1, (ih _).2.trans (step s).2⟩

theorem State.addPage_keeps (s : State) (part : PartId) (va : Nat) (peck keep : Bool) : s.Keeps (s.addPage part va peck keep) := by
  unfold State.addPage
  extract_lets g s1 tier r c page
  have h : s.Keeps s1 := s.makeRoom_keeps _
  split
  · refine h.trans ((State.takeFrame_keeps s1 tier.toNat g).trans (State.Keeps.after (State.keeps_of_ms c.1 _ rfl rfl) ?_))
    show r.1.Keeps c.1
    unfold c
    split
    · exact State.takeFrame_keeps _ _ _
    · exact State.keeps_refl _
  · exact h

theorem State.addPages_memOk {s : State} (p : PartId) (va : Nat) (peck keep : Bool) (n : Nat) (h : s.memOk) :
    (s.addPages p va peck keep n).memOk :=
  State.zeroRange_memOk p va _ (State.memOk_foldl _ (fun u _ hu => (u.addPage_keeps _ _ _ _).memOk hu) _ h)

theorem State.voidStores_keeps (s : State) (part : PartId) (va n : Nat) : s.Keeps (s.voidStores part va n) := by
  constructor <;> first | rfl | exact id

theorem State.freeFrames_keeps (s : State) (p : Page) : s.Keeps (s.freeFrames p) := by
  simp only [State.freeFrames]
  split
  · exact (s.leaveFrame_keeps _ _ _).trans (State.leaveFrame_keeps _ _ _ _)
  · exact s.leaveFrame_keeps _ _ _

theorem State.releasePage_memOk {s : State} (q : Page) (h : s.memOk) : (s.releasePage q).memOk := by
  have h1 := ((s.askDiscard_keeps (memKey q.part q.va)).trans (State.voidStores_keeps _ q.part q.va q.size)).memOk h
  have h2 := State.memOk_of_ms h1 { ((s.askDiscard (memKey q.part q.va)).voidStores q.part q.va q.size).ms with
    pages := ((s.askDiscard (memKey q.part q.va)).voidStores q.part q.va q.size).ms.pages.filter fun x =>
      !(x.part = q.part && x.va = q.va) } h1.1 h1.2.1
  refine State.zeroRange_memOk _ _ _ ?_
  split
  · exact State.memOk_of_ms h2 _ h2.1 h2.2.1
  · exact (State.freeFrames_keeps _ q).memOk h2

theorem State.setKeep_memOk {s : State} (q : Page) (h : s.memOk) : (s.setKeep q).memOk := by
  unfold State.setKeep
  extract_lets a r s1
  have hr : s.Keeps r.1 := by
    unfold r
    split
    · exact s.keeps_refl
    · exact (s.carryFlaws_keeps q false).trans (State.takeFrame_keeps _ _ _)
  have h1 := (hr.trans (State.mapPage_keeps _ q fun x => { x with keep := true, ceCopy := r.2 })).memOk h
  exact State.memOk_of_ms h1 _ h1.1 (memWf_writeCells _ (memWf_memZero _ _ h1.2.1))

theorem State.clearKeep_memOk {s : State} (q : Page) (h : s.memOk) : (s.clearKeep q).memOk := by
  unfold State.clearKeep
  extract_lets a s1 s2
  have h1 : s.Keeps s1 := s.mapPage_keeps q _
  have h2 : s1.Keeps s2 := by
    unfold s2
    split
    · exact s1.keeps_refl
    · exact s1.leaveFrame_keeps _ _ _
  have h3 := (h1.trans h2).memOk h
  exact State.memOk_of_ms h3 _ h3.1 (memWf_memZero _ _ h3.2.1)

theorem State.loadCopy_memOk {s : State} (q : Page) (h : s.memOk) : (s.loadCopy q).memOk :=
  State.memOk_of_ms h _ (memWf_writeCells _ (memWf_memZero _ _ h.1)) h.2.1

theorem State.returnKept_memOk {s : State} (p : PartId) (h : s.memOk) : (s.returnKept p).memOk :=
  State.memOk_foldl _ (fun _ q hu => State.loadCopy_memOk q hu) _ (State.memOk_of_ms h _ h.1 h.2.1)

theorem State.flushKeep_memOk {s : State} (h : s.memOk) : s.flushKeep.memOk :=
  State.memOk_of_ms h _ h.1 (memWf_putLines _ _ h.2.1)

theorem State.stowKept_memOk {s : State} (p : PartId) (h : s.memOk) : (s.stowKept p).memOk := by
  unfold State.stowKept
  extract_lets here s1 mine
  have h1 : s1.memOk := State.memOk_foldl _ (fun u q hu => (u.reframe_keeps q 2 false).memOk hu) _ (State.flushKeep_memOk h)
  refine State.memOk_foldl _ (fun u q hu => ?_) _ (State.memOk_of_ms h1 _ h1.1 h1.2.1)
  exact State.memOk_of_ms hu _ (memWf_memZero _ _ hu.1) hu.2.1

theorem State.releaseKept_memOk {s : State} (p : PartId) (h : s.memOk) : (s.releaseKept p).memOk := by
  unfold State.releaseKept
  split
  · exact h
  · refine State.memOk_foldl _ (fun u q hu => ?_) _ (State.memOk_of_ms h _ h.1 h.2.1)
    exact State.memOk_of_ms hu _ hu.1 (memWf_memZero _ _ hu.2.1)

theorem State.ensureGill_memOk {s : State} (va : Nat) (h : s.memOk) : (s.ensureGill va).memOk := by
  unfold State.ensureGill
  split
  · exact (s.addPage_keeps _ _ _ _).memOk h
  · split
    · split
      · exact State.clearKeep_memOk _ h
      · exact h
    · exact (State.addPage_keeps _ _ _ _ _).memOk (State.releasePage_memOk _ h)

theorem State.placeImage_memOk {s : State} (h : s.memOk) : s.placeImage.memOk := by
  have h1 : ∀ l : List Nat, ((l.foldl (fun u i => u.ensureGill (imageLoad s.svc.image + 0x1000 * i)) s)).memOk :=
    fun l => State.memOk_foldl _ (fun _ i hu => State.ensureGill_memOk _ hu) l h
  have h2 := h1 (List.range ((imageLength s.svc.image + 0xFFF) / 0x1000))
  exact State.memOk_of_ms h2 _ (memWf_memPutBytes _ _ (memWf_memZero _ _ h2.1)) h2.2.1

theorem State.putLine_memOk {s : State} (k : Nat) (bs : List Byte) (h : s.memOk) : (s.putLine k bs).memOk :=
  ⟨h.1, h.2.1, h.2.2.1, h.2.2.2.1, memWf_memPutBytes _ _ h.2.2.2.2.1, h.2.2.2.2.2⟩

theorem State.freeSlot_memWf (s : State) : memWf s.freeSlot = true := memWf_memPutBytes _ _ rfl

/-- The oldest entry of a store queue, where it need not wait, is stored, and the drain goes on (R319, R326). -/
theorem drainList_stores {part : PartId} {e : StoreEntry} {s : State} (n : Nat) {held : List StoreEntry}
    (h1 : held.any (fun d => d.meets e) = false) (h2 : s.storeBlocked part e = false) (es : List StoreEntry) :
    drainList part (n + 1) held (e :: es) s =
      drainList part n held es (s.storeBytes part e.va (natToBytes e.value.toNat e.bytes)) := by
  simp [drainList, h1, h2]

/-- An image's verification depends on its bytes, the fused key and the confirmed image number alone (R492). -/
theorem State.imageVerifies_congr {s u : State} (b : List Byte) (h1 : u.svc.fuse = s.svc.fuse)
    (h2 : u.svc.confirmed = s.svc.confirmed) : u.imageVerifies b = s.imageVerifies b := by
  simp only [State.imageVerifies, State.imageVerifiesBy, h1, h2]

end Sys2Proof.Machine
end

