-- ==== Sys2Proof/Tests/Slice0.lean ====
section
/-! SUPPORT. The model's own tests: ill-formed commands, one step of the commands on small states, with the hypotheses of the
statements met there. Expected values are worked out by hand from the rules named. -/

namespace Sys2Proof.Tests

open Sys2Proof.Machine

set_option Elab.async false

/-! Fixtures. -/

/-- A task of partition `p` RUNNING on context `c` at 0x10000. -/
def job (p : PartId) (c : Nat) : Task :=
  { Task.fresh p 0x10000 0 with st := .running c, lastCtx := some c }

/-- A gill of partition `p` at `va` in DRAM. -/
def gill (p : PartId) (va : Nat) : Page :=
  { part := p, va := va, peck := false, keep := false, tier := 1, heat := 0, coldAt := 0, ce := [],
    ceCopy := [], evicted := false }

/-- Grants of a small tenant. -/
def grants1 : Grants :=
  { chq := 8, taskq := 8, eng := 1000, can := 100, memq := 64, keepq := 8, nearq := 1, ctx := 4, time := 400,
    dram := 10, pkt := 10, cnt := 0xFFFF }

/-- QUIET, with a P0 task 0 on context 32 and a tenant task 1 of partition 1 on context 0; each has a gill at 0x10000. -/
def base : State :=
  { State.reset with
    clk := { ed := 11520000, origin := 0, fab := 65536000000, opt := 65536000000 }
    cpu := { State.reset.cpu with
      tasks := [(0, job 0 32), (1, job 1 0)], coreUp := 0xFF, wrun := true, bound := [(0, 1), (1, 1), (2, 1), (3, 1)],
      windowEnd := 100000000 }
    parts := State.reset.parts.set 1
      { Part.initial with life := .active, gen := 3, grants := grants1, effEng := 1000, effCan := 100, effCtx := 4, effTime := 400,
                          credit := 1000000000 }
    ms := { State.reset.ms with pages := [gill 0 0x10000, gill 1 0x10000] }
    syn := { State.reset.syn with mainLk := true }
    pwr := { State.reset.pwr with mode := .quiet, good := true, feedA := true, feedB := true } }

/-- `exec` of `c` in `s` answers a next state that satisfies `p`. -/
def runs (c : Instr) (s : State) (p : State → Bool) : Bool :=
  match exec c s with
  | .next u => p u
  | .fault _ => false
  | .refused _ => false

/-- Register `r` of task `t`. -/
def reg (u : State) (t : Nat) (r : Reg) : Word :=
  match u.task? t with
  | some k => k.get r
  | none => 0

/-- The program counter of task `t`. -/
def pcOf (u : State) (t : Nat) : Word :=
  match u.task? t with
  | some k => k.pc
  | none => 0

/-- The state of task `t`; DONE with 0xDEAD where the index is free. -/
def stOf (u : State) (t : Nat) : TaskState :=
  match u.task? t with
  | some k => k.st
  | none => .done 0xDEAD

/-- `s` with task `t` changed by `f`. -/
def onTask (s : State) (t : Nat) (f : Task → Task) : State :=
  match s.task? t with
  | some k => s.setTask t (f k)
  | none => s

/-- Task `t` of `s` with g2 = `a` and g3 = `b`. -/
def withRegs (s : State) (t : Nat) (a b : Word) : State := onTask s t fun k => (k.put 2 a).put 3 b

/-- Task 1, with g2 = `a` and g3 = `b`, has `v` in g1 after the instruction and goes on at pc + 4. -/
def gives1 (c : Instr) (a b v : Word) : Bool :=
  runs c (withRegs base 1 a b) fun u => decide (reg u 1 1 = v) && decide (pcOf u 1 = 0x10004)

/-- The same for task 0 of P0 in the state `s`. -/
def gives0 (s : State) (c : Instr) (a b v : Word) : Bool :=
  runs c (withRegs s 0 a b) fun u => decide (reg u 0 1 = v) && decide (pcOf u 0 = 0x10004)

/-- Task `t` goes on at pc + 4. -/
def onward (u : State) (t : Nat) : Bool := decide (pcOf u t = 0x10004)

/-! Ill-formed commands (one for each check). -/

/-- A lane whose slot, phase and first position are given. -/
def laneAt (slot phase pos : Nat) : Lane :=
  { slot := slot, node := 0, chan := 0, uplink := true, p := 1, phase := phase, pos := [pos], returned := false, profile := 3, ta0 := 0,
    join := 0 }

/-- A request for a lane toward the link directions `dirs`. -/
def laneAsk (dirs : List Nat) (path ceil : Nat) : LaneRequest :=
  { node := 1, slot := 3, anchorNode := 2, anchorSlot := 4, uplink := true, profile := 3, dirs := dirs, path := path, join := 0,
    ceil := ceil, ldel := 0, ta0 := 0, leave := false, kept := [] }

/-- Every check of `Instr.wf` refuses a term. -/
theorem test_wf_refuses :
    [ Instr.controlSampleBoundary 0 { level := 0, input := 0, satWords := 2, words := 1 },
      .controlSampleBoundary 0 { level := 0, input := 0, satWords := 0, words := 0 },
      .fbcUpdateStep 0 { ratio16 := 0, ratio256 := 0, srr := 0, grad := List.replicate 49 (0, 0) },
      .oscWindowEnd 0 1281,
      .laneMapRequestRx (laneAsk [1, 1] 0 0),
      .laneMapChange 0 true 0 (List.replicate 97 (laneAt 0 0 10)), .laneMapChange 0 true 0 [laneAt 96 0 10],
      .laneMapChange 0 true 0 [laneAt 0 1 10], .laneMapChange 0 true 0 [laneAt 0 0 9], .laneMapChange 0 true 0 [laneAt 0 0 112],
      .acceptRx 0 { count := 2049, epoch := 0, ids := 0, dups := 0, crcOk := true },
      .cellRx 0 0 { payload := [], part := 0, mbox := 0 },
      .homeRequestRx ⟨{ node := 1, part := 0, pgen := 0, op := 0, ref := 0, bytes := 3, data := 0, cmp := 0, tag := 0, gen := 0,
                        deadline := 0 }, 0⟩,
      .homeRequestRx ⟨{ node := 1, part := 0, pgen := 0, op := 0, ref := 2, bytes := 4, data := 0, cmp := 0, tag := 0, gen := 0,
                        deadline := 0 }, 0⟩,
      .tapFrameRx { len := 0, fcsOk := true, dst := 0, src := 0, tagged := false, vid := 0, pcp := 0, etype := 0, payload := [0] },
      .engineRoundBoundary ⟨[], [{ slot := 0, acc := [(140737488355328, 0)], old := [] }]⟩, .compositeLimitScale 0 ⟨0, [(8388608, 0)]⟩,
      .epochAnnounceRx 0 { epoch := 0, head := 0, count := 1, members := 2, dups := 2, crcOk := true },
      .aprCommandEnd [{ line := 0, err := 0, bytes := [] }],
      .pageMigrate 0 0 3,
      .replicaRequest 0 0 ⟨[], []⟩, .replicaRequest 0 0 ⟨List.replicate 4096 0, [128]⟩,
      .engineRoundBoundary ⟨[], [{ slot := 0, acc := [], old := [(0, -140737488355329)] }]⟩,
      .patrolScrub 0 1 ⟨.working, 2⟩ ].all (fun i => !i.wf) = true := by
  decide +kernel

/-- A well-formed command of each of those rows is let through. -/
theorem test_wf_admits :
    [ Instr.controlSampleBoundary 0 { level := 0, input := 0, satWords := 1, words := 1 }, .oscWindowEnd 0 1280,
      .patrolScrub 0 0 ⟨.working, 2⟩, .pageMigrate 0 0 2, .acceptRx 0 { count := 2048, epoch := 0, ids := 0, dups := 0, crcOk := true },
      .homeRequestRx ⟨{ node := 1, part := 0, pgen := 0, op := 0, ref := 4, bytes := 4, data := 0, cmp := 0, tag := 0, gen := 0,
                        deadline := 0 }, 0⟩,
      .engineRoundBoundary ⟨[], [{ slot := 0, acc := [(140737488355327, -140737488355328)], old := [(0, 0)] }]⟩,
      .compositeLimitScale 0 ⟨0, [(8388607, -8388608)]⟩, .laneMapRequestRx (laneAsk [1, 2] 0 0),
      .laneMapChange 0 true 0 [laneAt 95 0 10, laneAt 0 0 111] ].all (fun i => i.wf) = true := by
  decide +kernel

/-! The queue (log 1, log 5, log 6). -/

/-- The command at the front runs, and the rest of the queue stays. -/
theorem test_step_runs_front :
    (match step { base with pending := [.wakeEdge, .heatDecay] } with
      | .next u => decide (u.pending = [.heatDecay]) && u.pwr.wake
      | _ => false) = true := by
  decide +kernel

/-- `base` with no task. -/
def idle : State := { base with cpu := { base.cpu with tasks := [] } }

/-- An empty queue is one tick; before a round boundary only the boundary's own command moves time; in OFF nothing does. -/
theorem test_idle_ticks :
    (match step idle with | .next u => decide (u.clk.ed = 11520001) | _ => false) = true ∧
    (match step { idle with clk := { base.clk with ed := 1151 } } with | .next u => decide (u.clk.ed = 1151) | _ => false)
      = true ∧
    (match step { idle with clk := { base.clk with ed := 1151, origin := 5 } } with | .next u => decide (u.clk.ed = 1152) | _ => false)
      = true ∧
    (match step { State.reset with pwr := { State.reset.pwr with mode := .off } } with
      | .next u => decide (u.clk.ed = 0) | _ => false) = true := by
  decide +kernel

/-- Words of formats A, A with a shift field, I, B, J, S and C, written out by hand: op, gd, ga, gb, fn. A nonzero field that must be
zero, and the all-zero word, spell nothing (R305 to R308); the word is put at the front of the queue. -/
theorem test_words :
    ([ (0b000001_00111_01000_01001_000000_00011, some (Instr.subs 0 7 8 9)), (0b000001_00111_01000_01001_000001_00011, none),
       (0b000001_00011_00100_00000_101000_11001, some (.slli 0 3 4 40)),
       (0b000100_00011_00100_1111111111111000, some (.addi 0 3 4 0xFFF8)),
       (0b110001_00001_00010_1111111111111111, some (.bne 0 1 2 0xFFFF)), (0, none),
       (0b111111_00000000000000000000000000, none) ] : List (Nat × Option Instr)).all (fun x => decide (decodeTableWord 32 x.1 = x.2)) = true ∧
    decodeTableWord 32 0x04E84803 = some (.subs 0 7 8 9) ∧ (State.reset.withFetchWord 32 0x1064FFF8).pending = [.addi 0 3 4 0xFFF8] ∧
      (State.reset.withFetchWord 32 0).pending = [] := by
  decide +kernel

/-- `base` with the word `w` where the tasks stand. -/
def withWord (w : Nat) : State :=
  { base with ms := { base.ms with mem := memPutBytes (memKey 1 0x10000) (natToBytes w 4) [] } }

/-- A task at a reserved word, the all-zero word among them, executes it; at a word that spells an instruction it waits for its
commands (R307, log 6). -/
theorem test_reserved_words :
    (withWord 1).atReserved 1 = true ∧ (withWord 1).nextInstr 1 = none ∧ base.atReserved 1 = true ∧
      (base.runReserved 1).free ≠ base.free ∧ (withWord 0x04E84803).runReserved 1 = withWord 0x04E84803 ∧
      ((withWord 1).runReserved 1).free ≠ base.free ∧ base.fetchOk 1 (job 1 0).pc = true := by
  decide +kernel

/-! Register, shift and immediate instructions (R309 to R312). -/

/-- Both tasks of `base` run and may go on: the hypotheses of the instruction statements. -/
theorem witness_running_tasks :
    (base.runs 1 (job 1 0) 0 ∧ base.nextOk (job 1 0)) ∧ (base.runs 0 (job 0 32) 32 ∧ base.nextOk (job 0 32)) ∧
      1 ∉ base.cpu.ready ∧ (0 : Nat) < 36 := by
  simp only [State.runs, State.nextOk, State.fetchClean]
  decide +kernel

theorem test_register_arithmetic :
    [ (Instr.addR 1 1 2 3, 0xFFFFFFFFFFFFFFFF, 2, 1), (.subR 1 1 2 3, 0, 1, 0xFFFFFFFFFFFFFFFF),
      (.adds 1 1 2 3, 0x7FFFFFFFFFFFFFFF, 1, 0x7FFFFFFFFFFFFFFF), (.subs 1 1 2 3, 0x8000000000000000, 1, 0x8000000000000000),
      (.addus 1 1 2 3, 0xFFFFFFFFFFFFFFFF, 1, 0xFFFFFFFFFFFFFFFF), (.subus 1 1 2 3, 0, 1, 0),
      (.mulR 1 1 2 3, 0x8000000000000001, 2, 2), (.mulh 1 1 2 3, 0xFFFFFFFFFFFFFFFF, 1, 0xFFFFFFFFFFFFFFFF),
      (.mulhu 1 1 2 3, 0xFFFFFFFFFFFFFFFF, 2, 1), (.divS 1 1 2 3, 0xFFFFFFFFFFFFFFF9, 2, 0xFFFFFFFFFFFFFFFD),
      (.divS 1 1 2 3, 0x8000000000000000, 0xFFFFFFFFFFFFFFFF, 0x8000000000000000), (.divS 1 1 2 3, 5, 0, 0xFFFFFFFFFFFFFFFF),
      (.divu 1 1 2 3, 0xFFFFFFFFFFFFFFFF, 2, 0x7FFFFFFFFFFFFFFF), (.divu 1 1 2 3, 5, 0, 0xFFFFFFFFFFFFFFFF),
      (.remS 1 1 2 3, 0xFFFFFFFFFFFFFFF9, 2, 0xFFFFFFFFFFFFFFFF), (.remS 1 1 2 3, 0x8000000000000000, 0xFFFFFFFFFFFFFFFF, 0),
      (.remu 1 1 2 3, 7, 0, 7), (.remu 1 1 2 3, 0xFFFFFFFFFFFFFFFF, 16, 15) ].all
      (fun x => gives1 x.1 x.2.1 x.2.2.1 x.2.2.2) = true := by
  decide +kernel

theorem test_register_logic :
    [ (Instr.minS 1 1 2 3, 0xFFFFFFFFFFFFFFFF, 1, 0xFFFFFFFFFFFFFFFF), (.maxS 1 1 2 3, 0xFFFFFFFFFFFFFFFF, 1, 1),
      (.andR 1 1 2 3, 12, 10, 8), (.orR 1 1 2 3, 12, 10, 14), (.xorR 1 1 2 3, 12, 10, 6), (.andn 1 1 2 3, 12, 10, 4),
      (.slt 1 1 2 3, 0xFFFFFFFFFFFFFFFF, 0, 1), (.sltu 1 1 2 3, 0xFFFFFFFFFFFFFFFF, 0, 0), (.sll 1 1 2 3, 1, 65, 2),
      (.srl 1 1 2 3, 0x8000000000000000, 63, 1), (.sra 1 1 2 3, 0x8000000000000000, 63, 0xFFFFFFFFFFFFFFFF),
      (.slli 1 1 2 40, 3, 0, 0x30000000000), (.srli 1 1 2 4, 0xF000000000000000, 0, 0x0F00000000000000),
      (.srai 1 1 2 4, 0xF000000000000000, 0, 0xFF00000000000000) ].all
      (fun x => gives1 x.1 x.2.1 x.2.2.1 x.2.2.2) = true := by
  decide +kernel

theorem test_word_forms :
    [ (Instr.addW 1 1 2 3, 0x7FFFFFFF, 1, 0xFFFFFFFF80000000), (.subW 1 1 2 3, 0, 1, 0xFFFFFFFFFFFFFFFF),
      (.addsW 1 1 2 3, 0x7FFFFFFF, 1, 0x7FFFFFFF), (.subsW 1 1 2 3, 0x80000000, 1, 0xFFFFFFFF80000000),
      (.addusW 1 1 2 3, 0xFFFFFFFF, 1, 0xFFFFFFFFFFFFFFFF), (.subusW 1 1 2 3, 1, 2, 0),
      (.mulW 1 1 2 3, 0x10000, 0x8000, 0xFFFFFFFF80000000), (.divW 1 1 2 3, 0xFFFFFFF9, 2, 0xFFFFFFFFFFFFFFFD),
      (.divuW 1 1 2 3, 5, 0, 0xFFFFFFFFFFFFFFFF), (.remW 1 1 2 3, 0x1FFFFFFF9, 0, 0xFFFFFFFFFFFFFFF9),
      (.remuW 1 1 2 3, 7, 4, 3), (.sllW 1 1 2 3, 1, 63, 0xFFFFFFFF80000000), (.srlW 1 1 2 3, 0xF00000000, 4, 0),
      (.sraW 1 1 2 3, 0x80000000, 31, 0xFFFFFFFFFFFFFFFF), (.slliW 1 1 2 31, 1, 0, 0xFFFFFFFF80000000),
      (.srliW 1 1 2 31, 0x80000000, 0, 1), (.sraiW 1 1 2 4, 0x80000000, 0, 0xFFFFFFFFF8000000) ].all
      (fun x => gives1 x.1 x.2.1 x.2.2.1 x.2.2.2) = true := by
  decide +kernel

/-- The constant of R312's example and the other immediate forms. -/
theorem test_immediates :
    [ (Instr.lui 1 1 0x9ABC, 0, 0, 0xFFFFFFFF9ABC0000), (.ori 1 1 2 0xDEF0, 0xFFFFFFFF9ABC0000, 0, 0xFFFFFFFF9ABCDEF0),
      (.ihw2 1 1 2 0x5678, 0xFFFFFFFF9ABCDEF0, 0, 0xFFFF56789ABCDEF0),
      (.ihw3 1 1 2 0x1234, 0xFFFF56789ABCDEF0, 0, 0x123456789ABCDEF0), (.addi 1 1 2 0xFFF8, 5, 0, 0xFFFFFFFFFFFFFFFD),
      (.andi 1 1 2 0xFFFF, 0xFFFFFFFFFFFFFFFF, 0, 0xFFFF), (.xori 1 1 2 0xFFFF, 1, 0, 0xFFFE),
      (.slti 1 1 2 0xFFFF, 0xFFFFFFFFFFFFFFFE, 0, 1), (.sltiu 1 1 2 0xFFFF, 5, 0, 1),
      (.addiW 1 1 2 1, 0x7FFFFFFF, 0, 0xFFFFFFFF80000000) ].all (fun x => gives1 x.1 x.2.1 x.2.2.1 x.2.2.2) = true := by
  decide +kernel

/-- A write to g0 is discarded (R286), and a completed instruction counts (R526): issue cycle 0, tenant 1, context 16. -/
theorem test_g0_and_counters :
    runs (.addi 1 0 0 7) base (fun u => decide (reg u 1 0 = 0) && onward u 1
      && decide (tblGet 0 0 u.obs.counters = 1) && decide (tblGet 0 1 u.obs.counters = 1)
      && decide (tblGet 0 16 u.obs.counters = 1) && decide (tblGet 0 2 u.obs.counters = 0)) = true := by
  decide +kernel

/-! Branches and jumps (R313 to R315). -/

theorem test_branches :
    [ (Instr.beq 1 2 3 4, 5, 5, 0x10010), (.bne 1 2 3 4, 5, 5, 0x10004), (.blt 1 2 3 4, 0xFFFFFFFFFFFFFFFF, 0, 0x10010),
      (.bge 1 2 3 4, 0xFFFFFFFFFFFFFFFF, 0, 0x10004), (.bltu 1 2 3 4, 0xFFFFFFFFFFFFFFFF, 0, 0x10004),
      (.bgeu 1 2 3 4, 0xFFFFFFFFFFFFFFFF, 0, 0x10010), (.j 1 4, 0, 0, 0x10010), (.jalr 1 31 2 0xFFFF, 0x10010, 0, 0x1000C) ].all
      (fun x => runs x.1 (withRegs base 1 x.2.1 x.2.2.1) fun u => decide (pcOf u 1 = (x.2.2.2 : Word))) = true ∧
    runs (.jal 1 4) base (fun u => decide (reg u 1 31 = 0x10004) && decide (pcOf u 1 = 0x10010)) = true ∧
    base.fetchOk 1 0x10010 = true ∧ base.fetchOk 1 0x1000C = true := by
  decide +kernel

/-- Task 1 with a handler at 0x10100. -/
def handler : State := onTask base 1 fun k => { k with evec := 0x10100 }

/-- A jump beyond the partition's pages raises FETCH (R315): handler, cause 1, and kind 0x08 counted; a second one while ACTIVE
ends the task (R297, R352). -/
theorem test_fetch_exception :
    (handler.allocatedRange 1 0x11000 4 = false ∧ handler.fetchOk 1 0x10100 = true) ∧
    runs (.j 1 0x400) handler (fun u => match u.task? 1 with
      | some k => decide (k.pc = 0x10100 ∧ k.cause = 1 ∧ k.excPc = 0x11000 ∧ k.excAddr = 0x11000 ∧ k.active = true)
          && decide (u.parts[(1 : PartId)].viol = 1 ∧ u.parts[(1 : PartId)].lastK = 8)
      | none => false) = true ∧
    runs (.j 1 0x400) (onTask handler 1 fun k => { k with active := true })
      (fun u => decide (stOf u 1 = .done 0xFFFFFFFFFFFFFF01)) = true := by
  decide +kernel


/-! Local memory (R316 to R319, R326). -/

/-- Key of the gill of partition 1. -/
def key1 : Nat := memKey 1 0x10000

/-- `base` with the bytes 0x80, 0xFF, 0x01 at 0x10100 of partition 1, 0x7F at 0x10FFF, and a poisoned block at 0x10200. -/
def stored : State :=
  { base with ms := { base.ms with
      mem := [(key1 + 0x100, 0x80), (key1 + 0x101, 0xFF), (key1 + 0x103, 0x81), (key1 + 0x107, 0x01), (key1 + 0xFFF, 0x7F)]
      poison := [(key1 + 0x200) / 32] } }

/-- Task 1, with g2 = `a` and g3 = `b` in the state `s`, has `v` in g1 and goes on. -/
def gives (s : State) (c : Instr) (a b v : Word) : Bool :=
  runs c (withRegs s 1 a b) fun u => decide (reg u 1 1 = v) && onward u 1

/-- Every width, and the last byte of the page. -/
theorem test_local_loads :
    [ (Instr.ldB 1 1 2 0x100, 0x10000, 0xFFFFFFFFFFFFFF80), (.ldBu 1 1 2 0x100, 0x10000, 0x80),
      (.ldH 1 1 2 0xFFFF, 0x10101, 0xFFFFFFFFFFFFFF80), (.ldHu 1 1 2 0x100, 0x10000, 0xFF80),
      (.ldW 1 1 2 0x100, 0x10000, 0xFFFFFFFF8100FF80), (.ldWu 1 1 2 0x100, 0x10000, 0x8100FF80),
      (.ldD 1 1 2 0x100, 0x10000, 0x010000008100FF80), (.ldBu 1 1 2 0xFFF, 0x10000, 0x7F) ].all
      (fun x => gives stored x.1 x.2.1 0 x.2.2) = true ∧
    memWf stored.ms.mem = true ∧
    stored.localOk 1 (localEA ((job 1 0).put 2 0x10000) 2 0xFFF) 1 = true ∧ stored.poisoned (memKey 1 0x10FFF) 1 = false ∧
    stored.poisoned (memKey 1 0x10100) 8 = false := by
  decide +kernel

/-- A store enters the queue; memory keeps its bytes, the task's own loads see it, and fence.l stores it. -/
theorem test_local_store_and_fence :
    runs (.stH 1 3 2 0x101) (withRegs stored 1 0x10000 0xA1B2)
      (fun u => decide (u.ms.mem = stored.ms.mem) && onward u 1
        && runs (.ldWu 1 1 2 0x100) u (fun w => decide (reg w 1 1 = 0x81A1B280))
        && runs (.fenceL 1) u (fun w => decide (memBytes w.ms.mem (key1 + 0x100) 4 = [0x80, 0xB2, 0xA1, 0x81])
             && memWf w.ms.mem && decide (memRead (key1 + 0xFFF) w.ms.mem = 0x7F))) = true ∧
    (∀ e ∈ [StoreEntry.mk 0x10101 2 0xA1B2], ∀ p ∈ (stored.pageAt 1 e.va).toList,
      p.keep = false ∧ tblFind (memKey 1 p.va) stored.ms.directory = none) := by
  decide +kernel

theorem test_store_widths :
    [ (Instr.stB 1 3 2 0x300, 0x88), (.stH 1 3 2 0x300, 0x7788), (.stW 1 3 2 0x300, 0x55667788),
      (.stD 1 3 2 0x300, 0x1122334455667788) ].all
      (fun x => runs x.1 (withRegs stored 1 0x10000 0x1122334455667788) fun u =>
        runs (.ldD 1 1 2 0x300) u fun w => decide (reg w 1 1 = x.2)) = true := by
  decide +kernel

/-- Beyond the page: kind 0x01, zero, nothing stored (R298, R318); the last address inside is no violation. -/
theorem test_local_violation :
    runs (.ldH 1 1 2 0xFFF) (withRegs stored 1 0x10000 0)
      (fun u => decide (reg u 1 1 = 0) && onward u 1 && decide (u.parts[(1 : PartId)].viol = 1 ∧ u.parts[(1 : PartId)].lastK = 1)) = true ∧
    runs (.stH 1 3 2 0xFFF) (withRegs stored 1 0x10000 5)
      (fun u => onward u 1 && decide (u.parts[(1 : PartId)].viol = 1) && decide ((u.task? 1).map (·.sq) = some [])) = true ∧
    stored.localOk 1 (localEA ((job 1 0).put 2 0x10000) 2 0xFFF) 2 = false := by
  decide +kernel

/-- A poisoned block raises ECC: at the handler with ACTIVE, or the end of the task with NEST where ACTIVE was 1 (R297,
R352, R381). -/
theorem test_poisoned_load :
    (stored.poisoned (memKey 1 0x1021F) 1 = true ∧ stored.poisoned (memKey 1 0x10220) 8 = false ∧ 1 ∉ stored.cpu.ready ∧
      ∀ x ∈ stored.cpu.tasks, ∀ w ∈ [x.2.st], w = .running 32 ∨ w = .running 0) ∧
    runs (.ldB 1 1 2 0x21F) (onTask (withRegs stored 1 0x10000 0) 1 fun k => { k with evec := 0x10100 })
      (fun u => match u.task? 1 with
        | some k => decide (k.pc = 0x10100 ∧ k.cause = 2 ∧ k.excPc = 0x10000 ∧ k.excAddr = 0x1021F ∧ k.active = true)
        | none => false) = true ∧
    runs (.ldB 1 1 2 0x21F) (onTask (withRegs stored 1 0x10000 0) 1 fun k => { k with evec := 0x10100, active := true })
      (fun u => match u.task? 1 with
        | some k => decide (k.st = .done 0xFFFFFFFFFFFFFF02 ∧ k.nest = true)
        | none => false) = true ∧
    runs (.ldB 1 1 2 0x21F) (withRegs stored 1 0x10000 0)
      (fun u => decide (stOf u 1 = .done 0xFFFFFFFFFFFFFF02)) = true := by
  decide +kernel

/-! Global memory (R320 to R327). -/

/-- The reference of address `va` of partition 1 at the task's own node (NODE 2,046). -/
def refHere (va : Nat) : Word := BitVec.ofNat 64 (va + 2 ^ 48 + 2046 * 2 ^ 51)

/-- The reference of address `va` of partition 1 at node 7. -/
def refAway (va : Nat) : Word := BitVec.ofNat 64 (va + 2 ^ 48 + 7 * 2 ^ 51)

theorem test_global_loads_here :
    [ (Instr.gldB 1 1 2 0, 0xFFFFFFFFFFFFFF80), (.gldBu 1 1 2 0, 0x80), (.gldH 1 1 2 0, 0xFFFFFFFFFFFFFF80),
      (.gldHu 1 1 2 0, 0xFF80), (.gldW 1 1 2 0, 0xFFFFFFFF8100FF80), (.gldWu 1 1 2 0, 0x8100FF80),
      (.gldD 1 1 2 0, 0x010000008100FF80) ].all
      (fun x => gives stored x.1 (refHere 0x10100) 0 x.2) = true ∧
    gives stored (.gldBu 1 1 2 0xFFFF) (refHere 0x11000) 0 0x7F = true := by
  decide +kernel

/-- The hypotheses of an access served at home. -/
theorem witness_global_here :
    let ref := refAdd (refHere 0x10100) 0
    refPart ref = 1 ∧ refVa ref = 0x10100 ∧ stored.isHere (refNode ref) = true ∧ stored.freeTag.isSome = true ∧
      stored.allocatedRange 1 0x10100 8 = true ∧ stored.poisoned (memKey 1 0x10100) 8 = false ∧
      (∀ p ∈ (stored.pageAt 1 0x10100).toList, p.keep = false ∧ tblFind (memKey 1 p.va) stored.ms.directory = none) ∧
      stored.ms.homeWait = [] := by
  decide +kernel

theorem test_global_stores_here :
    [ (Instr.gstB 1 3 2 8, 0x88), (.gstH 1 3 2 8, 0x7788), (.gstW 1 3 2 8, 0x55667788),
      (.gstD 1 3 2 8, 0x1122334455667788) ].all
      (fun x => runs x.1 (withRegs stored 1 (refHere 0x10100) 0x1122334455667788) fun u =>
        decide (bytesToNat (memBytes u.ms.mem (key1 + 0x108) 8) = x.2) && onward u 1
          && decide (bytesToNat (memBytes u.ms.mem (key1 + 0x100) 8) = 0x010000008100FF80)) = true := by
  decide +kernel

/-- The old value returns, and the new one is stored. -/
theorem test_atomics_here :
    [ (Instr.aaddW 1 1 2 3, 1, 0, 0xFFFFFFFF8100FF80, 0x8100FF81), (.aaddD 1 1 2 3, 1, 0, 0x010000008100FF80, 0x010000008100FF81),
      (.aswapW 1 1 2 3, 5, 0, 0xFFFFFFFF8100FF80, 5), (.aswapD 1 1 2 3, 5, 0, 0x010000008100FF80, 5),
      (.acasW 1 1 2 3, 9, 0x8100FF80, 0xFFFFFFFF8100FF80, 9), (.acasD 1 1 2 3, 9, 0x8100FF80, 0x010000008100FF80, 0x010000008100FF80) ].all
      (fun x => runs x.1 (onTask (withRegs stored 1 (refHere 0x10100) x.2.1) 1 fun k => k.put 1 x.2.2.1) fun u =>
        decide (reg u 1 1 = (x.2.2.2.1 : Word)) && onward u 1
          && decide (bytesToNat (memBytes u.ms.mem (key1 + 0x100) (if x.2.2.2.2 < 2 ^ 32 then 4 else 8)) = x.2.2.2.2)) = true := by
  decide +kernel

/-- `stored` with fabric address 3, node 7 in the epoch, and CL0 up. -/
def joined : State :=
  { stored with
    fab := { stored.fab with addr := some 3, members := 0x88 }
    links := stored.links.set 0 { Link.initial with st := .up } }

/-- An access to node 7: the request is queued, a load waits for its response, a store goes on (R214, R322). -/
theorem test_global_away :
    (joined.isHere 7 = false ∧ joined.reachable 7 = true ∧ joined.replicaOf (refAway 0x10000) = none ∧
      joined.freeTag = some 0 ∧ joined.openPorts = [0]) ∧
    runs (.gldW 1 1 2 0) (withRegs joined 1 (refAway 0x10000) 0) (fun u =>
      decide (stOf u 1 = .waiting (.tag 0 1 4 true)) && match u.fab.out with
        | [p] => decide (p.dst = 7 ∧ p.pri = 5 ∧ p.typ = 0 ∧ p.link = 0) && match p.body with
          | .request q => decide (q.op = 0 ∧ q.bytes = 4 ∧ q.ref = refAway 0x10000 ∧ q.deadline = 2000000 ∧ q.tag = 0)
          | _ => false
        | _ => false) = true ∧
    runs (.gstD 1 3 2 8) (withRegs joined 1 (refAway 0x10000) 9) (fun u => onward u 1 && decide (u.fab.out.length = 1)) = true ∧
    runs (.aaddW 1 1 2 3) (withRegs joined 1 (refAway 0x10000) 9) (fun u =>
      decide (stOf u 1 = .waiting (.tag 0 1 4 true))) = true ∧
    runs (.gldB 1 1 2 0) (withRegs joined 1 (BitVec.ofNat 64 (2 ^ 48 + 9 * 2 ^ 51)) 0) (fun u =>
      decide (stOf u 1 = .done 0xFFFFFFFFFFFFFF03)) = true := by
  decide +kernel

/-- A tenant's access to another partition is a violation of kind 0x01 (R299, R321). -/
theorem test_global_violation :
    [Instr.gldB 1 1 2 0, .gstB 1 3 2 0, .aaddW 1 1 2 3].all (fun c =>
      runs c (withRegs stored 1 (BitVec.ofNat 64 (0x10000 + 2046 * 2 ^ 51)) 1) fun u =>
        onward u 1 && decide (u.parts[(1 : PartId)].viol = 1 ∧ u.parts[(1 : PartId)].lastK = 1)) = true := by
  decide +kernel

/-! Fences and the end of a task (R322, R326 to R328, R352, R353). -/

theorem test_fences_yield_time_exit :
    (stored.outstanding 1 = false ∧ (job 1 0).gerr = none) ∧
    [Instr.fenceL 1, .fenceG 1, .fenceI 1, .yieldT 1].all (fun c => runs c stored fun u => onward u 1) = true ∧
    gives stored (.timeT 1 1) 0 0 1000000 = true ∧
    runs (.yieldT 1) stored (fun u => decide (stOf u 1 = .running 0)) = true ∧
    runs (.exitT 1 2) (withRegs stored 1 77 0) (fun u => decide (stOf u 1 = .done 77)) = true := by
  decide +kernel

/-- A failed posted store is raised at fence.g (R295, R322). -/
theorem test_store_error_at_fence :
    runs (.fenceG 1) (onTask stored 1 fun k =>
        { k with evec := 0x10100, gerr := some { seq := 0, cause := 3, addr := 0x77, more := 0 } })
      (fun u => match u.task? 1 with
        | some k => decide (k.pc = 0x10100 ∧ k.cause = 3 ∧ k.excPc = 0x10000 ∧ k.excAddr = 0x77 ∧ k.gerr = none)
        | none => false) = true := by
  decide +kernel

/-! System words (R287 to R291, R330, R331). -/

/-- sysr at the boundary values of the words, and a handler's return. -/
theorem test_system_words :
    [ (0x000, 0x07FE00010100), (0x001, 0), (0x004, 0x10100), (0x010, 0) ].all
      (fun x => gives handler (.sysr 1 1 2) (BitVec.ofNat 64 x.1) 0 (BitVec.ofNat 64 x.2)) = true ∧
    runs (.sysw 1 3 2) (withRegs base 1 0x004 0x10103) (fun u => decide ((u.task? 1).map (·.evec) = some 0x10100) && onward u 1) = true ∧
    runs (.sysw 1 3 2) (withRegs base 1 0x002 0x1237) (fun u => decide ((u.task? 1).map (·.excPc) = some 0x1237)) = true ∧
    runs (.excRet 1) (onTask handler 1 fun k => { k with active := true, excPc := 0x10023 })
      (fun u => match u.task? 1 with
        | some k => decide (k.active = false ∧ k.pc = 0x10020)
        | none => false) = true ∧
    handler.fetchOk 1 (0x10023#64 &&& ~~~3#64) = true := by
  decide +kernel

/-- The Warden's words: SW.FAB_TTO is held between 100 and 100,000 µs; a tenant's write is a violation of kind 0x02. -/
theorem test_warden_words :
    [(5, 100), (100, 100), (100000, 100000), (100001, 100000)].all (fun x =>
      runs (.sysw 0 3 2) (withRegs base 0 0x1A1 (BitVec.ofNat 64 x.1)) fun u => decide (u.fab.tto = x.2) && onward u 0) = true ∧
    runs (.sysw 0 3 2) (withRegs base 0 0x1D1 99) (fun u => decide (u.pwr.tmr = 99)) = true ∧
    runs (.sysw 1 3 2) (withRegs base 1 0x1D1 99)
      (fun u => decide (u.pwr.tmr = 0 ∧ u.parts[(1 : PartId)].lastK = 2 ∧ u.parts[(1 : PartId)].viol = 1) && onward u 1) = true ∧
    runs (.sysr 1 1 2) (withRegs base 1 0x1D1 99) (fun u => decide (reg u 1 1 = 0 ∧ u.parts[(1 : PartId)].lastK = 2)) = true ∧
    wardenWord 0x1D1 = true ∧ tenantWord 0x1D1 = false ∧ wardenWord 0x1A1 = true := by
  decide +kernel

/-! Channels (R81 to R113, R335 to R345). -/

/-- A downlink 200 kHz channel at 983.04 MHz from RF0 to RF1. -/
def settings1 : Settings :=
  { Settings.default with
    filt := { profile := 3, centre := 2 ^ 33, rxSide := 0, txSide := 1, ul := false, align := false }
    gain := { Settings.default.gain with gmax := 600, ltgt := some 100 } }

/-- A committed LIVE channel of partition 1 in slot 0, generation 2. -/
def slot1 : Slot :=
  { Slot.initial with
    phase := .owned, committed := true, gen := 2, owner := 1, set := settings1, zero := false
    glc := { Glc.initial with applied := some 0, csN := 1, csGated := false, gPerm := 64000 } }

/-- The entitlement that covers it. -/
def ent1 : Ent :=
  { port := 1, ul := false, duty := 50, prof := 0x3FFF, flo := 980000, fhi := 986000, gmax := 900, pmax := 300 }

/-- RELAY with that channel and entitlement. -/
def air : State :=
  { base with
    rad := { base.rad with slots := [(0, slot1)] }
    cht := { base.cht with force := some false, ents := [ent1] }
    ports := (base.ports.set 0 { Port.initial with st := .rx, killed := false, lock := true, rxv := true }).set 1
      { Port.initial with st := .tx, tx := .on, killed := false, lock := true, rxv := true }
    pwr := { base.pwr with mode := .relay, rfkill := false } }

/-- Its handle. -/
def handle1 : Word := 0x10200

/-- Task 1 runs and holds a valid handle: `State.onChan`. -/
theorem witness_on_channel :
    let s := withRegs air 1 handle1 0
    let k := ((job 1 0).put 2 handle1).put 3 0
    s.onChan 1 k 0 2 0 ∧ s.inWatch = false ∧ s.dozing = false ∧ (s.slot 0).fade = none ∧
      (let r := (s.slot 0).request 1 false
       s.covered r.set = true ∧ s.cfeFits 0 r = true ∧ s.canFits 0 r = true ∧ (s.slot 0).needsLane r = false) := by
  simp only [State.onChan, State.runs, State.nextOk, State.fetchClean]
  decide +kernel

/-- ch.set holds the value between the limits: below, at and above them. -/
theorem test_ch_set_limits :
    [ (0x06, 15, 16), (0x06, 16, 16), (0x06, 65536, 65536), (0x06, 65537, 65536), (0x2D, 9, 10), (0x2D, 60001, 60000),
      (0x10, 951, 950), (0x32, 3932161, 3932160) ].all (fun (x : BitVec 6 × Word × Int) =>
      runs (.chSet 1 1 2 3 x.1) (withRegs air 1 handle1 x.2.1) fun u =>
        decide (reg u 1 1 = 1 ∧ (u.slot 0).pend = some { task := 1, vals := [(x.1.toNat, x.2.2)] } ∧
          (u.slot 0).set = settings1) && onward u 1) = true := by
  decide +kernel

theorem test_ch_get_and_meas :
    [ (Instr.chGet 1 1 2 3 0x3F, 3), (.chGet 1 1 2 3 0x00, 3), (.chGet 1 1 2 3 0x01, 0x200000000), (.chGet 1 1 2 3 0x10, 600),
      (.chGet 1 1 2 3 0x2D, 100) ].all (fun x =>
      runs x.1 (withRegs air 1 handle1 0) fun u => decide (reg u 1 1 = 1 ∧ reg u 1 3 = x.2) && onward u 1) = true ∧
    [ (0x00, 3), (0x01, 90), (0xFF, 0xFFFFFFFF80000000) ].all (fun x =>
      runs (.chMeas 1 1 2 3) (withRegs air 1 handle1 (BitVec.ofNat 64 x.1)) fun u =>
        decide (reg u 1 1 = 1 ∧ reg u 1 3 = BitVec.ofNat 64 x.2)) = true := by
  decide +kernel

/-- A handle of an older generation, of another slot or of slot 192 is invalid: kind 0x03. -/
theorem test_invalid_handle :
    [0x10100, 0x10201, 0x102C0].all (fun h =>
      decide (air.chan 1 h = none) &&
      [Instr.chSet 1 1 2 3 0, .chCommitCut 1 1 2, .chCommitFade 1 1 2, .chFree 1 1 2, .chMute 1 1 2, .chUnmute 1 1 2, .chArm 1 1 2,
        .chProbe 1 1 2 0, .chGet 1 1 2 3 0, .chMeas 1 1 2 3].all fun c =>
        runs c (withRegs air 1 h 5) fun u =>
          decide (reg u 1 1 = 0 ∧ u.parts[(1 : PartId)].lastK = 3 ∧ u.parts[(1 : PartId)].viol = 1) && onward u 1) = true := by
  decide +kernel

/-- ch.commit: OK, waiting for the boundary; CHARTER beyond the entitlement's gain; NO_BUDGET beyond the engine grant (at
90 of 90 it fits, at 89 it does not); BUSY_FADE. -/
theorem test_commits :
    [Instr.chCommitCut 1 1 2, .chCommitFade 1 1 2].all (fun c =>
      runs c (withRegs (air.setSlot 0 { slot1 with pend := some { task := 1, vals := [(0x10, 900)] } }) 1 handle1 0) (fun u =>
        decide (reg u 1 1 = 1 ∧ u.rad.roundQ = [.commit 0] ∧ (u.slot 0).set = settings1 ∧ (u.slot 0).pend = none ∧
          (u.slot 0).req.map (·.set.gain.gmax) = some 900) && onward u 1) &&
      runs c (withRegs (air.setSlot 0 { slot1 with pend := some { task := 1, vals := [(0x10, 901)] } }) 1 handle1 0) (fun u =>
        decide (reg u 1 1 = 4 ∧ u.rad.roundQ = [] ∧ (u.slot 0).req = none) && onward u 1) &&
      runs c (withRegs (air.mapPart 1 fun x => { x with effEng := 90, effCan := 15 }) 1 handle1 0) (fun u => decide (reg u 1 1 = 1)) &&
      runs c (withRegs (air.mapPart 1 fun x => { x with effEng := 89, effCan := 15 }) 1 handle1 0) (fun u => decide (reg u 1 1 = 3)) &&
      runs c (withRegs (air.setSlot 0 { slot1 with fade := some { cfe := 0, canc := 0, rate := 1600, fill := 0, place := 0, ended := false } }) 1 handle1 0)
        (fun u => decide (reg u 1 1 = 5 ∧ u.rad.roundQ = []))) = true := by
  decide +kernel

/-- A commit of task 2 that waits for the same boundary is not ordered with task 1's (case 2 of R301); one of task 1 is. -/
theorem witness_unordered :
    (let x := { slot1 with req := some { set := settings1, fade := false, task := 2 }, commits := 1 }
     let s := (air.setSlot 0 x).setKnow 2 { wrote := [], seen := [(512, 1)] }
     s.commitKey 0 = 512 ∧ s.unordered 1 0 = true ∧ s.unordered 2 0 = false ∧ (s.taught 1 [(512, 1)]).unordered 1 0 = false ∧
       air.unordered 1 0 = false) ∧
    (let r : CommitReq := { set := settings1, fade := false, task := 2 }
     r.mix { r with set := Settings.default, task := 1 } 0x1FF = { r with task := 1 }) := by
  decide +kernel

theorem test_canceller_grant :
    runs (.chCommitCut 1 1 2) (withRegs (air.mapPart 1 fun x => { x with effEng := 90, effCan := 14 }) 1 handle1 0)
      (fun u => decide (reg u 1 1 = 3 ∧ u.rad.fNoBud = true ∧ u.rad.noBud = false)) = true := by
  decide +kernel

/-- Slot 0 FENCED, its last fence long past. -/
def fencedAir : State := air.setSlot 0 { slot1 with guard := { slot1.guard with fenced := true, causes := 2 } }

theorem test_mute_unmute_arm :
    runs (.chMute 1 1 2) (withRegs air 1 handle1 0) (fun u => decide (reg u 1 1 = 1 ∧ u.rad.roundQ = [.mute 0])) = true ∧
    runs (.chUnmute 1 1 2) (withRegs air 1 handle1 0) (fun u => decide (reg u 1 1 = 1 ∧ u.rad.roundQ = [.unmute 0])) = true ∧
    runs (.chArm 1 1 2) (withRegs air 1 handle1 0) (fun u => decide (reg u 1 1 = 1 ∧ u.rad.roundQ = [])) = true ∧
    (fencedAir.slot 0).guard.lastFence + 983040 * (fencedAir.slot 0).set.guard.hold ≤ 98304000 ∧
    runs (.chArm 1 1 2) (withRegs { fencedAir with clk := { fencedAir.clk with ed := 98304000 } } 1 handle1 0)
      (fun u => decide (reg u 1 1 = 1 ∧ u.rad.roundQ = [.rearm 0] ∧ (u.slot 0).guard.arm = .tenant)) = true ∧
    runs (.chArm 1 1 2) (withRegs { fencedAir with clk := { fencedAir.clk with ed := 98303999 } } 1 handle1 0)
      (fun u => decide (reg u 1 1 = 1 ∧ u.rad.roundQ = [] ∧ (u.slot 0).guard.arm = .tenant)) = true ∧
    runs (.chArm 1 1 2) (withRegs { fencedAir with obs := { fencedAir.obs with sources := [(0, { times := [], severe := true, window := 0 })] } }
        1 handle1 0)
      (fun u => decide (reg u 1 1 = 6 ∧ (u.slot 0).guard.arm = .none)) = true := by
  decide +kernel

/-- ch.free invalidates the handle at once; the slot is FREE once its output is at zero, and only then. -/
theorem test_free_and_release :
    runs (.chFree 1 1 2) (withRegs air 1 handle1 0) (fun u =>
      decide ((u.slot 0).phase = .freeing ∧ (u.slot 0).gen = 3 ∧ (u.slot 0).zero = false ∧ u.chan 1 handle1 = none) && onward u 1
        && runs (.chFreeRelease 0) u (fun v => decide ((v.slot 0).phase = .freeing))
        && runs (.muteRampComplete 0) u (fun v => decide ((v.slot 0).zero = true)
            && runs (.chFreeRelease 0) v fun w => decide ((w.slot 0).phase = .free ∧ (w.slot 0).gen = 3))) = true := by
  decide +kernel

/-- ch.alloc takes the lowest FREE slot, waits for the boundary, and returns the handle; the quota refuses. -/
theorem test_alloc :
    (air.countSlots (fun x => x.ownedBy 1) < air.share 1 192 (fun p => p.grants.chq) ∧ air.pickSlot 0xFF = some 1 ∧
      air.pickSlot 191 = some 191 ∧ air.pickSlot 192 = none) ∧
    runs (.chAlloc 1 1 2 3) (withRegs air 1 0xFF 0) (fun u =>
      decide (stOf u 1 = .waiting (.alloc 1 3 1) ∧ (u.slot 1).phase = .reserved ∧ (u.slot 1).owner = 1)
        && runs (.chAllocReturn 1) u fun v => decide ((v.slot 1).phase = .owned ∧ reg v 1 1 = 1 ∧ reg v 1 3 = 0x10001 ∧
            pcOf v 1 = 0x10004 ∧ stOf v 1 = .running 0)) = true ∧
    runs (.chAlloc 1 1 2 3) (withRegs (air.mapPart 1 fun x => { x with grants := { x.grants with chq := 1 } }) 1 0xFF 0)
      (fun u => decide (reg u 1 1 = 3)) = true := by
  decide +kernel

theorem test_filter_ends :
    runs (.settlingComplete 0) (air.setSlot 0 { slot1 with settling := true }) (fun u => decide ((u.slot 0).settling = false)) = true ∧
    runs (.fadeEnd 0) (air.setSlot 0 { slot1 with fade := some { cfe := 90, canc := 15, rate := 1600, fill := 0, place := 16, ended := false } })
      (fun u => decide ((u.slot 0).fade = some { cfe := 90, canc := 15, rate := 1600, fill := 0, place := 16, ended := true } ∧ (u.slot 0).cost = 180)) = true ∧
    runs (.muteRampComplete 0) fencedAir (fun u => decide ((u.slot 0).zero = true)) = true := by
  decide +kernel

/-! Ports (R25 to R54, R346 to R348). -/

/-- Task 0 of P0 with g2 = `a`, g3 = 0x10000, and the bytes `bs` in its gill at 0x10000. -/
def withBytes (s : State) (a : Word) (bs : List Byte) : State :=
  { withRegs s 0 a 0x10000 with ms := { s.ms with mem := memPutBytes (memKey 0 0x10000) bs s.ms.mem } }

/-- A port.tune record: LOs in kHz, state, return state, bank, role and booster, KLEAD 4, limit +33 dBm, −45 dBc. -/
def tuneBytes (lo : Nat) (st ret bank role : Byte) : List Byte :=
  natToBytes lo 4 ++ natToBytes lo 4 ++ [st, ret, bank, role, 4, 0] ++ natToBytes 330 2 ++ [0xD3, 0] ++ List.replicate 14 0

/-- `air` without its channel. -/
def quietAir : State := { air with rad := { air.rad with slots := [] } }

/-- LOs below, at and above their limits; a state its bank does not support is STANDBY; the latch clears; RF2 keeps its
record. -/
theorem test_port_tune :
    [(379999, 380000), (380000, 380000), (3800000, 3800000), (3800001, 3800000)].all (fun x =>
      runs (.portTune 0 1 2 3) (withBytes (quietAir.mapPort 3 fun q => { q with bflt := true }) 3 (tuneBytes x.1 2 0 0 0)) fun u =>
        decide (reg u 0 1 = 1 ∧ u.ports[(3 : PortId)].tune.rxlo = x.2 ∧ u.ports[(3 : PortId)].tune.txlo = x.2 ∧
          u.ports[(3 : PortId)].tune.state = .rx ∧ u.ports[(3 : PortId)].bflt = false ∧
          u.ports[(2 : PortId)].tune = Port.initial.tune) && onward u 0) = true ∧
    runs (.portTune 0 1 2 3) (withBytes quietAir 3 (tuneBytes 900000 4 0 0 0))
      (fun u => decide (u.ports[(3 : PortId)].tune.state = .standby)) = true ∧
    (let s := withBytes quietAir 3 (tuneBytes 900000 2 0 0 0)
     s.localOk 0 0x10000 32 = true ∧ s.poisoned (memKey 0 0x10000) 32 = false ∧ s.foreignPort 3 0 = false ∧
       quietAir.ports[(3 : PortId)].st ≠ .probe) := by
  decide +kernel

/-- A port that carries another partition's radiating channel refuses a change with NOT_OWNER (R303). -/
theorem test_foreign_port :
    runs (.portTune 0 1 2 3) (withBytes air 1 (tuneBytes 900000 2 0 0 0))
      (fun u => decide (reg u 0 1 = 6 ∧ u.ports = air.ports)) = true := by
  decide +kernel

/-- A schedule of 1 ms with TDD-DL from 0 and TDD-UL from `x` ns. -/
def schedBytes (x : Nat) : List Byte :=
  natToBytes 1000000 4 ++ natToBytes 0 4 ++ [2] ++ List.replicate 7 0 ++
    natToBytes 0 4 ++ [2, 0, 0, 0] ++ natToBytes x 4 ++ [1, 0, 0, 0]

/-- Duty at the limit of 50 % loads; one ns more is refused with CHARTER. -/
theorem test_port_sched :
    runs (.portSched 0 1 2 3) (withBytes quietAir 1 (schedBytes 500000)) (fun u =>
      decide (reg u 0 1 = 1 ∧ (u.ports[(1 : PortId)].sched).map (·.points.length) = some 2) && onward u 0) = true ∧
    runs (.portSched 0 1 2 3) (withBytes quietAir 1 (schedBytes 500001)) (fun u =>
      decide (reg u 0 1 = 4 ∧ u.ports[(1 : PortId)].sched = none ∧ u.rad.refuse = true) && onward u 0) = true ∧
    quietAir.dutyLimit 1 = some 50 ∧ quietAir.ports[(1 : PortId)].schedRun = false := by
  decide +kernel

theorem test_rfkill :
    runs .rfkillAssert air (fun u => decide (u.pwr.rfkill = true ∧ u.ports[(1 : PortId)].tx = .off ∧ u.ports[(1 : PortId)].killed = true)
      && runs .rfkillRelease u (fun v => decide (v.pwr.rfkill = false ∧ v.pwr.rfHighAt = 11520000)
        && runs .rfkillRestart v (fun w => decide (w.ports[(1 : PortId)].killed = true))
        && runs .rfkillRestart { v with clk := { v.clk with ed := 12503040 } } (fun w => decide (w.ports[(1 : PortId)].killed = false ∧
             w.pwr.rfHigh = false)))) = true := by
  decide +kernel

/-- RF2 with a booster in the state `q`. -/
def boosted (f : Port → Port) : State :=
  air.mapPort 2 fun q => f { q with killed := false, ben := true, enAt := 11520000 - 49152, tune := { q.tune with boost := true } }

/-- The booster pins: 50 µs after EN and one cycle less; 20 µs after KEY and one cycle less; a fault. -/
theorem test_booster :
    runs (.boosterKeyRise 2 false) (boosted fun q => { q with tx := .starting })
      (fun u => decide (u.ports[(2 : PortId)].bkey = true ∧ u.ports[(2 : PortId)].tx = .on)) = true ∧
    runs (.boosterKeyRise 2 true) (boosted fun q => { q with tx := .starting })
      (fun u => decide (u.ports[(2 : PortId)].bkey = false ∧ u.ports[(2 : PortId)].bflt = true)) = true ∧
    runs (.boosterKeyRise 2 false) (boosted fun q => { q with tx := .starting, enAt := q.enAt + 1 })
      (fun u => decide (u.ports[(2 : PortId)].tx = .starting)) = true ∧
    runs (.boosterEnFall 2) (boosted fun q => { q with tx := .stopping, keyAt := 11520000 - 19661 })
      (fun u => decide (u.ports[(2 : PortId)].ben = false ∧ u.ports[(2 : PortId)].tx = .off)) = true ∧
    runs (.boosterEnFall 2) (boosted fun q => { q with tx := .stopping, keyAt := 11520000 - 19660 })
      (fun u => decide (u.ports[(2 : PortId)].ben = true)) = true ∧
    runs (.boosterFault 2) (boosted fun q => { q with tx := .on, bkey := true })
      (fun u => decide (u.ports[(2 : PortId)].bflt = true ∧ u.ports[(2 : PortId)].bkey = false ∧ u.obs.live.getLsbD 0 = true)) = true := by
  decide +kernel

/-- A two-point schedule of RF1. -/
def sched1 : Sched :=
  { period := 1000000, phase := 0,
    points := [{ offset := 0, state := 2, shot := false }, { offset := 400000, state := 1, shot := false }] }

theorem test_port_transitions :
    runs (.portTransitionComplete 0) (quietAir.mapPort 0 fun q => { q with st := .standby, target := some .rx })
      (fun u => decide (u.ports[(0 : PortId)].st = .rx ∧ u.ports[(0 : PortId)].target = none)) = true ∧
    runs (.portTransitionComplete 0)
      (quietAir.mapPort 0 fun q => { q with st := .off, target := some .tx, killed := false, tune := { q.tune with state := .tx } })
      (fun u => decide (u.ports[(0 : PortId)].st = .standby ∧ u.ports[(0 : PortId)].target = some .tx ∧
        u.ports[(0 : PortId)].tx = .starting)) = true ∧
    runs (.bankChangeComplete 0) (quietAir.mapPort 0 fun q =>
        { q with st := .standby, bankAt := some (11520000 - 39322), bankWait := some { q.tune with bank := 3, state := .rx } })
      (fun u => decide (u.ports[(0 : PortId)].tune.bank = 3 ∧ u.ports[(0 : PortId)].bankWait = none)) = true ∧
    runs (.bankChangeComplete 0) (quietAir.mapPort 0 fun q =>
        { q with st := .standby, bankAt := some (11520001 - 39322), bankWait := some { q.tune with bank := 3, state := .rx } })
      (fun u => decide (u.ports[(0 : PortId)].bankWait.isSome = true)) = true ∧
    runs (.tddSwitchPoint ⟨1, false⟩) (quietAir.mapPort 1 fun q =>
        { q with sched := some sched1, schedRun := true, schedIdx := 1, tune := { q.tune with state := .tddDl } })
      (fun u => decide (u.ports[(1 : PortId)].schedIdx = 0 ∧ u.ports[(1 : PortId)].sched = some sched1)) = true := by
  decide +kernel

/-- KEY rises its lead of 2 µs before the interval that transmits, not earlier; the index of fabric time at points, one ns before and
over the period's end. -/
theorem test_key_lead :
    [(998000, false), (997999, false), (998000, true)].map (fun (x : Nat × Bool) =>
       let u := boosted fun q =>
         { q with st := .standby, sched := some sched1, schedRun := true, schedIdx := 1, tune := { q.tune with state := .tddDl, klead := 4 } }
       let v := { u with clk := { u.clk with fab := x.1 * 65536 } }
       (runs (.boosterKeyRise 2 x.2) v (fun w => w.ports[(2 : PortId)].bkey),
         runs (.boosterKeyRise 2 x.2) v (fun w => w.ports[(2 : PortId)].bflt)))
      = [(true, false), (false, false), (false, true)] ∧
    [0, 399999, 400001, 999999, 1000000].map sched1.indexAt = [0, 0, 1, 1, 0] := by
  decide +kernel

/-- A schedule whose points are single-shot ends at one, unless the interval it opened has just begun; a new one runs from its period
start on a TDD bank only. -/
theorem test_schedule_ends :
    (let shot : Sched := { sched1 with points := sched1.points.map fun x => { x with shot := true } }
     let s := fun fresh => quietAir.mapPort 1 fun q =>
       { q with sched := some shot, schedRun := true, schedIdx := 1, schedFresh := fresh, tune := { q.tune with state := .tddDl } }
     runs (.tddSwitchPoint ⟨1, false⟩) (s false) (fun u => decide (u.ports[(1 : PortId)].schedRun = false)) &&
     runs (.tddSwitchPoint ⟨1, false⟩) (s true) (fun u => decide (u.ports[(1 : PortId)].schedRun = true ∧ u.ports[(1 : PortId)].schedIdx = 0)))
      = true ∧
    [(8, false), (9, true), (13, true), (14, false)].all (fun (x : BitVec 4 × Bool) =>
      runs (.tddPeriodStart ⟨1, false⟩)
        (quietAir.mapPort 1 fun q => { q with schedNext := some (some sched1), tune := { q.tune with bank := x.1 } }) fun u =>
        decide (u.ports[(1 : PortId)].sched = some sched1 ∧ u.ports[(1 : PortId)].schedRun = x.2 ∧
          u.ports[(1 : PortId)].schedNext = none)) = true := by
  decide +kernel

/-! Pages (R349, R360 to R368). -/

/-- alloc: two gills at the lowest free address, zero; the quota of 64 gills; QFULL. -/
theorem test_alloc_pages :
    (stored.memqFits 1 63 = true ∧ stored.memqFits 1 64 = false ∧ stored.framesFit 2 1 false = true ∧
      stored.lowestFree 1 0x2000 0x1000 = some 0x11000 ∧ memWf stored.ms.mem = true ∧ stored.ms.homeWait = [] ∧
      ∀ x ∈ stored.cpu.tasks, isFence x.2 = false ∧ x.2.st ≠ .waiting (.retry false) ∧ x.2.st ≠ .waiting (.retry true)) ∧
    runs (.allocP 1 1 2 3) (withRegs stored 1 0x1001 0) (fun u =>
      decide (reg u 1 1 = 1 ∧ reg u 1 3 = 0x11000 ∧ u.ms.pages.length = 4 ∧ u.ms.mem = stored.ms.mem) && onward u 1) = true ∧
    runs (.allocP 1 1 2 3) (withRegs stored 1 0x3F000 0) (fun u => decide (reg u 1 1 = 1 ∧ u.ms.pages.length = 65)) = true ∧
    runs (.allocP 1 1 2 3) (withRegs stored 1 0x3F001 0) (fun u =>
      decide (reg u 1 1 = 3 ∧ u.ms.pages.length = 2 ∧ u.parts[(1 : PartId)].qfull = true) && onward u 1) = true := by
  decide +kernel

/-- `stored` with a second gill of partition 1 at 0x11000 that holds the byte 7. -/
def twoGills : State :=
  { stored with ms := { stored.ms with pages := stored.ms.pages ++ [gill 1 0x11000], mem := stored.ms.mem ++ [(key1 + 0x1000, 7)] } }

/-- free releases the page touched by one byte of it, and its bytes read as zero; the other page stays. -/
theorem test_free_pages :
    (twoGills.rangeAllocated 1 0x11FFF 1 = true ∧ twoGills.rangeAllocated 1 0x11FFF 2 = false ∧
      ∀ q ∈ twoGills.ms.pages, q.touches 1 0x11FFF 1 = true → q.holds 1 0x10004 = false ∧ q.holds 1 0x10007 = false) ∧
    runs (.freeP 1 1 2 3) (withRegs twoGills 1 0x11FFF 0) (fun u =>
      decide (reg u 1 1 = 1 ∧ u.ms.pages.length = 2 ∧ u.allocated 1 0x11000 = false ∧ u.ms.mem = stored.ms.mem) && onward u 1) = true ∧
    runs (.freeP 1 1 2 3) (withRegs twoGills 1 0x11FFF 2)
      (fun u => decide (u.ms.pages.length = 3 ∧ u.parts[(1 : PartId)].lastK = 1) && onward u 1) = true := by
  decide +kernel

theorem test_keep_pages :
    (twoGills.keepqFits 1 1 = true ∧ twoGills.freeGills 2 = 114688) ∧
    runs (.keepP 1 1 2 3) (withRegs twoGills 1 0x11000 1) (fun u =>
      decide (reg u 1 1 = 1 ∧ u.ms.pages.map (·.keep) = [false, false, true] ∧ u.ms.mem = twoGills.ms.mem ∧
        memRead (key1 + 0x1000) u.ms.mram = 7) && onward u 1
        && runs (.keepP 1 1 2 3) (withRegs u 1 0x11000 0x8000000000000001) fun v =>
          decide (v.ms.pages.map (·.keep) = [false, false, false] ∧ v.ms.mram = [] ∧ v.ms.mem = twoGills.ms.mem)) = true := by
  decide +kernel

/-! Counters, modes, tasks, events and messages (R350 to R356). -/

theorem test_counter_and_mode :
    gives { stored with obs := { stored.obs with counters := [(255, 0xFFFFFFFFFFFF)] } } (.cntRd 1 1 2) 255 0 0xFFFFFFFFFFFF = true ∧
    stored.mayCount 1 255 = true ∧
    [(2, none), (3, some Mode.survey), (4, some .isolate), (5, some .relay)].all (fun (x : Word × Option Mode) =>
      runs (.modeReq 0 1 2) (withRegs base 0 x.1 0) fun u => decide (reg u 0 1 = 1 ∧ u.pwr.req = x.2) && onward u 0) = true ∧
    [(1 : Word), 6].all (fun c => runs (.modeReq 0 1 2) (withRegs base 0 c 0) fun u =>
      decide (reg u 0 1 = 6 ∧ u.pwr.req = none) && onward u 0) = true ∧
    runs (.modeReq 1 1 2) (withRegs base 1 5 0) (fun u => decide (u.pwr.req = none ∧ u.parts[(1 : PartId)].lastK = 7)) = true ∧
    runs (.modeReq 0 1 2) (withRegs air 0 2 0) (fun u => decide (u.pwr.req = some .quiet)) = true := by
  decide +kernel

/-- spawn starts a task in the partition, a DONE task is joined and its index freed. -/
theorem test_spawn_and_join :
    (base.freeTask = some 2 ∧ base.tasksOf 1 < base.share 1 512 (fun p => p.grants.taskq) ∧
      base.fetchOk 1 (0x10103#64 &&& ~~~3#64) = true) ∧
    runs (.spawnT 1 1 2 3) (withRegs handler 1 0x10103 99) (fun u =>
      decide (reg u 1 1 = 1 ∧ reg u 1 3 = 0x10002) && onward u 1 && match u.task? 2 with
        | some x => decide (x.part = 1 ∧ x.pc = 0x10100 ∧ x.evec = 0x10100 ∧ x.get 1 = 99 ∧ x.get 2 = 0 ∧ x.st = .running 1)
        | none => false) = true ∧
    (let s := { base with cpu := { base.cpu with tasks := base.cpu.tasks ++ [(2, { job 1 0 with st := .done 42 })] } }
     decide ((s.taskOf 1 0x10002).isSome = true) &&
     runs (.joinT 1 1 2 3) (withRegs s 1 0x10002 0) fun u =>
       decide (reg u 1 1 = 1 ∧ reg u 1 3 = 42 ∧ u.task? 2 = none ∧ tblGet 0 2 u.cpu.gens = 1) && onward u 1) = true := by
  decide +kernel

/-- wait.until: a deadline that has come returns fabric time; one ns more waits, and expires then. -/
theorem test_waits :
    gives base (.waitUntil 1 1 2) 1000000 0 1000000 = true ∧
    runs (.waitUntil 1 1 2) (withRegs base 1 1000001 0) (fun u =>
      decide (stOf u 1 = .waiting (.until 1 1000001)) &&
        runs (.waitDeadlineExpire 1) u (fun v => decide (stOf v 1 = .waiting (.until 1 1000001))) &&
        runs (.waitDeadlineExpire 1) { u with clk := { u.clk with fab := 65536 * 1000001 } } (fun v =>
          decide (reg v 1 1 = 1000001 ∧ stOf v 1 = .running 0 ∧ pcOf v 1 = 0x10004))) = true ∧
    runs (.waitEv 1 1 2 3) (withRegs (base.mapPart 1 fun x => { x with events := 0x300 }) 1 0x100 0) (fun u =>
      decide (reg u 1 1 = 0x100 ∧ u.parts[(1 : PartId)].events = 0x200) && onward u 1) = true ∧
    runs (.waitEv 1 1 2 3) (withRegs base 1 0x100 0) (fun u => decide (stOf u 1 = .waiting (.event 1 0x100 0))) = true ∧
    runs (.waitDeadlineExpire 1) (onTask base 1 fun k => { k with st := .waiting (.event 1 0x100 1000000) }) (fun u =>
      decide (reg u 1 1 = 0 ∧ stOf u 1 = .running 0 ∧ pcOf u 1 = 0x10004)) = true := by
  decide +kernel

/-- A descriptor of mailbox 3 of partition 1 at this node for a body of `n` bytes. -/
def descr (n : Nat) : Word := BitVec.ofNat 64 (3 + 16 + 2046 * 2 ^ 16 + (n - 1) * 2 ^ 32)

/-- send places a message, recv takes it with its length and sender; a full mailbox refuses. -/
theorem test_messages :
    (base.hostBound 1 (msgBox (descr 4)) = false ∧ base.partActive 1 = true ∧ base.box 11 = []) ∧
    runs (.sendM 1 1 2 3) (withRegs stored 1 (descr 4) 0x10100) (fun u =>
      decide (reg u 1 1 = 1 ∧ u.box 11 = [{ body := [0x80, 0xFF, 0, 0x81], srcNode := 2046, srcPart := 1, seen := [], seq := none }] ∧ u.ms.mem = stored.ms.mem)
        && onward u 1
        && runs (.recvM 1 1 2 3) (withRegs u 1 (descr 1) 0x10300) fun v =>
          decide (reg v 1 1 = 1 ∧ reg v 1 3 = 0x17FE0004 ∧ v.box 11 = [] ∧
            memBytes v.ms.mem (key1 + 0x300) 4 = [0x80, 0xFF, 0, 0x81] ∧ memRead (key1 + 0x100) v.ms.mem = 0x80)) = true ∧
    (let full := stored.setBox 11 (List.replicate 16 { body := [1], srcNode := 0, srcPart := 0, seen := [], seq := none })
     runs (.sendM 1 1 2 3) (withRegs full 1 (descr 1) 0x10100) fun u => decide (reg u 1 1 = 2 ∧ (u.box 11).length = 16) && onward u 1)
      = true := by
  decide +kernel

/-- Both tasks of `base` run, so that nobody waits. -/
theorem witness_nobody_waits : base.nobodyWaits := by
  intro x hx
  have h : x = (0, job 0 32) ∨ x = (1, job 1 0) := by simpa [base] using hx
  rcases h with rfl | rfl <;> simp [job]

/-! The round boundary, gain and guard (R82, R103, R110 to R138, R166 to R186). -/

/-- A commit admitted on slot 0 takes effect at the next multiple of 1,152. -/
theorem test_round_boundary :
    runs (.chCommitCut 1 1 2) (withRegs (air.setSlot 0 { slot1 with pend := some { task := 1, vals := [(0x10, 500)] } }) 1 handle1 0)
      (fun u => decide (u.roundsRun = true ∧ u.cpu.heldQ = [] ∧ u.rad.roundQ = [.commit 0] ∧ u.rad.laneAns = [] ∧ (u.slot 0).phase = .owned ∧ u.clk.origin ≤ u.clk.ed) &&
        runs (.engineRoundBoundary ⟨[], []⟩) u fun v =>
          decide (v.clk.ed = 11521152 ∧ (v.slot 0).set.gain.gmax = 500 ∧ (v.slot 0).req = none ∧ v.rad.roundQ = [] ∧
            v.parts[(1 : PartId)].effEng = 1000)) = true := by
  decide +kernel

/-- Rounds are counted from the lock of the main clock; each port's PA bias follows the band at the boundary, and held clocks hold
the filters (R74, R83, R451). -/
theorem test_round_origin_and_bias :
    runs (.engineRoundBoundary ⟨[], []⟩) { air with clk := { air.clk with origin := 11519000 }, ms := { air.ms with band := 3 } }
      (fun u => decide (u.clk.ed = 11519000 + 1152 ∧ u.ports[(2 : PortId)].bias = 3)) = true ∧
    (let s := { air with syn := { air.syn with mainLk := false, mainLost := true } }
     runs (.engineRoundBoundary ⟨[], []⟩) s (fun u => decide (u = s)) &&
     runs (.settlingComplete 0) (s.setSlot 0 { slot1 with settling := true }) (fun u => decide ((u.slot 0).settling = true))) = true := by
  decide +kernel

/-- A swapped table is in force, and no swap is pending. -/
theorem test_table_swap_at_boundary :
    runs (.glcTableSwap 1 6) air (fun u => decide (u.parts[(1 : PartId)].tabs.gPend = 64) &&
      runs (.engineRoundBoundary ⟨[], []⟩) u fun v => decide (v.parts[(1 : PartId)].tabs.gPend = 0)) = true := by
  decide +kernel

/-- `air` at a boundary at which control samples of profile 3 end (M = 4). -/
def sampling : State := { air with clk := { air.clk with ed := 1152 * 10000 } }

theorem test_control_sample :
    ((sampling.slot 0).live = true ∧ sampling.engineHeld = false ∧ sampling.atBoundary = true ∧
      sampling.roundNo % (sampling.slot 0).set.prof.m = 0 ∧ 0 < (sampling.slot 0).glc.csN ∧ sampling.roundNo % 4 = 0) ∧
    runs (.controlSampleBoundary 0 { level := 5000, input := -70000, satWords := 3, words := 1000 }) sampling (fun u =>
      decide ((u.slot 0).glc.lastL = 5000 ∧ (u.slot 0).glc.input = -70000 ∧ (u.slot 0).sats = 3 ∧ u.rad.sat = true ∧
        (u.slot 0).glc.csN = 0)) = true := by
  decide +kernel

/-- A loop channel's model. -/
def withModel (f : Fbc → Fbc) (frz : Bool) : State :=
  air.setSlot 0 { slot1 with fbc := f slot1.fbc, set := { settings1 with canc := { settings1.canc with frz := frz } } }

/-- A freeze of 10 ms makes the model not valid, one cycle less does not; a parity error clears it. -/
theorem test_model_freeze_and_parity :
    (let s := withModel (fun f => { f with valid := true, frozenAt := some (11520000 - 9830400), proof := 300 }) true
     (s.slot 0).hasModel = true ∧ s.modelFrozen (s.slot 0) = true ∧
     runs (.modelFreezeTimeout 0) s (fun u => decide ((u.slot 0).fbc.valid = false ∧ (u.slot 0).fbc.proof = 0 ∧ u.rad.inval = true)) = true) ∧
    runs (.modelFreezeTimeout 0) (withModel (fun f => { f with valid := true, frozenAt := some (11520001 - 9830400) }) true)
      (fun u => decide ((u.slot 0).fbc.valid = true)) = true ∧
    runs (.modelParityError 0) (withModel (fun f => { f with valid := true, taps := [(0, (5, 5))] }) false) (fun u =>
      decide ((u.slot 0).fbc.taps = [] ∧ (u.slot 0).fbc.valid = false ∧ u.rad.inval = true ∧ u.obs.sticky.getLsbD 5 = true ∧
        u.obs.live.getLsbD 5 = false)) = true := by
  decide +kernel

/-- A channel whose output lies at the noise floor: its model adapts. -/
def loudSlot : Slot :=
  { slot1 with
    glc := { slot1.glc with lastL := noiseRx 0 settings1 }
    fbc := { slot1.fbc with valid := true, iso := some 100000, proof := 255 } }

theorem witness_model_adapts :
    loudSlot.hasModel = true ∧ air.modelFrozen loudSlot = false ∧ air.syn.mainLk = true ∧ air.engineHeld = false ∧
      loudSlot.set.rxPort = some 0 ∧ loudSlot.set.txPort = some 1 ∧ loudSlot.glc.applied = some 0 := by
  refine ⟨by decide +kernel, ?_, by decide +kernel, by decide +kernel, by decide +kernel, by decide +kernel, rfl⟩
  have h : loudSlot.belowNoise = false := by
    have r : settings1.rxPort = some 0 := by decide +kernel
    simp [Slot.belowNoise, r, loudSlot, slot1]
  unfold State.modelFrozen
  rw [h]
  decide +kernel

/-- The same with an isolation estimate above the model's coupling, for the refresh. -/
theorem witness_isolation_refresh :
    ∀ gains : Level, ∃ i : Level, let x : Slot := { loudSlot with fbc := { loudSlot.fbc with iso := some i } }
      0 - Config.tapPower (tapSum x.fbc.taps) + gains - 2560 < i ∧ x.fbc.iso = some i ∧
        x.fbc.valid = true ∧ air.modelFrozen x = air.modelFrozen loudSlot :=
  fun gains => ⟨0 - Config.tapPower (tapSum loudSlot.fbc.taps) + gains - 2560 + 1, Int.lt_succ _, rfl, rfl, rfl⟩

/-- The AUTO window, and ISOLATE with the channel's probe. -/
def probeReady : State :=
  { air with
    pwr := { air.pwr with mode := .isolate, calib := 2 }
    ports := air.ports.set 1 { Port.initial with st := .rx, killed := false, lock := true, rxv := true } }

theorem test_probe :
    (probeReady.probeCovered settings1 = true ∧ (probeReady.slot 0).set.txPort = some 1 ∧ (probeReady.slot 0).set.loop = true ∧
      (probeReady.slot 0).fbc.bursts = 0 ∧ probeReady.atBoundary = true) ∧
    runs (.chProbe 1 1 2 15) (withRegs { probeReady with cht := { probeReady.cht with force := none } } 1 handle1 0) (fun u =>
      decide (reg u 1 1 = 4 ∧ u.rad.refuse = true ∧ u.ports[(1 : PortId)].probeQ = [])) = true ∧
    runs (.chProbe 1 1 2 15) (withRegs probeReady 1 handle1 0) (fun u =>
      decide (reg u 1 1 = 1 ∧ u.ports[(1 : PortId)].probeQ = List.replicate 16 0 ∧ (u.slot 0).fbc.bursts = 16 ∧
        (u.slot 0).fbc.pcode = 4) && onward u 1 &&
      decide (u.ports[(1 : PortId)].probeWaits = false ∧ u.ports[(1 : PortId)].noProbe = false ∧ u.ports[(1 : PortId)].tx = .off ∧
        u.ports[(1 : PortId)].ben = false ∧ u.eitherPort (u.slot 0).set Port.probeWaits = false ∧
        u.eitherPort (u.slot 0).set Port.noProbe = false ∧ u.pwr.rfkill = false ∧ u.pwr.mode = .isolate) &&
      runs (.probeBurstStart 1) u fun v =>
        decide (v.ports[(1 : PortId)].st = .probe ∧ v.ports[(1 : PortId)].probing = some 0 ∧
          v.ports[(1 : PortId)].probeQ = List.replicate 15 0 ∧ (v.slot 0).fbc.sent = some settings1) &&
        runs (.probeBurstEnd 1) { v with clk := { v.clk with ed := v.ports[(1 : PortId)].rampAt + 1966079 } } (fun w =>
          decide (w.ports[(1 : PortId)].probing = some 0)) &&
        runs (.probeBurstEnd 1) { v with clk := { v.clk with ed := v.ports[(1 : PortId)].rampAt + 1966080 } } fun w =>
          decide (w.ports[(1 : PortId)].probing = none ∧ w.ports[(1 : PortId)].st = .standby ∧ (w.slot 0).fbc.bursts = 15)) = true ∧
    (let x := probeReady.mapSlot 0 fun x => { x with fbc := { x.fbc with pcode := 4, bursts := 0, asked := 1, sent := some settings1, band := none } }
     (x.slot 0).probeHolds && runs (.probeResult 0 { peak := 25600, rxPower := 0, airDelay := 1000, noise := 0 }) x fun u =>
       decide ((u.slot 0).fbc.pcode = 1 ∧ (u.slot 0).fbc.airDelay = 1000 ∧ (u.slot 0).fbc.band = some settings1.span)) = true ∧
    (let x := probeReady.mapSlot 0 fun x => { x with fbc := { x.fbc with pcode := 4, bursts := 0, asked := 1, band := none } }
     runs (.probeResult 0 { peak := 25599, rxPower := 0, airDelay := 1000, noise := 0 }) x fun u =>
       decide ((u.slot 0).fbc.pcode = 2 ∧ (u.slot 0).fbc.band = none)) = true := by
  decide +kernel

/-- OSC at its thresholds: 0.70 fences, below it trims from 0.40. -/
theorem test_osc :
    (air.detectorSkips (air.slot 0) = false ∧ (air.slot 0).radiating = true ∧ (air.slot 0).set.loop = true) ∧
    runs (.oscWindowEnd 0 896) air (fun u => decide ((u.slot 0).guard.fenceReq = 2 ∧ u.rad.ngd.getLsbD 0 = true)) = true ∧
    runs (.oscWindowEnd 0 895) air (fun u => decide ((u.slot 0).guard.fenceReq = 0 ∧ (u.slot 0).guard.tOsc = 1)) = true ∧
    runs (.oscWindowEnd 0 512) air (fun u => decide ((u.slot 0).guard.tOsc = 1)) = true ∧
    runs (.oscWindowEnd 0 511) air (fun u => decide ((u.slot 0).guard.tOsc = 0 ∧ (u.slot 0).guard.rho = 511)) = true := by
  decide +kernel

/-- An uplink channel with one NRISE hit meets the hypotheses of a trim for every noise above its threshold. -/
theorem witness_nrise :
    let x := { slot1 with set := { settings1 with filt := { settings1.filt with ul := true } }
                          guard := { slot1.guard with nriseHits := 1 } }
    let s := air.setSlot 0 x
    (s.slot 0).set.rxPort = some 0 ∧ (s.slot 0).glc.applied = some 0 ∧ (s.slot 0).radiating = true ∧
      (s.slot 0).set.filt.ul = true ∧ s.detectorSkips (s.slot 0) = false ∧ (s.slot 0).mutes.nrise = false ∧
      1 ≤ (s.slot 0).guard.nriseHits ∧ (s.slot 0).guard.trimSteps < 10 := by
  decide +kernel

/-- There is a noise above the threshold, an input below the donor floor, and one 3 dB above it. -/
theorem witness_noise_levels :
    (∃ noise : Level, noiseRx 0 settings1 + 0 + 128 * settings1.guard.nrth < noise) ∧
      (∃ i : Level, i < slot1.donorFloor) ∧ ∃ i : Level, slot1.donorFloor + 3840 ≤ i :=
  ⟨⟨_, Int.lt_succ _⟩, ⟨slot1.donorFloor - 1, Int.sub_one_lt_of_le le_rfl⟩, ⟨_, le_rfl⟩⟩

/-- The other hypotheses of DLOSS and of the end of its mute. -/
theorem witness_dloss :
    ((air.slot 0).radiating = true ∧ (air.slot 0).set.rxPort.isSome = true ∧ (air.slot 0).set.filt.ul = false ∧
      air.detectorSkips (air.slot 0) = false) ∧
    (let s := air.setSlot 0 { slot1 with mutes := { Mutes.none with dloss := true } }
     (s.slot 0).live = true ∧ (s.slot 0).mutes.dloss = true ∧ s.detectorSkips (s.slot 0) = false) := by
  decide +kernel

/-- TREL later one step of 3 dB is released, one cycle less none; ACLR at a share of 12 dB fences. -/
theorem test_trim_release_and_aclr :
    runs (.trimRelease 0) { air.setSlot 0 { slot1 with guard := { slot1.guard with tOsc := 2, lastTrim := 1 } } with
        clk := { air.clk with ed := 983040001 } } (fun u => decide ((u.slot 0).guard.tOsc = 1)) = true ∧
    runs (.trimRelease 0) { air.setSlot 0 { slot1 with guard := { slot1.guard with tOsc := 2, lastTrim := 1 } } with
        clk := { air.clk with ed := 983040000 } } (fun u => decide ((u.slot 0).guard.tOsc = 2)) = true ∧
    (let s := (air.setSlot 0 { slot1 with guard := { slot1.guard with tAclr := 4 } }).mapPort 1 fun q => { q with aclrHits := 1 }
     decide (s.ports[(1 : PortId)].disturbed = false ∧ s.ports[(1 : PortId)].rxv = true ∧ s.detectorSkips (s.slot 0) = false ∧
       (s.slot 0).radiating = true ∧ s.rad.slots = [(0, s.slot 0)]) &&
     runs (.aclrMeasure 1 (-57599)) s (fun u => decide ((u.slot 0).guard.fenceReq = 8 ∧ (u.slot 0).guard.aclrPort = some 1 ∧ u.rad.ngd.getLsbD 4 = true)) &&
     runs (.aclrMeasure 1 (-57600)) s (fun u => decide ((u.slot 0).guard.fenceReq = 0 ∧ u.ports[(1 : PortId)].aclrHits = 0))) = true := by
  decide +kernel

/-- A held re-arm, SW.NGD_SARM, and the end of SILENCED's hold-off and count. -/
theorem test_rearm_and_silenced :
    (let s := { air.setSlot 0 { slot1 with guard := { slot1.guard with fenced := true, causes := 2, tOsc := 4, arm := .tenant } } with
        clk := { air.clk with ed := 98304000 } }
     decide (s.holdPassed 0 = true ∧ s.armPasses 0 = true ∧ s.inWatch = false ∧ (s.slot 0).code = 7) &&
     runs (.heldRearmEffect 0) s (fun u => decide ((u.slot 0).guard.fenced = false ∧ (u.slot 0).guard.causes = 0 ∧
       (u.slot 0).guard.trimSteps = 0 ∧ (u.slot 0).guard.arm = .none))) = true ∧
    runs (.ngdSarmGo 0 0) { fencedAir with obs := { fencedAir.obs with sources := [(0, { times := [5], severe := true, window := 0 })] } } (fun u =>
      decide ((u.source 0).severe = false ∧ (u.source 0).times = []) && onward u 0) = true ∧
    runs .silencedHoldoffEnd { air with cht := { air.cht with heldMode := some .quiet, holdEnd := 11520000 },
                                        pwr := { air.pwr with mode := .silenced } }
      (fun u => decide (u.pwr.mode = .quiet ∧ u.cht.heldMode = none ∧ air.cpu.wrun = true ∧ air.cpu.coreUp ≠ 0)) = true ∧
    runs .silencedHoldoffEnd { air with cht := { air.cht with heldMode := some .quiet, holdEnd := 11520001 },
                                        pwr := { air.pwr with mode := .silenced } }
      (fun u => decide (u.pwr.mode = .silenced)) = true ∧
    runs .silencedCountExpire { air with cht := { air.cht with silEntries := [100, 99] },
                                         clk := { air.clk with opt := 65536000000 * 86400099 } }
      (fun u => decide (u.cht.silEntries = [100])) = true := by
  decide +kernel

/-- The Gauntlet at 0.5 dB over the entitlement and one unit more; a duty of 51 % and one ns more. -/
theorem test_gauntlet :
    (let s := air.setSlot 0 { slot1 with guard := { slot1.guard with cover := some 0 } }
     runs (.gntPowerCheck 0 39040 true) s (fun u => decide (u = s)) &&
     runs (.gntPowerCheck 0 39041 true) s (fun u => decide (u.rad.clamp = true ∧ (u.slot 0).guard.fenceReq = 16))) = true ∧
    (let s := air.mapPort 1 fun q => { q with sched := some sched1, schedRun := true }
     decide (s.dutyLimit 1 = some 50 ∧ s.radiatingOn 1 = [0]) &&
     runs (.gntDutyCheck 1 510000 true) s (fun u => decide (u = s)) &&
     runs (.gntDutyCheck 1 510001 true) s (fun u => decide (u.rad.clamp = true ∧ (u.slot 0).guard.fenceReq = 64))) = true := by
  decide +kernel

/-! Synthesisers (R57 to R79, R112). -/

theorem test_synthesisers :
    runs (.portSynthLocked 0) (air.mapPort 0 fun q => { q with retune := some .locking, lock := false })
      (fun u => decide (u.ports[(0 : PortId)].lock = true) && runs (.portRetuneComplete ⟨0, -80000, -90000⟩) u fun v =>
        decide (v.ports[(0 : PortId)].retune = none ∧ v.ports[(0 : PortId)].rxv = true)) = true ∧
    runs (.portSynthUnlock 1) air (fun u => decide (u.ports[(1 : PortId)].tx = .off ∧ u.ports[(1 : PortId)].blank = true ∧
      u.syn.unlk = true)) = true ∧
    runs .mainSynthUnlock air (fun u => decide (u.syn.mainLk = false ∧ u.roundsRun = false ∧ u.ports[(1 : PortId)].tx = .off) &&
      runs .mainSynthRelock u fun v => decide (v.syn.mainLk = true ∧ v.rad.refill = true ∧ (v.slot 0).settling = true ∧ u.syn.mainLost = true)) = true ∧
    (let still := { air with
       ports := Vector.replicate 4 { Port.initial with st := .rx, lock := true }, tsu := { air.tsu with srcPresent := true } }
     decide (still.anyTx = false ∧ air.anyTx = true) &&
     [(-1200001, -1200000), (1200000, 1200000), (1200001, 1200000)].all (fun x =>
       runs (.synCorrectionApply x.1 x.1) still fun u => decide (u.syn.steer = x.2 ∧ u.syn.ref = 1))) = true ∧
    runs (.synCorrectionApply 600 500) { air with
        tsu := { air.tsu with srcPresent := true }, syn := { air.syn with target := 500, slewAt := 11520001 - 8 * 983040 } }
      (fun u => decide (u.syn.steer = 7 ∧ u.syn.target = 600)) = true ∧
    (let s := fun t => { air with
       clk := { air.clk with ed := 9830400000 + 5 }, tsu := { air.tsu with srcPresent := true }
       syn := { air.syn with ref := 1, inSince := some t } }
     runs .refSyntonised (s 5) (fun u => decide (u.syn.ref = 2)) && runs .refSyntonised (s 6) (fun u => decide (u.syn.ref = 1))) = true ∧
    runs (.coreFreqChange 3) { air with syn := { air.syn with coreF := 0, coreByp := false, coreLk := true } } (fun u =>
      decide (u.syn.coreF = 2 ∧ u.syn.coreByp = true ∧ u.syn.coreLk = false) &&
        runs .coreSynthLocked u (fun v => decide (v.syn.coreLk = true ∧ v.syn.coreByp = false)) &&
        runs .coreSynthLockFail u (fun v => decide (v.syn.unlk = true ∧ v.syn.coreByp = true))) = true := by
  decide +kernel

/-! Trunk lanes (R224 to R244). -/

/-- A DL member: from its lane to RF1. -/
def memberSlot : Slot :=
  { slot1 with set := { settings1 with filt := { settings1.filt with rxSide := 4 } }
               trunk := { Trunk.initial with dL := 5000, dReq := 4000, desc := 1, next := some 9, via := some 2 } }

/-- A contributor: from RF0 to its lane, its gate open. -/
def contributorSlot : Slot :=
  { slot1 with set := { settings1 with filt := { settings1.filt with txSide := 4, ul := true } }
               trunk := { Trunk.initial with gateOpen := true, own := [(9, { i := 2, q := 3 })], ownNext := some 10, gates := [(0, 0)] } }

def memberAir : State := air.setSlot 0 memberSlot

def contributorAir : State := air.setSlot 0 contributorSlot

/-- An answer of the head over a path of 262,615 ps: 62,109,375 ps until the antenna, 61,056 ED cycles (R229, R234). -/
def answer1 : LaneAnswer := { granted := true, profile := 3, path := 262615, dL := 61056, ceil := 70000, ta0 := 5, join := 0 }

/-- A commit that waits for the head's answer: granted it is admitted with the delays, else refused with NO_BUDGET; an election
holds the answer. -/
theorem test_lane_answer :
    (let s := onTask (withRegs memberAir 1 handle1 0) 1 fun k => { k with st := .waiting (.commit 1 0 false (11520000 + 983040)) }
     decide (commitWaiter 0 s.cpu.tasks = some (1, 1, false) ∧ s.commitCode 0 ((s.slot 0).request 1 false) = 1 ∧
       s.holdsAnswers 0 = false ∧ s.inWatch = false ∧ s.fab.elect = false ∧ s.answerFor 0 answer1 = answer1 ∧ ((s.slot 0).request 1 false).set.member = true ∧
       s.unordered 1 0 = false) &&
     runs (.commitLaneResult 0 answer1) s (fun u =>
       decide (reg u 1 1 = 1 ∧ stOf u 1 = .running 0 ∧ u.rad.roundQ = [.commit 0] ∧ (u.slot 0).trunk.dReq = 61056 ∧
         (u.slot 0).trunk.dL = 61056 ∧ (u.slot 0).trunk.ceil = 70000)) &&
     runs (.commitLaneResult 0 { answer1 with granted := false }) s (fun u =>
       decide (reg u 1 1 = 3 ∧ u.rad.slots = memberAir.rad.slots)) &&
     runs (.commitLaneResult 0 answer1) { s with fab := { s.fab with elect := true } } (fun u =>
       decide (u.rad.laneAns = [(0, answer1)] ∧ stOf u 1 = stOf s 1))) = true := by
  decide +kernel

/-- A block of type 0 with the sample (1, −1) first; a stamp of sample number 9. -/
def block1 : BitVec 64 := 0x00000000000FFC01

/-- The channel `x` in slot 0, its lane in lane slot 5 from CL0 and in lane slot 7 to CL1, numbered 9 next. -/
def laned (x : Slot) (up : Bool) : State :=
  { air.setSlot 0 x with
    links := (air.links.set 0 { Link.initial with
      st := .up, lanesIn := [{ laneAt 5 0 10 with uplink := up }], copies := [(5, { next := some 9, path := 100, desc := 1 })] }).set 1
        { Link.initial with st := .up, lanesOut := [{ laneAt 7 0 10 with uplink := up }] } }

/-- The last block sent to CL1 by lane slot 7. -/
def sentBlock (u : State) : Option (Nat × BitVec 64) := (u.links[(1 : LinkId)].outOf 7).kept.head?

/-- The hypotheses of the lane statements: a DL member and a contributor at their lane. -/
theorem witness_lanes :
    (let s := laned memberSlot false
     s.laneIn 0 5 = some { laneAt 5 0 10 with uplink := false } ∧ s.members 0 = [0] ∧ s.engineHeld = false ∧
       notBehind 9 (s.links[chainLink 1].outOf 7).next = true ∧ notBehind 9 9 = true ∧ s.rad.laneTimingFree = false ∧
       s.links[chainLink 1].laneTo 0 = some { laneAt 7 0 10 with uplink := false }) ∧
    (let s := laned contributorSlot true
     s.laneIn 0 5 = some (laneAt 5 0 10) ∧ s.branches 0 = [0] ∧ s.onRing 0 = false ∧ s.fab.sums = [] ∧
       s.adders 0 9 = [contributorSlot] ∧ (s.links[chainLink 0].copy 5).desc ≠ 10 ∧
       (s.setSlot 0 { contributorSlot with phase := .free }).adders 0 9 = []) := by
  decide +kernel

/-- A DL member forwards a block bit for bit and takes it, zeros under descriptor 0x2; a stamp numbers it; a block that is behind is
not taken again. -/
theorem test_dl_lanes :
    decodeBlock block1 = [{ i := 1, q := -1 }, { i := 0, q := 0 }, { i := 0, q := 0 }] ∧
    runs (.laneBlockRx 0 5 (block1.extractLsb' 60 4) (block1.setWidth 60)) (laned memberSlot false) (fun u =>
      decide (sentBlock u = some (11520000, block1) ∧ (u.slot 0).trunk.last = decodeBlock block1 ∧ (u.slot 0).trunk.next = some 12 ∧
        (u.slot 0).trunk.via = some 0) && runs (.laneBlockRx 0 5 (block1.extractLsb' 60 4) (block1.setWidth 60)) { u with links := (laned memberSlot false).links } fun v =>
          decide ((v.slot 0).trunk.fifo.length = 3 ∧ (v.slot 0).trunk.next = some 12)) = true ∧
    runs (.laneBlockRx 0 5 (block1.extractLsb' 60 4) (block1.setWidth 60)) (laned { memberSlot with trunk := { memberSlot.trunk with desc := 2 } } false) (fun u =>
      decide ((u.slot 0).trunk.last = List.replicate 3 { i := 0, q := 0 })) = true ∧
    runs (.stampBlockRx ⟨0, 5⟩ 0xE000000007000009 100) (laned memberSlot false) (fun u =>
      decide ((u.slot 0).trunk.stamped = true ∧ (u.slot 0).trunk.snum = 9 ∧ (u.slot 0).trunk.tref = 7 ∧
        sentBlock u = some (11520000, 0xE000000007000009))) = true := by
  decide +kernel

/-- A contributor adds its samples, saturated, to a block; a node without contributors passes it; a returned copy is kept at the node
where it ends until its other half comes. -/
theorem test_ul_lanes :
    runs (.laneBlockRx 0 5 (block1.extractLsb' 60 4) (block1.setWidth 60)) (laned contributorSlot true) (fun u =>
      decide (sentBlock u = some (11520000, 0x803) ∧ u.rad.tSat = false)) = true ∧
    runs (.laneBlockRx 0 5 (block1.extractLsb' 60 4) (block1.setWidth 60))
      (laned { contributorSlot with trunk := { contributorSlot.trunk with own := [(9, { i := 523264, q := 0 })] } } true)
      (fun u => decide (sentBlock u = some (11520000, 0xA0000000000001FF) ∧ u.rad.tSat = true)) = true ∧
    runs (.laneBlockRx 0 5 (block1.extractLsb' 60 4) (block1.setWidth 60)) (laned { contributorSlot with phase := .free } true)
      (fun u => decide (sentBlock u = some (11520000, block1))) = true ∧
    runs (.laneDescriptorChange ⟨0, 5⟩ 10) (laned contributorSlot true) (fun u => runs (.laneBlockRx 0 5 (block1.extractLsb' 60 4) (block1.setWidth 60)) u fun v =>
      decide (sentBlock v = none ∧ (v.home 0).half = [(9, decodeBlock block1)] ∧ (v.home 0).retn = 1)) = true := by
  decide +kernel

/-- A lost or donor-less lane holds its member, which code 0x2 does not release; 1 ms after a stamp a lost one is restored. -/
theorem test_lane_states :
    runs (.laneDescriptorChange ⟨0, 5⟩ 3) (laned memberSlot false) (fun u =>
      decide ((u.slot 0).muteReq.trk = true ∧ (u.slot 0).trunk.desc = 3 ∧ (u.slot 0).trunk.donorLost = true) &&
        runs (.laneDescriptorChange ⟨0, 5⟩ 2) u (fun v => decide ((v.slot 0).trunk.donorLost = true)) &&
        runs (.laneDescriptorChange ⟨0, 5⟩ 1) u (fun v => decide ((v.slot 0).trunk.donorLost = false))) = true ∧
    runs (.laneLost 0) memberAir (fun u => decide ((u.slot 0).trunk.lost = true ∧ (u.slot 0).muteReq.trk = true ∧ u.rad.tLost = true)) = true ∧
    runs (.laneRestore 0) (air.setSlot 0 { memberSlot with
        mutes := { Mutes.none with trk := true }
        trunk := { memberSlot.trunk with lost := true, stamped := true, stampAt := 11520000 - 983040 } })
      (fun u => decide ((u.slot 0).trunk.lost = false ∧ (u.slot 0).mutes.trk = false)) = true ∧
    runs (.laneRestore 0) (air.setSlot 0 { memberSlot with
        trunk := { memberSlot.trunk with lost := true, stamped := true, stampAt := 11520001 - 983040 } })
      (fun u => decide ((u.slot 0).trunk.lost = true)) = true := by
  decide +kernel

/-- The gate: a held contributor's is closed, and the hypotheses of an opening and a closing window can be met. -/
theorem test_gate :
    runs (.gateWindow 0 0) { contributorAir with pwr := { air.pwr with rfkill := true } }
      (fun u => decide ((u.slot 0).trunk.gateOpen = false)) = true ∧
    (contributorAir.gateHeld contributorSlot = false ∧ contributorSlot.live = true ∧ contributorAir.engineHeld = false ∧ contributorSlot.set.rxPort = some 0 ∧ contributorSlot.set.trunk.gate = true ∧
      ({ contributorSlot with trunk := { contributorSlot.trunk with below := 63 } }).set.trunk.ghang ≤ 63 + 1) := by
  decide +kernel

/-! Links and lane maps (R193 to R200, R221, R229, R230). -/

/-- `base` with CL0 in the state `st`. -/
def linked (st : LState) : State := base.mapLink 0 fun x => { x with st := st }

theorem test_links :
    runs (.linkLightDetected 0) base (fun u => decide (u.links[(0 : LinkId)].st = .train) &&
      runs (.linkUp 0) u (fun v => decide (v.links[(0 : LinkId)].st = .up ∧ v.fab.elect = true))) = true ∧
    runs (.linkLightDetected tapLink) base (fun u => decide (u = base)) = true ∧
    runs (.linkUp tapLink) { base with fab := { base.fab with tapEn := true, tapSpeed := true } }
      (fun u => decide (u.links[tapLink].st = .up ∧ u.links[tapLink].speed = true)) = true ∧
    runs (.linkDown 0) (linked .up) (fun u => decide (u.links[(0 : LinkId)].st = .down ∧ u.links[(0 : LinkId)].los = true ∧
      u.fab.split = true ∧ u.fab.elect = true)) = true ∧
    runs (.linkDown 0) (((linked .up).mapLink 0 fun x => { x with ring := true }).mapLink 1 fun x => { x with st := .up, ring := true })
      (fun u => decide (u.fab.split = false)) = true ∧
    runs (.linkDown 0) ((linked .up).mapLink 0 fun x => { x with ring := true }) (fun u => decide (u.fab.split = true)) = true ∧
    runs (.linkLullEnter 0) { linked .up with pwr := { base.pwr with mode := .doze, llen := true } }
      (fun u => decide (u.links[(0 : LinkId)].st = .lull) &&
        runs (.linkLullExit 0) u (fun v => decide (v.links[(0 : LinkId)].st = .up ∧ v.pwr.wakeReq = false ∧ v.pwr.unann = false)) &&
      runs (.linkLullExit 0) { linked .lull with pwr := { base.pwr with mode := .hibernate } } (fun v => decide (v.pwr.unann = true))) = true ∧
    runs (.linkLullEnter 0) { linked .up with pwr := { base.pwr with mode := .quiet, llen := true } }
      (fun u => decide (u.links[(0 : LinkId)].st = .up)) = true ∧
    runs (.linkLullEnter 0) { linked .up with pwr := { base.pwr with mode := .doze, llen := true }, fab := { base.fab with out :=
        [{ dst := 7, src := 3, pri := 5, part := 1, typ := 0, seq := 0, body := .replicaAsk 0, link := 0, span := none }] } }
      (fun u => decide (u.links[(0 : LinkId)].st = .up)) = true ∧
    runs (.laneMapChange 0 true 5 []) (linked .lull) (fun u => decide (u.links[(0 : LinkId)].mapvOut = 5)) = true ∧
    runs (.laneMapChange 0 false 6 []) (linked .up) (fun u => decide (u.links[(0 : LinkId)].mapvIn = 6)) = true := by
  decide +kernel

/-- Bits [55:0] alone decide the CRC, whatever its initial value and bit order (R197). -/
theorem headerCrc_of_high (c : Byte) : headerCrc (BitVec.ofNat 64 (c.toNat * 2 ^ 56)) = headerCrc 0 := by
  have h : ∀ i < 56, (BitVec.ofNat 64 (c.toNat * 2 ^ 56)).getLsbD i = false := fun i hi => by
    simp only [BitVec.getLsbD_ofNat, Nat.testBit_mul_two_pow, Bool.and_eq_false_iff]
    exact .inr (.inl (decide_eq_false (by omega)))
  unfold headerCrc
  split
  · refine List.foldl_ext _ _ _ fun a i hi => ?_
    rw [List.mem_range] at hi
    exact congrArg _ ((h (55 - i) (by omega)).trans BitVec.getLsbD_zero.symm)
  · refine List.foldl_ext _ _ _ fun a i hi => ?_
    rw [List.mem_range] at hi
    exact congrArg _ ((h i hi).trans BitVec.getLsbD_zero.symm)

/-- The second frame in a row without its sync headers takes the link down; the first is flagged. -/
theorem test_missed_frames :
    runs (.frameHeaderRx 0 ⟨0, false⟩) (linked .up) (fun u =>
      decide (u.links[(0 : LinkId)] = { (linked .up).links[(0 : LinkId)] with err := true, miss := 1 }) &&
        runs (.frameHeaderRx 0 ⟨0, false⟩) u fun v => decide (v.links[(0 : LinkId)].st = .down ∧ v.links[(0 : LinkId)].err = true ∧
          v.links[(0 : LinkId)].los = true ∧ v.fab.elect = true)) = true := by
  decide +kernel

/-- A header that a link takes exists, and so does one that it does not. -/
theorem witness_headers :
    (∃ h : BitVec 64, BitVec.ofNat 8 (h.toNat / 2 ^ 56) = headerCrc h) ∧
      (∃ h : BitVec 64, BitVec.ofNat 8 (h.toNat / 2 ^ 56) ≠ headerCrc h) := by
  have h : ∀ c : Byte, BitVec.ofNat 8 ((BitVec.ofNat 64 (c.toNat * 2 ^ 56)).toNat / 2 ^ 56) = c := fun c => by
    apply BitVec.eq_of_toNat_eq
    simp only [BitVec.toNat_ofNat]
    have := c.isLt
    omega
  refine ⟨⟨BitVec.ofNat 64 ((headerCrc 0).toNat * 2 ^ 56), ?_⟩, ⟨BitVec.ofNat 64 ((headerCrc 0 + 1).toNat * 2 ^ 56), ?_⟩⟩
  · rw [h, headerCrc_of_high]
  · rw [h, headerCrc_of_high]
    intro e
    have := congrArg BitVec.toNat e
    simp only [BitVec.toNat_add] at this
    have := (headerCrc 0).isLt
    simp at *

/-- The table of R229. An UL contributor of profile 3 whose path of 263,699 ps ends at 164,736 ED cycles is mapped at that CEIL and not
one below (R239); with every lane slot of a direction taken a lane is refused; a lane that its anchor leaves is taken out. -/
theorem test_lane_map :
    (List.range 14).map (fun i => (laneDivisor (profileOf i).rate, laneCount (profileOf i).rate)) =
      [(256, 1), (256, 1), (128, 1), (32, 1), (4, 1), (2, 1), (1, 1), (1, 2), (1, 3), (1, 4), (1, 7), (1, 9), (1, 14), (1, 14)] ∧
    (let s : State := { base with fab := { base.fab with isHead := true } }
     let full : State := { s with fab := { s.fab with headMap := [(2, (List.range 96).map fun i => { laneAt i 0 10 with pos := [] })] } }
     let anchor := { laneAsk [2] 263699 164736 with node := 2, slot := 4 }
     decide (s.lanesOn 2 = [] ∧ s.dirsOf (requestKey (laneAsk [2] 0 0)) = [] ∧ full.laneSlotFree 2 = none ∧
       (full.laneRec (requestKey anchor)).profile = 15) &&
     runs (.laneMapRequestRx (laneAsk [2] 263699 164735)) s (fun u => decide (u.fab.headMap = [])) &&
     runs (.laneMapRequestRx (laneAsk [2] 263699 164736)) s (fun u => decide ((u.lanesOn 2).map (·.p) = [32])) &&
     runs (.laneMapRequestRx anchor) s (fun u => decide ((u.lanesOn 2).map (·.node) = [2]) &&
       runs (.laneMapRequestRx { anchor with leave := true }) u fun v => decide (v.lanesOn 2 = [])) &&
     runs (.laneMapRequestRx anchor) full (fun u => decide (u.fab.headMap = full.fab.headMap ∧
       (tblFind (laneKey 2 4) u.fab.answers).map (·.granted) = some false))) = true := by
  decide +kernel

/-! Elections (R202 to R206). -/

def prop1 : Proposal := { donor := true, prio := 5, serial := 7 }

/-- `linked .up` in an election whose best proposal is `prop1` from CL0. -/
def electing : State :=
  { linked .up with fab := { base.fab with elect := true, best := some prop1, parent := some 0, bestAt := 11520000 - 983040 } }

def ann1 : EpochAnnounce := { epoch := 9, count := 65, dups := 0, members := 0x18, head := 4, crcOk := true }

theorem test_elections :
    runs .electionStart (linked .up) (fun u => decide (u.fab.elect = true ∧ u.fab.parent = none)) = true ∧
    runs (.fabElect 0 1) base (fun u => decide (u.fab.elect = true) && onward u 0) = true ∧
    runs (.proposalRx 0 { prop1 with prio := 6 }) electing (fun u => decide (u.fab.best = some { prop1 with prio := 6 } ∧ u.fab.parent = some 0)) = true ∧
    runs (.proposalRx 0 { prop1 with serial := 8 }) electing (fun u => decide (u.fab.best = some prop1)) = true ∧
    runs (.parentAnnounceRx 0 true) electing (fun u => decide (u.links[(0 : LinkId)].child = true) &&
      runs (.acceptRx 0 { count := 1, epoch := 3, ids := 2, dups := 0, crcOk := true }) u fun v =>
        decide ((v.links[(0 : LinkId)].accept).map (·.count) = some 1 ∧ v.mergedAccept.count = 2)) = true ∧
    runs .acceptSend electing (fun u => decide (u.fab.accepted = true ∧ u.fab.acceptOut = some electing.mergedAccept)) = true ∧
    electing.settled = true ∧
    runs .headAnnounce { electing with fab := { electing.fab with own := some prop1, epoch := 4 } }
      (fun u => decide ((u.fab.announce).map (·.epoch) = some 5)) = true ∧
    runs (.epochAnnounceRx 0 ann1) electing (fun u => decide (u.fab.announce = some ann1) &&
      runs (.epochTake 1 0) u fun v => decide (v.fab.epoch = 9 ∧ v.fab.headId = 4 ∧ v.fab.nodes = 65 ∧ v.fab.wide = true ∧
        v.fab.elect = false ∧ v.fab.headless = false ∧ v.links[(0 : LinkId)].ring = true)) = true ∧
    runs (.epochAnnounceRx 0 { ann1 with count := 64 }) electing (fun u =>
      runs (.epochTake 0 0) u fun v => decide (v.fab.wide = false)) = true ∧
    (∀ c : ChainId, electing.nextBoundary.links[chainLink c].st ≠ .blocked) ∧
    runs .noProposalTimeout { electing with fab := { electing.fab with proposalAt := 11520000 - 9830400 } }
      (fun u => decide (u.fab.headless = true ∧ u.fab.elect = false)) = true := by
  decide +kernel

/-! Packets and the TAP bridge (R208, R213, R214, R218, R220). -/

/-- A one-cell message of node 7, sequence number `n`, for mailbox 3 of partition 1 at node 3. -/
def cell1 (n : Nat) : Cell :=
  { hdr := BitVec.ofNat 64 (3 + 7 * 2 ^ 11 + 4 * 2 ^ 22 + 2 ^ 25 + 2 * 2 ^ 28 + n * 2 ^ 32 + 3 * 2 ^ 48), payload := [1, 2], part := 1, mbox := 3 }

/-- The first copy is delivered, the second is a duplicate. -/
theorem test_packets :
    (cellDst (cell1 5) = 3 ∧ cellSrc (cell1 5) = 7 ∧ cellType (cell1 5) = 2 ∧ cellFirst (cell1 5) = true ∧ cellLast (cell1 5) = true ∧
      joined.partActive 1 = true) ∧
    runs (.cellRx 0 (cell1 5).hdr ⟨(cell1 5).payload, (cell1 5).part, (cell1 5).mbox⟩) joined (fun u =>
      decide (u.box 11 = [{ body := [1, 2], srcNode := 7, srcPart := 1, seen := [], seq := some 5 }] ∧ u.fab.dup = false) &&
        runs (.cellRx 0 (cell1 5).hdr ⟨(cell1 5).payload, (cell1 5).part, (cell1 5).mbox⟩) u fun v => decide (v.fab.dup = true ∧ (v.box 11).length = 1)) = true := by
  decide +kernel

/-- A load that waits for node 7: its response completes it, a stale one is ignored, its deadline ends it with TIMEOUT. -/
theorem test_responses :
    runs (.gldW 1 1 2 0) (withRegs joined 1 (refAway 0x10000) 0) (fun s =>
      runs (.responseRx ⟨{ tag := 0, gen := 0, deadline := 2000000, data := 0x80000000, err := 0 }, 7, 1⟩) s (fun u =>
        decide (reg u 1 1 = 0xFFFFFFFF80000000 ∧ stOf u 1 = .running 0 ∧ (u.tagAt 0).busy = false)) &&
      runs (.responseRx ⟨{ tag := 0, gen := 1, deadline := 2000000, data := 5, err := 0 }, 7, 1⟩) s (fun u =>
        decide (u.fab.stale = true ∧ stOf u 1 = stOf s 1) &&
        runs (.responseRx ⟨{ tag := 0, gen := 0, deadline := 2000000, data := 5, err := 0 }, 7, 1⟩) u (fun v =>
          decide (v.fab = { u.fab with dup := true } ∧ v.cpu = u.cpu))) &&
      runs (.responseRx ⟨{ tag := 0, gen := 0, deadline := 999999, data := 5, err := 0 }, 7, 1⟩) s (fun u =>
        decide (u.fab.tags = s.fab.tags ∧ stOf u 1 = stOf s 1)) &&
      runs (.requestDeadlineExpire 0) { s with clk := { s.clk with fab := 65536 * 2000000 } } (fun u =>
        decide ((u.tagAt 0).busy = false ∧ (u.tagAt 0).gen = 1 ∧ stOf u 1 = .done 0xFFFFFFFFFFFFFF04))) = true := by
  decide +kernel

/-- A load and a store of node 7 are served at this home. -/
theorem test_home_requests :
    (let q : MemRequest := { node := 7, part := 1, pgen := 3, op := 0, ref := refHere 0x10100, bytes := 4, data := 0, cmp := 0,
                             tag := 9, gen := 2, deadline := 2000000 }
     decide (joined.isHere (refNode q.ref) = true ∧ seqSeen (tblGet [] 7 joined.fab.seen) 4 = false ∧
       tblFind 57 joined.fab.notices = none ∧ joined.homeBlocked q = false ∧ joined.queueFull 0 = false) &&
     runs (.homeRequestRx ⟨q, 4⟩) joined (fun u => match u.fab.out with
        | [p] => match p.body with
          | .response r => decide (p.dst = 7 ∧ r = { tag := 9, gen := 2, deadline := 2000000, err := 0, data := 0x8100FF80 })
          | _ => false
        | _ => false) &&
     runs (.homeRequestRx ⟨{ q with op := 1, data := 0xDDCCBBAA }, 4⟩) joined (fun u =>
       decide (memBytes u.ms.mem (key1 + 0x100) 5 = [0xAA, 0xBB, 0xCC, 0xDD, 0]) &&
       runs (.homeRequestRx ⟨{ q with op := 1, data := 0 }, 4⟩) u fun v => decide (v.fab.dup = true ∧ v.ms = u.ms))) = true := by
  decide +kernel

def frame1 (n : Nat) : EthFrame :=
  { len := n, fcsOk := true, dst := 0x010203040506, src := 0x0A0B0C0D0E0F, tagged := false, vid := 0, pcp := 0, etype := 0x800,
    payload := [] }

theorem test_bridge_and_reports :
    (let s := { joined.mapLink tapLink fun x => { x with st := .up } with fab := { joined.fab with vlans := [(0, 1)], pvid := 1 } }
     runs (.tapFrameRx (frame1 64)) s (fun u => decide (u.learned 1 0x0A0B0C0D0E0F = some 3) &&
       runs (.macAgeing 1 0x0A0B0C0D0E0F) { u with clk := { u.clk with ed := 11520000 + 294912000000 } }
         (fun v => decide (v.fab.macs = []))) &&
     runs (.tapFrameRx (frame1 2000)) s (fun u => decide (u.fab.macs.length = 1)) &&
     runs (.tapFrameRx (frame1 63)) s (fun u => decide (u.fab = s.fab)) &&
     runs (.tapFrameRx (frame1 2001)) s (fun u => decide (u.fab = s.fab))) = true ∧
    (let h : HeldFault := { msg := 1, since := 11520000, at' := 11520000 - 9831, nestKind := 0, via := none }
     runs .faultReportHoldExpire { base with fab := { base.fab with held := [h, { h with at' := h.at' + 1 }] } }
       fun u => decide (u.fab.held = [{ h with at' := h.at' + 1 }])) = true := by
  decide +kernel

/-! Time (R247 to R266). -/

/-- `joined` with CL0 as parent. -/
def timed : State := { joined with fab := { joined.fab with up := some 0, headless := false } }

theorem test_time_transfer :
    runs (.timeSyncRx 0 7 0x1000000000000010 40) timed (fun u =>
      decide (u.links[(0 : LinkId)].synced = true ∧ u.links[(0 : LinkId)].syncT3 = 16 ∧ u.links[(0 : LinkId)].syncT4 = 40) &&
        runs (.timeEchoRx 0 0x2000000000640007 80) u (fun v =>
          decide (v.links[(0 : LinkId)].delays = [22] ∧ v.tsu.srcPresent = true))) = true ∧
    runs (.timeInfoRx 0 0x3000000000005A01) timed (fun u =>
      decide (u.tsu.peerState = 2 ∧ u.tsu.trace = true ∧ u.tsu.hops = 6)) = true ∧
    runs (.tsuSet 0 77) { timed with fab := { timed.fab with isHead := true } } (fun u => decide (u.tsu.set = some (77, timed.setDue)) && onward u 0 &&
      runs .tsuSetApply u fun v => decide (v.clk.fab = 77 * 65536 ∧ v.tsu.step = true ∧ v.tsu.set = none)) = true ∧
    runs (.tsuSet 0 77) timed (fun u => decide (u.tsu.set = none) && onward u 0) = true ∧
    runs .tsuLocked { timed with tsu := { timed.tsu with st := 1, srcPresent := true, inSince := some 0 }, clk := { timed.clk with ed := 9830400000 } }
      (fun u => decide (u.tsu.st = 2)) = true ∧
    runs .tsuLocked { timed with tsu := { timed.tsu with st := 1, srcPresent := true, inSince := some 1 }, clk := { timed.clk with ed := 9830400000 } }
      (fun u => decide (u.tsu.st = 1)) = true ∧
    runs .tsuUnlock { timed with tsu := { timed.tsu with st := 2, outSince := some 0 }, clk := { timed.clk with ed := 983040000 } }
      (fun u => decide (u.tsu.st = 1)) = true ∧
    runs .tsuSourceLost { timed with tsu := { timed.tsu with st := 2, srcPresent := true, everLocked := true, peerState := 3 } }
      (fun u => decide (u.tsu.st = 3 ∧ u.tsu.srcPresent = false)) = true ∧
    ({ timed with tsu := { timed.tsu with st := 2, srcPresent := true, everLocked := true, peerState := 3 } } : State).sourceGone = true := by
  decide +kernel

def ptp1 : PtpEvent :=
  { here := false, domain := 0, clock := 1, sync := true, origin := 0, twoStep := false, followUp := false, correction := 5, ingress := 100, linkDelay := 7, egress := 130 }

def gm1 : PtpAnnounce :=
  { here := false, domain := 0, prio1 := 1, clockClass := 6, accuracy := 0, variance := 0, prio2 := 0, identity := 1, steps := 0, utcOffset := 37, interval := 983040 }

theorem test_ptp_and_pps :
    (let s := joined.mapLink tapLink fun x => { x with st := .up }
     let h := { s with fab := { s.fab with isHead := true }, tsu := { s.tsu with src := 1 } }
     let p := { s with fab := { s.fab with isHead := true }, tsu := { s.tsu with src := 2 } }
     runs (.pdelayReqRx 4 9) s (fun u => decide (u.tsu.pdelay = 9 ∧ u.tsu.pdelayOut = [4])) &&
     runs (.ptpEventRx ptp1) s (fun u => decide ((u.tsu.ptpOut).map (·.correction) = [5 + 65536 * 37])) &&
     runs (.ptpEventRx { ptp1 with here := true }) s (fun u => decide (u.tsu.ptpOut = [])) &&
     runs (.ptpAnnounceRx gm1) s (fun u => decide (u.tsu.annOut = [gm1])) &&
     runs (.ptpAnnounceRx gm1) h (fun u => decide (u.tsu.gm = some gm1 ∧ u.tsu.tai = 37) &&
       runs .grandmasterLoss u (fun v => decide (v.tsu.gm = some gm1)) &&
       runs .grandmasterLoss { u with clk := { u.clk with ed := u.clk.ed + 3 * 983040 } }
         (fun v => decide (v.tsu.gm = none ∧ v.tsu.srcPresent = false)) &&
       runs (.ptpAnnounceRx { gm1 with identity := 2, prio1 := 2 }) { u with clk := { u.clk with ed := u.clk.ed + 3 * 983040 } }
         (fun v => decide (v.tsu.gm.map (·.identity) = some 2))) &&
     runs .ptpMasterSend { s with tsu := { s.tsu with ptpm := true } } (fun u => decide (u.tsu.adv = some 248)) &&
     runs (.ppsInEdge 1000999999) p (fun u => decide (u.tsu.ppsOff = 999999 ∧ u.tsu.offs = -15999984 ∧ u.tsu.ppsBad = 0)) &&
     runs (.ppsInEdge 1001000001) p (fun u => decide (u.tsu.ppsin = true ∧ u.tsu.ppsBad = 1)) &&
     runs (.ppsInEdge 999999999) s (fun u => decide (u.tsu.ppsOff = -1)) &&
     runs .ppsInMissing { p with tsu := { p.tsu with ppsBad := 2, srcPresent := true } }
       (fun u => decide (u.tsu.ppsBad = 3 ∧ u.tsu.srcPresent = false)) &&
     runs .ppsOutSecond { s with tsu := { s.tsu with ppsoe := true, ppsw := 0 } } (fun u => decide (u.tsu.ppsOut = true) &&
       runs .ppsOutFall { u with clk := { u.clk with ed := u.clk.ed + 983039 } } (fun v => decide (v.tsu.ppsOut = true)) &&
       runs .ppsOutFall { u with clk := { u.clk with ed := u.clk.ed + 983040 } } (fun v => decide (v.tsu.ppsOut = false)))) = true := by
  decide +kernel

/-! Converters and the composite limiter (R46, R63 to R68, R80). -/

theorem test_limiter_and_converters :
    air.compositeLimit 1 = 42240 ∧
    [(42240, 0), (42241, 1), (42368, 1), (42369, 2)].all (fun x =>
      runs (.compositeLimitScale 1 ⟨x.1, []⟩) air fun u => decide (u.ports[(1 : PortId)].scale = x.2)) = true ∧
    [((256, -384), (1, -2), 0), ((8388607, -8388608), (32767, -32768), 1), ((8388479, 128), (32767, 0), 0)].all (fun x =>
      runs (.compositeLimitScale 1 ⟨0, [x.1]⟩) air fun u =>
        decide (u.ports[(1 : PortId)].dac = x.2.1 ∧ (u.slot 0).sats = x.2.2 ∧ (u.rad.sat = true ↔ x.2.2 = 1))) = true ∧
    runs (.compositeLimitScale 1 ⟨0, [(256, 256)]⟩) (air.mapPort 1 fun q => { q with rampAt := 11520001 }) (fun u =>
      decide (u.ports[(1 : PortId)].dac = (0, 0))) = true ∧
    runs (.compositeLimitRestore 1) (air.mapPort 1 fun q => { q with scale := 2 }) (fun u => decide (u.ports[(1 : PortId)].scale = 1)) = true ∧
    runs (.adcClip 0) air (fun u => decide (u.ports[(0 : PortId)].clip = true ∧ u.ports[(0 : PortId)].clipCnt = 1) &&
      runs (.adcClip 0) u fun v => decide (v.ports[(0 : PortId)].clipCnt = 1)) = true ∧
    runs (.adcClip 0) (air.mapPort 0 fun q => { q with clipCnt := 255 }) (fun u => decide (u.ports[(0 : PortId)].clipCnt = 255)) = true ∧
    runs (.cnvAdaptUpdate 0 (-96000) ⟨-108800, [7]⟩) air (fun u =>
      decide (u.ports[(0 : PortId)].adapt = true ∧ u.ports[(0 : PortId)].conv = true ∧ u.ports[(0 : PortId)].coef = [7] ∧
        u.ports[(0 : PortId)].coefs.map (·.2) = [[7]])) = true ∧
    runs (.cnvAdaptUpdate 0 (-96000) ⟨-108799, [7]⟩) air (fun u => decide (u.ports[(0 : PortId)].conv = false)) = true ∧
    runs (.cnvAdaptUpdate 0 (-96000) ⟨-108799, [7]⟩) (air.mapPort 0 fun q => { q with adaptMs := 199 }) (fun u =>
      decide (u.ports[(0 : PortId)].conv = true)) = true ∧
    runs (.cnvAdaptUpdate 0 (-96000) ⟨-108799, [7]⟩) (air.mapPort 0 fun q => { q with conv := true }) (fun u =>
      decide (u.ports[(0 : PortId)].conv = false ∧ u.ports[(0 : PortId)].convMax = 50)) = true ∧
    runs (.cnvAdaptUpdate 0 (-96001) ⟨-108800, [7]⟩) air (fun u =>
      decide (u.ports[(0 : PortId)].adapt = false ∧ u.ports[(0 : PortId)].coef = [])) = true ∧
    runs (.txCalTrack 1 (-76800) (-83200)) air (fun u => decide (u.obs = air.obs ∧ u.ports[(1 : PortId)].txLeak = -76800)) = true ∧
    runs (.txCalTrack 1 (-76799) (-83200)) air (fun u => decide (u.obs.sticky.getLsbD 2 = true ∧ u.obs.live.getLsbD 2 = false)) = true ∧
    runs (.txCalTrack 1 (-76800) (-83199)) air (fun u => decide (u.obs.sticky.getLsbD 2 = true)) = true ∧
    runs (.clipcntRead 0) (air.mapPort 0 fun q => { q with clipCnt := 9, clip := true }) (fun u =>
      decide (u.hpi.hd = 0x090C ∧ u.ports[(0 : PortId)].clipCnt = 0 ∧ u.ports[(0 : PortId)].clip = true)) = true := by
  decide +kernel

/-! The host port (R272, R273, R405 to R427, R464, R465). -/

/-- `base` with an epoch of 0x00012345. -/
def hosted : State := { base with fab := { base.fab with epoch := 0x00012345 } }

theorem test_host_reads :
    hosted.busOpen = true ∧
    runs (.hostSnapshotRead 0x0054) hosted (fun u => decide (u.hpi.hd = 0x2345) &&
      runs (.hostSnapshotRead 0x0056) { u with fab := { u.fab with epoch := 0x00FF0000 } } fun v => decide (v.hpi.hd = 1)) = true ∧
    runs (.hostSnapshotRead 0x0FFC) hosted (fun u => decide (u.hpi.hd = 0x6192)) = true ∧
    runs (.hostSnapshotRead 0x0054) { hosted with pwr := { hosted.pwr with rst := false } } (fun u => decide (u.hpi.hd = 0)) = true ∧
    (hosted.mapped 0x3FFF = false ∧ hosted.mapped 0x3FFE = true ∧ hosted.mapped 0x0FFA = false ∧ hosted.mapped 0x0104 = true) ∧
    runs (.hostUnmappedAccess 0x0FFA false) { hosted with hpi := { hosted.hpi with viol := 0xFFFE } } (fun u => decide (u.hpi.viol = 0xFFFF) &&
      runs (.hostUnmappedAccess 0x0FFA true) u fun v => decide (v.hpi.viol = 0xFFFF) &&
        runs .hpiViolRead v fun w => decide (w.hpi.hd = 0xFFFF ∧ w.hpi.viol = 0)) = true ∧
    runs (.cuffRead 18) (hosted.lineRise 18 0xA0) (fun u =>
      decide (u.hpi.hd.toNat % 256 = 0xA0 ∧ (u.cuff 18).seen = true ∧ u.obs.sticky.getLsbD 18 = true)) = true ∧
    runs .bootGo { hosted with hpi := { hosted.hpi with bootReady := true } } (fun u => decide (u.hpi.bootGo = true ∧ u.hpi.bootReady = false)) = true ∧
    runs .bootGo hosted (fun u => decide (u.hpi.bootGo = false)) = true := by
  decide +kernel

/-- The queue of 32 writes: the 32nd is taken, the 33rd discarded. -/
theorem test_host_write_queue :
    runs (.hostWrite 0x0104 1) { hosted with hpi := { hosted.hpi with wq := List.replicate 31 (0x0104, 0) } }
      (fun u => decide (u.hpi.wq.length = 32) && runs (.hostWrite 0x0104 1) u fun v =>
        decide (v.hpi.wq.length = 32 ∧ v.hpi.xing = 0x200)) = true := by
  decide +kernel

/-- Posted writes of HW.HPI_IEN, HW.HPI_INT, HW.CFE_STAT, the inbound slot's first and last word and the aperture's last. -/
theorem test_host_writes_apply :
    (let s : BitVec 14 → BitVec 16 → State := fun a d =>
       { hosted with hpi := { hosted.hpi with wq := [(a, d)], int := 0x3F }, rad := { hosted.rad with sat := true, noBud := true } }
     runs .hostWriteApply (s 0x0104 0x7F) (fun u => decide (u.hpi.ien = 0x3F ∧ u.hpi.wq = [])) &&
     runs .hostWriteApply (s 0x0102 0x05) (fun u => decide (u.hpi.int = 0x3A)) &&
     runs .hostWriteApply (s 0x0020 1) (fun u => decide (u.rad.sat = false ∧ u.rad.noBud = true)) &&
     runs .hostWriteApply (s 0x1000 0xBEEF) (fun u => decide (u.hpi.inbuf = [(0, 0xEF), (1, 0xBE)])) &&
     runs .hostWriteApply (s 0x17FE 0xBEEF) (fun u => decide (u.hpi.inbuf = [(2046, 0xEF), (2047, 0xBE)])) &&
     runs .hostWriteApply (s 0x3FFE 0xBEEF) (fun u => decide (u.hpi.aper = [(8190, 0xEF), (8191, 0xBE)])) &&
     runs .hostWriteApply { s 0x2000 0xBEEF with hpi := { (s 0x2000 0xBEEF).hpi with busy := true } }
       (fun u => decide (u.hpi.wbusy = true ∧ u.hpi.aper = []))) = true ∧
    runs (.fswStickyClear 0x40001) (hosted.lineRise 18 0xA0)
      (fun u => decide (u.obs.sticky = 0x40000 ∧ u.obs.live = 0x40000 ∧ u.obs.gone = 0)) = true := by
  decide +kernel

/-- The mailbox slots: a handed-over message is placed, held while its mailbox is full, discarded with INEN 0; the oldest
message of the host-bound mailbox goes out. -/
theorem test_mailbox_slots :
    (let h : Hpi := { hosted.hpi with inbuf := [(0, 7), (1, 8)], idesc := 0x00010013, inen := true, mben := true, mbpart := 1,
                                      mbbox := 5 }
     let s := { hosted with hpi := h }
     runs .mbxIgo s (fun u => decide (u.hpi.iown = true ∧ u.hpi.isamp = 0x00010013 ∧ u.hpi.inPart = 1 ∧ u.hpi.inBox = 3) &&
       runs .inboundPlace u (fun v => decide (v.hpi.iown = false ∧ v.hpi.int = 1 ∧
         v.box 11 = [{ body := [7, 8], srcNode := 2046, srcPart := 0, seen := [], seq := none }])) &&
       (let full := u.setBox 11 (List.replicate 16 { body := [1], srcNode := 0, srcPart := 0, seen := [], seq := none })
        runs .inboundPlace full fun v => decide (v = full)) &&
       runs .inboundPlace { u with hpi := { u.hpi with inen := false } } (fun v =>
         decide (v.hpi.idrop = true ∧ v.hpi.iown = false ∧ v.mail = []))) &&
     runs .outboundReady (s.setBox 13 [{ body := [1, 2, 3], srcNode := 9, srcPart := 2, seen := [], seq := none }]) (fun u =>
       decide (u.hpi.oown = false ∧ u.hpi.int = 2 ∧ u.hpi.oinfo = 0x00092002 ∧ u.hpi.outbuf = [(0, 1), (1, 2), (2, 3)]) &&
         runs .mbxOdone u fun v => decide (v.hpi.oown = true))) = true := by
  decide +kernel

/-- The aperture: refused while busy or disabled, cut at line 127; FILL and FLUSH of one line. -/
theorem test_aperture :
    (let h : Hpi := { stored.hpi with aen := true, aprRef := refHere 0x10100 }
     let s := { stored with hpi := h }
     runs (.aprFill 127 5) s (fun u => decide (u.hpi.busy = true ∧ u.hpi.aprLines.length = 1)) &&
     runs (.aprFill 0 127) s (fun u => decide (u.hpi.aprLines.length = 128)) &&
     runs (.aprFlush 3 0) { s with hpi := { h with aen := false } } (fun u => decide (u.hpi.busy = false ∧ u.hpi.aerr = 5 ∧ u.hpi.fline = 3)) &&
     runs (.aprFlush 0 0) { s with hpi := { h with busy := true } } (fun u => decide (u.hpi.cerr = true)) &&
     runs (.aprFill 0 0) s (fun u => decide (u.hpi.aprLines = [(0, .read (memBytes stored.ms.mem (key1 + 0x100) 64))]) &&
       runs (.aprCommandEnd []) u fun v => decide (v.hpi.busy = false ∧ v.hpi.aerr = 0 ∧ v.hpi.int = 4 ∧
         memBytes v.hpi.aper 0 8 = [0x80, 0xFF, 0, 0x81, 0, 0, 0, 1])) &&
     runs (.aprFlush 1 0) { s with hpi := { h with aper := [(64, 0xAB)] } } (fun u => decide (u.hpi.aprLines = [(1, .store)]) &&
       runs (.aprCommandEnd []) u fun v => decide (v.hpi.busy = false ∧ memRead (key1 + 0x140) v.ms.mem = 0xAB ∧
         memRead (key1 + 0x100) v.ms.mem = 0x80))) = true := by
  decide +kernel

/-! The memory system (R360 to R384). -/

/-- `stored` with the gill of partition 1 in tier `t` at heat `h`. -/
def tiered (t : BitVec 2) (h : Nat) : State :=
  { stored with ms := { stored.ms with pages := [gill 0 0x10000, { gill 1 0x10000 with tier := t, heat := h }] } }

theorem test_memory_events :
    runs .keepBufferWrite { stored with ms := { stored.ms with kwb := [(5, List.replicate 64 9)] } } (fun u =>
      decide (u.ms.kwb = [] ∧ memBytes u.ms.mram 320 64 = List.replicate 64 9 ∧ memRead 384 u.ms.mram = 0)) = true ∧
    runs .heatDecay (tiered 1 65535) (fun u => decide (u.ms.pages.map (·.heat) = [0, 32767])) = true ∧
    runs (.pageMigrate 1 0x10000 1) (tiered 2 65) (fun u => decide (u.ms.pages.map (·.tier) = [1, 1] ∧ u.ms.mem = stored.ms.mem)) = true ∧
    runs (.pageMigrate 1 0x10000 1) (tiered 2 64) (fun u => decide (u.ms.pages.map (·.tier) = [1, 2])) = true ∧
    runs .band4Evict { stored with ms := { stored.ms with band := 4 } } (fun u =>
      decide (u.ms.evict = true ∧ u.ms.mem = stored.ms.mem ∧ ∃ q ∈ u.ms.pages, q.tier = 2)) = true ∧
    runs .band4Evict { stored with ms := { stored.ms with band := 3, evict := true } } (fun u => decide (u.ms.evict = false)) = true ∧
    runs (.patrolScrub 1 0x10100 ⟨.working, 1⟩) stored (fun u => decide (u.ms.ce = true ∧ u.ms.mem = stored.ms.mem)) = true ∧
    runs (.patrolScrub 1 0x10100 ⟨.working, 2⟩) stored (fun u =>
      decide (u.ms.ue = true ∧ u.parts[(1 : PartId)].poison = true) && u.ms.poison.contains ((key1 + 0x100) / 32)) = true ∧
    runs (.patrolScrub 1 0x10100 ⟨.working, 0⟩) stored (fun u => decide (u = { stored with ms := { stored.ms with scrub := true } })) = true ∧
    stored.scrubs = true := by
  decide +kernel

/-- A page whose heat has been 0 for the time of R369 goes to MRAM. -/
theorem test_cold_page :
    (let s := { tiered 1 0 with clk := { base.clk with ed := 983040 * 60000 * 20 } }
     decide ((s.pageAt 1 0x10000).map s.coldPage = some true) &&
     runs (.pageMigrate 1 0x10000 2) s fun u => decide (u.ms.pages.map (·.tier) = [1, 2])) = true := by
  decide +kernel

/-- Replicas: a holder is recorded and forgotten at the home; a requester holds and drops one. -/
theorem test_replicas :
    runs (.replicaRequest 7 (refHere 0x10000) ⟨[], []⟩) joined (fun u => decide (u.ms.directory = [(key1, [7])]) &&
      runs (.replicaAckRx 7 (refHere 0x10000)) u fun v => decide (tblGet [] key1 v.ms.directory = [])) = true ∧
    (let s := { joined with ms := { joined.ms with readHeat := [((refAway 0x10000).toNat / 4096, 256)] } }
     runs (.replicaRequest 3 (refAway 0x10000) ⟨List.replicate 4096 5, []⟩) s fun u =>
       decide (u.ms.replicas.map (·.ref) = [(refAway 0x10000).toNat]) &&
       runs (.replicaDiscardRx (refAway 0x10008)) { u with fab := { u.fab with out := [] } } fun v => decide (v.ms.replicas = [])) = true := by
  decide +kernel

/-! Partitions (R364, R368, R385 to R391, R401 to R403). -/

/-- `base` with partition 2 absent and granted `grants1`. -/
def granting : State :=
  { base with parts := base.parts.set 2 { Part.initial with grants := grants1 }, pw := { base.pw with pnum := 2, entry := 0x10100, arg := 7 } }

theorem test_partitions :
    (granting.parts[(2 : PartId)].grants.inRange = true ∧ granting.grantsFit 2 grants1 = true) ∧
    runs (.partCreate 0 2) granting (fun u => decide (u.parts[(2 : PartId)].life = .active ∧ u.parts[(2 : PartId)].effEng = 1000) && onward u 0) = true ∧
    runs (.partCreate 0 2) (granting.mapPart 2 fun x => { x with grants := { x.grants with chq := 193 } })
      (fun u => decide (u.parts[(2 : PartId)].life = .absent ∧ u.pw.qerr = true)) = true ∧
    runs (.partStart 0 1) { granting with pw := { granting.pw with pnum := 1 } } (fun u => match u.task? 2 with
      | some x => decide (x.part = 1 ∧ x.pc = 0x10100 ∧ x.get 1 = 7) && onward u 0
      | none => false) = true ∧
    runs (.partClear 0 1) (base.mapPart 1 fun x => { x with viol := 9, lastK := 3 }) (fun u =>
      decide (u.parts[(1 : PartId)].viol = 0 ∧ u.parts[(1 : PartId)].lastK = 0) && onward u 0) = true ∧
    runs (.partReset 0 1) base (fun u => decide (u.parts[(1 : PartId)].life = .resetting false ∧ stOf u 1 = .done 0) && onward u 0 &&
      runs (.partResetComplete 1) u fun v => decide (v.parts[(1 : PartId)].life = .active ∧ v.parts[(1 : PartId)].gen = 4 ∧ v.task? 1 = none ∧
        v.ms.pages.length = 1)) = true ∧
    runs (.partDestroy 0 1) base (fun u => runs (.partResetComplete 1) u fun v => decide (v.parts[(1 : PartId)].life = .absent)) = true ∧
    runs (.partResetNoticeRx 7 1 5) base (fun u => decide (u.fab.notices = [(57, 5)])) = true ∧
    runs (.partRelease 0 2) { granting with ms := { granting.ms with keptMram := [gill 2 0x10000], mram := [(memKey 2 0x10000, 5)] } }
      (fun u => decide (u.ms.keptMram = [] ∧ u.ms.mram = []) && onward u 0) = true ∧
    runs (.partAlloc 0 0x1000) { base with pw := { base.pw with pnum := 1 } } (fun u =>
      decide (u.pw.acode = 1 ∧ u.pw.abase = 0x11000) && onward u 0) = true ∧
    runs (.partAlloc 0 0x1000) granting (fun u => decide (u.pw.acode = 6 ∧ u.pw.abase = 0) && onward u 0) = true := by
  decide +kernel

/-- A grant word within range and one beyond it. -/
theorem test_grant_write :
    (let g := granting.parts[(2 : PartId)].grants
     decide ((g.write 0 0xFFFFFFFFFFFFFFFF).inRange = false ∧ (g.write 0 0).inRange = true ∧ granting.grantsFit 2 (g.write 0 0) = true)) = true ∧
    runs (.partGrantWrite 0 0 0xFFFFFFFFFFFFFFFF) granting (fun u => decide (u.parts[(2 : PartId)].grants = grants1 ∧ u.pw.qerr = true)) = true ∧
    runs (.partGrantWrite 0 0 0) granting (fun u => decide (u.pw.qerr = false ∧ u.parts[(2 : PartId)].grants ≠ grants1)) = true := by
  decide +kernel

/-! Windows, slices and cores (R285, R392 to R396). -/

/-- `base` with P0's four contexts busy and task 5 of P0 READY. -/
def crowded : State :=
  { base with cpu := { base.cpu with
      tasks := [(0, job 0 32), (2, job 0 33), (3, job 0 34), (4, job 0 35), (5, Task.fresh 0 0x10000 0)], ready := [5] } }

/-- The hypotheses of the time slice can be met. -/
theorem witness_crowded :
    crowded.runs 0 (job 0 32) 32 ∧ (job 0 32).part = 0 ∧ (job 0 32).placedAt + 9831 ≤ crowded.clk.ed ∧
      crowded.programsRun = true ∧ crowded.cpu.ready = [5] ∧ crowded.task? 5 = some (Task.fresh 0 0x10000 0) ∧
      (∀ d ∈ [32, 33, 34, 35], crowded.ctxBusy d = true) ∧ crowded.cpu.tasks.Pairwise (fun a b => a.1 < b.1) ∧
      ∀ x ∈ crowded.cpu.tasks, x.2.st = .running 32 → x.1 = 0 := by
  simp only [State.runs]
  decide +kernel

theorem test_windows_and_cores :
    runs .schedWindowStart base (fun u => decide (u.cpu.windowEnd = 100100000 ∧ u.parts[(1 : PartId)].credit = 400 * 65536000 ∧
      u.cpu.bound = [(0, 1), (1, 1), (2, 1), (3, 1)])) = true ∧
    runs (.creditExhausted 1) (base.mapPart 1 fun x => { x with credit := 0 }) (fun u =>
      decide (u.cpu.outC = true ∧ stOf u 1 = .ready ∧ stOf u 0 = .running 32)) = true ∧
    runs (.creditExhausted 1) base (fun u => decide (stOf u 1 = .running 0)) = true ∧
    runs (.taskTimeslice 0) crowded (fun u => decide (u.cpu.ready = [0] ∧ stOf u 5 = .running 32 ∧ stOf u 0 = .ready)) = true ∧
    runs (.taskTimeslice 0) { crowded with clk := { crowded.clk with ed := 9830 } } (fun u => decide (stOf u 0 = .running 32)) = true ∧
    runs (.workerCoreFault 0) base (fun u => decide (u.cpu.coreUp = 0xFE ∧ u.cpu.wdr = true ∧ u.pwr.mode = .quiet ∧
      stOf u 1 = .done 0xFFFFFFFFFFFFFF05 ∧ u.cpu.bound = [(4, 1), (5, 1), (6, 1), (7, 1)])) = true ∧
    runs (.workerCoreFault 7) { base with cpu := { base.cpu with coreUp := 0x80 } } (fun u => decide (u.pwr.mode = .watch)) = true := by
  decide +kernel

/-! The Warden pair and the modes (R20, R284, R429, R430, R497). -/

/-- Bytes of an image whose ENTRY is 0x10008. -/
def entryBytes : List Byte := List.replicate 32 0 ++ natToBytes 0x10008 8

theorem test_warden_and_modes :
    runs (.wardenStop true) base (fun u => decide (u.cpu.wrun = false ∧ u.cpu.tasks = [] ∧ u.cpu.stops = [1] ∧
      u.cpu.wardenHeld = false ∧ u.pwr.mode = .watch ∧ u.pwr.watchFrom = .quiet)) = true ∧
    runs (.wardenStop true) { base with cpu := { base.cpu with stops := [0, 0] } } (fun u => decide (u.cpu.wardenHeld = true)) = true ∧
    runs .wardenRestart { base with
        cpu := { base.cpu with wrun := false, tasks := [] }, svc := { base.svc with image := entryBytes, source := 3 } }
      (fun u => decide (u.cpu.wrun = true ∧ pcOf u 0 = 0x10008 ∧ reg u 0 1 = 3 ∧ stOf u 0 = .running 32)) = true ∧
    runs .modeTransition { base with pwr := { base.pwr with req := some .survey } }
      (fun u => decide (u.pwr.mode = .survey ∧ u.pwr.req = none ∧ u.clk.ed % 1152 = 0)) = true ∧
    runs .modeTransition { base with pwr := { base.pwr with req := some .relay, calib := 1 } }
      (fun u => decide (u.pwr.mode = .quiet ∧ u.pwr.req = some .relay)) = true ∧
    runs .isolateCalibrationEnd { base with clk := { base.clk with ed := 1966080000 },
                                            pwr := { base.pwr with mode := .isolate, req := some .relay, calib := 1 } }
      (fun u => decide (u.pwr.mode = .relay ∧ u.pwr.calib = 2)) = true := by
  decide +kernel

/-! DOZE and idle (R434 to R439, R456). -/

/-- `base` with DOZE, HIBERNATE and D3 enabled and no task. -/
def restful : State :=
  { base with
    cpu := { base.cpu with tasks := [] }
    pwr := { base.pwr with dzen := true, hben := true, d3en := true } }

/-- The conditions of DOZE and HIBERNATE can be met. -/
theorem witness_restful :
    restful.mayDoze = true ∧ 2000000000 ≤ restful.leadNs ∧ restful.tasksQuiet = true ∧ restful.noLanes = true ∧
      restful.hpi.iown = false ∧ restful.hpi.busy = false ∧ restful.coreIdle 2 = true ∧ restful.cpu.heldQ = [] := by
  decide +kernel

theorem test_doze :
    runs .dozeEnter restful (fun u => decide (u.pwr.mode = .doze ∧ u.pwr.base = .quiet) &&
      runs .hibernateEnter u (fun v => decide (v.pwr.mode = .hibernate ∧ v.pwr.depth = Vector.replicate 8 3) &&
        runs .hibernateWake v (fun w => decide (w.pwr.mode = .hibernate)) &&
        runs .mbxIgo v (fun x => decide (x.pwr.unann = true) &&
          runs .hibernateWake x fun w => decide (w.pwr.mode = .doze ∧ w.pwr.unann = false)) &&
        runs .hibernateWake { v with pwr := { v.pwr with tmr := 2000000 } } (fun w => decide (w.pwr.mode = .doze))) &&
      runs .wakeEdge u (fun v => decide (v.pwr.wake = true ∧ v.pwr.wakeReq = true) &&
        runs .dozeExit v (fun w => decide (w.pwr.mode = .quiet ∧ w.pwr.wakeReq = false)))) = true ∧
    runs .dozeEnter { restful with pwr := { restful.pwr with dzen := false } } (fun u => decide (u.pwr.mode = .quiet)) = true ∧
    runs .pwrTimerExpire { restful with pwr := { restful.pwr with tmr := 1000000 } } (fun u => decide (u.pwr.tmr = 0 ∧ u.pwr.wakeReq = false)) = true ∧
    runs .pwrTimerExpire { restful with pwr := { restful.pwr with tmr := 1000001 } } (fun u => decide (u.pwr.tmr = 1000001)) = true ∧
    runs .leadTimeRecompute { restful with pwr := { restful.pwr with tmr := 1005000 } } (fun u => decide (u.pwr.lead = 5)) = true ∧
    runs (.coreIdleEnter 2) { restful with pwr := { restful.pwr with tmr := 1040000 } } (fun u => decide (u.pwr.depth[(2 : CoreId)] = 2) &&
      runs (.coreIdleExit 2) u fun v => decide (v.pwr.depth[(2 : CoreId)] = 0)) = true ∧
    runs (.coreIdleEnter 2) { restful with pwr := { restful.pwr with tmr := 1000199 } } (fun u => decide (u.pwr.depth[(2 : CoreId)] = 0)) = true ∧
    runs (.coreIdleEnter 2) restful (fun u => decide (u.pwr.depth[(2 : CoreId)] = 3)) = true := by
  decide +kernel

/-! Feeds, reset and boot (R420, R429, R431, R441 to R444, R475, R490, R493, R494, R506). -/

theorem test_feeds :
    runs (.feedLost true) base (fun u => decide (u.pwr.feedB = false ∧ u.pwr.feedA = true ∧ u.pwr.flost = true ∧
      u.obs.live.getLsbD 18 = true) && runs (.feedRecovery true) u fun v =>
        decide (v.pwr.feedB = true ∧ v.obs.live.getLsbD 18 = false)) = true ∧
    runs (.feedOvervoltage false) base (fun u => decide (u.pwr.cutA = true ∧ u.pwr.feedA = false) &&
      runs (.feedRecovery false) u (fun v => decide (v.pwr.feedA = false)) &&
      runs (.feedReconnect false) u fun v => decide (v.pwr.cutA = false ∧ v.pwr.feedA = true)) = true ∧
    runs .holdUpCharged base (fun u => decide (u.pwr.hold = true)) = true := by
  decide +kernel

/-- Power fails under a transmitting port: it stops, then records and keep stores are in MRAM, and the engine boots again. -/
theorem test_power_loss :
    runs (.powerFailWarning 480) air (fun u => decide (u.pwr.seqRun = true ∧ u.pwr.pfw = true ∧ u.ports[(1 : PortId)].tx ≠ .on) &&
      decide (u.obs.queue.length = 2) && runs .powerLossComplete
        { u with ms := { u.ms with kwb := [(5, List.replicate 64 9)] } } fun v =>
          decide (v.pwr.mode = .reset ∧ v.rad.slots = [] ∧ v.cpu.tasks = [] ∧ v.obs.queue = [] ∧ v.ms.kwb = [] ∧
            v.obs.pcount = 2 ∧ memRead 320 v.ms.mram = 9 ∧ v.obs.optSaved = 1) &&
          runs (.feedRestored 1) v fun w => decide (w.pwr.mode = .boot ∧ w.svc.bootsel = 1 ∧ w.hpi.bootReady = true)) = true ∧
    runs .holdupExhausted { air with pwr := { air.pwr with seqRun := true } } (fun u => decide (u.pwr.mode = .off ∧ u.pwr.good = false) &&
      runs .feedPowerOn { u with obs := { u.obs with optSaved := 9 } } fun v =>
        decide (v.pwr.mode = .reset ∧ v.obs.pcc = 1 ∧ v.opMs = 9)) = true := by
  decide +kernel

theorem test_reset_and_boot :
    runs .rstAssert air (fun u => decide (u.pwr.mode = .reset ∧ u.pwr.rst = false ∧ u.rad.slots = [] ∧ u.cpu.tasks = []) &&
      runs (.rstRelease 0) u fun v => decide (v.pwr.mode = .boot ∧ v.cpu.coreUp = 0xFF ∧ v.hpi.bootReady = false)) = true ∧
    runs (.powerGood 1 true) State.reset (fun u => decide (u.pwr.mode = .boot ∧ u.hpi.io18 = true ∧ u.hpi.bootReady = true)) = true ∧
    runs (.powerGood 1 true) { State.reset with pwr := { State.reset.pwr with rst := false } } (fun u => decide (u.pwr.mode = .reset)) = true ∧
    (let s := { State.reset with pwr := { State.reset.pwr with mode := .boot } }
     runs .imageVerified s (fun u => decide (u.pwr.mode = .boot ∧ u.hpi.bootReady = true ∧ u.hpi.int = 8)) &&
     runs .imageVerified { s with hpi := { s.hpi with bootGo := true } }
       (fun u => decide (u.pwr.mode = .boot ∧ u.hpi.bootFail = true ∧ u.hpi.bootReady = true)) &&
     runs (.chainImageReceived [1]) { s with svc := { s.svc with chainAsk := true } } (fun u => decide (u.svc.image = [] ∧ u.pwr.mode = .boot))) = true ∧
    runs (.chainImageRequestRx 0) ((linked .up).mapLink 0 fun x => { x with child := true })
      (fun u => decide (u.svc.relay = some 0)) = true := by
  decide +kernel

/-! The thermal manager (R432, R445 to R455). -/

/-- `base` in a round's scan with every diode valid at `v`. -/
def diodes (v : BitVec 12) : State :=
  { base with thm := { base.thm with scan := some true, valid := 0xFFF, value := Vector.replicate 32 v, nextInput := 32 } }

/-- The hypotheses of a round's end can be met. -/
theorem witness_diodes :
    (diodes 1000).thm.scan = some true ∧ (diodes 1000).thm.brk = 0 ∧ (∀ k : Fin 12, (diodes 1000).thm.strays k = false) ∧
      (diodes 1000).thm.tMax = some 1000 := by
  decide +kernel

theorem test_converter :
    runs .hkaRoundTrigger base (fun u => decide (u.thm.scan = some true ∧ u.thm.pend = none) &&
      runs (.hkaTrig 0) u fun v => decide (v.thm.pend = some false ∧ v.thm.hovr = false) && onward v 0 &&
        runs .hkaRoundTrigger v fun w => decide (w.thm.pend = some true ∧ w.thm.hovr = true)) = true ∧
    (let s := { diodes 0 with thm := { (diodes 0).thm with mask := 0x0C003008, pend := some false, valid := 0 } }
     let at' : Nat → State := fun n => { s with thm := { s.thm with nextInput := n } }
     runs (.hkaConversionEnd 3 0x123 false) (at' 0) (fun u => decide (u.thm.value[(3 : HkaId)] = 0x123 ∧ u.thm.valid = 8 ∧ u.thm.nextInput = 4)) &&
     runs (.hkaConversionEnd 12 0x123 false) (at' 0) (fun u => decide (u.thm.nextInput = 0)) &&
     runs .hkaScanEnd { at' 13 with thm := { (at' 13).thm with scan := some false } } (fun u => decide (u.thm.nextInput = 13)) &&
     runs (.hkaConversionEnd 27 0x123 false) (at' 27) (fun u => decide (u.thm.value[(27 : HkaId)] = 0 ∧ u.thm.valid = 0x8000000)) &&
     runs (.hkaConversionEnd 4 0x123 false) s (fun u => decide (u.thm.valid = 0)) &&
     runs (.hkaConversionEnd 12 0x123 true) (at' 12) (fun u => decide (u.thm.value[(12 : HkaId)] = 0x123 ∧ u.thm.valid = 0x1000)) &&
     runs (.hkaConversionEnd 13 0x123 false) (at' 13) (fun u => decide (u.thm.valid = 0 ∧ u.obs.live.getLsbD 17 = true)) &&
     runs .hkaScanEnd { s with thm := { s.thm with scan := some false } } (fun u => decide (u.thm.scan = some false ∧ u.thm.pend = none ∧
       u.thm.rounds = 0))) = true := by
  decide +kernel

/-- The same with the warning in force. -/
def warned (v : BitVec 12) : State :=
  let x := (diodes v).thm
  { diodes v with thm := { x with fWarn := true } }

/-- The thresholds at their edges: 125 °C, 120 °C, 138 °C and 148 °C. -/
theorem test_thermal_thresholds :
    runs .hkaScanEnd (diodes 999) (fun u => decide (u.thm.fWarn = false ∧ u.thm.rounds = 1)) = true ∧
    runs .hkaScanEnd (diodes 1000) (fun u => decide (u.thm.fWarn = true ∧ u.thm.wseen = true ∧ u.thm.fThr = false)) = true ∧
    (runs .hkaScanEnd (warned 961) (fun u => decide (u.thm.fWarn = true)) &&
     runs .hkaScanEnd (warned 960) (fun u => decide (u.thm.fWarn = false))) = true ∧
    runs .hkaScanEnd (warned 1104) (fun u => decide (u.thm.fThr = true ∧ u.thm.backoff = 1 ∧ u.thm.fShut = false ∧ u.pwr.mode = .quiet)) = true ∧
    runs .hkaScanEnd (warned 1184) (fun u => decide (u.thm.fShut = true ∧ u.pwr.mode = .halt ∧ u.cpu.tasks = [] ∧ u.cpu.coreUp = 0 ∧
      u.ms.band = 4)) = true := by
  decide +kernel

/-- A diode that strays for the third round is broken and reads its neighbours' mean. -/
theorem test_broken_diode :
    (let s := diodes 400
     let x := { s.thm with value := s.thm.value.set 5 497, bad := s.thm.bad.set 5 2 }
     runs .hkaScanEnd { s with thm := x } (fun u => decide (u.thm.brk = 0x20 ∧ u.thm.brkn = true ∧ u.thm.value[(5 : HkaId)] = 400)) &&
     runs .hkaScanEnd { s with thm := { x with value := x.value.set 5 496 } } (fun u => decide (u.thm.brk = 0))) = true ∧
    runs .housekeepingRecord { base with thm := { base.thm with rounds := 500 } } (fun u =>
      decide (u.thm.rounds = 0 ∧ u.obs.queue.length = 1 ∧ u.obs.queue.all (fun r => r.toNat % 65536 = 0x2100) = true)) = true ∧
    runs .housekeepingRecord { base with thm := { base.thm with rounds := 499 } } (fun u => decide (u.thm.rounds = 499)) = true := by
  decide +kernel

/-! Fault status and records (R463 to R466, R470, R472, R475 to R478). -/

theorem test_error_lines :
    runs (.errorLineRise 18 0xA0) base (fun u => decide (u.obs.sticky = 0x40000 ∧ u.obs.live = 0x40000 ∧ (u.cuff 18).kind = 0xA0 ∧
        (u.cuff 18).more = false ∧ u.hpi.int.getLsbD 5 = true) &&
      runs (.errorLineFall 18) u fun v => decide (v.obs.sticky = 0x40000 ∧ v.obs.live = 0 ∧ v.obs.gone = 0x40000) &&
        runs (.errorLineRise 18 0xA1) v fun w => decide (w.obs.live = 0x40000 ∧ (w.cuff 18).kind = 0xA0 ∧ (w.cuff 18).more = true)) = true ∧
    runs (.errorLineRise 18 0x10) base (fun u => decide (u.obs.live = 0)) = true ∧
    runs (.errorLineFall 18) base (fun u => decide (u = base)) = true := by
  decide +kernel

/-- Mailbox 6 of P0 takes a sixteenth message and drops a seventeenth. -/
theorem test_fault_messages :
    (let s := { base with fab := { base.fab with isHead := true } }
     let ms : List Msg := List.replicate 15 { body := [1], srcNode := 0, srcPart := 0, seen := [], seq := none }
     runs (.faultMsgRx 0x0102) (s.setBox 6 ms) (fun u => decide ((u.box 6).length = 16 ∧
         (u.box 6).getLast?.map (fun m => (m.body.take 2, m.srcNode)) = some ([2, 1], s.selfNode) ∧ u.obs.fdrop = false) &&
       runs (.faultMsgRx 0x0102) u fun v => decide (v.mail = u.mail ∧ v.obs.fdrop = true))) = true := by
  decide +kernel

theorem test_severity_records_tokens :
    (let s := fun t => { base with clk := { base.clk with opt := base.sevWindow + 1 }
                                   obs := { base.obs with sources := [(5, { times := [t], severe := true, window := base.sevWindow })] } }
     runs (.severityWindowExpire 5) (s 0) (fun u => decide ((u.source 5).severe = false)) &&
     runs (.severityWindowExpire 5) (s 1) (fun u => decide ((u.source 5).severe = true))) = true ∧
    (let s := fun n => { base with obs := { base.obs with queue := [7, 8], pcount := n } }
     runs .eventRecordCommit (s 4095) (fun u => decide (u.obs.queue = [8] ∧ u.obs.pcount = 4096 ∧ tblFind 4095 u.obs.perm = some 0x10007 ∧
       tblFind 0 u.obs.circ = some 0x10007)) &&
     runs .eventRecordCommit (s 4096) (fun u => decide (u.obs.pcount = 4096 ∧ u.obs.perm = [] ∧ tblFind 0 u.obs.circ = some 7))) = true ∧
    (let s := fun n => { base with obs := { base.obs with buckets := [(0x2100, { tokens := n, supp := 3, last := 0 })] }, clk := { base.clk with ed := 122880000 } }
     runs (.tokenRefill 0x2100) (s 31) (fun u => decide ((u.bucket 0x2100).tokens = 32)) &&
     runs (.tokenRefill 0x2100) (s 30) (fun u => decide ((u.bucket 0x2100).tokens = 31) &&
       runs (.tokenRefill 0x2100) u fun v => decide ((v.bucket 0x2100).tokens = 31)) &&
     runs (.tokenRefill 0x2100) (s 32) (fun u => decide ((u.bucket 0x2100).tokens = 32 ∧ (u.bucket 0x2100).supp = 3))) = true ∧
    runs .optimeSave base (fun u => decide (u.obs.optSaved = 1)) = true := by
  decide +kernel

/-! Bushels, samples and the recorder's words (R465, R476, R481 to R488). -/

set_option maxRecDepth 100000 in
theorem test_bushels :
    (let s := fun a n => { base with obs := { base.obs with baseNext := a, lenNext := n, periodNext := 5, bseq := 0x01020304 } }
     runs .bushelDump (s 0x10000 0) (fun u => decide (u.obs.ringLen = 0 ∧ u.obs.period = 5 ∧ u.obs.bseq = 0x01020304 ∧ u.ms = base.ms)) &&
     runs .bushelDump (s 0x10000 1) (fun u => decide (u.obs.bseq = 0x01020305 ∧ u.obs.bskip = false ∧
       memBytes u.ms.mem (memKey 0 0x10000) 8 = [4, 3, 2, 1, 1, 0, 0, 0] ∧ memRead (memKey 0 (0x10000 + 2112)) u.ms.mem = 0)) &&
     runs .bushelDump (s 0x10800 1) (fun u => decide (u.obs.bseq = 0x01020304 ∧ u.obs.bskip = true ∧ u.ms = base.ms))) = true := by
  decide +kernel

/-- `base` with partition 1 sampling event 0 into a ring of 2 at `a`. -/
def ringed (a : Nat) : State :=
  { base with obs := { base.obs with sampled := [(1, (0, 1))] } }.mapPart 1 fun x => { x with samp := { x.samp with en := true, base := a, len := 2, snext := 1 } }

theorem test_samples :
    runs (.perfSample 1 0x10040) (ringed 0x10000) (fun u => decide (u.parts[(1 : PartId)].samp.snext = 2 ∧ u.obs.sampled = [(1, (0, 0))] ∧
      memBytes u.ms.mem (memKey 1 0x10010) 12 = [0x40, 0, 1, 0, 0, 0, 0, 0, 1, 0, 0, 0])) = true ∧
    runs (.perfSample 1 0x10040) (ringed 0x20000) (fun u => decide (u.parts[(1 : PartId)].samp.drop = 1 ∧ u.ms = base.ms)) = true ∧
    runs (.obsSampEnable 1 0x1234567813) (ringed 0) (fun u => decide (u.parts[(1 : PartId)].samp =
      { (ringed 0).parts[(1 : PartId)].samp with event := 0x13, en := true, period := 0x345678, snext := 0, drop := 0 }) && onward u 1) = true := by
  decide +kernel

theorem test_recorder_words :
    runs (.obsEmit 1 0x55AA00007FFF) base (fun u => decide (u.obs.queue = []) && onward u 1) = true ∧
    runs (.obsEmit 1 0x55AA00008000) base (fun u => decide (u.obs.next = 1 ∧ u.obs.queue.map (fun r => r.toNat % 65536) = [0x8000]) && onward u 1) = true ∧
    runs (.obsFclr 0 0x40001) (hosted.lineRise 18 0xA0) (fun u => decide (u.obs.sticky = 0x40000) && onward u 0) = true ∧
    runs (.obsFclr 0 0x40001) { base with obs := { base.obs with sticky := 0x40003 } } (fun u => decide (u.obs.sticky = 2)) = true ∧
    (let s := { base with obs := { base.obs with perm := [(0, 0x200000000000000001 * 0x10000000000000000)], pcount := 1, rptr := 3 } }
     runs (.obsPclr 0) s (fun u => decide (u.obs.perm = [] ∧ u.obs.pcount = 0) && onward u 0) &&
     runs (.obsRdataRead 0 1) s (fun u => decide (u.obs.rptr = 0 ∧ reg u 0 1 = s.obs.piece) && onward u 0) &&
     runs (.obsRdataRead 1 1) s (fun u => decide (u.obs.rptr = 3 ∧ reg u 1 1 = 0 ∧ u.parts[(1 : PartId)].lastK = 2))) = true := by
  decide +kernel

/-! Tables and taps (R134 to R136, R147, R152, R500). -/

/-- `air` with partition 1's tap window on its channel and the model frozen. -/
def tapped : State :=
  (air.mapPart 1 fun x => { x with tabs := { x.tabs with tapHandle := 0x10200, tapPtr := 47 } }).setSlot 0
    { slot1 with set := { settings1 with canc := { settings1.canc with frz := true } }
                 fbc := { Fbc.initial with valid := true, taps := [(47, (-2, 3))] } }

theorem test_tables :
    runs (.glcTableSwap 1 6) base (fun u => decide (u.parts[(1 : PartId)].tabs.gPend = 0x40 ∧ u.parts[(1 : PartId)].tabs.gActive = []) && onward u 1) = true ∧
    runs (.glcEset 1 0x21) base (fun u => decide ((tblGet GTab.initial 1 u.parts[(1 : PartId)].tabs.gShadow).eres = 2) && onward u 1) = true ∧
    runs (.glcTdataWrite 1 0xABFFFE) base (fun u => decide (u.parts[(1 : PartId)].tabs.gPtr = 1) &&
      runs (.glcTdataRead 1 1) (u.mapTabs 1 fun x => { x with gPtr := 0 }) fun v =>
        decide (reg v 1 1 = 0xFFFE ∧ v.parts[(1 : PartId)].tabs.gPtr = 1)) = true ∧
    runs (.fbcTableSwap 1 2) base (fun u => decide (u.parts[(1 : PartId)].tabs.fPend = 4 ∧ u.parts[(1 : PartId)].tabs.fActive = []) && onward u 1) = true ∧
    runs (.fbcTdataWrite 1 0x1234) base (fun u => decide (u.parts[(1 : PartId)].tabs.fPtr = 1) &&
      runs (.fbcTdataRead 1 1) (u.mapTabs 1 fun x => { x with fPtr := 0 }) fun v =>
        decide (reg v 1 1 = 0x1234 ∧ v.parts[(1 : PartId)].tabs.fPtr = 1)) = true ∧
    runs (.chFindRead 1 1) air (fun u => decide (reg u 1 1 = 0x1020000000000) && onward u 1) = true ∧
    runs (.chFindRead 0 1) air (fun u => decide (reg u 0 1 = 0)) = true := by
  decide +kernel

theorem test_taps :
    (tapped.tapChan 1 = some 0 ∧ tapped.adapting (tapped.slot 0) = false) ∧
    runs (.fbcTapdRead 1 1) tapped (fun u => decide (reg u 1 1 = 0x3FFFFFFFE ∧ u.parts[(1 : PartId)].tabs.tapPtr = 0)) = true ∧
    runs (.fbcTapdWrite 1 0xFFFFFFFF00000005) tapped (fun u => decide ((u.slot 0).fbc.valid = false ∧
      tblFind 47 (u.slot 0).fbc.taps = some (5, -1) ∧ u.parts[(1 : PartId)].tabs.tapPtr = 0) && onward u 1) = true ∧
    runs (.fbcTapdRead 1 1) air (fun u => decide (u.parts[(1 : PartId)].lastK = 3) && onward u 1) = true := by
  decide +kernel

/-! Slot operations, charters and service (R182, R183, R495 to R502, R512). -/

/-- BOOT with two copies of a signed image, one also relayed, and a signed charter in slot A. The keys, the image (VERSION 2, a
body of one zero instruction) and the signatures were made outside Lean. -/
def sealed : State :=
  let im := natToBytes
    0xe141b0e027c5bb974ac051060418baab22af616202721293bfae576f8e69d7051d0e8ae8ac82fa9fc992c65fa5ee70162128ed423014afbe24663b166b8d6ab80000000000000000000000000000000000000058a8f7092da125dc02e7828385ade3bbc9f0e81df537cc7a918b8aca7a0f52dd4c71fa6dd7b0e7f8d25bd25707ebad24f5d08e11537eba5b2804498c753e1c470400000000000000000000000000010000000000000001000000000000000000000000000400000002000000014d495244
    196
  let ch := natToBytes
    0x80e56ece825b1bf6b45cde26b9995512ea8f1c4ef20d5b557e3fd1f2eb38e43a1d0e8ae8ac82fa9fc992c65fa5ee70162128ed423014afbe24663b166b8d6ab858a8f7092da125dc02e7828385ade3bbc9f0e81df537cc7a918b8aca7a0f52dd4c71fa6dd7b0e7f8d25bd25707ebad24f5d08e11537eba5b2804498c753e1c4704014a03b60039fbc00005cc603fff6400000000000000000000000000000000070000010148435244
    169
  let h : BitVec 256 := 0xfd1fee555a7ccac80aea39298c08a8f923985fc3d0b31071811e867cfb4c69d9
  { State.reset with
    pwr := { State.reset.pwr with mode := .boot }
    svc := { State.reset.svc with fuse := some h, imgA := im, imgB := im, chainAsk := true }
    cht := { State.reset.cht with fuse := some h, slotA := ch, actReq := true } }

/-- A signed image verifies (R492). -/
theorem witness_image : sealed.imageVerifies sealed.svc.imgA = true := by decide +kernel

/-- A signed charter verifies (R182, R528). -/
theorem witness_charter : sealed.charterVerifies (sealed.cht.slotBytes sealed.cht.idleB) = true := by decide +kernel

/-- With both slots alike the engine boots slot A (R493). -/
theorem witness_boot_slot : sealed.bootSlot = some false := by
  have h : sealed.imageVerifies sealed.svc.imgB = true := witness_image
  simp only [State.bootSlot, witness_image, h]
  decide +kernel

theorem test_slot_operations :
    [ ((Instr.wrimg 0), SlotOp.wrimg), (.wrcht 0, .wrcht), (.actcht 0, .actcht), (.restart 0, .restart), (.confirm 0, .confirm), (.fuse 0, .fuse) ].all
      (fun x => runs x.1 base (fun u => decide (u.svc.op = x.2) && onward u 0) &&
        runs x.1 { base with svc := { base.svc with op := .fuse } } (fun u => decide (u.svc.op = .fuse) && onward u 0)) = true ∧
    runs .slotOpComplete { base with svc := { base.svc with op := .confirm, image := natToBytes (7 * 2 ^ 64) 16, confirmed := 6, trial := true } }
      (fun u => decide (u.svc.op = .none ∧ u.svc.res = 1 ∧ u.svc.trial = false ∧ u.svc.confirmed = 7)) = true ∧
    runs .slotOpComplete { base with svc := { base.svc with op := .wrimg, src := 0x20000 } } (fun u => decide (u.svc.res = 4 ∧ u.svc.op = .none)) = true ∧
    runs .slotOpComplete { base with svc := { base.svc with op := .wrimg, src := 0x10000 } } (fun u => decide (u.svc.res = 2 ∧ u.svc.imgB = [])) = true ∧
    runs .slotOpComplete { base with svc := { base.svc with op := .wrcht, src := 0x10000 } } (fun u =>
      decide (u.svc.res = 1 ∧ u.cht.slotA.length = 153 ∧ u.cht.slotB = [])) = true ∧
    runs .charterActivate { base with cht := { base.cht with actReq := true } } (fun u =>
      decide (u.svc.res = 2 ∧ u.rad.vfail = true ∧ u.cht.force = none ∧ u.cht.actReq = false)) = true := by
  decide +kernel

def offer1 : ReplicaOffer :=
  { fabCfg := 0x0105, tsuCfg := 0, tsuAsym := 0, thmCfg := 0, charter := [1], neighboursMatch := true, idHasAddress := false }

theorem test_service :
    runs .personalitySend { base with svc := { base.svc with replicaOut := true } } (fun u =>
      decide (u.svc.replicaOut = false ∧ u.svc.persOut = some base.personality)) = true ∧
    runs (.personalityOfferRx offer1) base (fun u => decide (u.fab.idSet = true ∧ u.fab.nodeId = 0x105 ∧ u.fab.elect = true ∧ u.cht.slotA = [1]) &&
      runs (.personalityOfferRx { offer1 with fabCfg := 0x0106 }) u fun v =>
        decide (v.fab.idSet = false ∧ v.cht.slotA = [] ∧ v.svc.offerBad = true)) = true ∧
    (let s := { base with tap := { base.tap with st := 2 } }
     runs (.testAccessPortClock true false false) s (fun u => decide (u.tap.st = 9)) &&
     runs (.testAccessPortClock true false true) s (fun u => decide (u.tap.st = 0 ∧ u.tap.ir = []))) = true := by
  decide +kernel

/-! Invariants. -/

/-- The premises of the invariants hold of a state in which tasks, channels and ports are at work. -/
theorem witness_invariants : air.memOk ∧ air.tasksOk ∧ base.memOk ∧ base.tasksOk := by
  simp only [State.memOk, State.tasksOk, Task.ok]
  decide +kernel

theorem witness_ports : air.portsOk ∧ base.portsOk :=
  ⟨⟨by unfold Port.safe; decide +kernel, by decide +kernel⟩, by unfold Port.safe; decide +kernel, by decide +kernel⟩

/-! Further witnesses of the statements' hypotheses. -/

/-- A tag of task 1 under way to `a`, of a posted store where `st`. -/
def tagOf (a : Word) (st : Bool) : Tag :=
  { gen := 0, busy := true, task := 1, part := 1, pgen := 3, store := st, seq := 0, addr := a, deadline := 2000000 }

/-- Sound bytes, nothing posted and nothing stored by another task; a task's unpublished store, a posted store under way, an error that
a code corrects and one that it does not (R325, R352, R379, R381). -/
theorem witness_local_reads :
    (stored.sound 1 0x10100 8 ∧ stored.unjoined 1 1 (key1 + 0x100) 8 = false ∧ stored.postedHere 1 1 0x10100 8 = false) ∧
    (let s := (base.setTask 2 (job 1 1)).setKnow 2 { wrote := [(key1 + 0x104, 2)], seen := [] }
     s.unjoined 1 1 (key1 + 0x100) 8 = true ∧ s.unjoined 1 1 (key1 + 0x100) 4 = false ∧ s.unjoined 2 1 (key1 + 0x100) 8 = false) ∧
    (let s := { stored with fab := { stored.fab with tags := [(5, tagOf (refHere 0x10100) true)] } }
     s.postedHere 1 1 0x10104 4 = true ∧ s.postedHere 1 1 0x10108 4 = false ∧ s.postedHere 0 1 0x10104 4 = false ∧
       s.postedAt 1 (refHere 0x10107) = true) ∧
    (let flawed := fun n => { stored with ms := { stored.ms with flaws := [{ block := (key1 + 0x100) / 32, copy := false, wrong := n }] } }
     (flawed 1).badRead 1 0x10100 8 = false ∧ (flawed 2).badRead 1 0x10100 8 = true ∧ stored.badRead 1 0x1021F 1 = true ∧
       stored.flawsAt false (key1 + 0x21F) 1 = []) := by
  simp only [State.sound]
  decide +kernel

/-- A load waits for the posted store of its task to the same bytes, and not for one beside them; a misaligned store enters the queue as
its two aligned parts (R318, R325). -/
theorem test_local_order :
    (let s := { withRegs stored 1 0x10000 5 with fab := { stored.fab with tags := [(5, tagOf (refHere 0x10100) true)] } }
     runs (.ldW 1 1 2 0x104) s (fun u => decide (stOf u 1 = .waiting (.retry false))) &&
     runs (.ldW 1 1 2 0x108) s (fun u => onward u 1) &&
     runs (.stB 1 3 2 0x107) s (fun u => decide (stOf u 1 = .waiting (.retry false)))) = true ∧
    [(0x101, [(0x10101, 1), (0x10102, 1)]), (0x100, [(0x10100, 2)])].all (fun (x : BitVec 16 × List (Nat × Nat)) =>
      runs (.stH 1 3 2 x.1) (withRegs stored 1 0x10000 0xA1B2) fun u =>
        decide ((u.task? 1).map (fun k => k.sq.map fun e => (e.va, e.bytes)) = some x.2)) = true := by
  decide +kernel

/-- `joined` with every tag outstanding. -/
def tagless : State :=
  { withRegs joined 1 (refAway 0x10000) 0 with
    fab := { joined.fab with tags := (List.range 4096).map fun i => (i, tagOf (refAway 0x20000) false) } }

/-- The two waits of an access to another node: behind a posted store to the same location, and with no tag free (R321, R325). -/
theorem test_global_waits :
    (let behind := { withRegs joined 1 (refAway 0x10000) 0 with fab := { joined.fab with tags := [(5, tagOf (refAway 0x10000) true)] } }
     decide (behind.postedAt 1 (refAway 0x10000) = true) &&
     runs (.gldW 1 1 2 0) behind (fun u => decide (stOf u 1 = .waiting (.retry false)))) = true ∧
    tagless.postedAt 1 (refAway 0x10000) = false ∧ tagless.isHere 7 = false ∧ tagless.reachable 7 = true := by
  decide +kernel

/-- No tag is free there. -/
theorem witness_no_free_tag : tagless.freeTag = none := by
  have find : ∀ (l : List Nat) (i : Nat) (x d : Tag), i ∈ l → tblGet d i (l.map fun j => (j, x)) = x := by
    intro l i x d h
    induction l with
    | nil => simp at h
    | cons j l ih =>
      by_cases e : j = i
      · simp [tblGet, tblFind, e]
      · have : i ∈ l := by simpa [Ne.symm e] using h
        simpa [tblGet, tblFind, e] using ih this
  have none_free : ∀ (ok : Nat → Bool) (n i : Nat), (∀ j, i ≤ j → j < i + n → ok j = false) → firstFree ok n i = none := by
    intro ok n
    induction n with
    | zero => intro i _; rfl
    | succ n ih =>
      intro i h
      have h0 : ok i = false := h i le_rfl (by omega)
      simp only [firstFree, h0]
      exact ih (i + 1) fun j a b => h j (by omega) (by omega)
  refine none_free _ _ _ fun j _ h => ?_
  have tags : tagless.fab.tags = (List.range 4096).map fun i => (i, tagOf (refAway 0x20000) false) := by simp only [tagless]
  have mem : j ∈ List.range 4096 := List.mem_range.2 (by omega)
  rw [State.tagAt, tags, find _ _ _ _ mem]
  rfl

/-- A member's commit that needs lane blocks asks the head, whatever the charter covers of its own profile; with no head there is none to
ask; an anchor's commit of CEIL alone tells the head (R184, R207, R225, R226). -/
theorem test_lane_commits :
    (let s := air.setSlot 0 { slot1 with pend := some { task := 1, vals := [(0x02, 4)] } }
     let r := (s.slot 0).laneProfile ((s.slot 0).request 1 false)
     decide (r.set.member = true ∧ (s.slot 0).needsLane r = true ∧ s.coverable r.set = true ∧ s.fab.headless = true ∧
       s.fab.elect = false) &&
     runs (.chCommitCut 1 1 2) (withRegs s 1 handle1 0) (fun u => decide (reg u 1 1 = 3 ∧ u.rad.slots = s.rad.slots)) &&
     runs (.chCommitCut 1 1 2) (withRegs { s with fab := { s.fab with headless := false } } 1 handle1 0) (fun u =>
       decide (stOf u 1 = .waiting (.commit 1 0 false s.newDeadline) ∧ u.fab.asks.length = 1))) = true ∧
    (let s := air.setSlot 0 { slot1 with set := { settings1 with filt := { settings1.filt with txSide := 4 } }
                                         pend := some { task := 1, vals := [(0x31, 9)] } }
     let r := (s.slot 0).laneProfile ((s.slot 0).request 1 false)
     r.set.anchor = true ∧ (s.slot 0).needsLane r = false ∧ (s.slot 0).tellsHead r = true) := by
  decide +kernel

/-- EN falls where BOOST is withdrawn too, and the transmitter goes on (R39). -/
theorem test_boost_withdrawn :
    runs (.boosterEnFall 2) (boosted fun q => { q with tx := .on, keyAt := 11520000 - 19661, tune := { q.tune with boost := false } })
      (fun u => decide (u.ports[(2 : PortId)].ben = false ∧ u.ports[(2 : PortId)].tx = .on)) = true ∧
    (let s := boosted fun q => { q with tx := .starting, bkey := false }
     s.ports[(2 : PortId)].tune.boost = true ∧ s.ports[(2 : PortId)].ben = true ∧ s.ports[(2 : PortId)].bkey = false ∧
       s.ports[(2 : PortId)].probing = none ∧ s.ports[(2 : PortId)].enAt + 49152 ≤ s.clk.ed) := by
  decide +kernel

/-- A record of another bank waits with its LOs held; one of the same bank and role does not wait (R26, R29, R347). -/
theorem test_bank_change_waits :
    runs (.portTune 0 1 2 3) (withBytes quietAir 3 (tuneBytes 379999 2 0 9 0)) (fun u =>
      decide (reg u 0 1 = 1 ∧ (u.ports[(3 : PortId)].bankWait).map (fun w => (w.bank, w.rxlo, w.txlo)) = some (9, 380000, 380000) ∧
        u.ports[(3 : PortId)].tune.bank = 0)) = true ∧
    quietAir.ports[(3 : PortId)].recordWaits (tuneRecord (tuneBytes 379999 2 0 0 0)) = false ∧
    quietAir.ports[(3 : PortId)].recordWaits (tuneRecord (tuneBytes 379999 2 0 9 0)) = true := by
  decide +kernel

/-- The premises about frames and posted stores of alloc, free and keep (R325, R364, R366). -/
theorem witness_frames :
    (tblGet 0 1 stored.ms.retired + stored.usedGills 1 ≤ tierGills 1 ∧ ∀ r ∈ stored.ms.replicas, r.heat ≤ 65535) ∧
    (∀ q ∈ twoGills.ms.pages.filter (fun q => q.touches 1 0x11FFF 1), twoGills.postedHere 1 1 q.va q.size = false) ∧
    (let fresh := twoGills.ms.pages.filter fun q => q.touches 1 0x11000 1 && !q.keep
     twoGills.keepqFits 1 (gillsOf fresh fun _ => true) = true ∧ gillsOf fresh (fun q => q.tier ≠ 2) ≤ twoGills.freeGills 2) := by
  decide +kernel

/-- free takes from the task's queue the stores to the page, and no others (R364). -/
theorem test_free_drops_stores :
    runs (.freeP 1 1 2 3) (onTask (withRegs twoGills 1 0x11000 0) 1 fun k =>
        { k with sq := [{ va := 0x10FFF, bytes := 1, value := 1 }, { va := 0x11000, bytes := 1, value := 2 }, { va := 0x11FFF, bytes := 1, value := 3 }] })
      (fun u => decide (reg u 1 1 = 1 ∧ (u.task? 1).map (fun k => k.sq.map (·.va)) = some [0x10FFF])) = true := by
  decide +kernel

/-- A probe of a channel never committed has no effect but an invalid result (R154). -/
theorem test_probe_of_uncommitted :
    runs (.chProbe 1 1 2 15) (withRegs (probeReady.setSlot 0 { slot1 with committed := false, set := Settings.default }) 1 handle1 0) (fun u =>
      decide (reg u 1 1 = 1 ∧ (u.slot 0).fbc.pcode = 3 ∧ u.ports = probeReady.ports ∧ u.rad.refuse = false)) = true ∧
    probeReady.cht.force.isSome = true ∧ probeReady.pwr.mode = .isolate := by
  decide +kernel

/-- A held re-arm whose HOLD has passed, within a round. -/
def rearming : State :=
  { air.setSlot 0 { slot1 with guard := { slot1.guard with fenced := true, causes := 2, arm := .tenant } } with
    clk := { air.clk with ed := 98304000 } }

/-- A held re-arm takes effect at the next round boundary (R173, R177). -/
theorem test_rearm_at_boundary :
    (rearming.rearmDue 0 = true ∧ rearming.nextBoundary.rearmDue 0 = true ∧ (rearming.nextBoundary.slot 0).guard.arm = .tenant ∧
      rearming.nextBoundary.armPasses 0 = true) ∧
    runs (.heldRearmEffect 0) rearming (fun u => decide ((u.slot 0).guard.fenced = false ∧ u.clk.ed = 98304768)) = true := by
  decide +kernel

/-- `memberAir` with a commit whose answer is overdue, and with one whose answer is to be dropped. -/
def overdue : State := onTask (withRegs memberAir 1 handle1 0) 1 fun k => { k with st := .waiting (.commit 1 0 false 999999) }

def dropping (due : Nat) : State := { memberAir with rad := { memberAir.rad with dropAns := [(0, due)] } }

/-- An answer after SW.FAB_TTO is a refusal; the answer of a commit that ended with its task has no effect (R19, R340). -/
theorem test_late_and_dropped_answers :
    (overdue.answerLate 0 = true ∧ overdue.dropsAnswer 0 = false ∧ overdue.holdsAnswers 0 = false ∧
      (dropping 1000000).dropsAnswer 0 = true ∧ (dropping 999999).dropsAnswer 0 = false) ∧
    runs (.commitLaneResult 0 answer1) overdue (fun u => decide (reg u 1 1 = 3 ∧ u.rad.slots = memberAir.rad.slots)) = true ∧
    runs (.commitLaneResult 0 answer1) (dropping 1000000) (fun u => decide (u.rad.slots = memberAir.rad.slots)) = true := by
  decide +kernel

/-- An answer that no commit waits for maps the lane anew, in WATCH too, or mutes its channel (R21, R212). -/
theorem test_answers_of_relayed_lanes :
    [Mode.watch, .relay].all (fun m =>
      let s := { memberAir with pwr := { memberAir.pwr with mode := m } }
      runs (.commitLaneResult 0 answer1) s (fun u =>
        decide ((u.slot 0).trunk.dL = 61056 ∧ (u.slot 0).trunk.ceil = 70000 ∧ (u.slot 0).trunk.ta0 = 5)) &&
      runs (.commitLaneResult 0 { answer1 with granted := false }) s (fun u =>
        decide ((u.slot 0).trunk.lost = true ∧ (u.slot 0).muteReq.trk = true))) = true := by
  decide +kernel

/-- A message of node 7 with sequence number `n`. -/
def numbered (n : Nat) : Msg := { body := [1, 2], srcNode := 7, srcPart := 1, seen := [], seq := some n }

/-- Messages of one node enter in the order of their numbers, modulo 2^16, whichever arrives first; a full mailbox drops a message of
another node (R355). -/
theorem test_message_order :
    placeMsg (numbered 5) [numbered 4, numbered 6] = [numbered 4, numbered 5, numbered 6] ∧
    placeMsg (numbered 0xFFFF) [numbered 0] = [numbered 0xFFFF, numbered 0] ∧
    placeMsg { numbered 5 with srcNode := 8 } [numbered 6] = [numbered 6, { numbered 5 with srcNode := 8 }] ∧
    runs (.cellRx 0 (cell1 5).hdr ⟨(cell1 5).payload, (cell1 5).part, (cell1 5).mbox⟩) (joined.setBox 11 [numbered 6])
      (fun u => decide (u.box 11 = [numbered 5, numbered 6])) = true ∧
    (let full := joined.setBox 11 (List.replicate 16 (numbered 1))
     decide ((full.box 11).length = 16 ∧ full.fab.late = [] ∧ ∀ e ∈ full.fab.partial', e.2.box ≠ some 11) &&
     runs (.cellRx 0 (cell1 5).hdr ⟨(cell1 5).payload, (cell1 5).part, (cell1 5).mbox⟩) full (fun u =>
       decide (u.box 11 = full.box 11))) = true := by
  decide +kernel

/-- A home answers up to the deadline and sends nothing one ns after it (R214). -/
theorem test_late_home_response :
    (let q : MemRequest := { node := 7, part := 1, pgen := 3, op := 0, ref := refHere 0x10100, bytes := 4, data := 0, cmp := 0,
                             tag := 9, gen := 2, deadline := 1000000 }
     decide (joined.fabNs = 1000000 ∧ joined.cutOff 7 = false ∧ joined.fab.addr.isSome = true ∧ joined.fab.noAddr = false ∧
       joined.allocatedRange 1 0x10100 4 = true) &&
     runs (.homeRequestRx ⟨q, 4⟩) joined (fun u => decide (u.fab.out.length = 1)) &&
     runs (.homeRequestRx ⟨{ q with deadline := 999999 }, 4⟩) joined (fun u =>
       decide (u.fab.out = [] ∧ tblGet 0 135 u.obs.counters = 1))) = true := by
  decide +kernel

/-- The departure kept of the frame that an ECHO names goes before the operand (R252). -/
theorem test_kept_departure :
    (let s := timed.mapLink 0 fun x => { x with synced := true, syncT3 := 16, syncT4 := 40, departed := [(7, 80)] }
     decide (s.links[(0 : LinkId)].departure 0x2000000000640007 5 = 80 ∧ s.links[(0 : LinkId)].departure 0x2000000000640008 5 = 5 ∧
       s.isParent 0 = true) &&
     runs (.timeEchoRx 0 0x2000000000640007 5) s fun u => decide (u.links[(0 : LinkId)].delays = [22])) = true := by
  decide +kernel

/-- A page that band 4 evicted stays in MRAM; the coldest that fits is evicted (R369, R378). -/
theorem test_evicted_pages :
    (let s := { tiered 2 65 with ms := { (tiered 2 65).ms with band := 4, pages := (tiered 2 65).ms.pages.map fun q => { q with evicted := decide (q.tier = 2) } } }
     decide ((s.pageAt 1 0x10000).map s.heldOut = some true ∧ ((tiered 2 65).pageAt 1 0x10000).map (tiered 2 65).heldOut = some false ∧
       (1 : Nat) ≤ (tiered 2 65).roomGills 1) &&
     runs (.pageMigrate 1 0x10000 1) s fun u => decide (u.ms.pages.map (·.tier) = [1, 2])) = true ∧
    coldest (stored.ms.pages.filter fun p => p.tier = 1 && !p.keep && decide (p.gills ≤ stored.freeGills 2)) = some (gill 0 0x10000) := by
  decide +kernel

/-- A keep page's MRAM copy and a free frame are scrubbed; the codes of DRAM and MRAM at their limits (R379, R380). -/
theorem test_scrub_frames :
    (let kept := { stored with ms := { stored.ms with pages := [gill 0 0x10000, { gill 1 0x10000 with keep := true }] } }
     runs (.patrolScrub 1 0x10100 ⟨.copy, 2⟩) kept (fun u => decide (u.ms.ce = true ∧ u.ms.ue = false)) &&
     runs (.patrolScrub 1 0x10100 ⟨.copy, 3⟩) kept (fun u => decide (u.ms.ue = true))) = true ∧
    runs (.patrolScrub 1 0x10100 ⟨.working, 2⟩) (tiered 2 0) (fun u => decide (u.ms.ce = true ∧ u.ms.ue = false)) = true ∧
    runs (.patrolScrub 1 0x10FE0 ⟨.working, 0⟩) stored (fun u => decide (u.ms.scrub = false)) = true ∧
    [(1, 1), (2, 2), (0, 1)].all (fun (x : Fin 3 × BitVec 2) =>
      runs (.patrolScrub 1 0 ⟨.free x.1 0, x.2⟩) stored fun u => decide (u.ms.ce = true ∧ u.ms.mem = stored.ms.mem)) = true ∧
    (∀ t : Fin 3, 0 < stored.freeGills t) := by
  decide +kernel

/-- A replica is taken where its page is read often and DRAM has a frame; one read less leaves all as it is (R372). -/
theorem test_replica_heat :
    (let s := fun h => { joined with ms := { joined.ms with readHeat := [((refAway 0x10000).toNat / 4096, h)] } }
     let base' := (refAway 0x10000).toNat % 2 ^ 62 / 4096 * 4096
     decide ((s 256).remoteHeat base' 4096 = 256 ∧ 1 ≤ (s 256).freeGills 1 ∧ (s 256).isHere 3 = true ∧ (s 256).isHere 7 = false) &&
     runs (.replicaRequest 3 (refAway 0x10000) ⟨List.replicate 4096 5, [2]⟩) (s 256) (fun u => decide (u.ms.replicas.map (·.bad) = [[2]])) &&
     runs (.replicaRequest 3 (refAway 0x10000) ⟨List.replicate 4096 5, [2]⟩) (s 255) (fun u => decide (u = s 255))) = true ∧
    (memKey 1 0x10000 ∉ joined.ms.asked ∧ joined.reachable 7 = true ∧ joined.isHere 7 = false) := by
  decide +kernel

/-- `base` in DOZE with a request of SURVEY. -/
def dozy : State := { base with pwr := { base.pwr with mode := .doze, base := .quiet, req := some .survey } }

/-- A stop of the pair in DOZE leaves the tasks until the exit to WATCH (R284, R429). -/
theorem test_stop_in_doze :
    runs (.wardenStop true) dozy (fun u =>
      decide (u.pwr.mode = .doze ∧ u.pwr.wardenWait = true ∧ u.pwr.wakeReq = true ∧ u.pwr.req = none ∧ u.cpu.tasks.length = 2)) = true ∧
    runs (.wardenStop true) dozy (fun u => runs .wardenRestart u fun v => decide (v.cpu.wrun = false)) = true ∧
    runs (.wardenStop true) dozy (fun u => runs .dozeExit u fun v =>
      decide (v.pwr.mode = .watch ∧ v.cpu.tasks = [] ∧ v.pwr.wardenWait = false)) = true := by
  decide +kernel

/-- In WATCH no mode request passes while the pair is stopped, and a running pair's passes (R22). -/
theorem test_request_in_watch :
    let s := { base with pwr := { base.pwr with mode := .watch, req := some .survey } }
    (s.nextBoundary.pwr.req = some .survey ∧ s.nextBoundary.pwr.mode = .watch) ∧
    runs .modeTransition { s with cpu := { s.cpu with wrun := false } } (fun u =>
      decide (u.pwr.mode = .watch ∧ u.pwr.req = some .survey)) = true ∧
    runs .modeTransition s (fun u => decide (u.pwr.mode = .survey ∧ u.pwr.req = none)) = true := by
  decide +kernel

/-- The reference wants its 10 s anew after a loss; a port's synthesiser does not lock while the main clock is lost (R60, R61, R74). -/
theorem test_holdover_and_held_locks :
    runs .tsuSourceLost { timed with
        tsu := { timed.tsu with st := 2, srcPresent := true, everLocked := true, peerState := 3 }, syn := { timed.syn with ref := 2, inSince := some 0 } }
      (fun u => decide (u.syn.ref = 3 ∧ u.syn.inSince = none)) = true ∧
    (let s := { air.mapPort 0 fun q => { q with retune := some .locking, lock := false } with syn := { air.syn with mainLk := false, mainLost := true } }
     decide (s.engineHeld = true) && runs (.portSynthLocked 0) s fun u => decide (u = s)) = true := by
  decide +kernel


end Sys2Proof.Tests
end

/-! O60: the state right after reset. -/

namespace Sys2Proof.Machine

/-- After reset every port has the values of R32. -/
theorem State.reset_port (p : PortId) : State.reset.ports[p] = Port.initial :=
  Vector.getElem_replicate p.isLt

/-- After reset every link has the values of R221. -/
theorem State.reset_link (l : LinkId) : State.reset.links[l] = Link.initial :=
  Vector.getElem_replicate l.isLt

/-- No slot is listed at reset, so every slot reads as a FREE one. -/
@[simp] theorem State.reset_slot (n : Nat) : State.reset.slot n = Slot.initial := rfl

@[simp] theorem State.reset_tasks : State.reset.cpu.tasks = [] := rfl

/-- A port at reset is held by RFKILL_N (R48), so what makes it safe is that it neither transmits nor keys its booster. -/
theorem Port.initial_safe : Port.initial.safe := by
  have quiet : Port.initial.tx = .off ∧ Port.initial.bkey = false := ⟨rfl, rfl⟩
  have noProbe : Port.initial.tune.state = .off ∧ Port.initial.bankWait = none ∧ Port.initial.target = none := ⟨rfl, rfl, rfl⟩
  simp [Port.safe, quiet, noProbe]

/-- There is no task at reset, and SW.PART_ENTRY is zero. -/
theorem State.reset_tasksOk : State.reset.tasksOk := by
  have entry : State.reset.pw.entry = 0 := rfl
  simp [State.tasksOk, entry]

/-- RFKILL_N is low at reset, and every port is held by it (R48, R49). -/
theorem State.reset_portsOk : State.reset.portsOk := by
  refine ⟨fun p => ?_, fun _ p => ?_⟩
  · rw [State.reset_port]
    exact Port.initial_safe
  · rw [State.reset_port]
    rfl

/-- Settles O60: each invariant holds of the reset state, and its slots, ports and links have their initial values. -/
theorem resetIsSafe : Obligations.ResetIsSafe := by
  refine ⟨State.reset_memOk, State.reset_tasksOk, State.reset_portsOk, rfl, rfl, State.reset_tasks, fun n => ?_, fun p => ?_, fun l => ?_⟩
  · rw [State.reset_slot]
    rfl
  · rw [State.reset_port]
    exact ⟨rfl, rfl, rfl⟩
  · rw [State.reset_link]
    rfl

end Sys2Proof.Machine

/-! O49: the Warden pair and the modes. -/

namespace Sys2Proof.Machine

/-! What work on ports, probes, records and events keeps of the modes and the cores. -/

/-- Mode and power control are as before, and with no task in the engine the cores and the Warden pair are too: what no work on
ports, probes, records and sticky events changes. -/
structure State.KeepsModes (s u : State) : Prop where
  pwr : u.pwr = s.pwr
  cpu : s.cpu.tasks = [] → u.cpu = s.cpu

theorem State.keepsModes_of_eq {s u : State} (hp : u.pwr = s.pwr) (hc : u.cpu = s.cpu) : s.KeepsModes u := ⟨hp, fun _ => hc⟩

theorem State.keepsModes_refl (s : State) : s.KeepsModes s := State.keepsModes_of_eq rfl rfl

theorem State.KeepsModes.trans {s u v : State} (h1 : s.KeepsModes u) (h2 : u.KeepsModes v) : s.KeepsModes v where
  pwr := h2.pwr.trans h1.pwr
  cpu := fun h => (h2.cpu (by rw [h1.cpu h, h])).trans (h1.cpu h)

theorem State.keepsModes_foldl {α : Type} (f : State → α → State) (hf : ∀ (s : State) (a : α), s.KeepsModes (f s a))
    (l : List α) (s : State) : s.KeepsModes (l.foldl f s) := by
  induction l generalizing s with
  | nil => exact s.keepsModes_refl
  | cons a l ih => exact (hf s a).trans (ih _)

/-! Records and error lines (R463, R477). -/

@[simp] theorem State.lineRise_cpu (s : State) (n : SubId) (kind : Byte) : (s.lineRise n kind).cpu = s.cpu := by
  unfold State.lineRise
  split <;> rfl

@[simp] theorem State.lineFall_cpu (s : State) (n : SubId) : (s.lineFall n).cpu = s.cpu := by
  unfold State.lineFall
  split <;> rfl

@[simp] theorem State.linePulse_cpu (s : State) (n : SubId) (kind : Byte) : (s.linePulse n kind).cpu = s.cpu := by
  unfold State.linePulse
  split
  · rfl
  · simp

@[simp] theorem State.log_cpu (s : State) (code p0 p1 p2 : Nat) : (s.log code p0 p1 p2).cpu = s.cpu := by
  simp only [State.log, State.logFull]
  split
  · rfl
  · split
    · simp
    · rfl

@[simp] theorem State.linePulse_pwr (s : State) (n : SubId) (kind : Byte) : (s.linePulse n kind).pwr = s.pwr :=
  (s.linePulse_keeps n kind).pwr

@[simp] theorem State.log_pwr (s : State) (code p0 p1 p2 : Nat) : (s.log code p0 p1 p2).pwr = s.pwr :=
  (s.log_keeps code p0 p1 p2).pwr

/-- RFE's error line follows the booster faults. -/
theorem State.rfeLine_keepsModes (s : State) : s.KeepsModes s.rfeLine := by
  unfold State.rfeLine State.lineLevel
  split
  · exact State.keepsModes_of_eq (s.lineRise_keeps _ _).pwr (s.lineRise_cpu _ _)
  · exact State.keepsModes_of_eq (s.lineFall_keeps _).pwr (s.lineFall_cpu _)

/-! Ports and probes (R33 to R39, R156). -/

theorem State.drive_keepsModes (s : State) (p : PortId) : s.KeepsModes (s.drive p) := by
  unfold State.drive
  dsimp only
  split
  · exact s.keepsModes_refl
  · exact State.keepsModes_of_eq rfl rfl

theorem State.driveAll_keepsModes (s : State) : s.KeepsModes s.driveAll := State.keepsModes_foldl _ State.drive_keepsModes _ s

theorem State.startRetune_keepsModes (s : State) (p : PortId) : s.KeepsModes (s.startRetune p) := State.keepsModes_of_eq rfl rfl

theorem State.deriveOffsets_keepsModes (s : State) : s.KeepsModes s.deriveOffsets := State.keepsModes_of_eq rfl rfl

theorem State.mapPort_keepsModes (s : State) (p : PortId) (f : Port → Port) : s.KeepsModes (s.mapPort p f) :=
  State.keepsModes_of_eq rfl rfl

theorem State.beginBank_keepsModes (s : State) (p : PortId) : s.KeepsModes (s.beginBank p) := by
  unfold State.beginBank
  dsimp only
  split
  · exact s.keepsModes_refl
  · split
    · exact s.mapPort_keepsModes _ _
    · split
      · exact s.keepsModes_refl
      · split
        · exact ((s.mapPort_keepsModes _ _).trans (State.startRetune_keepsModes _ _)).trans (State.deriveOffsets_keepsModes _)
        · exact s.mapPort_keepsModes _ _

/-- A port takes a record: a retune or a bank change may begin, and the port moves (R26, R29, R347). -/
theorem State.applyTune_keepsModes (s : State) (p : PortId) (r : TuneRec) : s.KeepsModes (s.applyTune p r) := by
  have retuned : ∀ (c : Bool) (u : State), u.KeepsModes (if c then u.startRetune p else u) := fun c u => by
    cases c
    · exact u.keepsModes_refl
    · exact u.startRetune_keepsModes p
  have freed : ∀ (c : Bool) (a : PartId) (u : State), u.KeepsModes (if c then u.freeOutputs p a else u) := fun c a u => by
    cases c
    · exact u.keepsModes_refl
    · exact State.keepsModes_of_eq rfl rfl
  unfold State.applyTune
  exact (retuned _ s).trans <| (freed _ _ _).trans <| (State.mapPort_keepsModes _ p _).trans <|
    (State.rfeLine_keepsModes _).trans <| (State.deriveOffsets_keepsModes _).trans <|
    (State.drive_keepsModes _ p).trans (State.beginBank_keepsModes _ p)

theorem State.leaveProbe_keepsModes (s : State) (p : PortId) : s.KeepsModes (s.leaveProbe p) := by
  unfold State.leaveProbe
  dsimp only
  split
  · exact (s.mapPort_keepsModes p _).trans (State.applyTune_keepsModes _ p _)
  · exact ((s.mapPort_keepsModes p _).trans (State.mapPort_keepsModes _ p _)).trans (State.drive_keepsModes _ p)

/-! Sticky events (R354). -/

/-- A sticky event wakes nobody where there is no task. -/
theorem State.event_keepsModes (s : State) (p : PartId) (bit : Nat) : s.KeepsModes (s.event p bit) where
  pwr := (s.event_keeps p bit).pwr
  cpu := fun h => by simp [State.event, State.wakeEvents, h, eventWaiters]

theorem State.eventAll_keepsModes (s : State) (bit : Nat) : s.KeepsModes (s.eventAll bit) := by
  refine State.keepsModes_foldl _ (fun u p => ?_) _ s
  split
  · exact u.event_keepsModes p bit
  · exact u.keepsModes_refl

theorem State.probeInvalid_keepsModes (s : State) (k : Nat) : s.KeepsModes (s.probeInvalid k) := by
  unfold State.probeInvalid
  dsimp only
  split
  · refine State.KeepsModes.trans ?_ (State.event_keepsModes _ _ _)
    exact State.keepsModes_of_eq rfl rfl
  · exact State.keepsModes_of_eq rfl rfl

theorem State.abortBurst_keepsModes (s : State) (p : PortId) : s.KeepsModes (s.abortBurst p) := by
  unfold State.abortBurst
  split
  · exact (s.leaveProbe_keepsModes p).trans (State.probeInvalid_keepsModes _ _)
  · exact s.keepsModes_refl

theorem State.abortProbes_keepsModes (s : State) : s.KeepsModes s.abortProbes :=
  (State.keepsModes_foldl _ State.abortBurst_keepsModes _ s).trans
    (State.keepsModes_foldl _ (fun u _ => u.probeInvalid_keepsModes _) _ _)

/-! Entering a mode (R429). -/

/-- Ports and programs follow a mode (R34, R354). -/
theorem State.followMode_keepsModes (s : State) : s.KeepsModes (s.driveAll.eventAll 10) :=
  s.driveAll_keepsModes.trans (State.eventAll_keepsModes _ 10)

/-- Bursts end on a change out of ISOLATE (R36). -/
theorem State.endBursts_keepsModes (s : State) (m : Mode) :
    s.KeepsModes (if s.pwr.mode = .isolate ∧ m ≠ .isolate then s.abortProbes else s) := by
  split
  · exact s.abortProbes_keepsModes
  · exact s.keepsModes_refl

@[simp] theorem State.enterMode_mode (s : State) (m : Mode) : (s.enterMode m).pwr.mode = m := by
  rw [State.enterMode, (State.followMode_keepsModes _).pwr]

@[simp] theorem State.enterMode_req (s : State) (m : Mode) : (s.enterMode m).pwr.req = none := by
  rw [State.enterMode, (State.followMode_keepsModes _).pwr]

@[simp] theorem State.enterMode_watchFrom (s : State) (m : Mode) : (s.enterMode m).pwr.watchFrom = s.pwr.watchFrom := by
  rw [State.enterMode, (State.followMode_keepsModes _).pwr, (s.endBursts_keepsModes m).pwr]

/-- Only the first ISOLATE starts the calibration (R497). -/
theorem State.enterMode_calib (s : State) {m : Mode} (h : m ≠ .isolate) : (s.enterMode m).pwr.calib = s.pwr.calib := by
  rw [State.enterMode, (State.followMode_keepsModes _).pwr, (s.endBursts_keepsModes m).pwr]
  simp [h]

theorem State.enterMode_cpu {s : State} (h : s.cpu.tasks = []) (m : Mode) : (s.enterMode m).cpu = s.cpu := by
  have probes := (s.endBursts_keepsModes m).cpu h
  rw [State.enterMode, (State.followMode_keepsModes _).cpu]
  · exact probes
  · exact (congrArg Cpu.tasks probes).trans h

/-- Out of a mode other than SILENCED a change of mode is the entry alone (R24). -/
theorem State.changeMode_eq {s : State} (h : s.pwr.mode ≠ .silenced) (m : Mode) : s.changeMode m = s.enterMode m := by
  simp [State.changeMode, h]

/-! Entering WATCH (R20, R429). -/

/-- WATCH is entered, or waits for the exit of R439, or another mode takes precedence (R24). -/
theorem State.enterWatch_cases (s : State) :
    s.enterWatch = ({ s with pwr := { s.pwr with watchFrom := s.pwr.mode } }).dropArms.enterMode .watch ∨
      s.enterWatch = { s with pwr := { s.pwr with wakeReq := true, wardenWait := true, req := none } } ∨
      s.enterWatch = s := by
  unfold State.enterWatch
  split <;> simp only [true_or, or_true]

theorem State.enterWatch_cpu {s : State} (h : s.cpu.tasks = []) : s.enterWatch.cpu = s.cpu := by
  rcases s.enterWatch_cases with e | e | e
  · rw [e, State.enterMode_cpu (by exact h)]
    rfl
  · rw [e]
  · rw [e]

/-- A request that does not stand when WATCH is entered does not stand then. -/
theorem State.enterWatch_req {s : State} (h : s.pwr.req = none) : s.enterWatch.pwr.req = none := by
  rcases s.enterWatch_cases with e | e | e
  · rw [e, State.enterMode_req]
  · rw [e]
  · rw [e, h]

theorem State.enterWatch_quiet {s : State} (h : s.pwr.mode = .quiet) :
    s.enterWatch.pwr.mode = .watch ∧ s.enterWatch.pwr.watchFrom = .quiet := by
  simp [State.enterWatch, h, State.dropArms]

/-! The end of every task (R284). -/

/-- The ends of tasks: the modes remain, and of the pair whether it runs, its stops and whether it is kept stopped. -/
structure State.EndsTasks (s u : State) : Prop where
  pwr : u.pwr = s.pwr
  stops : u.cpu.stops = s.cpu.stops
  wrun : u.cpu.wrun = s.cpu.wrun
  wardenHeld : u.cpu.wardenHeld = s.cpu.wardenHeld

theorem State.EndsTasks.trans {s u v : State} (h1 : s.EndsTasks u) (h2 : u.EndsTasks v) : s.EndsTasks v where
  pwr := h2.pwr.trans h1.pwr
  stops := h2.stops.trans h1.stops
  wrun := h2.wrun.trans h1.wrun
  wardenHeld := h2.wardenHeld.trans h1.wardenHeld

@[simp] theorem State.dropWait_cpu (s : State) (t : Nat) : (s.dropWait t).cpu = s.cpu := by
  unfold State.dropWait
  split
  · split <;> rfl
  · rfl

theorem State.dropWait_endsTasks (s : State) (t : Nat) : s.EndsTasks (s.dropWait t) := by
  refine ⟨(s.dropWait_keeps t).pwr, ?_, ?_, ?_⟩ <;> rw [State.dropWait_cpu]

theorem State.freeIndex_endsTasks (s : State) (t : Nat) : s.EndsTasks (s.freeIndex t) := ⟨rfl, rfl, rfl, rfl⟩

/-- One task ends with no result: what it waits for is dropped and its index is free (R19, R280). -/
def State.endOne (s : State) (x : Nat × Task) : State := (s.dropWait x.1).freeIndex x.1

theorem State.endOne_endsTasks (s : State) (x : Nat × Task) : s.EndsTasks (s.endOne x) :=
  (s.dropWait_endsTasks x.1).trans (State.freeIndex_endsTasks _ x.1)

theorem State.endOne_tasks (s : State) (x : Nat × Task) : (s.endOne x).cpu.tasks = tblDel x.1 s.cpu.tasks := by
  rw [← s.dropWait_cpu x.1]
  rfl

theorem State.endOnes_endsTasks (l : List (Nat × Task)) (s : State) : s.EndsTasks (l.foldl State.endOne s) := by
  induction l generalizing s with
  | nil => exact ⟨rfl, rfl, rfl, rfl⟩
  | cons x l ih => exact (s.endOne_endsTasks x).trans (ih _)

theorem tblDel_eq_filter {α : Type} (k : Nat) (t : List (Nat × α)) : tblDel k t = t.filter fun x => decide (x.1 ≠ k) := by
  induction t with
  | nil => rfl
  | cons x t ih =>
    obtain ⟨j, a⟩ := x
    by_cases h : j = k <;> simp [tblDel, h, ih]

/-- A task is left only at an index that was not among those that ended. -/
theorem State.endOnes_tasks {l : List (Nat × Task)} {s : State} {y : Nat × Task} (h : y ∈ (l.foldl State.endOne s).cpu.tasks) :
    y ∈ s.cpu.tasks ∧ ∀ x ∈ l, y.1 ≠ x.1 := by
  induction l generalizing s with
  | nil => exact ⟨h, by simp⟩
  | cons x l ih =>
    obtain ⟨hy, hl⟩ := ih h
    rw [State.endOne_tasks, tblDel_eq_filter, List.mem_filter, decide_eq_true_eq] at hy
    exact ⟨hy.1, List.forall_mem_cons.mpr ⟨hy.2, hl⟩⟩

theorem State.dropHeld_endsTasks (s : State) : s.EndsTasks s.dropHeld ∧ s.dropHeld.cpu.tasks = s.cpu.tasks := by
  unfold State.dropHeld
  dsimp only
  split <;> exact ⟨⟨rfl, rfl, rfl, rfl⟩, rfl⟩

/-- No task is left, and the rest of the pair and the modes stays. -/
theorem State.endAllTasks_ends (s : State) : s.endAllTasks.cpu.tasks = [] ∧ s.EndsTasks s.endAllTasks := by
  obtain ⟨held, tasks⟩ := s.dropHeld_endsTasks
  refine ⟨List.eq_nil_iff_forall_not_mem.mpr fun y hy => ?_, ?_⟩
  · obtain ⟨hm, hne⟩ := State.endOnes_tasks (l := s.cpu.tasks) (s := s.dropHeld) hy
    rw [tasks] at hm
    exact hne y hm rfl
  · obtain ⟨hp, hs, hw, hh⟩ := held.trans (State.endOnes_endsTasks s.cpu.tasks s.dropHeld)
    exact ⟨hp, hs, hw, hh⟩

/-! The stop of the pair (R22, R284). -/

/-- The state in which the pair stands still and its requests are discarded. -/
def State.pairStill (s : State) : State :=
  { s with cpu := { s.cpu with wrun := false }, pwr := { s.pwr with req := none }, cht := { s.cht with heldMode := none } }

/-- Where the engine does not doze, every task ends with the entry to WATCH (R284). -/
theorem State.pairStopped_awake {s : State} (h : s.dozing = false) : s.pairStopped = s.pairStill.endAllTasks.enterWatch := by
  simp only [State.dozing, Bool.or_eq_false_iff, decide_eq_false_iff_not] at h
  unfold State.pairStopped
  split
  · exact absurd ‹_› h.1
  · exact absurd ‹_› h.2
  · rfl

/-- In DOZE and HIBERNATE the exit of R439 comes first (R429). -/
theorem State.pairStopped_dozing {s : State} (h : s.dozing = true) :
    s.pairStopped.pwr = { s.pwr with wakeReq := true, wardenWait := true, req := none } ∧
      s.pairStopped.cpu.wrun = false ∧ s.pairStopped.cpu.stops = s.cpu.stops ∧
      s.pairStopped.cpu.wardenHeld = s.cpu.wardenHeld := by
  have hm : s.pwr.mode = .doze ∨ s.pwr.mode = .hibernate := by simpa [State.dozing] using h
  rcases hm with hm | hm <;> simp [State.pairStopped, State.enterWatch, hm]

/-- A stop in any mode: the pair stands still and no request is left; its stops stay as they are recorded. -/
theorem State.pairStopped_standsStill (s : State) :
    s.pairStopped.cpu.wrun = false ∧ s.pairStopped.pwr.req = none ∧ s.pairStopped.cpu.stops = s.cpu.stops ∧
      s.pairStopped.cpu.wardenHeld = s.cpu.wardenHeld := by
  cases hd : s.dozing
  case true =>
    obtain ⟨hp, hrun, hstops, hheld⟩ := State.pairStopped_dozing hd
    exact ⟨hrun, by rw [hp], hstops, hheld⟩
  case false =>
    obtain ⟨hnone, hp, hstops, hrun, hheld⟩ := s.pairStill.endAllTasks_ends
    rw [State.pairStopped_awake hd, State.enterWatch_cpu hnone]
    exact ⟨hrun, State.enterWatch_req (by rw [hp]; rfl), hstops, hheld⟩

theorem State.pairStopped_tasks {s : State} (h : s.dozing = false) : s.pairStopped.cpu.tasks = [] := by
  have hnone := s.pairStill.endAllTasks_ends.1
  rw [State.pairStopped_awake h, State.enterWatch_cpu hnone, hnone]

theorem State.pairStopped_quiet {s : State} (h : s.pwr.mode = .quiet) :
    s.pairStopped.pwr.mode = .watch ∧ s.pairStopped.pwr.watchFrom = .quiet := by
  rw [State.pairStopped_awake (by simp [State.dozing, h])]
  apply State.enterWatch_quiet
  rw [s.pairStill.endAllTasks_ends.2.pwr]
  exact h

/-- WARDEN_STOP is the pair's stop in a state with the modes of `s`, the present stop among those of the pair, and with the third
stop the pair kept stopped (R284). -/
theorem execWardenStop_eq {s : State} (halted : Bool) (hrun : s.cpu.wrun = true) :
    ∃ u : State, execWardenStop halted s = .next u.pairStopped ∧ u.pwr = s.pwr ∧ u.cpu.stops = s.opMs :: s.recentStops ∧
      u.cpu.wardenHeld = (s.cpu.wardenHeld || decide (3 ≤ (s.opMs :: s.recentStops).length)) := by
  refine ⟨_, congrArg Host.Outcome.next (if_pos hrun), ?_, ?_, ?_⟩
  -- with or without the record of a third stop
  all_goals
    dsimp only
    split <;> simp

/-- What a stop of the pair gives (R20, R22, R284, R429). -/
theorem wardenStop_gives (s : State) (halted : Bool) (hrun : s.cpu.wrun = true) :
    s.gives (.wardenStop halted) fun u => u.cpu.wrun = false ∧ u.pwr.req = none ∧
      (s.dozing = false → u.cpu.tasks = []) ∧
      (s.dozing = true → u.pwr.mode = s.pwr.mode ∧ u.pwr.wardenWait = true ∧ u.pwr.wakeReq = true) ∧
      u.cpu.stops = s.opMs :: s.recentStops ∧
      (s.pwr.mode = .quiet → u.pwr.mode = .watch ∧ u.pwr.watchFrom = .quiet) ∧
      (2 ≤ s.recentStops.length → u.cpu.wardenHeld = true) := by
  obtain ⟨v, hexec, hp, hstops, hheld⟩ := execWardenStop_eq halted hrun
  obtain ⟨still, noReq, stops, held⟩ := v.pairStopped_standsStill
  have hdoze : v.dozing = s.dozing := by rw [State.dozing, hp, State.dozing]
  refine ⟨v.pairStopped, hexec, still, noReq, fun h => ?_, fun h => ?_, stops.trans hstops, fun h => ?_, fun h => ?_⟩
  · exact State.pairStopped_tasks (hdoze.trans h)
  · obtain ⟨hpwr, -⟩ := State.pairStopped_dozing (hdoze.trans h)
    rw [hpwr, hp]
    exact ⟨rfl, rfl, rfl⟩
  · exact State.pairStopped_quiet (by rw [hp, h])
  · simp [held, hheld, h]

/-! The restart of the pair (R284, R530). -/

/-- The first task of an engine without tasks takes the lowest index, 0 (DESIGN CHOICE, log 23). -/
theorem State.addTask_first {s : State} (h : s.cpu.tasks = []) (k : Task) :
    s.addTask k = ((s.setTask 0 k).newIndex 0).makeReady 0 := by
  have h0 : s.freeTask = some 0 := by
    simp [State.freeTask, firstFree, State.task?, h, tblFind]
  simp only [State.addTask, h0]

/-- A task of P0 that has run nowhere, the only one of an engine whose programs run, is placed on the lowest context of the pair, 32
(R282, R395; DESIGN CHOICE, log 23). -/
theorem State.makeReady_alone {s : State} {k : Task} (htasks : s.cpu.tasks = [(0, k)]) (hready : s.cpu.ready = [])
    (hrun : s.programsRun = true) (hpart : k.part = 0) (hctx : k.lastCtx = none) :
    s.makeReady 0 = { s with cpu := { s.cpu with
      tasks := [(0, { k with st := .running 32, placedAt := s.clk.ed, lastCtx := some 32 })], ready := [] } } := by
  have found : s.task? 0 = some k := by simp [State.task?, htasks, tblFind]
  simp only [State.makeReady, found, State.place]
  rw [if_pos (by exact hrun)]
  simp [htasks, hready, tblPut, tblFind, placeList, State.task?, State.freeCtx, State.ctxBusy, State.placeOn, hpart, hctx]

/-- Where the mode lets the pair restart P0, programs run while the pair does (R21, R23). -/
theorem State.programsRun_of_programs {s : State} (h : s.pwr.mode.programs = true) : s.programsRun = s.cpu.wrun := by
  unfold State.programsRun
  cases hm : s.pwr.mode <;> simp [hm, Mode.programs] at h ⊢

/-- P0's first task as the pair starts it: at ENTRY, with the boot source in g1 (R530). -/
def State.firstTask (s : State) : Task := (Task.fresh 0 (imageEntry s.svc.image) 0).put 1 (BitVec.ofNat 64 s.svc.source)

/-- Every register but g1 is zero (R290). -/
theorem State.firstTask_get (s : State) (r : Reg) :
    s.firstTask.get r = if r = 1 then BitVec.ofNat 64 s.svc.source else 0 := by
  have zero : (Task.fresh 0 (imageEntry s.svc.image) 0).get r = 0 := by simp [Task.get, Task.fresh]
  rw [State.firstTask, Task.get_put, zero]
  simp

theorem State.firstTask_pc (s : State) : s.firstTask.pc = imageEntry s.svc.image := Task.put_pc _ _ _

theorem State.firstTask_part (s : State) : s.firstTask.part = 0 := Task.put_part _ _ _

theorem State.firstTask_lastCtx (s : State) : s.firstTask.lastCtx = none := rfl

/-- In an engine without tasks the pair's start runs P0's first task at once, on the pair's first context (R284, R530). -/
theorem State.startWarden_alone {s : State} (hmode : s.pwr.mode.programs = true) (htasks : s.cpu.tasks = [])
    (hready : s.cpu.ready = []) :
    s.startWarden.cpu.wrun = true ∧
      s.startWarden.task? 0 = some { s.firstTask with st := .running 32, placedAt := s.clk.ed, lastCtx := some 32 } := by
  have start : s.startWarden = ((({ s with cpu := { s.cpu with wrun := true } }).setTask 0 s.firstTask).newIndex 0).makeReady 0 :=
    State.addTask_first (by exact htasks) _
  rw [start, State.makeReady_alone (k := s.firstTask)]
  · exact ⟨rfl, rfl⟩
  · simp [State.newIndex, htasks, tblPut]
  · exact hready
  · exact State.programsRun_of_programs (by exact hmode)
  · exact s.firstTask_part
  · exact s.firstTask_lastCtx

/-- What a restart of the pair gives in an engine without tasks (R284, R530). -/
theorem wardenRestart_gives {s : State} (hstill : s.cpu.wrun = false) (hheld : s.cpu.wardenHeld = false)
    (hmode : s.pwr.mode.programs = true) (htasks : s.cpu.tasks = []) (hready : s.cpu.ready = []) :
    s.gives .wardenRestart fun u => u.cpu.wrun = true ∧ ∃ x, u.task? 0 = some x ∧ x.part = 0 ∧ x.st = .running 32 ∧
      x.pc = imageEntry s.svc.image ∧ ∀ r : Reg, x.get r = if r = 1 then BitVec.ofNat 64 s.svc.source else 0 := by
  have guard : (!s.cpu.wrun && !s.cpu.wardenHeld && s.pwr.mode.programs) = true := by simp [hstill, hheld, hmode]
  let v := s.log 0x1C01 s.recentStops.length 0 0
  have hsvc : v.svc = s.svc := (s.log_keeps _ _ _ _).svc
  obtain ⟨hrun, htask⟩ := State.startWarden_alone (s := v) (by simpa [v] using hmode) (by simpa [v] using htasks)
    (by simpa [v] using hready)
  refine ⟨v.startWarden, congrArg Host.Outcome.next (if_pos guard), hrun, _, htask, v.firstTask_part, rfl, ?_, fun r => ?_⟩
  · rw [← hsvc]
    exact v.firstTask_pc
  · rw [← hsvc]
    exact v.firstTask_get r

/-! Mode requests (R429, R430, R497). -/

/-- A request leaves QUIET, SURVEY, ISOLATE and RELAY at any time, and WATCH once the pair runs, with or without a worker core
that is able to run tasks (R22, R429; DESIGN CHOICE, log 31). -/
theorem State.mayLeave_of_mode {s : State}
    (h : s.pwr.mode ∈ [Mode.quiet, .survey, .isolate, .relay] ∨ (s.pwr.mode = .watch ∧ s.cpu.wrun = true)) :
    s.mayLeave = true ∧ s.pwr.mode ≠ .silenced := by
  simp only [List.mem_cons, List.not_mem_nil, or_false] at h
  rcases h with (h | h | h | h) | ⟨h, hrun⟩ <;> simp [State.mayLeave, *]

/-- A request that the boundary does not discard takes effect there (R430). -/
theorem State.takeMode_kept {s : State} {m : Mode} (hreq : s.nextBoundary.pwr.req = some m)
    (hmode : s.nextBoundary.pwr.mode ≠ .silenced) : s.takeMode m = s.nextBoundary.enterMode m := by
  simp only [State.takeMode, hreq, if_pos, State.changeMode_eq hmode]

theorem State.takeMode_discarded {s : State} (m : Mode) (hreq : s.nextBoundary.pwr.req = none) :
    s.takeMode m = s.nextBoundary := by
  simp [State.takeMode, hreq]

theorem execModeTransition_takes {s : State} {m : Mode} (hreq : s.pwr.req = some m) (hleave : s.mayLeave = true)
    (hcal : s.pwr.calib ≠ 1 ∨ m ≠ .relay) : execModeTransition s = .next (s.takeMode m) := by
  have free : (!(s.pwr.calib = 1 && m = .relay)) = true := by simpa [Decidable.imp_iff_not_or] using hcal
  simp only [execModeTransition, hreq, hleave, free, Bool.and_self, if_true]

/-- RELAY waits for the end of the first calibration (R497). -/
theorem execModeTransition_calibrating {s : State} (hreq : s.pwr.req = some .relay) (hcal : s.pwr.calib = 1) :
    execModeTransition s = .next s := by
  simp [execModeTransition, hreq, hcal]

/-- WATCH lasts while the pair is stopped (R22). -/
theorem execModeTransition_watch {s : State} (hmode : s.pwr.mode = .watch) (hrun : s.cpu.wrun = false) :
    execModeTransition s = .next s := by
  have stays : s.mayLeave = false := by simp [State.mayLeave, hmode, hrun]
  cases hreq : s.pwr.req <;> simp [execModeTransition, hreq, stays]

/-! The end of the first calibration (R497). -/

theorem State.calibrated_of_lasted {s : State} (hcal : s.pwr.calib = 1) (hlast : s.pwr.calibAt + 1966080000 ≤ s.clk.ed) :
    s.calibrated = true := by
  have ms : edMs 2000 = 1966080000 := rfl
  simp [State.calibrated, hcal, ms, hlast]

theorem execIsolateCalibrationEnd_plain {s : State} (h : s.calibrated = true) (hreq : s.pwr.req ≠ some .relay) :
    execIsolateCalibrationEnd s = .next { s with pwr := { s.pwr with calib := 2 } } := by
  simp [execIsolateCalibrationEnd, whenDo, h, hreq]

/-- The RELAY request that the calibration held takes effect in ISOLATE. -/
theorem execIsolateCalibrationEnd_relay {s : State} (h : s.calibrated = true) (hreq : s.pwr.req = some .relay)
    (hmode : s.pwr.mode = .isolate) :
    execIsolateCalibrationEnd s = .next (({ s with pwr := { s.pwr with calib := 2 } }).takeMode .relay) := by
  simp [execIsolateCalibrationEnd, whenDo, h, hreq, State.mayLeave, hmode]

/-- Settles O49: a stop is the pair's stop in a state with its record written, a restart places P0's first task in an engine without
tasks, and a request that outlasts the round boundary enters its mode there. -/
theorem wardenAndModes : Obligations.WardenAndModes := by
  intro s
  refine ⟨wardenStop_gives s, wardenRestart_gives, execModeTransition_watch, fun m hreq hfrom => ?_, fun hcal hlast => ?_⟩
  · obtain ⟨hleave, hsil⟩ := State.mayLeave_of_mode hfrom
    refine ⟨fun hready => ?_, fun hcal hm => execModeTransition_calibrating (by rw [hreq, hm]) hcal⟩
    have takes := execModeTransition_takes hreq hleave hready
    refine ⟨fun hkept hmode => ?_, fun hgone => takes.trans (congrArg _ (State.takeMode_discarded m hgone))⟩
    have enters := State.takeMode_kept hkept (ne_of_eq_of_ne hmode hsil)
    exact ⟨_, takes.trans (congrArg _ enters), State.enterMode_mode _ m, State.enterMode_req _ m⟩
  · have hdone := State.calibrated_of_lasted hcal hlast
    refine ⟨execIsolateCalibrationEnd_plain hdone, fun hreq hmode hkept hiso hcal2 => ?_⟩
    have takes := execIsolateCalibrationEnd_relay hdone hreq hmode
    have enters := State.takeMode_kept hkept (ne_of_eq_of_ne hiso (by decide))
    exact ⟨_, takes.trans (congrArg _ enters), State.enterMode_mode _ _, (State.enterMode_calib _ (by decide)).trans hcal2⟩

end Sys2Proof.Machine

/-! Rules of the ports' operations (R25 to R54): what each changes and what it leaves. -/

namespace Sys2Proof.Machine

/-! One port and its state. -/

@[simp] theorem State.port_mapPort (s : State) (p : PortId) (f : Port → Port) : (s.mapPort p f).ports[p] = f s.ports[p] := by
  simp

theorem State.port_mapPort_ne (s : State) {p q : PortId} (h : q ≠ p) (f : Port → Port) :
    (s.mapPort p f).ports[q] = s.ports[q] := by
  have hv : (p : Nat) ≠ q := fun e => h (Fin.ext e.symm)
  simp [hv]

@[simp] theorem State.port_mapPorts (s : State) (p : PortId) (f : Port → Port) : (s.mapPorts f).ports[p] = f s.ports[p] := by
  simp

/-- Two changes of one port that agree on its record are the same. -/
theorem State.mapPort_congr {s : State} {p : PortId} {f g : Port → Port} (h : f s.ports[p] = g s.ports[p]) :
    s.mapPort p f = s.mapPort p g := by
  simp only [State.mapPort, h]

/-! The slots under a change of every record. -/

/-- What a change of every slot's record leaves alone in each record stays in every slot. -/
theorem State.slot_tblMap {α : Type} (π : Slot → α) (f : Nat → Slot → Slot) (hf : ∀ k x, π (f k x) = π x) (s : State) (n : Nat) :
    π (tblGet Slot.initial n (tblMap f s.rad.slots)) = π (s.slot n) := by
  simp only [State.slot, tblGet, tblFind_tblMap]
  cases tblFind n s.rad.slots with
  | none => rfl
  | some x => exact hf n x

/-! Work at one port: what it leaves of the rest of the machine. -/

/-- `u` follows from `s` by work at port `p`: the other ports, tasks, memory, power control and the clock stay, and of the channels the
settings and what a probe has left there. -/
structure State.WorksAt (s : State) (p : PortId) (u : State) : Prop where
  cpu : u.cpu = s.cpu
  ms : u.ms = s.ms
  pwr : u.pwr = s.pwr
  clk : u.clk = s.clk
  other : ∀ q : PortId, q ≠ p → u.ports[q] = s.ports[q]
  set : ∀ n, (u.slot n).set = (s.slot n).set
  fbc : ∀ n, { (u.slot n).fbc with frozenAt := none } = { (s.slot n).fbc with frozenAt := none }

namespace State.WorksAt

variable {s u v : State} {p : PortId}

theorem refl (s : State) (p : PortId) : s.WorksAt p s := ⟨rfl, rfl, rfl, rfl, fun _ _ => rfl, fun _ => rfl, fun _ => rfl⟩

theorem trans (h1 : s.WorksAt p u) (h2 : u.WorksAt p v) : s.WorksAt p v where
  cpu := h2.cpu.trans h1.cpu
  ms := h2.ms.trans h1.ms
  pwr := h2.pwr.trans h1.pwr
  clk := h2.clk.trans h1.clk
  other q hq := (h2.other q hq).trans (h1.other q hq)
  set n := (h2.set n).trans (h1.set n)
  fbc n := (h2.fbc n).trans (h1.fbc n)

theorem bursts (h : s.WorksAt p u) (n : Nat) : (u.slot n).fbc.bursts = (s.slot n).fbc.bursts := by
  have e := congrArg Fbc.bursts (h.fbc n)
  exact e

end State.WorksAt

theorem State.mapPort_worksAt (s : State) (p : PortId) (f : Port → Port) : s.WorksAt p (s.mapPort p f) :=
  ⟨rfl, rfl, rfl, rfl, fun _ hq => s.port_mapPort_ne hq f, fun _ => rfl, fun _ => rfl⟩

/-- A change of every slot that leaves settings and probes alone. -/
theorem State.mapSlots_worksAt (s : State) (p : PortId) (f : Nat → Slot → Slot) (hset : ∀ k x, (f k x).set = x.set)
    (hfbc : ∀ k x, { (f k x).fbc with frozenAt := none } = { x.fbc with frozenAt := none }) :
    s.WorksAt p { s with rad := { s.rad with slots := tblMap f s.rad.slots } } :=
  ⟨rfl, rfl, rfl, rfl, fun _ _ => rfl, s.slot_tblMap Slot.set f hset,
    s.slot_tblMap (fun x => { x.fbc with frozenAt := none }) f hfbc⟩

theorem State.freeOutputs_worksAt (s : State) (p : PortId) (part : PartId) : s.WorksAt p (s.freeOutputs p part) := by
  refine s.mapSlots_worksAt p _ (fun k x => ?_) (fun k x => ?_) <;> split <;> rfl

theorem State.trackFreeze_worksAt (s : State) (p : PortId) : s.WorksAt p s.trackFreeze := by
  refine s.mapSlots_worksAt p _ (fun k x => ?_) (fun k x => ?_) <;> dsimp only <;> split <;> rfl

theorem State.deriveOffsets_worksAt (s : State) (p : PortId) : s.WorksAt p s.deriveOffsets := by
  refine s.mapSlots_worksAt p _ (fun k x => ?_) (fun k x => ?_) <;> split <;> rfl

/-- Records, error lines and interrupt flags are outside what work at a port leaves alone. -/
theorem State.worksAt_of_records (s : State) (p : PortId) (int : BitVec 6) (obs : Obs) :
    s.WorksAt p { s with hpi := { s.hpi with int := int }, obs := obs } :=
  ⟨rfl, rfl, rfl, rfl, fun _ _ => rfl, fun _ => rfl, fun _ => rfl⟩

theorem State.countSource_worksAt (s : State) (p : PortId) (k : Nat) : s.WorksAt p (s.countSource k) :=
  s.worksAt_of_records p _ _

theorem State.lineRise_worksAt (s : State) (p : PortId) (n : SubId) (kind : Byte) : s.WorksAt p (s.lineRise n kind) := by
  unfold State.lineRise
  split
  · exact .refl s p
  · exact (s.worksAt_of_records p _ _).trans (State.countSource_worksAt _ p _)

theorem State.lineFall_worksAt (s : State) (p : PortId) (n : SubId) : s.WorksAt p (s.lineFall n) := by
  unfold State.lineFall
  split
  · exact s.worksAt_of_records p _ _
  · exact .refl s p

theorem State.linePulse_worksAt (s : State) (p : PortId) (n : SubId) (kind : Byte) : s.WorksAt p (s.linePulse n kind) := by
  unfold State.linePulse
  split
  · exact .refl s p
  · exact (s.lineRise_worksAt p n kind).trans (State.lineFall_worksAt _ p n)

theorem State.log_worksAt (s : State) (p : PortId) (code p0 p1 p2 : Nat) : s.WorksAt p (s.log code p0 p1 p2) := by
  simp only [State.log, State.logFull]
  split
  · exact s.worksAt_of_records p _ _
  · split
    · exact (s.worksAt_of_records p _ _).trans (State.linePulse_worksAt _ p _ _)
    · exact s.worksAt_of_records p _ _

theorem State.rfeLine_worksAt (s : State) (p : PortId) : s.WorksAt p s.rfeLine := by
  unfold State.rfeLine State.lineLevel
  split
  · exact s.lineRise_worksAt p _ _
  · exact s.lineFall_worksAt p _

theorem State.startRetune_worksAt (s : State) (p : PortId) : s.WorksAt p (s.startRetune p) :=
  (s.freeOutputs_worksAt p _).trans <| (State.mapPort_worksAt _ p _).trans <| State.trackFreeze_worksAt _ p

theorem State.drive_worksAt (s : State) (p : PortId) : s.WorksAt p (s.drive p) := by
  unfold State.drive
  dsimp only
  split
  · exact .refl s p
  · exact s.mapPort_worksAt p _

theorem State.beginBank_worksAt (s : State) (p : PortId) : s.WorksAt p (s.beginBank p) := by
  unfold State.beginBank
  dsimp only
  split
  · exact .refl s p
  · split
    · exact s.mapPort_worksAt p _
    · split
      · exact .refl s p
      · split
        · exact (s.mapPort_worksAt p _).trans <| (State.startRetune_worksAt _ p).trans <| State.deriveOffsets_worksAt _ p
        · exact s.mapPort_worksAt p _

end Sys2Proof.Machine

namespace Sys2Proof.Machine

/-! The transmitter's sequences at the pins (R38, R39, R41). -/

/-- `q'` is `q` but for the transmitter's phase, the booster's pins with their instants, and the state the port moves toward. -/
def Port.SameButPins (q q' : Port) : Prop :=
  q' = { q with tx := q'.tx, ben := q'.ben, bkey := q'.bkey, enAt := q'.enAt, keyAt := q'.keyAt, target := q'.target }

theorem Port.sameButPins_refl (q : Port) : q.SameButPins q := rfl

theorem Port.startTx_sameButPins (q : Port) (now : Nat) : q.SameButPins (q.startTx now) := by
  unfold Port.startTx
  split <;> rfl

theorem Port.stopTx_sameButPins (q : Port) (now : Nat) (hold : Bool) : q.SameButPins (q.stopTx now hold) := rfl

theorem Port.raiseEn_sameButPins (q : Port) (now : Nat) : q.SameButPins (q.raiseEn now) := rfl

theorem Port.dropKey_sameButPins (q : Port) (now : Nat) : q.SameButPins (q.dropKey now) := by
  unfold Port.dropKey
  split <;> rfl

theorem Port.SameButPins.trans {q q' q'' : Port} (h1 : q.SameButPins q') (h2 : q'.SameButPins q'') : q.SameButPins q'' := by
  unfold Port.SameButPins at *
  rw [h2, h1]

/-- The port's next target, whatever its pins do. -/
theorem Port.SameButPins.target {q q' : Port} (h : q.SameButPins q') (g : Option PState) :
    q.SameButPins { q' with target := g } := h.trans rfl

/-- A port in PROBE is not driven; any other changes its pins and its target at most. -/
theorem State.drive_sameButPins (s : State) (p : PortId) : s.ports[p].SameButPins (s.drive p).ports[p] := by
  unfold State.drive
  dsimp only
  split
  · exact Port.sameButPins_refl _
  · rw [State.port_mapPort]
    apply Port.SameButPins.target
    split
    · exact Port.startTx_sameButPins _ _
    · split
      · exact Port.stopTx_sameButPins _ _ _
      · split
        · exact Port.raiseEn_sameButPins _ _
        · exact Port.dropKey_sameButPins _ _

/-! An output that is cut (R39, R49, R53). -/

/-- The transmitter neither sends nor starts, and KEY is low. -/
def Port.silent (q : Port) : Prop := q.bkey = false ∧ q.tx ≠ .on ∧ q.tx ≠ .starting

theorem Port.stopTx_silent (q : Port) (now : Nat) (hold : Bool) : (q.stopTx now hold).silent := by
  refine ⟨rfl, ?_, ?_⟩ <;> · simp only [Port.stopTx]; split <;> decide

theorem Port.dropKey_silent {q : Port} (h : q.silent) (now : Nat) : (q.dropKey now).silent := by
  obtain ⟨hkey, -, -⟩ := id h
  simpa [Port.dropKey, hkey] using h

/-- A port whose output is held off stays silent, wherever it is to move. -/
theorem State.drive_silent {s : State} {p : PortId} (hb : s.ports[p].blanked = true) (hs : s.ports[p].silent) :
    (s.drive p).ports[p].silent := by
  have hold : s.enHold p = false := by
    simp only [State.enHold, hb, Bool.not_true, Bool.and_false, Bool.false_and]
  unfold State.drive
  dsimp only
  split
  · exact hs
  · rw [State.port_mapPort, hb, hold]
    simp only [Bool.not_true, Bool.and_false, Bool.false_and, Bool.false_eq_true, if_false]
    split
    · exact Port.stopTx_silent s.ports[p] s.clk.ed false
    · exact Port.dropKey_silent hs s.clk.ed

/-! A bank change in STANDBY and retunes (R29, R69). -/

theorem State.port_deriveOffsets (s : State) (p : PortId) : s.deriveOffsets.ports[p] = s.ports[p] := rfl

theorem State.port_startRetune (s : State) (p : PortId) : (s.startRetune p).ports[p] =
    { s.ports[p] with retune := some .locking, lock := false, rxv := false, adapt := false, conv := false, adaptMs := 0,
                      convMax := 200 } := by
  simp only [State.startRetune, State.trackFreeze, State.port_mapPort]
  rfl

/-- `q'` is `q` but for its LOs, their synthesisers and converters, and the instant since which it stands in STANDBY. -/
def Port.SameButRetune (q q' : Port) : Prop :=
  q' = { q with
    bankAt := q'.bankAt, tune := { q.tune with rxlo := q'.tune.rxlo, txlo := q'.tune.txlo }, retune := q'.retune, lock := q'.lock
    rxv := q'.rxv, adapt := q'.adapt, conv := q'.conv, adaptMs := q'.adaptMs, convMax := q'.convMax }

theorem State.beginBank_sameButRetune (s : State) (p : PortId) : s.ports[p].SameButRetune (s.beginBank p).ports[p] := by
  unfold State.beginBank
  dsimp only
  split
  · rfl
  · split
    · rw [State.port_mapPort]
      rfl
    · split
      · rfl
      · split
        · rw [State.port_deriveOffsets, State.port_startRetune, State.port_mapPort]
          rfl
        · rw [State.port_mapPort]
          rfl

/-- The LOs change in advance only for a record of another bank. -/
theorem State.beginBank_tune {s : State} {p : PortId} (h : ∀ r ∈ s.ports[p].bankWait, r.bank = s.ports[p].tune.bank) :
    (s.beginBank p).ports[p].tune = s.ports[p].tune := by
  unfold State.beginBank
  dsimp only
  split
  · rfl
  · rename_i r hr
    split
    · rw [State.port_mapPort]
    · rw [if_pos (.inl (h r hr))]

/-! port.tune at its port (R347). -/

/-- The record as a port with a loaded schedule, or without one, takes it: STANDBY in place of a state that the bank does not
support (R33). -/
def TuneRec.fitted (r : TuneRec) (loaded : Bool) : TuneRec :=
  { r with state := if r.state.supported r.bank loaded then r.state else .standby }

/-- What precedes the new record: the retune of a change of LO within the bank, or the outputs that a bank change leaves undefined. -/
def State.beforeTune (s : State) (p : PortId) (r : TuneRec) : State :=
  let q := s.ports[p]
  let rebanks := decide (r.bank ≠ q.tune.bank)
  let s1 := if !rebanks && (decide (r.rxlo ≠ q.tune.rxlo) || decide (r.txlo ≠ q.tune.txlo)) then s.startRetune p else s
  if rebanks then s1.freeOutputs p q.asker else s1

/-- The port with the new record in force or waiting. -/
def Port.take (q : Port) (r : TuneRec) (now : Nat) (rebanks waits : Bool) : Port :=
  { (q.schedTune r).dropBoost r now with
    bflt := false
    bankWait := if waits then some r else none
    bankAt := none
    tune := if rebanks then { r with donor := q.tune.donor, bank := q.tune.bank, rxlo := q.tune.rxlo, txlo := q.tune.txlo }
      else if waits then { r with donor := q.tune.donor }
      else r }

/-- port.tune at its port: retune, record, and the move toward the state it programs. -/
theorem State.applyTune_eq (s : State) (p : PortId) (r0 : TuneRec) :
    let r := r0.fitted s.ports[p].sched.isSome
    s.applyTune p r0 =
      (((((s.beforeTune p r).mapPort p fun q => q.take r s.clk.ed (decide (r.bank ≠ s.ports[p].tune.bank))
        (s.ports[p].recordWaits r)).rfeLine).deriveOffsets).drive p).beginBank p := rfl

theorem State.beforeTune_worksAt (s : State) (p : PortId) (r : TuneRec) : s.WorksAt p (s.beforeTune p r) := by
  unfold State.beforeTune
  dsimp only
  split <;> split
  · exact (s.startRetune_worksAt p).trans (State.freeOutputs_worksAt _ p _)
  · exact s.freeOutputs_worksAt p _
  · exact s.startRetune_worksAt p
  · exact .refl s p

/-- A retune that begins leaves of its port the state, the record, RFKILL_N's hold, the burst, and the transmitter. -/
theorem State.port_beforeTune (s : State) (p : PortId) (r : TuneRec) :
    let q := s.ports[p]
    let u := (s.beforeTune p r).ports[p]
    u.st = q.st ∧ u.probing = q.probing ∧ u.killed = q.killed ∧ u.tune = q.tune ∧ (q.silent → u.silent) := by
  have retuned : (s.startRetune p).ports[p].st = s.ports[p].st ∧ (s.startRetune p).ports[p].probing = s.ports[p].probing ∧
      (s.startRetune p).ports[p].killed = s.ports[p].killed ∧ (s.startRetune p).ports[p].tune = s.ports[p].tune ∧
      (s.ports[p].silent → (s.startRetune p).ports[p].silent) := by
    rw [State.port_startRetune]
    exact ⟨rfl, rfl, rfl, rfl, id⟩
  unfold State.beforeTune
  dsimp only
  split <;> split
  · exact retuned
  · exact ⟨rfl, rfl, rfl, rfl, id⟩
  · exact retuned
  · exact ⟨rfl, rfl, rfl, rfl, id⟩

theorem State.applyTune_worksAt (s : State) (p : PortId) (r : TuneRec) : s.WorksAt p (s.applyTune p r) := by
  rw [State.applyTune_eq]
  exact (s.beforeTune_worksAt p _).trans <| (State.mapPort_worksAt _ p _).trans <| (State.rfeLine_worksAt _ p).trans <|
    (State.deriveOffsets_worksAt _ p).trans <| (State.drive_worksAt _ p).trans <| State.beginBank_worksAt _ p

theorem State.port_rfeLine (s : State) (p : PortId) : s.rfeLine.ports[p] = s.ports[p] := by
  have same : s.rfeLine.ports = s.ports := by
    unfold State.rfeLine State.lineLevel
    split
    · exact (s.lineRise_keeps _ _).ports
    · exact (s.lineFall_keeps _).ports
  simp only [same]

/-- The state with the record in force or waiting, before the port moves. -/
def State.tuned (s : State) (p : PortId) (r : TuneRec) : State :=
  (((s.beforeTune p r).mapPort p fun q => q.take r s.clk.ed (decide (r.bank ≠ s.ports[p].tune.bank))
    (s.ports[p].recordWaits r)).rfeLine).deriveOffsets

theorem State.applyTune_eq_tuned (s : State) (p : PortId) (r : TuneRec) :
    s.applyTune p r = ((s.tuned p (r.fitted s.ports[p].sched.isSome)).drive p).beginBank p := rfl

theorem State.port_tuned (s : State) (p : PortId) (r : TuneRec) : (s.tuned p r).ports[p] =
    (s.beforeTune p r).ports[p].take r s.clk.ed (decide (r.bank ≠ s.ports[p].tune.bank)) (s.ports[p].recordWaits r) := by
  rw [State.tuned, State.port_deriveOffsets, State.port_rfeLine, State.port_mapPort]

/-- A record at its port: RFKILL_N's hold, state and burst stay, the fault latch clears, and the record waits or not (R53, R347). -/
theorem Port.take_fields (q : Port) (r : TuneRec) (now : Nat) (rebanks waits : Bool) :
    let u := q.take r now rebanks waits
    u.st = q.st ∧ u.probing = q.probing ∧ u.killed = q.killed ∧ u.bflt = false ∧ u.bankWait = if waits then some r else none := by
  unfold Port.take Port.dropBoost
  split <;> exact ⟨rfl, rfl, rfl, rfl, rfl⟩

theorem Port.take_silent {q : Port} (h : q.silent) (r : TuneRec) (now : Nat) (rebanks waits : Bool) :
    (q.take r now rebanks waits).silent := by
  unfold Port.take Port.dropBoost
  split
  · exact Port.stopTx_silent (q.schedTune r) now false
  · exact h

/-- A port that moves toward its state, a bank change perhaps begun, keeps its state, burst, holds and records; its LOs change only
with the bank (R29, R37, R69). -/
theorem State.port_drive_beginBank (s : State) (p : PortId) :
    let q := s.ports[p]
    let u := ((s.drive p).beginBank p).ports[p]
    u.st = q.st ∧ u.probing = q.probing ∧ u.killed = q.killed ∧ u.bflt = q.bflt ∧ u.bankWait = q.bankWait ∧
      ((∀ r ∈ q.bankWait, r.bank = q.tune.bank) → u.tune = q.tune) ∧ (q.blanked = true → q.silent → u.silent) := by
  have pins := s.drive_sameButPins p
  have bank := (s.drive p).beginBank_sameButRetune p
  have wait : (s.drive p).ports[p].bankWait = s.ports[p].bankWait := by rw [pins]
  have tune : (s.drive p).ports[p].tune = s.ports[p].tune := by rw [pins]
  refine ⟨?_, ?_, ?_, ?_, ?_, fun h => ?_, fun hb hs => ?_⟩
  · rw [bank, pins]
  · rw [bank, pins]
  · rw [bank, pins]
  · rw [bank, pins]
  · rw [bank, pins]
  · rw [← tune]
    exact State.beginBank_tune (by rwa [wait, tune])
  · rw [bank]
    exact State.drive_silent hb hs

/-- The port with the record in force or waiting (R26, R29, R53, R69, R347). -/
theorem State.port_tuned_fields (s : State) (p : PortId) (r : TuneRec) :
    let q := s.ports[p]
    let u := (s.tuned p r).ports[p]
    u.st = q.st ∧ u.probing = q.probing ∧ u.killed = q.killed ∧ u.bflt = false ∧
      u.bankWait = (if q.recordWaits r then some r else none) ∧
      (r.bank = q.tune.bank → u.tune = if q.recordWaits r then { r with donor := q.tune.donor } else r) ∧
      (q.silent → u.silent) := by
  obtain ⟨bst, bprobing, bkilled, btune, bsilent⟩ := s.port_beforeTune p r
  obtain ⟨tst, tprobing, tkilled, tbflt, twait⟩ := (s.beforeTune p r).ports[p].take_fields r s.clk.ed
    (decide (r.bank ≠ s.ports[p].tune.bank)) (s.ports[p].recordWaits r)
  dsimp only
  rw [State.port_tuned]
  refine ⟨tst.trans bst, tprobing.trans bprobing, tkilled.trans bkilled, tbflt, twait, fun hbank => ?_,
    fun h => Port.take_silent (bsilent h) _ _ _ _⟩
  simp only [Port.take, hbank, ne_eq, not_true, decide_false, Bool.false_eq_true, if_false, btune]

/-- What port.tune leaves in its port (R26, R29, R49, R53, R69, R347). -/
theorem State.port_applyTune (s : State) (p : PortId) (r0 : TuneRec) :
    let q := s.ports[p]
    let r := r0.fitted q.sched.isSome
    let u := (s.applyTune p r0).ports[p]
    u.st = q.st ∧ u.probing = q.probing ∧ u.killed = q.killed ∧ u.bflt = false ∧
      u.bankWait = (if q.recordWaits r then some r else none) ∧
      (r.bank = q.tune.bank → u.tune = if q.recordWaits r then { r with donor := q.tune.donor } else r) ∧
      (q.killed = true → q.silent → u.silent) := by
  intro q r
  rw [State.applyTune_eq_tuned]
  obtain ⟨tst, tprobing, tkilled, tbflt, twait, ttune, tsilent⟩ := s.port_tuned_fields p r
  obtain ⟨mst, mprobing, mkilled, mbflt, mwait, mtune, msilent⟩ := (s.tuned p r).port_drive_beginBank p
  refine ⟨mst.trans tst, mprobing.trans tprobing, mkilled.trans tkilled, mbflt.trans tbflt, mwait.trans twait, fun hbank => ?_,
    fun hk hs => msilent ?_ (tsilent hs)⟩
  · refine (mtune fun x hx => ?_).trans (ttune hbank)
    rw [twait] at hx
    rw [ttune hbank]
    split at hx
    · obtain rfl : r = x := by simpa using hx
      split <;> rfl
    · simp at hx
  · simp only [Port.blanked, tkilled.trans hk, Bool.true_or]

end Sys2Proof.Machine

namespace Sys2Proof.Machine

/-! Instructions that read a record (R346). -/

/-- The state on which a RUNNING task's instruction acts: its issue cycle is counted (R526). -/
def State.issued (s : State) (k : Task) (c : Nat) : State := if k.part = 0 ∨ 64 ≤ c then s else s.countFor k.part 0

theorem onEngine_issued {s : State} {t : TaskId} {k : Task} {c : Nat} (h : s.runs t k c) (kind : Byte) (f : Task → State → State) :
    onEngine t kind s f = .next (f k (s.issued k c)) := by
  have running : onEngine t kind s f = onRunning t s f := by
    simp only [onEngine, h.1]
  exact running.trans (onRunning_runs h f)

theorem State.issued_counts (s : State) (k : Task) (c : Nat) :
    ∃ x y, s.issued k c = { s with obs := { s.obs with counters := x, sampled := y } } := by
  unfold State.issued
  split
  · exact ⟨_, _, rfl⟩
  · exact ⟨_, _, s.countFor_eq k.part 0⟩

/-- A record that may be read and holds no error is read whole, and nothing else happens (R346). -/
theorem State.withRecord_readable {s : State} {k : Task} {ea : Word} {n : Nat} (h : RecordReadable s k ea n) (t : Nat) (gd : Reg)
    (f : List Byte → State → State) : s.withRecord t gd k ea n f = f (s.readLocal k ea.toNat n) s := by
  obtain ⟨hlocal, hpoison, hflaws⟩ := h
  have good : s.badRead k.part ea.toNat n = false := by simp [State.badRead, hpoison, hflaws]
  simp only [State.withRecord, hlocal, if_true, State.readErrors_clean hflaws, good, Bool.false_eq_true, if_false]

/-- What a task reads depends on the memory system and its own stores. -/
theorem State.readLocal_congr {s u : State} (h : u.ms = s.ms) (k : Task) (va n : Nat) : u.readLocal k va n = s.readLocal k va n := by
  induction n generalizing va with
  | zero => rfl
  | succ n ih => simp only [State.readLocal, State.readByte, h, ih]

/-- An instruction that completes with `v` in gd, in a state with the task and the memory of its issue: the task's record, and the
ports as they were. -/
theorem State.finish_completes {s u : State} {t : TaskId} {k : Task} {c : Nat} (h : s.runs t k c) (hn : s.nextOk k)
    (hcpu : u.cpu = s.cpu) (hms : u.ms = s.ms) (gd : Reg) (v : Word) :
    (u.finish t gd v).task? t = some (k.step gd v) ∧ (u.finish t gd v).ports = u.ports := by
  have task : u.task? t = some k := by
    rw [← h.1, State.task?, hcpu, State.task?]
  have clean : u.fetchClean k.part (k.pc + 4) := by
    rw [State.fetchClean_congr hms]
    exact hn
  exact ⟨State.task?_becomes (State.finish_becomes task clean gd v), (u.finish_keeps t gd v).ports⟩

/-! O20: port.tune. -/

theorem clampNat_mem {lo hi : Nat} (h : lo ≤ hi) (x : Nat) : lo ≤ clampNat x lo hi ∧ clampNat x lo hi ≤ hi := by
  unfold clampNat
  omega

/-- Both LOs lie between 380 MHz and 3.8 GHz (R347). -/
def TuneRec.losHeld (r : TuneRec) : Prop := 380000 ≤ r.rxlo ∧ r.rxlo ≤ 3800000 ∧ 380000 ≤ r.txlo ∧ r.txlo ≤ 3800000

theorem tuneRecord_losHeld (bs : List Byte) : (tuneRecord bs).losHeld := by
  obtain ⟨hr, hr'⟩ := clampNat_mem (lo := 380000) (hi := 3800000) (by decide) (recNat bs 0 4)
  obtain ⟨ht, ht'⟩ := clampNat_mem (lo := 380000) (hi := 3800000) (by decide) (recNat bs 4 4)
  exact ⟨hr, hr', ht, ht'⟩

theorem Port.bank_of_recordWaits {q : Port} {r : TuneRec} (h : q.recordWaits r = false) : r.bank = q.tune.bank := by
  simp only [Port.recordWaits, Bool.or_eq_false_iff, decide_eq_false_iff_not, not_not] at h
  exact h.1

theorem Port.recordWaits_of_bank {q : Port} {r : TuneRec} (h : r.bank ≠ q.tune.bank) : q.recordWaits r = true := by
  simp [Port.recordWaits, h]

/-- The record of a port.tune is in force, or waits in the port for STANDBY, with LOs that are held, whichever partition asks (R26,
R29, R347). -/
theorem State.applyTune_record {s : State} {p : PortId} {q : Port} {a : PartId} (port : s.ports[p] = { q with asker := a })
    {r0 : TuneRec} (hlos : r0.losHeld) :
    let r := r0.fitted q.sched.isSome
    let u := (s.applyTune p r0).ports[p]
    (q.recordWaits r = false → u.tune = r) ∧ (r0.bank = q.tune.bank → u.tune.losHeld) ∧
      (r0.bank ≠ q.tune.bank → ∃ w, u.bankWait = some w ∧ w.bank = r0.bank ∧ w.losHeld) := by
  obtain ⟨-, -, -, -, hwait, htune, -⟩ := s.port_applyTune p r0
  have waits : ∀ r : TuneRec, ({ q with asker := a } : Port).recordWaits r = q.recordWaits r := fun _ => rfl
  rw [port] at hwait htune
  simp only [waits] at hwait htune
  intro r u
  have tune := fun hbank => show u.tune = _ from htune hbank
  refine ⟨fun h => (tune (Port.bank_of_recordWaits h)).trans (if_neg (by rw [Bool.not_eq_true]; exact h)), fun hbank => ?_,
    fun hbank => ⟨r, hwait.trans (if_pos (Port.recordWaits_of_bank hbank)), rfl, hlos⟩⟩
  rw [tune hbank]
  split <;> exact hlos

/-- port.tune of a port that carries no other partition's channel and is not in PROBE: its record takes effect, in a state that
differs from the given one in the asking partition and the counters. -/
theorem execPortTune_applies {s : State} {t : TaskId} {k : Task} {c : Nat} {gd ga gb : Reg} (h : s.runs t k c)
    (hw : s.inWatch = false) (hr : RecordReadable s k (k.get gb) 32) (hf : s.foreignPort (portOf (k.get ga)) k.part = false)
    (hst : s.ports[portOf (k.get ga)].st ≠ .probe) :
    ∃ v : State, v.cpu = s.cpu ∧ v.ms = s.ms ∧ v.ports[portOf (k.get ga)] = { s.ports[portOf (k.get ga)] with asker := k.part } ∧
      (∀ q : PortId, q ≠ portOf (k.get ga) → v.ports[q] = s.ports[q]) ∧
      exec (.portTune t gd ga gb) s =
        .next ((v.applyTune (portOf (k.get ga)) (tuneRecord (s.readLocal k (k.get gb).toNat 32))).finish t gd 1) := by
  obtain ⟨x, y, counts⟩ := s.issued_counts k c
  generalize hv : ({ s with obs := { s.obs with counters := x, sampled := y } } : State) = v at counts
  have watch : v.inWatch = false := by rw [← hv]; exact hw
  have readable : RecordReadable v k (k.get gb) 32 := by rw [← hv]; exact hr
  have foreign : v.foreignPort (portOf (k.get ga)) k.part = false := by rw [← hv]; exact hf
  have read : v.readLocal k (k.get gb).toNat 32 = s.readLocal k (k.get gb).toNat 32 := by
    rw [← hv]
    exact State.readLocal_congr rfl k _ _
  have ports : v.ports = s.ports := by rw [← hv]
  refine ⟨v.mapPort (portOf (k.get ga)) fun q => { q with asker := k.part }, ?_, ?_, ?_, fun q hq => ?_,
    (onEngine_issued h 3 _).trans (congrArg _ ?_)⟩
  · rw [← hv]; rfl
  · rw [← hv]; rfl
  · rw [State.port_mapPort]
    simp only [ports]
  · rw [State.port_mapPort_ne _ hq]
    simp only [ports]
  · rw [counts, if_neg (by simp [watch]), State.withRecord_readable readable, read]
    dsimp only
    rw [if_neg (by simp [foreign]), if_neg (by rw [State.port_mapPort]; simpa only [ports] using hst)]

/-- Settles O20: port.tune puts its record in force at its port, or leaves it waiting there, and touches no other port. -/
theorem portTuneTakesRecord : Obligations.PortTuneTakesRecord := by
  intro s t k c gd ga gb hrun hnext hw hread
  dsimp only
  intro hf hst
  obtain ⟨v, hcpu, hms, port, others, hexec⟩ := execPortTune_applies (gd := gd) (ga := ga) hrun hw hread hf hst
  have hlos := tuneRecord_losHeld (s.readLocal k (k.get gb).toNat 32)
  have work := v.applyTune_worksAt (portOf (k.get ga)) (tuneRecord (s.readLocal k (k.get gb).toNat 32))
  obtain ⟨htask, hports⟩ := State.finish_completes hrun hnext (work.cpu.trans hcpu) (work.ms.trans hms) gd 1
  obtain ⟨-, -, -, hbflt, -, -, -⟩ := v.port_applyTune (portOf (k.get ga)) (tuneRecord (s.readLocal k (k.get gb).toNat 32))
  obtain ⟨hforce, hheld, hwait⟩ := State.applyTune_record port hlos
  have htunes : ∀ q : PortId, q ≠ portOf (k.get ga) → ((v.applyTune (portOf (k.get ga))
      (tuneRecord (s.readLocal k (k.get gb).toNat 32))).finish t gd 1).ports[q].tune = s.ports[q].tune := fun q hq => by
    rw [hports, work.other q hq, others q hq]
  rw [← hports] at hbflt hforce hheld hwait
  generalize ((v.applyTune (portOf (k.get ga)) (tuneRecord (s.readLocal k (k.get gb).toNat 32))).finish t gd 1) = u
    at hexec htask hbflt hforce hheld hwait htunes
  exact ⟨u, hexec, htask, hbflt, hforce, hheld, hwait, htunes⟩

end Sys2Proof.Machine

namespace Sys2Proof.Machine

/-! O21: port.sched. -/

theorem State.wakePower_awake {s : State} (h : s.dozing = false) : s.wakePower = s := by
  simp [State.wakePower, h]

/-- Both reads of a schedule's record succeed, and the record of two or more points is judged (R346, R348). -/
theorem execPortSched_judges {s : State} {t : TaskId} {k : Task} {c : Nat} {gd ga gb : Reg} {sc : Sched} (h : s.runs t k c)
    (hw : s.inWatch = false) (hd : s.dozing = false) (hr : RecordReadable s k (k.get gb) 16)
    (hn : 2 ≤ min (recNat (s.readLocal k (k.get gb).toNat 16) 8 1) 32)
    (hr' : RecordReadable s k (k.get gb) (16 + 8 * min (recNat (s.readLocal k (k.get gb).toNat 16) 8 1) 32))
    (hf : s.foreignPort (portOf (k.get ga)) k.part = false ∨ s.ports[portOf (k.get ga)].schedChanges (some sc) = false)
    (hsc : schedRecord (s.readLocal k (k.get gb).toNat (16 + 8 * min (recNat (s.readLocal k (k.get gb).toNat 16) 8 1) 32))
      (fun i => (s.freeAt i).toNat) = some sc) :
    ∃ v : State, v.cpu = s.cpu ∧ v.ms = s.ms ∧ v.ports = s.ports ∧ exec (.portSched t gd ga gb) s =
      .next (if sc.overDuty s.ports[portOf (k.get ga)].tune.donor (s.dutyLimit (portOf (k.get ga))) then
          ({ v with rad := { v.rad with refuse := true } }).refuse t gd 4
        else ((v.mapPort (portOf (k.get ga)) fun q => { q.loadSched (some sc) with asker := k.part }).useFree 32).finish t gd 1) := by
  obtain ⟨x, y, counts⟩ := s.issued_counts k c
  generalize hv : ({ s with obs := { s.obs with counters := x, sampled := y } } : State) = v at counts
  have watch : v.inWatch = false := by rw [← hv]; exact hw
  have awake : v.dozing = false := by rw [← hv]; exact hd
  have ms : v.ms = s.ms := by rw [← hv]
  have read : ∀ n, v.readLocal k (k.get gb).toNat n = s.readLocal k (k.get gb).toNat n := State.readLocal_congr ms k _
  have readable : ∀ n, RecordReadable s k (k.get gb) n → RecordReadable v k (k.get gb) n := fun n h => by rw [← hv]; exact h
  have ports : v.ports = s.ports := by rw [← hv]
  have free : v.freeAt = s.freeAt := by rw [← hv]; rfl
  have limit : v.dutyLimit = s.dutyLimit := by rw [← hv]; rfl
  have foreign : v.foreignPort = s.foreignPort := by rw [← hv]; rfl
  refine ⟨v, by rw [← hv], ms, ports, (onEngine_issued h 3 _).trans (congrArg _ ?_)⟩
  rw [counts, if_neg (by simp [watch]), State.withRecord_readable (readable _ hr), read]
  dsimp only
  rw [if_neg (Nat.not_lt.mpr hn), State.withRecord_readable (readable _ hr'), read, State.wakePower_awake awake, free, hsc, foreign,
    ports, limit]
  rw [if_neg (by rcases hf with h | h <;> simp only [h, Bool.and_false, Bool.false_and, Bool.false_eq_true, not_false_eq_true])]

/-- An instruction that is refused, in a state with the task and the memory of its issue, changes its task's record alone. -/
theorem State.refuse_refuses {s u : State} {t : TaskId} {k : Task} {c : Nat} (h : s.runs t k c) (hn : s.nextOk k)
    (hcpu : u.cpu = s.cpu) (hms : u.ms = s.ms) (gd : Reg) (code : Word) : u.refuse t gd code = u.setTask t (k.step gd code) := by
  refine State.refuse_eq ?_ ?_ gd code
  · rw [← h.1, State.task?, hcpu, State.task?]
  · rw [State.fetchClean_congr hms]
    exact hn

/-- A refusal with CHARTER: the flag of R184 beside the task's record. -/
theorem State.refuse_charter {s v : State} {t : TaskId} {k : Task} {c : Nat} (h : s.runs t k c) (hn : s.nextOk k)
    (hcpu : v.cpu = s.cpu) (hms : v.ms = s.ms) (gd : Reg) :
    ({ v with rad := { v.rad with refuse := true } }).refuse t gd 4 =
      ({ v with rad := { v.rad with refuse := true } }).setTask t (k.step gd 4) :=
  State.refuse_refuses (u := { v with rad := { v.rad with refuse := true } }) h hn hcpu hms gd 4

/-- Settles O21: a schedule over the duty limit is refused before anything is loaded, any other is loaded at its port. -/
theorem portSchedLoadsWithinDuty : Obligations.PortSchedLoadsWithinDuty := by
  intro s t k c gd ga gb sc hrun hnext hw hd hread
  dsimp only
  intro hn hread' hf hsc
  obtain ⟨v, hcpu, hms, hports, hexec⟩ := execPortSched_judges (gd := gd) hrun hw hd hread hn hread' hf hsc
  refine ⟨fun hover => ?_, fun hunder hstill => ?_⟩
  · rw [hover, if_pos rfl] at hexec
    exact ⟨_, hexec.trans (congrArg _ (State.refuse_charter hrun hnext hcpu hms gd)), State.task?_setTask _ _ _, hports, rfl⟩
  · rw [hunder, if_neg Bool.false_ne_true] at hexec
    obtain ⟨htask, hkept⟩ := State.finish_completes hrun hnext
      (u := (v.mapPort (portOf (k.get ga)) fun q => { q.loadSched (some sc) with asker := k.part }).useFree 32) hcpu hms gd 1
    have loaded : ({ s.ports[portOf (k.get ga)].loadSched (some sc) with asker := k.part } : Port).sched = some sc := by
      simp only [Port.loadSched, hstill, Bool.false_eq_true, if_false]
    refine ⟨_, hexec, htask, ?_, fun q hq => ?_⟩
    · rw [hkept, State.useFree_ports, State.port_mapPort]
      simpa only [hports] using loaded
    · rw [hkept, State.useFree_ports, State.port_mapPort_ne _ hq]
      simp only [hports]

end Sys2Proof.Machine

namespace Sys2Proof.Machine

/-! The start of a probe burst (R35, R155, R156). -/

/-- The port in which the burst of slot `n` starts: in PROBE, its transmitter by the start sequence (R38, R156). -/
def Port.beginBurst (q : Port) (n : Nat) (rest : List Nat) (now : Nat) : Port :=
  { q.startTx now with
    probeQ := rest, probing := some n, st := .probe, target := none
    tx := if q.tune.boost then .starting else .on, rampAt := now + eightUs }

/-- The slot whose burst starts keeps the settings and the level that its probe measures (R155). -/
def State.fixProbe (s : State) (n : Nat) : State :=
  s.mapSlot n fun x => { x with fbc := { x.fbc with sent := some x.set, sentLevel := s.probeLevel x.set } }

/-- A port at which the burst at the head of its queue can start: neither the port nor the two ports of the channel keep it waiting or
from being sent (R156, R497). -/
structure State.BurstReady (s : State) (p : PortId) (n : Nat) (rest : List Nat) : Prop where
  queue : s.ports[p].probeQ = n :: rest
  st : s.ports[p].st ≠ .probe
  ben : s.ports[p].ben = false
  tx : s.ports[p].tx = .off
  waits : s.ports[p].probeWaits = false
  sends : s.ports[p].noProbe = false
  rfkill : s.pwr.rfkill = false
  calib : s.pwr.calib ≠ 1
  mode : s.pwr.mode = .isolate
  bothWait : s.eitherPort (s.slot n).set Port.probeWaits = false
  bothSend : s.eitherPort (s.slot n).set Port.noProbe = false

theorem execProbeBurstStart_starts {s : State} {p : PortId} {n : Nat} {rest : List Nat} (h : s.BurstReady p n rest) :
    exec (.probeBurstStart p) s =
      .next ((((s.fixProbe n).mapPort p fun q => q.beginBurst n rest s.clk.ed).trackFreeze).count 204) := by
  obtain ⟨hq, hst, hben, htx, hwait, hsend, hkill, hcal, hmode, hwaits, hsends⟩ := h
  show execProbeBurstStart p s = _
  simp only [execProbeBurstStart, hq]
  rw [if_neg (by simp only [hst, hben, htx]; decide), if_neg (by simp only [hkill, hsend, hsends, hmode]; decide),
    if_neg (by simp only [hwait, hwaits, hcal]; decide)]
  rfl

theorem State.port_burstStart (s : State) (p : PortId) (n : Nat) (rest : List Nat) :
    ((((s.fixProbe n).mapPort p fun q => q.beginBurst n rest s.clk.ed).trackFreeze).count 204).ports[p] =
      s.ports[p].beginBurst n rest s.clk.ed := by
  have ports := (((s.fixProbe n).mapPort p fun q => q.beginBurst n rest s.clk.ed).trackFreeze).count_ports 204
  simp only [ports]
  exact State.port_mapPort (s.fixProbe n) p (fun q => q.beginBurst n rest s.clk.ed)

/-! O59: ports stay safe. -/

/-- A port in STANDBY that a lost lock holds although its synthesiser is locked again and no retune runs, with a burst queued. -/
def relockedPort : Port := { Port.initial with st := .standby, killed := false, blank := true, lock := true, probeQ := [0] }

/-- ISOLATE with RFKILL_N high and four such ports, and the command that starts a burst waiting. -/
def relocked : State :=
  { State.reset with
    pending := [.probeBurstStart 0], ports := Vector.replicate 4 relockedPort
    pwr := { State.reset.pwr with mode := .isolate, rfkill := false } }

theorem relocked_port (p : PortId) : relocked.ports[p] = relockedPort := Vector.getElem_replicate p.isLt

theorem relockedPort_safe : relockedPort.safe := by
  have quiet : relockedPort.tx = .off ∧ relockedPort.bkey = false := ⟨rfl, rfl⟩
  have noProbe : relockedPort.tune.state = .off ∧ relockedPort.bankWait = none ∧ relockedPort.target = none := ⟨rfl, rfl, rfl⟩
  simp [Port.safe, quiet, noProbe]

theorem relocked_portsOk : relocked.portsOk :=
  ⟨fun p => by rw [relocked_port]; exact relockedPort_safe, fun h => absurd h Bool.false_ne_true⟩

theorem relocked_burstReady : ({ relocked with pending := [] } : State).BurstReady 0 0 [] :=
  ⟨rfl, by decide, rfl, rfl, rfl, rfl, rfl, by decide, rfl, rfl, rfl⟩

/-- Refutes O59: a port may stand held by a lost lock with its synthesiser locked and no retune running, since `Port.safe` does not tie
the three together, and there PROBE_BURST_START, which waits for retunes and refuses unlocked ports only, starts the transmitter. -/
theorem not_portsStaySafe : ¬ Obligations.PortsStaySafe := by
  intro h
  have steps := h relocked _ relocked_portsOk (execProbeBurstStart_starts relocked_burstReady)
  obtain ⟨held, -⟩ := steps.1 0
  rw [State.port_burstStart] at held
  exact (held (.inr (.inr rfl))).1 rfl

end Sys2Proof.Machine

namespace Sys2Proof.Machine

/-! O24: the end of a schedule's run (R35, R44). -/

/-- At a switch point a single-shot interval that its own switch point had opened ends the run (R44). -/
theorem execTddSwitchPoint_leaves {s : State} {pin : PortFlt} {sc : Sched} (hs : s.ports[pin.port].sched = some sc)
    (hrun : s.ports[pin.port].schedRun = true) (htdd : s.ports[pin.port].tune.state.tdd = true)
    (hidx : sc.indexAt s.fabNs ≠ s.ports[pin.port].schedIdx) (hlast : s.ports[pin.port].lastShot = true) :
    exec (.tddSwitchPoint pin) s = .next (s.leaveSched pin.port) := by
  show execTddSwitchPoint pin s = _
  simp only [execTddSwitchPoint, hs, hrun, htdd, hlast, decide_eq_false hidx]
  rfl

theorem State.leaveSched_sched (s : State) (p : PortId) :
    (s.leaveSched p).ports[p].sched = ({ s.ports[p] with schedRun := false } : Port).toReturn.sched := by
  have pins := (s.mapPort p fun q => ({ q with schedRun := false }).toReturn).drive_sameButPins p
  rw [State.port_mapPort] at pins
  unfold State.leaveSched
  rw [pins]

/-- Where the return state does not resume the schedule, one that waits takes its place. -/
theorem Port.toReturn_sched_of_waits {q : Port} {sc : Sched} (hret : q.tune.ret ≠ 3) (hnext : q.schedNext = some (some sc)) :
    q.toReturn.sched = some sc := by
  simp only [Port.toReturn, decide_eq_false hret, Bool.false_and, Bool.false_eq_true, if_false, Port.mapState, Port.endSched, hnext]

/-- Receive, then a single-shot transmission, a millisecond in all, beginning at `phase`. -/
def shotSched (phase : Nat) : Sched := { period := 1000000, phase := phase, points := [⟨0, 1, false⟩, ⟨500000, 2, true⟩] }

/-- A port on a TDD bank whose schedule is in its single-shot interval while another waits for its period start. -/
def shotPort : Port :=
  { Port.initial with
    tune := { TuneRec.initial with state := .tddDl, bank := 9 }
    sched := some (shotSched 0), schedNext := some (some (shotSched 5)), schedRun := true, schedIdx := 1 }

/-- Fabric time has come back to the schedule's first interval. -/
def shotOver : State := { State.reset with ports := Vector.replicate 4 shotPort }

theorem shotOver_port (p : PortId) : shotOver.ports[p] = shotPort := Vector.getElem_replicate p.isLt

theorem shotOver_indexAt : (shotSched 0).indexAt shotOver.fabNs = 0 := by decide

/-- Refutes O24: at the end of a single-shot interval the schedule that ran does not stay loaded when another waits for its period
start, which takes its place (`Port.endSched`). -/
theorem not_portTransitionsAndSchedules : ¬ Obligations.PortTransitionsAndSchedules := by
  intro h
  obtain ⟨-, -, switch, -⟩ := h shotOver 0
  have idx : (shotSched 0).indexAt shotOver.fabNs ≠ shotOver.ports[(0 : PortId)].schedIdx := by
    rw [shotOver_indexAt, shotOver_port]
    decide
  rw [shotOver_port] at switch idx
  obtain ⟨-, shot⟩ := switch (shotSched 0) ⟨500000, 2, true⟩ false rfl rfl rfl rfl idx
  obtain ⟨u, hu, -, loaded⟩ := shot rfl rfl
  rw [execTddSwitchPoint_leaves (sc := shotSched 0) (by rw [shotOver_port]; rfl) (by rw [shotOver_port]; rfl)
    (by rw [shotOver_port]; rfl) (by rw [shotOver_port]; exact idx) (by rw [shotOver_port]; rfl)] at hu
  cases hu
  rw [State.leaveSched_sched, shotOver_port, Port.toReturn_sched_of_waits (sc := shotSched 5) (by decide) rfl] at loaded
  exact absurd loaded (by decide)

end Sys2Proof.Machine

namespace Sys2Proof.Machine

/-! A burst that ends at its port (R35, R36, R39). -/

/-- The return state is a matter of the record and the schedule: state, burst, holds and transmitter stay. -/
theorem Port.toReturn_fields (q : Port) :
    q.toReturn.st = q.st ∧ q.toReturn.probing = q.probing ∧ q.toReturn.killed = q.killed ∧ (q.silent → q.toReturn.silent) := by
  unfold Port.toReturn
  dsimp only
  split <;> exact ⟨rfl, rfl, rfl, id⟩

theorem PState.rxPart_ne_probe (st : PState) (donor : Bool) : st.rxPart donor ≠ .probe := by
  cases st <;> cases donor <;> decide

/-- The port as it leaves PROBE, before its next state is found. -/
def Port.leftProbe (q : Port) (now : Nat) : Port :=
  { q.stopTx now false with st := .standby, probing := none, target := none }

/-- The state in which a port with no record waiting has left PROBE for its return state, as far as the mode receives there (R35). -/
def State.returned (s : State) (p : PortId) : State :=
  let s1 := s.mapPort p fun _ => (s.ports[p].leftProbe s.clk.ed).toReturn
  s1.mapPort p fun q => { q with st := (s1.goal p).rxPart q.tune.donor }

theorem State.leaveProbe_of_waits {s : State} {p : PortId} {r : TuneRec} (h : s.ports[p].probeWait = some r) :
    s.leaveProbe p = (s.mapPort p fun _ => { s.ports[p].leftProbe s.clk.ed with probeWait := none }).applyTune p r := by
  simp only [State.leaveProbe, h]
  rfl

theorem State.leaveProbe_of_none {s : State} {p : PortId} (h : s.ports[p].probeWait = none) :
    s.leaveProbe p = (s.returned p).drive p := by
  simp only [State.leaveProbe, h]
  rfl

theorem State.leaveProbe_worksAt (s : State) (p : PortId) : s.WorksAt p (s.leaveProbe p) := by
  cases h : s.ports[p].probeWait with
  | some r =>
    rw [State.leaveProbe_of_waits h]
    exact (s.mapPort_worksAt p _).trans (State.applyTune_worksAt _ p r)
  | none =>
    rw [State.leaveProbe_of_none h]
    exact (s.mapPort_worksAt p _).trans <| (State.mapPort_worksAt _ p _).trans <| State.drive_worksAt _ p

theorem State.port_returned (s : State) (p : PortId) :
    let q := s.ports[p]
    let u := (s.returned p).ports[p]
    u.st ≠ .probe ∧ u.probing = none ∧ u.killed = q.killed ∧ u.silent := by
  obtain ⟨-, probing, killed, silent⟩ := (s.ports[p].leftProbe s.clk.ed).toReturn_fields
  dsimp only
  rw [State.returned, State.port_mapPort, State.port_mapPort]
  exact ⟨PState.rxPart_ne_probe _ _, probing, killed, silent (Port.stopTx_silent s.ports[p] s.clk.ed false)⟩

/-- A port out of PROBE runs no burst; one that RFKILL_N holds stays held and silent (R36, R49, R50). -/
theorem State.port_leaveProbe (s : State) (p : PortId) :
    let q := s.ports[p]
    let u := (s.leaveProbe p).ports[p]
    u.st ≠ .probe ∧ u.probing = none ∧ u.killed = q.killed ∧ (q.killed = true → u.silent) := by
  dsimp only
  cases h : s.ports[p].probeWait with
  | some r =>
    obtain ⟨st, probing, killed, -, -, -, silent⟩ :=
      (s.mapPort p fun _ => { s.ports[p].leftProbe s.clk.ed with probeWait := none }).port_applyTune p r
    rw [State.port_mapPort] at st probing killed silent
    rw [State.leaveProbe_of_waits h]
    refine ⟨?_, probing, killed, fun hk => silent hk (Port.stopTx_silent s.ports[p] s.clk.ed false)⟩
    rw [st]
    exact (by decide : PState.standby ≠ .probe)
  | none =>
    obtain ⟨st, probing, killed, silent⟩ := s.port_returned p
    have pins := (s.returned p).drive_sameButPins p
    rw [State.leaveProbe_of_none h]
    refine ⟨?_, ?_, ?_, fun hk => State.drive_silent ?_ silent⟩
    · rw [pins]
      exact st
    · rw [pins]
      exact probing
    · rw [pins]
      exact killed
    · simp only [Port.blanked, killed.trans hk, Bool.true_or]

/-! A burst that ends early (R36, R50, R156). -/

theorem State.dropBursts_port (s : State) (k : Nat) (p : PortId) :
    (s.dropBursts k).ports[p] = { s.ports[p] with probeQ := s.ports[p].probeQ.filter fun c => c ≠ k } := s.port_mapPorts p _

/-- An invalid result leaves of the ports all but the queues of bursts, and power control. -/
theorem State.probeInvalid_leaves (s : State) (k : Nat) : (s.probeInvalid k).pwr = s.pwr ∧ (s.probeInvalid k).clk = s.clk ∧
    ∀ p : PortId, (s.probeInvalid k).ports[p] = { s.ports[p] with probeQ := s.ports[p].probeQ.filter fun c => c ≠ k } := by
  unfold State.probeInvalid
  dsimp only
  split
  · have keeps := ((s.mapSlot k fun x => { x with fbc := { x.fbc with pcode := 3, bursts := 0 } }).dropBursts k).event_keeps
      (s.slot k).owner 9
    refine ⟨keeps.pwr, keeps.clk, fun p => ?_⟩
    simp only [keeps.ports]
    exact State.dropBursts_port _ k p
  · exact ⟨rfl, rfl, State.dropBursts_port _ k⟩

end Sys2Proof.Machine

namespace Sys2Proof.Machine

/-- Bursts may have ended early between `s` and `u`: RFKILL_N's hold stays, a port silent under it stays silent, and of a port in no
burst at most the queue changes. -/
structure State.EndsBursts (s u : State) : Prop where
  killed : ∀ p : PortId, u.ports[p].killed = s.ports[p].killed
  silent : ∀ p : PortId, s.ports[p].killed = true → s.ports[p].silent → u.ports[p].silent
  idle : ∀ p : PortId, s.ports[p].probing = none → u.ports[p] = { s.ports[p] with probeQ := u.ports[p].probeQ }

theorem State.endsBursts_refl (s : State) : s.EndsBursts s := ⟨fun _ => rfl, fun _ _ h => h, fun _ _ => rfl⟩

theorem State.EndsBursts.trans {s u v : State} (h1 : s.EndsBursts u) (h2 : u.EndsBursts v) : s.EndsBursts v where
  killed p := (h2.killed p).trans (h1.killed p)
  silent p hk hs := h2.silent p ((h1.killed p).trans hk) (h1.silent p hk hs)
  idle p hp := by
    have early := h1.idle p hp
    have late := h2.idle p (by rw [early]; exact hp)
    rw [late, early]

theorem State.endsBursts_foldl {α : Type} (f : State → α → State) (hf : ∀ (s : State) (a : α), s.EndsBursts (f s a)) (l : List α)
    (s : State) : s.EndsBursts (l.foldl f s) := by
  induction l generalizing s with
  | nil => exact s.endsBursts_refl
  | cons a l ih => exact (hf s a).trans (ih (f s a))

theorem State.leaveProbe_endsBursts {s : State} {p : PortId} (hp : s.ports[p].probing ≠ none) : s.EndsBursts (s.leaveProbe p) := by
  obtain ⟨-, -, killed, silent⟩ := s.port_leaveProbe p
  have other := (s.leaveProbe_worksAt p).other
  refine ⟨fun q => ?_, fun q hk hs => ?_, fun q hq => ?_⟩ <;> by_cases h : q = p
  · rw [h, killed]
  · rw [other q h]
  · subst h
    exact silent hk
  · rw [other q h]
    exact hs
  · exact absurd (h ▸ hq) hp
  · rw [other q h]

theorem State.probeInvalid_endsBursts (s : State) (k : Nat) : s.EndsBursts (s.probeInvalid k) := by
  obtain ⟨-, -, ports⟩ := s.probeInvalid_leaves k
  refine ⟨fun p => ?_, fun p _ hs => ?_, fun p _ => ?_⟩
  · rw [ports]
  · rw [ports]
    exact hs
  · rw [ports]

theorem State.abortBurst_endsBursts (s : State) (p : PortId) : s.EndsBursts (s.abortBurst p) := by
  unfold State.abortBurst
  split
  · rename_i k hk
    exact (State.leaveProbe_endsBursts (by simp only [hk, ne_eq, reduceCtorEq, not_false_eq_true])).trans
      (State.probeInvalid_endsBursts _ k)
  · exact s.endsBursts_refl

/-! O22: RFKILL_N (R48 to R51). -/

/-- The ports' output is cut and held off, and every burst in progress has ended (R49, R50). -/
def State.hush (s : State) : State :=
  (List.finRange 4).foldl (fun s p => s.abortBurst p) (s.mapPorts fun q => { q.stopTx s.clk.ed false with killed := true })

/-- Once cut, every port is held and silent; one in no burst goes on with its state and its record (R49, R50). -/
theorem State.port_hush (s : State) (p : PortId) :
    s.hush.ports[p].killed = true ∧ s.hush.ports[p].silent ∧
      (s.ports[p].probing = none → s.hush.ports[p].st = s.ports[p].st ∧ s.hush.ports[p].tune = s.ports[p].tune) := by
  have ends := State.endsBursts_foldl (fun s p => s.abortBurst p) (fun s p => s.abortBurst_endsBursts p) (List.finRange 4)
    (s.mapPorts fun q => { q.stopTx s.clk.ed false with killed := true })
  obtain ⟨killed, silent, idle⟩ := ends
  specialize killed p
  specialize silent p
  specialize idle p
  rw [State.port_mapPorts] at killed silent idle
  refine ⟨killed, silent rfl (Port.stopTx_silent s.ports[p] s.clk.ed false), fun hp => ?_⟩
  unfold State.hush
  rw [idle hp]
  exact ⟨rfl, rfl⟩

/-- The mask of transmitting ports that the record of an assertion holds (R50). -/
def State.onMask (s : State) : Nat := (List.finRange 4).foldl (fun (a : Nat) p => a + flagN (s.ports[p].tx = .on) p.val) 0

/-- The pin's assertion and its record (R48, R50). -/
def State.pinAsserted (s : State) (mask : Nat) : State :=
  (({ s with pwr := { s.pwr with rfkill := true, rfHigh := false } } : State).trackFreeze).log 0x1000 mask 0 0

theorem State.pinAsserted_ports (s : State) (mask : Nat) : (s.pinAsserted mask).ports = s.ports :=
  (State.log_keeps _ 0x1000 mask 0 0).ports

theorem State.pinAsserted_pwr (s : State) (mask : Nat) : (s.pinAsserted mask).pwr = { s.pwr with rfkill := true, rfHigh := false } :=
  (State.log_keeps _ 0x1000 mask 0 0).pwr

theorem execRfkillAssert_hushes {s : State} (h : s.pwr.rfkill = false) :
    exec .rfkillAssert s = .next (s.hush.pinAsserted s.onMask) := by
  show execRfkillAssert s = _
  simp only [execRfkillAssert, h, State.pinAsserted, State.hush, State.onMask, whenDo, Bool.not_false, if_true]

theorem State.driveAll_killed (s : State) (p : PortId) : s.driveAll.ports[p].killed = s.ports[p].killed := by
  unfold State.driveAll
  induction List.finRange 4 generalizing s with
  | nil => rfl
  | cons o os ih =>
    rw [List.foldl_cons, ih]
    by_cases h : p = o
    · subst h
      rw [s.drive_sameButPins p]
    · rw [(s.drive_worksAt o).other p h]

theorem State.driveAll_pwr (s : State) : s.driveAll.pwr = s.pwr := by
  unfold State.driveAll
  induction List.finRange 4 generalizing s with
  | nil => rfl
  | cons o os ih => rw [List.foldl_cons, ih, (s.drive_worksAt o).pwr]

/-- RFKILL_RELEASE starts the wait of 1 ms (R51). -/
theorem execRfkillRelease_waits {s : State} (h : s.pwr.rfkill = true) : exec .rfkillRelease s =
    .next ({ s with pwr := { s.pwr with rfkill := false, rfHigh := true, rfHighAt := s.clk.ed } } : State).trackFreeze := by
  show execRfkillRelease s = _
  simp only [execRfkillRelease, h]
  rfl

/-- RFKILL_RESTART once the wait is over: every port moves on without the pin's hold (R51). -/
theorem execRfkillRestart_drives {s : State} (hkill : s.pwr.rfkill = false) (hhigh : s.pwr.rfHigh = true)
    (hover : s.pwr.rfHighAt + 983040 ≤ s.clk.ed) : exec .rfkillRestart s =
      .next ((({ s with pwr := { s.pwr with rfHigh := false } } : State).mapPorts fun q => { q with killed := false }).driveAll) := by
  have waited : s.pwr.rfHighAt + edMs 1 ≤ s.clk.ed := hover
  show execRfkillRestart s = _
  simp only [execRfkillRestart, hkill, hhigh, decide_eq_true waited]
  rfl

/-- Settles O22: each port's record through the cut, the ends of bursts that follow it, and the restart. -/
theorem rfkillStopsAndReleases : Obligations.RfkillStopsAndReleases := by
  refine ⟨fun s h => ?_, fun s h => ⟨_, execRfkillRelease_waits h, rfl, (State.trackFreeze_worksAt _ 0).set⟩,
    fun s hkill hhigh hover => ⟨_, execRfkillRestart_drives hkill hhigh hover, ?_, fun p => ?_⟩⟩
  · refine ⟨_, execRfkillAssert_hushes h, by rw [State.pinAsserted_pwr], fun p => ?_⟩
    obtain ⟨killed, ⟨key, on, starting⟩, idle⟩ := s.port_hush p
    simp only [State.pinAsserted_ports]
    exact ⟨killed, key, on, starting, idle⟩
  · rw [State.driveAll_pwr]
    rfl
  · rw [State.driveAll_killed, State.port_mapPorts]

end Sys2Proof.Machine

namespace Sys2Proof.Machine

/-! Error lines (R463, R464). -/

/-- Bit `i` of a 20-bit word with bit `n` alone. -/
theorem getLsbD_line (n i : SubId) : (1#20 <<< n.val).getLsbD i.val = decide (i = n) := by
  rw [BitVec.getLsbD_shiftLeft, BitVec.getLsbD_one, Bool.eq_iff_iff]
  simp only [Bool.and_eq_true, decide_eq_true_eq, Bool.not_eq_true', decide_eq_false_iff_not, Fin.ext_iff]
  omega

/-- A line that rises is high, and the other lines stay. -/
theorem State.lineRise_live (s : State) (n i : SubId) (kind : Byte) :
    (s.lineRise n kind).obs.live.getLsbD i.val = (s.obs.live.getLsbD i.val || decide (i = n)) := by
  unfold State.lineRise
  split
  · rename_i high
    by_cases h : i = n
    · rw [h, high, Bool.true_or]
    · rw [decide_eq_false h, Bool.or_false]
  · simp only [State.countSource, BitVec.getLsbD_or, getLsbD_line]

/-- A line that falls is low, and the other lines stay. -/
theorem State.lineFall_live (s : State) (n i : SubId) :
    (s.lineFall n).obs.live.getLsbD i.val = (s.obs.live.getLsbD i.val && !decide (i = n)) := by
  unfold State.lineFall
  split
  · simp only [BitVec.getLsbD_and, BitVec.getLsbD_not, getLsbD_line, i.isLt, decide_true, Bool.true_and]
  · rename_i low
    by_cases h : i = n
    · rw [h, Bool.eq_false_iff.mpr low, Bool.false_and]
    · rw [decide_eq_false h, Bool.not_false, Bool.and_true]

/-- A pulse leaves every line as it was. -/
theorem State.linePulse_live (s : State) (n i : SubId) (kind : Byte) :
    (s.linePulse n kind).obs.live.getLsbD i.val = s.obs.live.getLsbD i.val := by
  unfold State.linePulse
  split
  · rfl
  · rename_i low
    rw [State.lineFall_live, State.lineRise_live]
    by_cases h : i = n
    · rw [h, Bool.eq_false_iff.mpr low, decide_eq_true rfl, Bool.not_true, Bool.and_false]
    · simp [h]

/-- A record raises no line for good. -/
theorem State.log_live (s : State) (code p0 p1 p2 : Nat) (i : SubId) :
    (s.log code p0 p1 p2).obs.live.getLsbD i.val = s.obs.live.getLsbD i.val := by
  simp only [State.log, State.logFull]
  split
  · rfl
  · split
    · exact State.linePulse_live _ 19 i 0xA8
    · rfl

theorem State.rfeLine_live {s : State} {p : PortId} (h : s.ports[p].bflt = true) : s.rfeLine.obs.live.getLsbD 0 = true := by
  have latched : ((List.finRange 4).any fun p => s.ports[p].bflt) = true := List.any_eq_true.mpr ⟨p, List.mem_finRange p, h⟩
  have rise := s.lineRise_live 0 0 0x10
  simp only [State.rfeLine, State.lineLevel, latched, if_true]
  exact rise.trans (Bool.or_true _)

/-! O23: booster faults and the booster's sequence (R38, R39, R52, R53). -/

/-- The port with its output cut and its fault latched (R53). -/
def Port.faulted (q : Port) (now : Nat) : Port := { q.stopTx now false with bflt := true }

/-- The output of port `p` cut by its fault (R53). -/
def State.cutByFault (s : State) (p : PortId) : State := (s.mapPort p fun q => q.faulted s.clk.ed).trackFreeze

theorem State.port_cutByFault (s : State) (p : PortId) :
    (s.cutByFault p).ports[p] = s.ports[p].faulted s.clk.ed :=
  s.port_mapPort p fun q => q.faulted s.clk.ed

theorem State.faultBooster_eq (s : State) (p : PortId) : s.faultBooster p = (s.cutByFault p).rfeLine.log 0x1001 p.val 0 0 := rfl

theorem State.port_faultBooster (s : State) (p : PortId) :
    (s.faultBooster p).ports[p] = s.ports[p].faulted s.clk.ed := by
  have keeps := (s.cutByFault p).rfeLine.log_keeps 0x1001 p.val 0 0
  rw [State.faultBooster_eq]
  simp only [keeps.ports]
  exact ((s.cutByFault p).port_rfeLine p).trans (s.port_cutByFault p)

theorem State.faultBooster_live (s : State) (p : PortId) : (s.faultBooster p).obs.live.getLsbD 0 = true := by
  rw [State.faultBooster_eq]
  refine (State.log_live _ _ _ _ _ 0).trans (State.rfeLine_live (p := p) ?_)
  rw [State.port_cutByFault]
  rfl

theorem State.faultBooster_worksAt (s : State) (p : PortId) : s.WorksAt p (s.faultBooster p) := by
  rw [State.faultBooster_eq]
  exact (s.mapPort_worksAt p _).trans <| (State.trackFreeze_worksAt _ p).trans <| (State.rfeLine_worksAt _ p).trans <|
    State.log_worksAt _ p _ _ _ _

theorem State.portFault_of_idle {s : State} {p : PortId} (h : s.ports[p].probing = none) :
    s.portFault p = s.faultBooster p := by
  simp only [State.portFault, State.abortBurst, h]

/-- A fault cuts the output, latches, raises RFE's line, and, where no burst ends with it, leaves the rest (R53). -/
theorem State.portFault_cuts (s : State) (p : PortId) :
    let u := s.portFault p
    u.ports[p].bflt = true ∧ u.ports[p].silent ∧ u.obs.live.getLsbD 0 = true ∧
      (s.ports[p].probing = none → s.WorksAt p u ∧ u.ports[p].tune = s.ports[p].tune) := by
  intro u
  have port := (s.abortBurst p).port_faultBooster p
  refine ⟨?_, ?_, (s.abortBurst p).faultBooster_live p, fun h => ?_⟩
  · simp only [u, State.portFault]
    rw [port]
    rfl
  · simp only [u, State.portFault]
    rw [port]
    exact Port.stopTx_silent (s.abortBurst p).ports[p] (s.abortBurst p).clk.ed false
  · simp only [u, State.portFault_of_idle h]
    refine ⟨s.faultBooster_worksAt p, ?_⟩
    rw [s.port_faultBooster p]
    rfl

/-- A booster that its port runs, with its supply up for 50 µs and no key. -/
structure Port.KeyReady (q : Port) (now : Nat) : Prop where
  boost : q.tune.boost = true
  ben : q.ben = true
  bkey : q.bkey = false
  up : q.enAt + 49152 ≤ now

/-- 50 µs after EN a transmitter that starts, or an interval about to transmit, meets the fault input. -/
theorem execBoosterKeyRise_ready {s : State} {p : PortId} (h : s.ports[p].KeyReady s.clk.ed)
    (due : s.ports[p].tx = .starting ∨ s.keyDue p = true) (flt : Bool) : exec (.boosterKeyRise p flt) s =
      .next (if flt then s.portFault p
        else if s.ports[p].tx = .starting then
          s.mapPort p fun q =>
            { q with tx := .on, bkey := true, rampAt := s.clk.ed + q.leadCycles, st := q.target.getD q.st, target := none }
        else s.mapPort p fun q => { q with bkey := true }) := by
  obtain ⟨boost, ben, bkey, up⟩ := h
  have waited : s.ports[p].enAt + fiftyUs ≤ s.clk.ed := up
  have due' : (decide (s.ports[p].tx = .starting) || s.keyDue p) = true := by simpa using due
  show execBoosterKeyRise p flt s = _
  simp only [execBoosterKeyRise, due', boost, ben, bkey, decide_eq_true waited, Bool.not_false, Bool.and_self, whenDo, if_true,
    decide_eq_true_eq]

theorem execBoosterEnFall_falls {s : State} {p : PortId} (stops : s.ports[p].tx = .stopping ∨ s.ports[p].tune.boost = false)
    (ben : s.ports[p].ben = true) (bkey : s.ports[p].bkey = false) (down : s.ports[p].keyAt + 19661 ≤ s.clk.ed) :
    exec (.boosterEnFall p) s =
      .next (s.mapPort p fun q => { q with tx := if q.tx = .stopping then .off else q.tx, ben := false }) := by
  have waited : s.ports[p].keyAt + twentyUs ≤ s.clk.ed := down
  have due : (decide (s.ports[p].tx = .stopping) || !s.ports[p].tune.boost) = true := by simpa using stops
  show execBoosterEnFall p s = _
  simp only [execBoosterEnFall, due, ben, bkey, decide_eq_true waited, Bool.not_false, Bool.and_self, whenDo, if_true]

theorem execBoosterFault_faults {s : State} {p : PortId} (ben : s.ports[p].ben = true)
    (up : s.ports[p].enAt + 49152 ≤ s.clk.ed) : exec (.boosterFault p) s = .next (s.portFault p) := by
  have waited : s.ports[p].enAt + fiftyUs ≤ s.clk.ed := up
  show execBoosterFault p s = _
  simp only [execBoosterFault, ben, decide_eq_true waited, Bool.and_self, whenDo, if_true]

/-- Settles O23: each pin's instruction at its instant, and what a fault cuts and leaves. -/
theorem boosterSequence : Obligations.BoosterSequence := by
  intro s p q faults
  have faulted : ∀ i, exec i s = .next (s.portFault p) → faults i := by
    intro i hi
    obtain ⟨latch, ⟨key, on, starting⟩, line, rest⟩ := s.portFault_cuts p
    refine ⟨_, hi, latch, key, on, starting, line, fun idle => ?_⟩
    obtain ⟨works, tune⟩ := rest idle
    exact ⟨works.other, works.set, tune, fun a => by rw [works.ms]⟩
  refine ⟨fun boost ben bkey up => ?_, fun stops ben bkey down => execBoosterEnFall_falls stops ben bkey down,
    fun ben up => faulted _ (execBoosterFault_faults ben up)⟩
  have ready : s.ports[p].KeyReady s.clk.ed := ⟨boost, ben, bkey, up⟩
  refine ⟨fun starts => ?_, fun rests due => ?_, fun due => faulted _ (execBoosterKeyRise_ready ready due true)⟩
  · rw [execBoosterKeyRise_ready ready (.inl starts), if_neg Bool.false_ne_true, if_pos starts]
    refine congrArg _ (State.mapPort_congr ?_)
    simp only [Port.leadCycles, ready.boost, if_true]
  · rw [execBoosterKeyRise_ready ready (.inr due), if_neg Bool.false_ne_true, if_neg rests]

end Sys2Proof.Machine

namespace Sys2Proof.Machine

/-! O43: the composite limiter (R46, R100, R101). -/

/-- Both rails' words of each synthesis sum under the scaling, zero while the port delivers no output. -/
def State.windowWords (s : State) (p : PortId) (scale : Nat) (sums : List (Int × Int)) : List ((Int × Bool) × (Int × Bool)) :=
  if s.ports[p].outputs s.clk.ed then sums.map fun x => (dacWord scale x.1, dacWord scale x.2)
  else sums.map fun _ => ((0, false), (0, false))

/-- The scaling of a window of the given composite power (R46). -/
def State.windowScale (s : State) (p : PortId) (power : Level) : Nat :=
  max s.ports[p].scale ((power - s.compositeLimit p + 127) / 128).toNat

/-- The words of an interval that saturated. -/
def saturations (words : List ((Int × Bool) × (Int × Bool))) : Nat := (words.filter fun x => x.1.2 || x.2.2).length

/-- The port after a window with these words under the scaling. -/
def Port.scaledTo (q : Port) (scale : Nat) (words : List ((Int × Bool) × (Int × Bool))) : Port :=
  { q with scale := scale, scaled := q.scaled || decide (0 < scale)
           dac := match words.getLast? with | some x => (x.1.1, x.2.1) | none => q.dac }

/-- The count of saturated words of each channel that radiates on the port (R101). -/
def hitBySaturation (p : PortId) (n : Nat) (x : Slot) : Slot :=
  if x.radiating && x.set.txPort = some p then { x with sats := x.sats + n } else x

/-- Saturated words are counted and set SAT (R101). -/
def State.countSaturations (s : State) (p : PortId) (n : Nat) : State :=
  if n = 0 then s
  else { s.countBy 199 n with rad := { s.rad with sat := true, slots := tblMap (fun _ => hitBySaturation p n) s.rad.slots } }

theorem execCompositeLimitScale_eq (p : PortId) (power : Level) (sums : List (Int × Int)) (s : State) :
    let scale := s.windowScale p power
    let words := s.windowWords p scale sums
    exec (.compositeLimitScale p ⟨power, sums⟩) s =
      .next ((s.mapPort p fun q => q.scaledTo scale words).countSaturations p (saturations words)) := rfl

theorem State.countSaturations_ports (s : State) (p : PortId) (n : Nat) : (s.countSaturations p n).ports = s.ports := by
  unfold State.countSaturations
  split
  · rfl
  · exact s.countBy_ports 199 n

theorem hitBySaturation_but_sats (p : PortId) (n : Nat) (x : Slot) :
    { hitBySaturation p n x with sats := 0 } = { x with sats := 0 } := by
  unfold hitBySaturation
  split <;> rfl

/-- Of a channel only its count of saturations changes. -/
theorem State.countSaturations_slot (s : State) (p : PortId) (n k : Nat) :
    (s.countSaturations p n).slot k = { s.slot k with sats := ((s.countSaturations p n).slot k).sats } := by
  unfold State.countSaturations
  split
  · rfl
  · have same := s.slot_tblMap (fun x => { x with sats := 0 }) (fun _ => hitBySaturation p n)
      (fun _ => hitBySaturation_but_sats p n) k
    exact congrArg (fun x : Slot => { x with sats := (tblGet Slot.initial k
      (tblMap (fun _ => hitBySaturation p n) s.rad.slots)).sats }) same

/-- A DAC word has 16 bits (R100). -/
theorem dacWord_range (scale : Nat) (x : Int) : -32768 ≤ (dacWord scale x).1 ∧ (dacWord scale x).1 ≤ 32767 := by
  simp only [dacWord, shrinkWord, clampInt]
  omega

theorem State.windowWords_getLast (s : State) (p : PortId) (scale : Nat) {sums : List (Int × Int)} (h : sums ≠ []) :
    ∃ a b, (s.windowWords p scale sums).getLast? = some
      (if s.ports[p].outputs s.clk.ed then (dacWord scale a, dacWord scale b) else ((0, false), (0, false))) := by
  have last := List.getLast?_eq_some_getLast h
  refine ⟨(sums.getLast h).1, (sums.getLast h).2, ?_⟩
  unfold State.windowWords
  split <;> rw [List.getLast?_map, last] <;> rfl

/-- The words that the DAC last took fit 16 bits, and are zero while the port delivers no output (R38, R100). -/
theorem Port.scaledTo_dac (s : State) (p : PortId) (scale : Nat) {sums : List (Int × Int)} (h : sums ≠ []) :
    let dac := (s.ports[p].scaledTo scale (s.windowWords p scale sums)).dac
    dac.1 ≤ 32767 ∧ -32768 ≤ dac.1 ∧ dac.2 ≤ 32767 ∧ -32768 ≤ dac.2 ∧
      (s.ports[p].outputs s.clk.ed = false → dac = (0, 0)) := by
  obtain ⟨a, b, hlast⟩ := s.windowWords_getLast p scale h
  obtain ⟨loa, hia⟩ := dacWord_range scale a
  obtain ⟨lob, hib⟩ := dacWord_range scale b
  simp only [Port.scaledTo, hlast]
  split
  · rename_i live
    exact ⟨hia, loa, hib, lob, fun off => absurd live (Bool.eq_false_iff.mp off)⟩
  · exact ⟨by decide, by decide, by decide, by decide, fun _ => rfl⟩

/-- Steps of 128 that cover an amount, and the last of which it needs. -/
theorem steps_cover (e : Int) :
    e ≤ 128 * (((e + 127) / 128).toNat : Int) ∧ (0 < e → 128 * (((e + 127) / 128).toNat : Int) < e + 128) := by
  omega

/-- From full scale a window is scaled by its excess, rounded up to the next 0.1 dB (R46). -/
theorem State.windowScale_of_full {s : State} {p : PortId} (h : s.ports[p].scale = 0) (power : Level) :
    let excess := power - s.compositeLimit p
    excess ≤ 128 * (s.windowScale p power : Int) ∧ (0 < excess → 128 * (s.windowScale p power : Int) < excess + 128) := by
  simp only [State.windowScale, h, Nat.zero_max]
  exact steps_cover _

/-! O43: the converters (R63, R65, R66, R68, R80). -/

theorem execAdcClip_eq (p : PortId) (s : State) : ∃ u, exec (.adcClip p) s = .next u ∧
    u.ports = (s.mapPort p fun q =>
      { q with clip := true, clipMs := true
               clipCnt := if q.clipMs ∨ q.clipCnt = 255 then q.clipCnt else q.clipCnt + 1 }).ports := by
  have counted : ∀ q : Port, (if q.clipMs then q.clipCnt else if q.clipCnt = 255 then 255 else q.clipCnt + 1) =
      if q.clipMs ∨ q.clipCnt = 255 then q.clipCnt else q.clipCnt + 1 := by
    intro q
    by_cases ms : q.clipMs = true
    · simp only [ms, if_true, true_or]
    · by_cases full : q.clipCnt = 255
      · simp only [ms, full, Bool.false_eq_true, if_false, if_true, or_true]
      · simp only [ms, full, Bool.false_eq_true, if_false, or_false]
  refine ⟨_, rfl, ?_⟩
  simp only [counted]
  split
  · rfl
  · exact State.count_ports _ _

/-- The set in force is the most recent of at most 16 (R65). -/
theorem Port.keepCoefs_coefs (q : Port) : q.keepCoefs.coefs.head? = some ((q.tune.bank.toNat, q.tune.rxlo), q.coef) ∧
    q.keepCoefs.coefs.length ≤ 16 :=
  ⟨rfl, List.length_take_le _ _⟩

/-- CONV's rule leaves the coefficients. -/
theorem Port.converge_coefs (q : Port) (spur : Level) : (q.converge spur).coef = q.coef ∧ (q.converge spur).coefs = q.coefs := by
  unfold Port.converge
  split
  · split <;> exact ⟨rfl, rfl⟩
  · exact ⟨rfl, rfl⟩

theorem Port.converge_of_clean (q : Port) {spur : Level} (h : spur ≤ -108800) : (q.converge spur).conv = true := by
  unfold Port.converge
  split
  · rename_i conv
    exact conv
  · simp only [decide_eq_true h, Bool.true_or]

theorem Port.converge_of_spur {q : Port} {spur : Level} (h : -108800 < spur) :
    (q.conv = true → (q.converge spur).conv = false ∧ (q.converge spur).convMax = 50) ∧
      (q.conv = false → (q.converge spur).conv = decide (q.convMax ≤ q.adaptMs + 1)) := by
  have above : ¬ spur ≤ -108800 := Int.not_le.mpr h
  refine ⟨fun conv => ?_, fun conv => ?_⟩
  · simp only [Port.converge, conv, if_true, if_neg above, and_self]
  · simp only [Port.converge, conv, Bool.false_eq_true, if_false, decide_eq_false above, Bool.false_or]

theorem Port.adapts_iff (q : Port) (composite : Level) : q.adapts composite = true ↔
    q.rxv = true ∧ q.st.receives q.tune.donor = true ∧ q.clipMs = false ∧ -96000 ≤ composite := by
  simp only [Port.adapts, Bool.and_eq_true, Bool.not_eq_true', decide_eq_true_eq, and_assoc]

/-- The port after an interval over which CNV adapts (R63, R65). -/
def Port.adapted (q : Port) (est : CnvEstimate) : Port :=
  { ({ q with coef := est.coef }.keepCoefs).converge est.spur with adapt := true, clipMs := false }

theorem execCnvAdaptUpdate_port (s : State) (p : PortId) (composite : Level) (est : CnvEstimate) :
    s.gives (.cnvAdaptUpdate p composite est) fun u => u.ports[p] =
      if s.ports[p].adapts composite then s.ports[p].adapted est else { s.ports[p] with adapt := false, clipMs := false } :=
  ⟨_, rfl, State.port_mapPort s p fun q =>
    if q.adapts composite then q.adapted est else { q with adapt := false, clipMs := false }⟩

/-- The port with a measurement of leakage and image (R68). -/
def Port.calibrated (q : Port) (leak image : Level) : Port := { q with txLeak := leak, txImage := image }

theorem execTxCalTrack_tracks {s : State} {p : PortId} (on : s.ports[p].tx = .on) (still : s.ports[p].retune = none)
    (leak image : Level) : exec (.txCalTrack p leak image) s = .next (s.txCal p leak image) := by
  show execTxCalTrack p leak image s = _
  simp only [execTxCalTrack, on, still, whenDo]
  rfl

/-- A pulse of a line that is low sets its sticky bit. -/
theorem State.linePulse_sticky {s : State} {n : SubId} (h : s.obs.live.getLsbD n.val = false) (kind : Byte) :
    (s.linePulse n kind).obs.sticky.getLsbD n.val = true := by
  have rise : (s.lineRise n kind).obs.sticky.getLsbD n.val = true := by
    simp only [State.lineRise, h, Bool.false_eq_true, if_false, State.countSource, BitVec.getLsbD_or, getLsbD_line, decide_true,
      Bool.or_true]
  have fall : ∀ u : State, (u.lineFall n).obs.sticky = u.obs.sticky := by
    intro u
    unfold State.lineFall
    split <;> rfl
  simp only [State.linePulse, h, Bool.false_eq_true, if_false, fall, rise]

theorem State.linePulse_live_eq (s : State) (n : SubId) (kind : Byte) : (s.linePulse n kind).obs.live = s.obs.live :=
  BitVec.eq_of_getLsbD_eq fun i hi => s.linePulse_live n ⟨i, hi⟩ kind

theorem State.txCal_of_good {leak image : Level} (hl : leak ≤ -76800) (hi : image ≤ -83200) (s : State) (p : PortId) :
    s.txCal p leak image = s.mapPort p fun q => q.calibrated leak image := by
  have good : txCalBad leak image = false := by
    simp only [txCalBad, decide_eq_false (Int.not_lt.mpr hl), decide_eq_false (Int.not_lt.mpr hi), Bool.or_false]
  simp only [State.txCal, good, Bool.false_eq_true, if_false]
  rfl

theorem State.txCal_of_bad {leak image : Level} (h : -76800 < leak ∨ -83200 < image) (s : State) (p : PortId) :
    s.txCal p leak image = (s.mapPort p fun q => q.calibrated leak image).linePulse 2 0x20 := by
  have bad : txCalBad leak image = true := by simpa [txCalBad] using h
  simp only [State.txCal, bad, if_true]
  rfl

/-- HW.CNVn_STAT holds CLIPCNT in its upper byte (R80). -/
theorem Port.regCnv_clipCnt (q : Port) : q.regCnv < 65536 ∧ q.regCnv / 256 = q.clipCnt.toNat := by
  have cnt := q.clipCnt.isLt
  have flag : ∀ b k, flagN b k ≤ 2 ^ k := by intro b k; cases b <;> simp [flagN]
  have h0 := flag q.conv 0
  have h1 := flag q.adapt 1
  have h2 := flag q.rxv 2
  have h3 := flag q.clip 3
  unfold Port.regCnv
  omega

/-- The port's register lies at 0x0018 + 2p and nothing else does (R520). -/
theorem State.reg_cnv (s : State) (p : PortId) : s.reg (0x0018 + 2 * p.val) = some s.ports[p].regCnv := by
  fin_cases p <;> rfl

theorem execClipcntRead_reads {s : State} (h : s.busOpen = true) (p : PortId) :
    exec (.clipcntRead p) s = .next ((s.drive16 s.ports[p].regCnv).mapPort p fun q => { q with clipCnt := 0 }) := by
  have beyond : inBuffers (0x0018 + 2 * p.val) = false := by fin_cases p <;> rfl
  have effect : ∀ u : State, u.readEffect (0x0018 + 2 * p.val) = u.mapPort p fun q => { q with clipCnt := 0 } := by
    intro u
    fin_cases p <;> rfl
  show execClipcntRead p s = _
  simp only [execClipcntRead, State.hostRead, h, Bool.not_true, Bool.false_eq_true, if_false, beyond, s.reg_cnv p, effect]

/-- The clauses of the composite limiter. -/
theorem compositeLimitScale_scales (s : State) (p : PortId) (power : Level) (sums : List (Int × Int)) :
    s.gives (.compositeLimitScale p ⟨power, sums⟩) fun u =>
      (∀ n, u.slot n = { s.slot n with sats := (u.slot n).sats }) ∧ (sums = [] → u = { s with ports := u.ports }) ∧
      u.ports[p] = s.ports[p].scaledTo (s.windowScale p power) (s.windowWords p (s.windowScale p power) sums) := by
  refine ⟨_, execCompositeLimitScale_eq p power sums s, fun n => State.countSaturations_slot _ p _ n, fun h => ?_, ?_⟩
  · have none : s.windowWords p (s.windowScale p power) sums = [] := by simp [State.windowWords, h]
    rw [none]
    rfl
  · simp only [State.countSaturations_ports]
    exact s.port_mapPort p fun q => q.scaledTo (s.windowScale p power) (s.windowWords p (s.windowScale p power) sums)

/-- The clauses of CNV's intervals that adapt. -/
theorem Port.adapted_fields (q : Port) (est : CnvEstimate) :
    let u := q.adapted est
    u.adapt = true ∧ u.coef = est.coef ∧ u.coefs.head? = some ((q.tune.bank.toNat, q.tune.rxlo), est.coef) ∧
      u.coefs.length ≤ 16 ∧ (est.spur ≤ -108800 → u.conv = true) ∧
      (-108800 < est.spur → q.conv = true → u.conv = false ∧ u.convMax = 50) ∧
      (-108800 < est.spur → q.conv = false → u.conv = decide (q.convMax ≤ q.adaptMs + 1)) := by
  obtain ⟨coef, coefs⟩ := ({ q with coef := est.coef }.keepCoefs : Port).converge_coefs est.spur
  obtain ⟨head, length⟩ := ({ q with coef := est.coef } : Port).keepCoefs_coefs
  exact ⟨rfl, coef, (congrArg List.head? coefs).trans head, (congrArg List.length coefs).trans_le length,
    fun h => Port.converge_of_clean _ h,
    fun h => (Port.converge_of_spur (q := { q with coef := est.coef }.keepCoefs) h).1,
    fun h => (Port.converge_of_spur (q := { q with coef := est.coef }.keepCoefs) h).2⟩

/-- Settles O43: each instruction of the limiter, the converters and the register by its port's new record. -/
theorem convertersAndLimiter : Obligations.ConvertersAndLimiter := by
  refine fun s p => ⟨fun power sums => ?_, ⟨_, rfl, rfl, ?_⟩, ?_,
    fun composite spur est => ⟨fun rxv receives quiet loud => ?_, fun idle => ?_⟩, fun leak image sends still => ⟨fun hl hi => ?_, fun bad low => ?_⟩,
    fun busOpen => ?_⟩
  · obtain ⟨u, hu, slots, only, port⟩ := compositeLimitScale_scales s p power sums
    refine ⟨u, hu, slots, only, fun h => ?_, ?_, fun h => ?_⟩
    · obtain ⟨hia, loa, hib, lob, silent⟩ := Port.scaledTo_dac s p (s.windowScale p power) h
      rw [port]
      exact ⟨loa, hia, lob, hib, silent⟩
    · rw [port]
      exact Nat.le_max_left _ _
    · rw [port]
      exact State.windowScale_of_full h power
  · rw [State.port_mapPort]
  · obtain ⟨u, hu, ports⟩ := execAdcClip_eq p s
    refine ⟨u, hu, ?_, fun q hq => ?_⟩
    · simp only [ports]
      exact s.port_mapPort p _
    · simp only [ports]
      exact s.port_mapPort_ne hq _
  · obtain ⟨u, hu, port⟩ := execCnvAdaptUpdate_port s p composite ⟨spur, est⟩
    refine ⟨u, hu, ?_⟩
    dsimp only
    rw [port, if_pos ((Port.adapts_iff _ _).mpr ⟨rxv, receives, quiet, loud⟩)]
    exact s.ports[p].adapted_fields ⟨spur, est⟩
  · obtain ⟨u, hu, port⟩ := execCnvAdaptUpdate_port s p composite ⟨spur, est⟩
    refine ⟨u, hu, port.trans (if_neg fun adapts => ?_)⟩
    obtain ⟨rxv, receives, quiet, loud⟩ := (Port.adapts_iff _ _).mp adapts
    simp only [rxv, receives, quiet, Bool.true_eq_false, Bool.false_eq_true, false_or] at idle
    exact absurd idle (Int.not_lt.mpr loud)
  · refine ⟨_, execTxCalTrack_tracks sends still leak image, ?_, ?_⟩ <;> rw [State.txCal_of_good hl hi]
    · rfl
    · rw [State.port_mapPort]
      rfl
  · refine ⟨_, execTxCalTrack_tracks sends still leak image, ?_⟩
    rw [State.txCal_of_bad bad]
    refine ⟨State.linePulse_sticky low 0x20, State.linePulse_live_eq _ _ _, ?_⟩
    simp only [(State.linePulse_keeps _ _ _).ports]
    exact s.port_mapPort p fun q => q.calibrated leak image
  · obtain ⟨fits, cnt⟩ := s.ports[p].regCnv_clipCnt
    refine ⟨_, execClipcntRead_reads busOpen p, ?_,
      State.port_mapPort (s.drive16 s.ports[p].regCnv) p fun q => { q with clipCnt := 0 }⟩
    rw [← cnt]
    exact congrArg (· / 256) (Nat.mod_eq_of_lt fits)

end Sys2Proof.Machine

namespace Sys2Proof.Machine

/-! What faults, memory's errors, packets and stores leave of the radio: all of it. -/

theorem State.rad_foldl {α : Type} {f : State → α → State} (hf : ∀ (s : State) (a : α), (f s a).rad = s.rad) (l : List α)
    (s : State) : (l.foldl f s).rad = s.rad := by
  induction l generalizing s with
  | nil => rfl
  | cons a l ih => rw [List.foldl_cons, ih, hf]

/-! Records and faults. -/

@[simp] theorem State.countSource_rad (s : State) (k : Nat) : (s.countSource k).rad = s.rad := rfl

@[simp] theorem State.lineRise_rad (s : State) (n : SubId) (kind : Byte) : (s.lineRise n kind).rad = s.rad := by
  unfold State.lineRise
  split <;> rfl

@[simp] theorem State.lineFall_rad (s : State) (n : SubId) : (s.lineFall n).rad = s.rad := by
  unfold State.lineFall
  split <;> rfl

@[simp] theorem State.linePulse_rad (s : State) (n : SubId) (kind : Byte) : (s.linePulse n kind).rad = s.rad := by
  unfold State.linePulse
  split <;> simp

@[simp] theorem State.logFull_rad (s : State) (code : Nat) (fl : RecFlags) (node : NodeId) (part p0 p1 p2 p3 : Nat) :
    (s.logFull code fl node part p0 p1 p2 p3).rad = s.rad := by
  simp only [State.logFull]
  split
  · rfl
  · split <;> simp

@[simp] theorem State.log_rad (s : State) (code p0 p1 p2 : Nat) : (s.log code p0 p1 p2).rad = s.rad := s.logFull_rad _ _ _ _ _ _ _ _

@[simp] theorem State.logFault_rad (s : State) (m : BitVec 128) (k : Byte) : (s.logFault m k).rad = s.rad :=
  s.logFull_rad _ _ _ _ _ _ _ _

@[simp] theorem State.placeFault_rad (s : State) (m : BitVec 128) (k : Byte) : (s.placeFault m k).rad = s.rad := by
  simp only [State.placeFault, State.logFault_rad]
  split <;> simp

@[simp] theorem State.holdFault_rad (s : State) (m : BitVec 128) (via : Option ChainId) : (s.holdFault m via).rad = s.rad := by
  simp only [State.holdFault]
  split <;> simp

@[simp] theorem State.codedFaultN_rad (s : State) (sub kind part : Nat) (addr : Word) (n : Nat) (exc : Option Nat) :
    (s.codedFaultN sub kind part addr n exc).rad = s.rad := by
  simp only [State.codedFaultN]
  split
  · simp
  · split
    · simp
    · cases exc <;> · dsimp only; split <;> simp

@[simp] theorem State.codedFault_rad (s : State) (sub kind part : Nat) (addr : Word) : (s.codedFault sub kind part addr).rad = s.rad :=
  s.codedFaultN_rad _ _ _ _ _ _

@[simp] theorem State.violation_rad (s : State) (p : PartId) (kind : Byte) : (s.violation p kind).rad = s.rad := by
  simp [State.violation]

/-! Memory's errors. -/

@[simp] theorem State.touch_rad (s : State) (part : PartId) (va : Nat) : (s.touch part va).rad = s.rad := by
  unfold State.touch
  split <;> simp

@[simp] theorem State.touchRange_rad (s : State) (part : PartId) (va n : Nat) : (s.touchRange part va n).rad = s.rad :=
  State.rad_foldl (fun u _ => u.touch_rad _ _) _ s

@[simp] theorem State.frameGone_rad (s : State) (t g : Nat) : (s.frameGone t g).rad = s.rad := by
  simp [State.frameGone]

@[simp] theorem State.leaveFrame_rad (s : State) (t g : Nat) (ce : List Nat) : (s.leaveFrame t g ce).rad = s.rad := by
  simp only [State.leaveFrame]
  split
  · simp
  · split <;> rfl

@[simp] theorem State.takeFrame_rad (s : State) (t g : Nat) : (s.takeFrame t g).1.rad = s.rad := by
  simp only [State.takeFrame]
  split
  · rfl
  · split <;> rfl

@[simp] theorem State.mapPage_rad (s : State) (p : Page) (f : Page → Page) : (s.mapPage p f).rad = s.rad := rfl

@[simp] theorem State.dropFlaw_rad (s : State) (f : Flaw) : (s.dropFlaw f).rad = s.rad := rfl

@[simp] theorem State.uncorrected_rad (s : State) (part : PartId) (va : Nat) : (s.uncorrected part va).rad = s.rad := by
  simp [State.uncorrected]

@[simp] theorem State.poisonBlock_rad (s : State) (part : PartId) (va : Nat) : (s.poisonBlock part va).rad = s.rad := by
  simp [State.poisonBlock]

@[simp] theorem State.corrected_rad (s : State) : s.corrected.rad = s.rad := by
  simp [State.corrected]

@[simp] theorem State.carryFlaw_rad (s : State) (part : PartId) (t : Nat) (f : Flaw) : (s.carryFlaw part t f).rad = s.rad := by
  unfold State.carryFlaw
  split <;> simp

@[simp] theorem State.carryFlaws_rad (s : State) (p : Page) (copy : Bool) : (s.carryFlaws p copy).1.rad = s.rad :=
  State.rad_foldl (fun u f => u.carryFlaw_rad _ _ f) _ s

@[simp] theorem State.releaseCopy_rad (s : State) (p : Page) : (s.releaseCopy p).rad = s.rad :=
  State.rad_foldl (fun u f => ((u.dropFlaw f).uncorrected_rad _ _).trans (u.dropFlaw_rad f)) _ s

@[simp] theorem State.reframe_rad (s : State) (p : Page) (tier : BitVec 2) (gone : Bool) : (s.reframe p tier gone).rad = s.rad := by
  simp only [State.reframe]
  split
  · split <;> simp
  · split
    · simp
    · split <;> simp

@[simp] theorem State.dropColdReplica_rad (s : State) : s.dropColdReplica.rad = s.rad := by
  simp only [State.dropColdReplica]
  split <;> simp

@[simp] theorem State.makeRoom_rad (s : State) (g : Nat) : (s.makeRoom g).rad = s.rad := by
  refine State.rad_foldl (fun u i => ?_) _ s
  split <;> simp

@[simp] theorem State.retireFrame_rad (s : State) (p : Page) (copy : Bool) : (s.retireFrame p copy).rad = s.rad := by
  simp only [State.retireFrame]
  split
  · split <;> simp
  · split
    · rw [State.count_rad, State.reframe_rad]
      split
      · exact s.makeRoom_rad _
      · rfl
    · rfl

@[simp] theorem State.correctedError_rad (s : State) (p : Page) (copy : Bool) : (s.correctedError p copy).rad = s.rad := by
  unfold State.correctedError
  extract_lets times s1
  have fixed : s1.rad = s.rad := s.corrected_rad
  split
  · exact (State.retireFrame_rad _ _ _).trans fixed
  · exact fixed

@[simp] theorem State.meetFlaw_rad (s : State) (part : PartId) (f : Flaw) : (s.meetFlaw part f).rad = s.rad := by
  unfold State.meetFlaw
  split
  · rfl
  · split
    · simp
    · dsimp only
      split <;> simp

@[simp] theorem State.readErrors_rad (s : State) (part : PartId) (va n : Nat) : (s.readErrors part va n).rad = s.rad :=
  State.rad_foldl (fun u f => u.meetFlaw_rad _ f) _ s

@[simp] theorem State.storeBytes_rad (s : State) (part : PartId) (va : Nat) (bs : List Byte) :
    (s.storeBytes part va bs).rad = s.rad := by
  simp only [State.storeBytes, State.touchRange_rad]
  rfl

/-! Packets and the store queues. -/

@[simp] theorem State.enqueue_rad (s : State) (p : TxPacket) : (s.enqueue p).rad = s.rad := by
  unfold State.enqueue
  split <;> simp

@[simp] theorem State.queuePri_rad (s : State) (p : TxPacket) : (s.queuePri p).rad = s.rad := by
  simp only [State.queuePri]
  split
  · simp
  · split
    · simp
    · split <;> simp

@[simp] theorem State.queueOn_rad (s : State) (p : TxPacket) : (s.queueOn p).rad = s.rad := by
  unfold State.queueOn
  split <;> simp

@[simp] theorem State.deadEnd_rad (s : State) (dst : NodeId) (cells : Nat) (first : Bool) :
    (s.deadEnd dst cells first).rad = s.rad := by
  unfold State.deadEnd
  split
  · rfl
  · split <;> split <;> simp

@[simp] theorem State.sendOnPorts_rad (s : State) (ports : List ChainId) (dst : NodeId) (pri : BitVec 3) (typ : BitVec 4)
    (part : PartId) (body : PktBody) : (s.sendOnPorts ports dst pri typ part body).rad = s.rad := by
  unfold State.sendOnPorts
  split
  · rfl
  · split
    · simp
    · exact State.rad_foldl (fun u l => u.queueOn_rad _) ports _

@[simp] theorem State.sendPacket_rad (s : State) (dst : NodeId) (pri : BitVec 3) (typ : BitVec 4) (part : PartId) (body : PktBody) :
    (s.sendPacket dst pri typ part body).rad = s.rad := s.sendOnPorts_rad _ _ _ _ _ _

@[simp] theorem State.askDiscard_rad (s : State) (key : Nat) : (s.askDiscard key).rad = s.rad := by
  unfold State.askDiscard
  split
  · rfl
  · split
    · rfl
    · exact State.rad_foldl (fun u h => u.sendPacket_rad _ _ _ _ _) _ _

@[simp] theorem State.askDiscardAt_rad (s : State) (part : PartId) (va n : Nat) : (s.askDiscardAt part va n).rad = s.rad := by
  simp only [State.askDiscardAt]
  split
  · split <;> simp
  · split
    · rw [State.askDiscard_rad]
      split <;> simp
    · split <;> simp

theorem drainList_rad (part : PartId) (l : List StoreEntry) (n : Nat) (held : List StoreEntry) (s : State) :
    (drainList part n held l s).1.rad = s.rad := by
  induction l generalizing s n held with
  | nil => rfl
  | cons e l ih =>
    unfold drainList
    split
    · exact ih _ _ s
    · split <;> simp [ih]

@[simp] theorem State.drainSome_rad (s : State) (t n : Nat) : (s.drainSome t n).rad = s.rad := by
  unfold State.drainSome
  split
  · rfl
  · simp [drainList_rad]

@[simp] theorem State.drain_rad (s : State) (t : Nat) : (s.drain t).rad = s.rad := by
  unfold State.drain
  split <;> simp

/-! Tasks that are placed on contexts or read on. -/

@[simp] theorem State.placeOn_rad (s : State) (t c : Nat) : (s.placeOn t c).rad = s.rad := by
  unfold State.placeOn
  split
  · rfl
  · split
    · rfl
    · dsimp only
      split
      · simp
      · split <;> simp

@[simp] theorem placeList_rad (l : List Nat) (s : State) : (placeList l s).rad = s.rad := by
  induction l generalizing s with
  | nil => rfl
  | cons t l ih =>
    unfold placeList
    split
    · split <;> simp [ih]
    · exact ih _

@[simp] theorem State.place_rad (s : State) : s.place.rad = s.rad := by
  unfold State.place
  split <;> simp

@[simp] theorem State.makeReady_rad (s : State) (t : Nat) : (s.makeReady t).rad = s.rad := by
  unfold State.makeReady
  split <;> simp

@[simp] theorem State.freeIndex_rad (s : State) (t : Nat) : (s.freeIndex t).rad = s.rad := rfl

@[simp] theorem State.taught_rad (s : State) (t : Nat) (l : List (Nat × Nat)) : (s.taught t l).rad = s.rad := by
  unfold State.taught
  split <;> rfl

@[simp] theorem State.putReg_rad (s : State) (t : Nat) (r : Reg) (v : Word) : (s.putReg t r v).rad = s.rad := by
  unfold State.putReg
  split <;> simp

@[simp] theorem State.countDone_rad (s : State) (t : Nat) : (s.countDone t).rad = s.rad := by
  unfold State.countDone
  split <;> simp

end Sys2Proof.Machine

namespace Sys2Proof.Machine

/-! What the end of a wait leaves of the channels: all but the settings that an ended task had staged. -/

/-- The loops of every channel, with what their probes found, are in `u` as in `s`. -/
def State.KeepsLoops (s u : State) : Prop := ∀ n, (u.slot n).fbc = (s.slot n).fbc

theorem State.keepsLoops_of_rad {s u : State} (h : u.rad = s.rad) : s.KeepsLoops u := fun n => by
  simp only [State.slot, h]

theorem State.KeepsLoops.trans {s u v : State} (h1 : s.KeepsLoops u) (h2 : u.KeepsLoops v) : s.KeepsLoops v :=
  fun n => (h2 n).trans (h1 n)

/-- What follows changes nothing of the radio. -/
theorem State.KeepsLoops.rad {s u v : State} (h1 : s.KeepsLoops u) (h2 : v.rad = u.rad) : s.KeepsLoops v :=
  h1.trans (State.keepsLoops_of_rad h2)

theorem State.keepsLoops_foldl {α : Type} {f : State → α → State} (hf : ∀ (s : State) (a : α), s.KeepsLoops (f s a)) (l : List α)
    (s : State) : s.KeepsLoops (l.foldl f s) := by
  induction l generalizing s with
  | nil => exact State.keepsLoops_of_rad rfl
  | cons a l ih => exact (hf s a).trans (ih (f s a))

theorem State.dropPend_keepsLoops (s : State) (t : Nat) : s.KeepsLoops (s.dropPend t) := by
  refine s.slot_tblMap Slot.fbc _ fun k x => ?_
  split
  · split <;> rfl
  · rfl

theorem State.dropWait_keepsLoops (s : State) (t : Nat) : s.KeepsLoops (s.dropWait t) := by
  unfold State.dropWait
  split
  · split <;> exact fun n => rfl
  · exact fun n => rfl

theorem State.endTask0_keepsLoops (s : State) (t : Nat) (v : Word) : s.KeepsLoops (s.endTask0 t v) := by
  unfold State.endTask0
  split
  · exact State.keepsLoops_of_rad rfl
  · exact ((s.dropWait_keepsLoops t).rad rfl).trans (State.dropPend_keepsLoops _ t)

theorem State.exceptionEnd_keepsLoops (s : State) (t : Nat) (cause : Byte) (pc addr : Word) (n : Nat) :
    s.KeepsLoops (s.exceptionEnd t cause pc addr n) := by
  unfold State.exceptionEnd
  split
  · exact State.keepsLoops_of_rad rfl
  · exact (State.keepsLoops_of_rad (by simp)).trans (State.endTask0_keepsLoops _ t _)

theorem State.exception0_keepsLoops (s : State) (t : Nat) (cause : Byte) (pc addr : Word) (n : Nat) :
    s.KeepsLoops (s.exception0 t cause pc addr n) := by
  unfold State.exception0
  split
  · exact State.keepsLoops_of_rad rfl
  · split
    · rename_i k _ _
      dsimp only
      refine (show s.KeepsLoops _ from (State.keepsLoops_of_rad (u := (s.codedFaultN (excSub k.part) cause.toNat k.part.val addr n
        (some t)).countFor k.part 10) (by simp)).trans ((State.dropPend_keepsLoops _ t).rad (State.setTask_rad _ t
          { k with cause := cause, excPc := pc, excAddr := addr, active := true, pc := k.evec }))).trans ?_
      split
      · exact State.keepsLoops_of_rad (State.readErrors_rad _ _ _ _)
      · split
        · exact State.exceptionEnd_keepsLoops _ _ _ _ _ _
        · exact (State.keepsLoops_of_rad (State.violation_rad _ _ _)).trans (State.exceptionEnd_keepsLoops _ _ _ _ _ _)
    · exact s.exceptionEnd_keepsLoops _ _ _ _ _

theorem State.goto0_keepsLoops (s : State) (t : Nat) (target : Word) : s.KeepsLoops (s.goto0 t target) := by
  unfold State.goto0
  split
  · exact State.keepsLoops_of_rad rfl
  · split
    · exact State.keepsLoops_of_rad (by simp)
    · split
      · exact (State.keepsLoops_of_rad (s.readErrors_rad _ _ _)).trans (State.exception0_keepsLoops _ _ _ _ _ _)
      · exact (State.keepsLoops_of_rad (s.violation_rad _ _)).trans (State.exception0_keepsLoops _ _ _ _ _ _)

theorem State.wakeRaw_keepsLoops (s : State) (t : Nat) (gd gb : Reg) (v w : Word) : s.KeepsLoops (s.wakeRaw t gd gb v w) := by
  unfold State.wakeRaw
  split
  · exact State.keepsLoops_of_rad rfl
  · rename_i k _
    dsimp only
    have went : s.KeepsLoops (((s.putReg t gd v).putReg t gb w).goto0 t (k.pc + 4)) :=
      (State.keepsLoops_of_rad (by simp)).trans (State.goto0_keepsLoops _ t _)
    split
    · split
      · exact went.rad (State.makeReady_rad _ t)
      · exact went
    · exact went

theorem State.serveJoins_keepsLoops (fuel : Nat) (s : State) (t : Nat) : s.KeepsLoops (s.serveJoins t fuel) := by
  induction fuel generalizing s t with
  | zero => exact State.keepsLoops_of_rad rfl
  | succ fuel ih =>
    unfold State.serveJoins
    split
    · exact State.keepsLoops_of_rad rfl
    · split
      · split
        · exact State.keepsLoops_of_rad rfl
        · refine State.KeepsLoops.trans ?_ (State.keepsLoops_foldl (fun u x => ?_) _ _)
          · exact (State.keepsLoops_of_rad (by simp)).trans ((State.wakeRaw_keepsLoops _ _ _ _ _ _).trans (ih _ _))
          · exact (State.keepsLoops_of_rad (u.violation_rad _ _)).trans ((State.wakeRaw_keepsLoops _ _ _ _ _ _).trans (ih _ _))
      · exact State.keepsLoops_of_rad rfl

theorem State.wake_keepsLoops (s : State) (t : Nat) (gd : Reg) (v : Word) : s.KeepsLoops (s.wake t gd v) :=
  (State.keepsLoops_of_rad (s.countDone_rad t)).trans <| (State.wakeRaw_keepsLoops _ _ _ _ _ _).trans <|
    (State.serveJoins_keepsLoops 512 _ t).rad (State.place_rad _)

theorem State.event_keepsLoops (s : State) (p : PartId) (bit : Nat) : s.KeepsLoops (s.event p bit) :=
  (State.keepsLoops_of_rad (s.mapPart_rad p _)).trans <| (State.keepsLoops_of_rad (State.mapPart_rad _ p _)).trans <|
    State.keepsLoops_foldl (fun u _ => u.wake_keepsLoops _ _ _) _ _

end Sys2Proof.Machine

namespace Sys2Proof.Machine

/-! O33: probes (R35, R36, R154 to R160). -/

/-! ch.probe (R154). -/

theorem onChannelHeld_onChan {s : State} {t : TaskId} {k : Task} {c n : Nat} {ga : Reg} (h : s.onChan t k c ga n)
    (hw : s.inWatch = false) (gd : Reg) (i : Instr) (f : Task → Nat → State → State) :
    onChannelHeld t gd ga i s f = .next (f k n (s.issued k c)) := by
  obtain ⟨hrun, -, hchan⟩ := h
  refine (onEngine_issued hrun 3 _).trans (congrArg _ ?_)
  obtain ⟨x, y, counts⟩ := s.issued_counts k c
  have watch : (s.issued k c).inWatch = false := by rw [counts]; exact hw
  have chan : (s.issued k c).chan k.part (k.get ga) = some n := by rw [counts]; exact hchan
  rw [if_neg (by simp [watch]), chan]

@[simp] theorem State.issued_rad (s : State) (k : Task) (c : Nat) : (s.issued k c).rad = s.rad := by
  unfold State.issued
  split <;> simp

@[simp] theorem State.issued_ports (s : State) (k : Task) (c : Nat) : (s.issued k c).ports = s.ports := by
  unfold State.issued
  split <;> simp

@[simp] theorem State.issued_slot (s : State) (k : Task) (c n : Nat) : (s.issued k c).slot n = s.slot n := by
  simp only [State.slot, State.issued_rad]

/-- The issue cycle's counter is nothing that ch.probe looks at. -/
theorem State.issued_probes (s : State) (k : Task) (c : Nat) : (s.issued k c).pwr = s.pwr ∧ (s.issued k c).cht = s.cht ∧
    (s.issued k c).cpu = s.cpu ∧ (s.issued k c).ms = s.ms ∧ (s.issued k c).probeCovered = s.probeCovered := by
  obtain ⟨x, y, counts⟩ := s.issued_counts k c
  rw [counts]
  exact ⟨rfl, rfl, rfl, rfl, rfl⟩

/-- The slot's record with the result of a probe that cannot be made (R154). -/
def Slot.probeless (x : Slot) : Slot := { x with fbc := { x.fbc with pcode := 3 } }

/-- The slot's record with `b` bursts asked for (R154). -/
def Slot.asking (x : Slot) (b : Nat) : Slot := { x with fbc := { x.fbc with bursts := b, asked := b, pcode := 4 } }

/-- `b` bursts for slot `n` wait at port `p`, behind those that wait there (R156). -/
def State.queueBursts (s : State) (p : PortId) (n b : Nat) : State :=
  (s.mapSlot n fun x => x.asking b).mapPort p fun q => { q with probeQ := q.probeQ ++ List.replicate b n }

section

variable {s : State} {t : TaskId} {k : Task} {c n : Nat} {ga : Reg} (h : s.onChan t k c ga n) (hm : s.pwr.mode = .isolate)

include h hm

/-- ch.probe in ISOLATE of a channel that it can measure nothing on. -/
theorem execChProbe_of_noProbe (hforce : s.cht.force.isSome = true) (hno : (s.slot n).noProbe = true) (gd : Reg) (b : Fin 16) :
    exec (.chProbe t gd ga b) s = .next (((s.issued k c).mapSlot n Slot.probeless).finish t gd 1) := by
  obtain ⟨pwr, cht, -⟩ := s.issued_probes k c
  have mode : (s.issued k c).pwr.mode = .isolate := by rw [pwr, hm]
  have force : (s.issued k c).cht.force.isSome = true := by rw [cht, hforce]
  refine (onChannelHeld_onChan h (by simp [State.inWatch, hm]) gd _ _).trans (congrArg _ ?_)
  dsimp only
  rw [if_neg (by simp [mode]), if_pos (by simp [force, hno])]
  rfl

/-- ch.probe in ISOLATE that no charter covers (R154, R184). -/
theorem execChProbe_refuses {p : PortId} (hyes : (s.slot n).noProbe = false) (hp : (s.slot n).set.txPort = some p)
    (hr : s.cht.force = none ∨ s.probeCovered (s.slot n).set = false) (gd : Reg) (b : Fin 16) :
    exec (.chProbe t gd ga b) s =
      .next (({ s.issued k c with rad := { (s.issued k c).rad with refuse := true } } : State).refuse t gd 4) := by
  obtain ⟨pwr, cht, -, -, covered⟩ := s.issued_probes k c
  have mode : (s.issued k c).pwr.mode = .isolate := by rw [pwr, hm]
  have refused : ((s.issued k c).cht.force.isNone || (s.issued k c).probeRefused (s.slot n).set) = true := by
    rw [State.probeRefused, covered, cht, hp]
    rcases hr with hr | hr <;> simp [hr]
  refine (onChannelHeld_onChan h (by simp [State.inWatch, hm]) gd _ _).trans (congrArg _ ?_)
  dsimp only
  rw [if_neg (by simp [mode]), State.issued_slot, if_neg (by simp [hyes]), if_pos refused]

/-- ch.probe in ISOLATE that a charter covers, with no bursts left to make (R154, R156). -/
theorem execChProbe_queues {p : PortId} (hforce : s.cht.force.isSome = true) (hyes : (s.slot n).noProbe = false)
    (hp : (s.slot n).set.txPort = some p) (hcov : s.probeCovered (s.slot n).set = true) (hb : (s.slot n).fbc.bursts = 0) (gd : Reg)
    (b : Fin 16) : exec (.chProbe t gd ga b) s =
      .next (((s.issued k c).queueBursts p n (b.val + 1)).finish t gd 1) := by
  obtain ⟨pwr, cht, -, -, covered⟩ := s.issued_probes k c
  have mode : (s.issued k c).pwr.mode = .isolate := by rw [pwr, hm]
  have force : (s.issued k c).cht.force.isNone = false := by
    rw [cht]
    simpa [Option.isNone_eq_false_iff] using hforce
  have allowed : ((s.issued k c).cht.force.isNone || (s.issued k c).probeRefused (s.slot n).set) = false := by
    rw [force, State.probeRefused, covered, hcov, Bool.not_true, Bool.and_false, Bool.or_false]
  refine (onChannelHeld_onChan h (by simp [State.inWatch, hm]) gd _ _).trans (congrArg _ ?_)
  dsimp only
  rw [if_neg (by simp [mode]), State.issued_slot, if_neg (by simp [hyes]), if_neg (by simp [allowed]), hp]
  dsimp only
  rw [if_neg (by simp [hb])]
  rfl

end

end Sys2Proof.Machine

namespace Sys2Proof.Machine

theorem State.becomes_of_issued {s u : State} {t : Nat} {k k' : Task} {c n : Nat} {f : Slot → Slot}
    (h : ((s.issued k c).mapSlot n f).becomes u t k') : (s.mapSlot n f).becomes u t k' := by
  obtain ⟨x, y, counts⟩ := s.issued_counts k c
  rw [counts] at h
  exact h

theorem State.becomes_rad {s u : State} {t : Nat} {k : Task} (h : s.becomes u t k) : u.rad = s.rad := by
  unfold State.becomes at h
  rw [h]

theorem State.slot_of_rad {s u : State} (h : u.rad = s.rad) (n : Nat) : u.slot n = s.slot n := by
  simp only [State.slot, h]

theorem State.slot_queueBursts (s : State) (p : PortId) (n b : Nat) : (s.queueBursts p n b).slot n = (s.slot n).asking b :=
  s.slot_mapSlot n fun x => x.asking b

/-- An instruction that completes, in a state with the task and the memory of its issue. -/
theorem State.finish_becomes_of_runs {s u : State} {t : TaskId} {k : Task} {c : Nat} (h : s.runs t k c) (hn : s.nextOk k)
    (hcpu : u.cpu = s.cpu) (hms : u.ms = s.ms) (gd : Reg) (v : Word) : u.becomes (u.finish t gd v) t (k.step gd v) := by
  refine State.finish_becomes ?_ ?_ gd v
  · rw [← h.1, State.task?, hcpu, State.task?]
  · rw [State.fetchClean_congr hms]
    exact hn

theorem Slot.noProbe_iff (x : Slot) : x.noProbe = true ↔ x.committed = false ∨ x.set.loop = false := by
  simp [Slot.noProbe]

theorem Slot.noProbe_eq_false {x : Slot} (hc : x.committed = true) (hl : x.set.loop = true) : x.noProbe = false := by
  simp [Slot.noProbe, hc, hl]

/-- The charter's answer to ch.probe: CHARTER, the flag of R184, and the ports as they were. -/
theorem chProbe_answers_charter {s : State} {t : TaskId} {k : Task} {c n : Nat} {gd ga : Reg} {b : Fin 16} {p : PortId}
    (h : s.onChan t k c ga n) (hm : s.pwr.mode = .isolate) (hyes : (s.slot n).noProbe = false)
    (hp : (s.slot n).set.txPort = some p) (hr : s.cht.force = none ∨ s.probeCovered (s.slot n).set = false) :
    ∃ u, exec (.chProbe t gd ga b) s = .next u ∧ u.task? t = some (k.step gd 4) ∧ u.rad.refuse = true ∧ u.ports = s.ports := by
  obtain ⟨-, -, cpu, ms, -⟩ := s.issued_probes k c
  have refused := State.refuse_charter h.1 h.2.1 cpu ms gd
  exact ⟨_, (execChProbe_refuses h hm hyes hp hr gd b).trans (congrArg _ refused), State.task?_setTask _ _ _, rfl,
    s.issued_ports k c⟩

/-- ch.probe under a charter: OK, and the bursts behind those that wait at the transmit port (R154, R156). -/
theorem chProbe_queues_bursts {s : State} {t : TaskId} {k : Task} {c n : Nat} {gd ga : Reg} {b : Fin 16} {p : PortId}
    (h : s.onChan t k c ga n) (hm : s.pwr.mode = .isolate) (hforce : s.cht.force.isSome = true)
    (hyes : (s.slot n).noProbe = false) (hp : (s.slot n).set.txPort = some p) (hcov : s.probeCovered (s.slot n).set = true)
    (hb : (s.slot n).fbc.bursts = 0) :
    ∃ u, exec (.chProbe t gd ga b) s = .next u ∧ u.task? t = some (k.step gd 1) ∧
      u.ports[p].probeQ = s.ports[p].probeQ ++ List.replicate (b.val + 1) n ∧ (u.slot n).fbc.bursts = b.val + 1 ∧
      (u.slot n).fbc.pcode = 4 := by
  obtain ⟨-, -, cpu, ms, -⟩ := s.issued_probes k c
  have becomes := State.finish_becomes_of_runs (u := (s.issued k c).queueBursts p n (b.val + 1)) h.1 h.2.1 cpu ms gd 1
  obtain ⟨-, ports⟩ := State.finish_completes (u := (s.issued k c).queueBursts p n (b.val + 1)) h.1 h.2.1 cpu ms gd 1
  have slot := (State.slot_of_rad (State.becomes_rad becomes) n).trans (State.slot_queueBursts _ p n (b.val + 1))
  rw [State.issued_slot] at slot
  refine ⟨_, execChProbe_queues h hm hforce hyes hp hcov hb gd b, State.task?_becomes becomes, ?_, ?_, ?_⟩
  · rw [ports, State.queueBursts, State.port_mapPort]
    simp only [State.mapSlot_ports, State.issued_ports]
  · rw [slot]
    rfl
  · rw [slot]
    rfl

/-! A burst and the result (R35, R155 to R160). -/

/-- What a burst's channel keeps of it is that of its start. -/
theorem State.slot_burstStart (s : State) (p : PortId) (n : Nat) (rest : List Nat) :
    let u := (((s.fixProbe n).mapPort p fun q => q.beginBurst n rest s.clk.ed).trackFreeze).count 204
    (u.slot n).fbc.sent = some (s.slot n).set ∧ (u.slot n).fbc.sentLevel = s.probeLevel (s.slot n).set := by
  intro u
  have fixed : (s.fixProbe n).slot n =
      { s.slot n with fbc := { (s.slot n).fbc with sent := some (s.slot n).set, sentLevel := s.probeLevel (s.slot n).set } } :=
    State.slot_mapSlot s n _
  have tracked := (State.trackFreeze_worksAt ((s.fixProbe n).mapPort p fun q => q.beginBurst n rest s.clk.ed) p).fbc n
  have slot : u.slot n = (((s.fixProbe n).mapPort p fun q => q.beginBurst n rest s.clk.ed).trackFreeze).slot n := by
    exact State.slot_of_rad (State.count_rad _ 204) n
  have same : ((s.fixProbe n).mapPort p fun q => q.beginBurst n rest s.clk.ed).slot n = (s.fixProbe n).slot n := rfl
  rw [same, fixed] at tracked
  rw [slot]
  exact ⟨(congrArg Fbc.sent tracked :), (congrArg Fbc.sentLevel tracked :)⟩

theorem Port.beginBurst_pins {q : Port} (h : q.ben = false) (n : Nat) (rest : List Nat) (now : Nat) :
    (q.beginBurst n rest now).ben = q.tune.boost ∧ (q.beginBurst n rest now).bkey = false := by
  unfold Port.beginBurst Port.startTx
  cases hb : q.tune.boost
  · exact ⟨h, rfl⟩
  · exact ⟨rfl, rfl⟩

/-- A burst of 2 ms ends with one fewer to come, its port out of PROBE (R35, R155). -/
theorem execProbeBurstEnd_ends {s : State} {p : PortId} {n : Nat} (hp : s.ports[p].probing = some n)
    (sends : s.ports[p].tx = .on) (past : s.ports[p].rampAt + 1966080 ≤ s.clk.ed) :
    ∃ u, exec (.probeBurstEnd p) s = .next u ∧ u.ports[p] = (s.leaveProbe p).ports[p] ∧
      (u.slot n).fbc.bursts = (s.slot n).fbc.bursts - 1 := by
  have ends : s.ports[p].burstOver s.clk.ed = true := by
    have waited : s.ports[p].rampAt + edMs 2 ≤ s.clk.ed := past
    simp only [Port.burstOver, sends, decide_true, decide_eq_true waited, Bool.and_self]
  refine ⟨((s.leaveProbe p).mapSlot n fun x => { x with fbc := { x.fbc with bursts := x.fbc.bursts - 1 } }).trackFreeze, ?_, rfl, ?_⟩
  · show execProbeBurstEnd p s = _
    simp only [execProbeBurstEnd, hp, ends, if_true]
  · rw [(State.trackFreeze_worksAt _ p).bursts, State.slot_mapSlot]
    exact congrArg (· - 1) ((s.leaveProbe_worksAt p).bursts n)

/-- A path that a probe of settings still in force finds (R157, R158, R160). -/
theorem execProbeResult_finds {s : State} {n : SlotId} {o : ProbeObs} (live : (s.slot n).live = true)
    (loop : (s.slot n).set.loop = true) (busy : (s.slot n).fbc.pcode = 4) (done : (s.slot n).fbc.bursts = 0)
    (found : 25600 ≤ o.peak) (holds : (s.slot n).probeHolds = true) (round : s.atBoundary = true) :
    ∃ v : State, exec (.probeResult n o) s =
        .next (if (s.slot n).phase = .owned then v.event (s.slot n).owner 9 else v) ∧
      (v.slot n).fbc.pcode = 1 ∧ (v.slot n).fbc.coupling = (s.slot n).fbc.sentLevel - o.rxPower ∧
      (v.slot n).fbc.iso = some ((s.slot n).fbc.sentLevel - o.rxPower - 2560) ∧ (v.slot n).fbc.airDelay = o.airDelay := by
  refine ⟨?_, ?_, ?_⟩
  rotate_left
  · show execProbeResult n o s = _
    simp only [execProbeResult, whenDo, live, loop, busy, done, round, holds, decide_eq_true found, decide_true, Bool.and_self, if_true]
    rfl
  · simp only [State.slot_mapSlot, and_self]

/-- Settles O33: ch.probe's three answers, the burst at its port, and the result as the loops keep it past the event. -/
theorem probeMeasuresIsolation : Obligations.ProbeMeasuresIsolation := by
  refine ⟨fun s t k c gd ga n b h hm hforce hno => ?_, fun s t k c gd ga n b p h hm hc hl hp => ?_,
    fun s p n rest hq hst hben htx hwait hsend hkill hcal hmode hwaits hsends => ?_, fun s p n hp sends past => ?_,
    fun s n o live loop busy done found holds round => ?_⟩
  · obtain ⟨-, -, cpu, ms, -⟩ := s.issued_probes k c
    have becomes := State.finish_becomes_of_runs (u := (s.issued k c).mapSlot n Slot.probeless) h.1 h.2.1 cpu ms gd 1
    exact ⟨_, execChProbe_of_noProbe h hm hforce ((Slot.noProbe_iff _).mpr hno) gd b, State.becomes_of_issued becomes⟩
  · have hyes := Slot.noProbe_eq_false hc hl
    exact ⟨fun hr => chProbe_answers_charter h hm hyes hp hr,
      fun hforce hcov hb => chProbe_queues_bursts h hm hforce hyes hp hcov hb⟩
  · obtain ⟨sent, level⟩ := s.slot_burstStart p n rest
    obtain ⟨ben, bkey⟩ := Port.beginBurst_pins hben n rest s.clk.ed
    refine ⟨_, execProbeBurstStart_starts ⟨hq, hst, hben, htx, hwait, hsend, hkill, hcal, hmode, hwaits, hsends⟩, ?_⟩
    rw [State.port_burstStart]
    exact ⟨rfl, rfl, rfl, ben, bkey, sent, level⟩
  · obtain ⟨u, hu, port, bursts⟩ := execProbeBurstEnd_ends hp sends past
    obtain ⟨st, probing, -, -⟩ := s.port_leaveProbe p
    exact ⟨u, hu, by rw [port]; exact probing, by rw [port]; exact st, bursts⟩
  · obtain ⟨v, hv, result⟩ := execProbeResult_finds live loop busy done found holds round
    split at hv
    · refine ⟨_, hv, ?_⟩
      rw [v.event_keepsLoops _ 9 n]
      exact result
    · exact ⟨v, hv, result⟩

end Sys2Proof.Machine

namespace Sys2Proof.Machine

/-! What faults, memory's errors, packets and stores leave of the partitions, of the temperature band and of what WATCH holds. -/

/-- A partition's record without what violations, poisoned blocks and sticky events write to it. -/
def Part.lasting (x : Part) : Part := { x with viol := 0, lastK := 0, poison := false, events := 0 }

/-- Each partition's record but for violations, poison and events, the temperature band, and the instructions that WATCH holds are in
`u` as in `s`. -/
abbrev State.Lasts (s u : State) : Prop :=
  u.parts.map Part.lasting = s.parts.map Part.lasting ∧ u.ms.band = s.ms.band ∧ u.cpu.heldQ = s.cpu.heldQ

@[simp] theorem State.lasts_iff (s u : State) : s.Lasts u ↔
    u.parts.map Part.lasting = s.parts.map Part.lasting ∧ u.ms.band = s.ms.band ∧ u.cpu.heldQ = s.cpu.heldQ := Iff.rfl

theorem State.lasts_refl (s : State) : s.Lasts s := ⟨rfl, rfl, rfl⟩

theorem State.Lasts.trans {s u v : State} (h1 : s.Lasts u) (h2 : u.Lasts v) : s.Lasts v := by
  obtain ⟨parts, band, held⟩ := h1
  obtain ⟨parts', band', held'⟩ := h2
  exact ⟨parts'.trans parts, band'.trans band, held'.trans held⟩

theorem State.lasts_foldl {α : Type} {f : State → α → State} (hf : ∀ (s : State) (a : α), s.Lasts (f s a)) (l : List α) (s : State) :
    s.Lasts (l.foldl f s) := by
  induction l generalizing s with
  | nil => exact s.lasts_refl
  | cons a l ih => exact (hf s a).trans (ih (f s a))

theorem State.mapPart_lasts (s : State) (p : PartId) {f : Part → Part} (hf : ∀ x, (f x).lasting = x.lasting) :
    s.Lasts (s.mapPart p f) := by
  refine ⟨?_, rfl, rfl⟩
  simp only [State.mapPart_parts, Vector.map_set, hf]
  ext i hi
  by_cases h : p.val = i
  · subst h
    simp
  · simp [h]

/-! Records and faults. -/

@[simp] theorem State.countSource_lasts (s : State) (k : Nat) : s.Lasts (s.countSource k) := ⟨rfl, rfl, rfl⟩

@[simp] theorem State.lineRise_lasts (s : State) (n : SubId) (kind : Byte) : s.Lasts (s.lineRise n kind) := by
  unfold State.lineRise
  split <;> exact ⟨rfl, rfl, rfl⟩

@[simp] theorem State.lineFall_lasts (s : State) (n : SubId) : s.Lasts (s.lineFall n) := by
  unfold State.lineFall
  split <;> exact ⟨rfl, rfl, rfl⟩

@[simp] theorem State.linePulse_lasts (s : State) (n : SubId) (kind : Byte) : s.Lasts (s.linePulse n kind) := by
  unfold State.linePulse
  split <;> simp

@[simp] theorem State.logFull_lasts (s : State) (code : Nat) (fl : RecFlags) (node : NodeId) (part p0 p1 p2 p3 : Nat) :
    s.Lasts (s.logFull code fl node part p0 p1 p2 p3) := by
  simp only [State.logFull]
  split
  · exact ⟨rfl, rfl, rfl⟩
  · split <;> simp

@[simp] theorem State.log_lasts (s : State) (code p0 p1 p2 : Nat) : s.Lasts (s.log code p0 p1 p2) := s.logFull_lasts _ _ _ _ _ _ _ _

@[simp] theorem State.logFault_lasts (s : State) (m : BitVec 128) (k : Byte) : s.Lasts (s.logFault m k) :=
  s.logFull_lasts _ _ _ _ _ _ _ _

@[simp] theorem State.placeFault_lasts (s : State) (m : BitVec 128) (k : Byte) : s.Lasts (s.placeFault m k) := by
  simp only [State.placeFault]
  split <;> simp

@[simp] theorem State.holdFault_lasts (s : State) (m : BitVec 128) (via : Option ChainId) : s.Lasts (s.holdFault m via) := by
  simp only [State.holdFault]
  split <;> simp

@[simp] theorem State.codedFaultN_lasts (s : State) (sub kind part : Nat) (addr : Word) (n : Nat) (exc : Option Nat) :
    s.Lasts (s.codedFaultN sub kind part addr n exc) := by
  simp only [State.codedFaultN]
  split
  · simp
  · split
    · simp
    · cases exc <;> · dsimp only; split <;> simp

@[simp] theorem State.codedFault_lasts (s : State) (sub kind part : Nat) (addr : Word) : s.Lasts (s.codedFault sub kind part addr) :=
  s.codedFaultN_lasts _ _ _ _ _ _

@[simp] theorem State.violation_lasts (s : State) (p : PartId) (kind : Byte) : s.Lasts (s.violation p kind) := by
  unfold State.violation
  exact State.Lasts.trans (s.mapPart_lasts p fun x => rfl : s.Lasts (s.mapPart p fun x =>
    { x with viol := if x.viol = 0xFFFFFFFF then x.viol else x.viol + 1, lastK := kind })) (by simp)

/-! Memory's errors. -/

@[simp] theorem State.touch_lasts (s : State) (part : PartId) (va : Nat) : s.Lasts (s.touch part va) := by
  unfold State.touch
  split <;> simp

@[simp] theorem State.touchRange_lasts (s : State) (part : PartId) (va n : Nat) : s.Lasts (s.touchRange part va n) :=
  State.lasts_foldl (fun u _ => u.touch_lasts _ _) _ s

@[simp] theorem State.frameGone_lasts (s : State) (t g : Nat) : s.Lasts (s.frameGone t g) := by
  simp [State.frameGone]

@[simp] theorem State.leaveFrame_lasts (s : State) (t g : Nat) (ce : List Nat) : s.Lasts (s.leaveFrame t g ce) := by
  simp only [State.leaveFrame]
  split
  · simp
  · split <;> simp

@[simp] theorem State.takeFrame_lasts (s : State) (t g : Nat) : s.Lasts (s.takeFrame t g).1 := by
  simp only [State.takeFrame]
  split
  · simp
  · split <;> simp

@[simp] theorem State.mapPage_lasts (s : State) (p : Page) (f : Page → Page) : s.Lasts (s.mapPage p f) := ⟨rfl, rfl, rfl⟩

@[simp] theorem State.dropFlaw_lasts (s : State) (f : Flaw) : s.Lasts (s.dropFlaw f) := ⟨rfl, rfl, rfl⟩

@[simp] theorem State.uncorrected_lasts (s : State) (part : PartId) (va : Nat) : s.Lasts (s.uncorrected part va) := by
  simp [State.uncorrected]

@[simp] theorem State.poisonBlock_lasts (s : State) (part : PartId) (va : Nat) : s.Lasts (s.poisonBlock part va) := by
  unfold State.poisonBlock
  extract_lets b ms s1
  obtain ⟨parts, band, held⟩ : s1.Lasts (s1.mapPart part fun x => { x with poison := true }) := s1.mapPart_lasts part fun _ => rfl
  exact State.Lasts.trans ⟨parts, band, held⟩ (State.uncorrected_lasts _ part va)

@[simp] theorem State.corrected_lasts (s : State) : s.Lasts s.corrected := by
  simp [State.corrected]

@[simp] theorem State.carryFlaw_lasts (s : State) (part : PartId) (t : Nat) (f : Flaw) : s.Lasts (s.carryFlaw part t f) := by
  unfold State.carryFlaw
  split <;> simp

@[simp] theorem State.carryFlaws_lasts (s : State) (p : Page) (copy : Bool) : s.Lasts (s.carryFlaws p copy).1 :=
  State.lasts_foldl (fun u f => u.carryFlaw_lasts _ _ f) _ s

@[simp] theorem State.releaseCopy_lasts (s : State) (p : Page) : s.Lasts (s.releaseCopy p) :=
  State.lasts_foldl (fun u f => (u.dropFlaw_lasts f).trans ((u.dropFlaw f).uncorrected_lasts _ _)) _ s

@[simp] theorem State.reframe_lasts (s : State) (p : Page) (tier : BitVec 2) (gone : Bool) : s.Lasts (s.reframe p tier gone) := by
  simp only [State.reframe]
  split
  · split <;> simp
  · split
    · simp
    · split <;> simp

@[simp] theorem State.dropColdReplica_lasts (s : State) : s.Lasts s.dropColdReplica := by
  simp only [State.dropColdReplica]
  split <;> simp

@[simp] theorem State.makeRoom_lasts (s : State) (g : Nat) : s.Lasts (s.makeRoom g) := by
  refine State.lasts_foldl (fun u i => ?_) _ s
  split <;> simp

@[simp] theorem State.retireFrame_lasts (s : State) (p : Page) (copy : Bool) : s.Lasts (s.retireFrame p copy) := by
  simp only [State.retireFrame]
  split
  · split <;> simp
  · split
    · split <;> simp
    · simp

@[simp] theorem State.correctedError_lasts (s : State) (p : Page) (copy : Bool) : s.Lasts (s.correctedError p copy) := by
  unfold State.correctedError
  extract_lets times s1
  have fixed : s.Lasts s1 := s.corrected_lasts.trans (s.corrected.mapPage_lasts _ _)
  split
  · exact fixed.trans (State.retireFrame_lasts _ _ _)
  · exact fixed

@[simp] theorem State.meetFlaw_lasts (s : State) (part : PartId) (f : Flaw) : s.Lasts (s.meetFlaw part f) := by
  unfold State.meetFlaw
  split
  · simp
  · split
    · simp
    · dsimp only
      split <;> simp

@[simp] theorem State.readErrors_lasts (s : State) (part : PartId) (va n : Nat) : s.Lasts (s.readErrors part va n) :=
  State.lasts_foldl (fun u f => u.meetFlaw_lasts _ f) _ s

@[simp] theorem State.storeBytes_lasts (s : State) (part : PartId) (va : Nat) (bs : List Byte) :
    s.Lasts (s.storeBytes part va bs) := by
  simp [State.storeBytes, State.overwrite]

/-! Packets and the store queues. -/

@[simp] theorem State.enqueue_lasts (s : State) (p : TxPacket) : s.Lasts (s.enqueue p) := by
  unfold State.enqueue
  split <;> simp

@[simp] theorem State.queuePri_lasts (s : State) (p : TxPacket) : s.Lasts (s.queuePri p) := by
  simp only [State.queuePri]
  split
  · simp
  · split
    · simp
    · split <;> simp

@[simp] theorem State.queueOn_lasts (s : State) (p : TxPacket) : s.Lasts (s.queueOn p) := by
  unfold State.queueOn
  split <;> simp

@[simp] theorem State.deadEnd_lasts (s : State) (dst : NodeId) (cells : Nat) (first : Bool) : s.Lasts (s.deadEnd dst cells first) := by
  unfold State.deadEnd
  split
  · simp
  · split <;> split <;> simp

@[simp] theorem State.sendOnPorts_lasts (s : State) (ports : List ChainId) (dst : NodeId) (pri : BitVec 3) (typ : BitVec 4)
    (part : PartId) (body : PktBody) : s.Lasts (s.sendOnPorts ports dst pri typ part body) := by
  unfold State.sendOnPorts
  split
  · simp
  · split
    · simp
    · exact State.lasts_foldl (fun u l => u.queueOn_lasts _) ports _

@[simp] theorem State.sendPacket_lasts (s : State) (dst : NodeId) (pri : BitVec 3) (typ : BitVec 4) (part : PartId) (body : PktBody) :
    s.Lasts (s.sendPacket dst pri typ part body) := s.sendOnPorts_lasts _ _ _ _ _ _

@[simp] theorem State.askDiscard_lasts (s : State) (key : Nat) : s.Lasts (s.askDiscard key) := by
  unfold State.askDiscard
  split
  · simp
  · split
    · simp
    · exact State.lasts_foldl (fun u h => u.sendPacket_lasts _ _ _ _ _) _ _

@[simp] theorem State.askDiscardAt_lasts (s : State) (part : PartId) (va n : Nat) : s.Lasts (s.askDiscardAt part va n) := by
  simp only [State.askDiscardAt]
  split
  · split <;> simp
  · split <;> split <;> simp

theorem drainList_lasts (part : PartId) (l : List StoreEntry) (n : Nat) (held : List StoreEntry) (s : State) :
    s.Lasts (drainList part n held l s).1 := by
  induction l generalizing s n held with
  | nil => exact s.lasts_refl
  | cons e l ih =>
    unfold drainList
    split
    · exact ih _ _ s
    · split
      · exact (s.askDiscardAt_lasts _ _ _).trans (ih _ _ _)
      · exact (s.storeBytes_lasts _ _ _).trans (ih _ _ _)

@[simp] theorem State.drainSome_lasts (s : State) (t n : Nat) : s.Lasts (s.drainSome t n) := by
  unfold State.drainSome
  split
  · simp
  · exact (drainList_lasts _ _ _ _ s).trans ⟨rfl, rfl, rfl⟩

@[simp] theorem State.drain_lasts (s : State) (t : Nat) : s.Lasts (s.drain t) := by
  unfold State.drain
  split <;> simp

/-! Tasks that are placed on contexts or read on. -/

@[simp] theorem State.placeOn_lasts (s : State) (t c : Nat) : s.Lasts (s.placeOn t c) := by
  unfold State.placeOn
  split
  · simp
  · split
    · simp
    · dsimp only
      split
      · simp
      · split <;> simp

@[simp] theorem placeList_lasts (l : List Nat) (s : State) : s.Lasts (placeList l s) := by
  induction l generalizing s with
  | nil => exact s.lasts_refl
  | cons t l ih =>
    unfold placeList
    split
    · split
      · exact (s.placeOn_lasts _ _).trans (ih _)
      · exact ih s
    · exact ih _

@[simp] theorem State.place_lasts (s : State) : s.Lasts s.place := by
  unfold State.place
  split <;> simp

@[simp] theorem State.makeReady_lasts (s : State) (t : Nat) : s.Lasts (s.makeReady t) := by
  unfold State.makeReady
  split <;> simp

@[simp] theorem State.makeWait_lasts (s : State) (t : Nat) (w : Wait) : s.Lasts (s.makeWait t w) := by
  unfold State.makeWait
  split <;> simp

@[simp] theorem State.freeIndex_lasts (s : State) (t : Nat) : s.Lasts (s.freeIndex t) := ⟨rfl, rfl, rfl⟩

@[simp] theorem State.taught_lasts (s : State) (t : Nat) (l : List (Nat × Nat)) : s.Lasts (s.taught t l) := by
  unfold State.taught
  split <;> exact ⟨rfl, rfl, rfl⟩

@[simp] theorem State.putReg_lasts (s : State) (t : Nat) (r : Reg) (v : Word) : s.Lasts (s.putReg t r v) := by
  unfold State.putReg
  split <;> simp

@[simp] theorem State.countDone_lasts (s : State) (t : Nat) : s.Lasts (s.countDone t) := by
  unfold State.countDone
  split <;> simp

end Sys2Proof.Machine

namespace Sys2Proof.Machine

/-! What the end of a wait leaves: of the radio all but what ended tasks had staged or asked the head for, and of the rest what faults
and memory leave. -/

/-- What precedes `u` has woken or ended tasks at most: each slot is in `u` as in `s` but for what a task has staged for it, the
operations that wait for the boundary stay, and no answer of the head is held that was not held before. -/
structure State.OnlyWakes (s u : State) : Prop where
  lasts : s.Lasts u
  roundQ : u.rad.roundQ = s.rad.roundQ
  refill : u.rad.refill = s.rad.refill
  answers : s.rad.laneAns = [] → u.rad.laneAns = []
  slot : ∀ n, { u.slot n with pend := none } = { s.slot n with pend := none }

theorem State.onlyWakes_of_rad {s u : State} (h : s.Lasts u) (hr : u.rad = s.rad) : s.OnlyWakes u where
  lasts := h
  roundQ := by rw [hr]
  refill := by rw [hr]
  answers := by rw [hr]; exact id
  slot n := by simp only [State.slot, hr]

theorem State.onlyWakes_refl (s : State) : s.OnlyWakes s := State.onlyWakes_of_rad s.lasts_refl rfl

theorem State.OnlyWakes.trans {s u v : State} (h1 : s.OnlyWakes u) (h2 : u.OnlyWakes v) : s.OnlyWakes v where
  lasts := h1.lasts.trans h2.lasts
  roundQ := h2.roundQ.trans h1.roundQ
  refill := h2.refill.trans h1.refill
  answers := h2.answers ∘ h1.answers
  slot n := (h2.slot n).trans (h1.slot n)

/-- What follows changes nothing of the radio. -/
theorem State.OnlyWakes.rad {s u v : State} (h : s.OnlyWakes u) (hl : u.Lasts v) (hr : v.rad = u.rad) : s.OnlyWakes v :=
  h.trans (State.onlyWakes_of_rad hl hr)

theorem State.onlyWakes_foldl {α : Type} {f : State → α → State} (hf : ∀ (s : State) (a : α), s.OnlyWakes (f s a)) (l : List α)
    (s : State) : s.OnlyWakes (l.foldl f s) := by
  induction l generalizing s with
  | nil => exact s.onlyWakes_refl
  | cons a l ih => exact (hf s a).trans (ih (f s a))

theorem State.dropPend_onlyWakes (s : State) (t : Nat) : s.OnlyWakes (s.dropPend t) where
  lasts := ⟨rfl, rfl, rfl⟩
  roundQ := rfl
  refill := rfl
  answers := id
  slot := by
    refine s.slot_tblMap (fun x => { x with pend := none }) _ fun k x => ?_
    split
    · split <;> rfl
    · rfl

theorem State.dropAsk_onlyWakes (s : State) (k : Nat) : s.OnlyWakes (s.dropAsk k) where
  lasts := ⟨rfl, rfl, rfl⟩
  roundQ := rfl
  refill := rfl
  answers h := by simp only [State.dropAsk, h, List.filter_nil]
  slot _ := rfl

theorem State.dropWait_onlyWakes (s : State) (t : Nat) : s.OnlyWakes (s.dropWait t) := by
  unfold State.dropWait
  split
  · split
    · exact s.dropAsk_onlyWakes _
    · exact s.onlyWakes_refl
  · exact s.onlyWakes_refl

theorem State.endTask0_onlyWakes (s : State) (t : Nat) (v : Word) : s.OnlyWakes (s.endTask0 t v) := by
  unfold State.endTask0
  split
  · exact s.onlyWakes_refl
  · refine State.OnlyWakes.trans ?_ (State.dropPend_onlyWakes _ t)
    exact (s.dropWait_onlyWakes t).rad ⟨rfl, rfl, rfl⟩ rfl

theorem State.exceptionEnd_onlyWakes (s : State) (t : Nat) (cause : Byte) (pc addr : Word) (n : Nat) :
    s.OnlyWakes (s.exceptionEnd t cause pc addr n) := by
  unfold State.exceptionEnd
  split
  · exact s.onlyWakes_refl
  · exact (State.onlyWakes_of_rad (by simp) (by simp)).trans (State.endTask0_onlyWakes _ t _)

theorem State.exception0_onlyWakes (s : State) (t : Nat) (cause : Byte) (pc addr : Word) (n : Nat) :
    s.OnlyWakes (s.exception0 t cause pc addr n) := by
  unfold State.exception0
  split
  · exact s.onlyWakes_refl
  · split
    · rename_i k _ _
      extract_lets s1 s2
      have counted : s.OnlyWakes s1 := by
        refine State.OnlyWakes.trans ?_ (State.dropPend_onlyWakes _ t)
        exact State.onlyWakes_of_rad (by simp) (by simp)
      have entered : s.OnlyWakes s2 := counted.rad ⟨rfl, rfl, rfl⟩ rfl
      refine entered.trans ?_
      split
      · exact State.onlyWakes_of_rad (by simp) (by simp)
      · split
        · exact State.exceptionEnd_onlyWakes _ _ _ _ _ _
        · exact (State.onlyWakes_of_rad (by simp) (by simp)).trans (State.exceptionEnd_onlyWakes _ _ _ _ _ _)
    · exact s.exceptionEnd_onlyWakes _ _ _ _ _

theorem State.goto0_onlyWakes (s : State) (t : Nat) (target : Word) : s.OnlyWakes (s.goto0 t target) := by
  unfold State.goto0
  split
  · exact s.onlyWakes_refl
  · split
    · exact State.onlyWakes_of_rad (by simp) (by simp)
    · split
      · exact (State.onlyWakes_of_rad (by simp) (by simp)).trans (State.exception0_onlyWakes _ _ _ _ _ _)
      · exact (State.onlyWakes_of_rad (by simp) (by simp)).trans (State.exception0_onlyWakes _ _ _ _ _ _)

theorem State.wakeRaw_onlyWakes (s : State) (t : Nat) (gd gb : Reg) (v w : Word) : s.OnlyWakes (s.wakeRaw t gd gb v w) := by
  unfold State.wakeRaw
  split
  · exact s.onlyWakes_refl
  · rename_i k _
    extract_lets s1
    have went : s.OnlyWakes s1 := by
      refine State.OnlyWakes.trans ?_ (State.goto0_onlyWakes _ t _)
      exact State.onlyWakes_of_rad (by simp) (by simp)
    split
    · split
      · exact went.rad (by simp) (by simp)
      · exact went
    · exact went

theorem State.serveJoins_onlyWakes (fuel : Nat) (s : State) (t : Nat) : s.OnlyWakes (s.serveJoins t fuel) := by
  induction fuel generalizing s t with
  | zero => exact s.onlyWakes_refl
  | succ fuel ih =>
    unfold State.serveJoins
    split
    · exact s.onlyWakes_refl
    · split
      · split
        · exact s.onlyWakes_refl
        · refine State.OnlyWakes.trans ?_ (State.onlyWakes_foldl (fun u x => ?_) _ _)
          · exact (State.onlyWakes_of_rad (by simp) (by simp)).trans ((State.wakeRaw_onlyWakes _ _ _ _ _ _).trans (ih _ _))
          · exact (State.onlyWakes_of_rad (by simp) (by simp)).trans ((State.wakeRaw_onlyWakes _ _ _ _ _ _).trans (ih _ _))
      · exact s.onlyWakes_refl

theorem State.afterEnd_onlyWakes (s : State) (t : Nat) : s.OnlyWakes (s.afterEnd t) :=
  (s.serveJoins_onlyWakes 512 t).rad (State.place_lasts _) (State.place_rad _)

theorem State.wakeWith_onlyWakes (s : State) (t : Nat) (gd gb : Reg) (v w : Word) : s.OnlyWakes (s.wakeWith t gd gb v w) :=
  (s.wakeRaw_onlyWakes t gd gb v w).trans (State.afterEnd_onlyWakes _ t)

theorem State.wake_onlyWakes (s : State) (t : Nat) (gd : Reg) (v : Word) : s.OnlyWakes (s.wake t gd v) :=
  State.OnlyWakes.trans (State.onlyWakes_of_rad (s.countDone_lasts t) (s.countDone_rad t)) (State.wakeWith_onlyWakes _ _ _ _ _ _)

theorem State.mapPart_onlyWakes (s : State) (p : PartId) {f : Part → Part} (hf : ∀ x, (f x).lasting = x.lasting) :
    s.OnlyWakes (s.mapPart p f) := State.onlyWakes_of_rad (s.mapPart_lasts p hf) (s.mapPart_rad p f)

theorem State.wakeEvents_onlyWakes (s : State) (p : PartId) : s.OnlyWakes (s.wakeEvents p) := by
  refine State.OnlyWakes.trans ?_ (State.onlyWakes_foldl (fun u _ => u.wake_onlyWakes _ _ _) _ _)
  exact s.mapPart_onlyWakes p fun _ => rfl

theorem State.event_onlyWakes (s : State) (p : PartId) (bit : Nat) : s.OnlyWakes (s.event p bit) := by
  refine State.OnlyWakes.trans ?_ (State.wakeEvents_onlyWakes _ p)
  exact s.mapPart_onlyWakes p fun _ => rfl

theorem State.eventAll_onlyWakes (s : State) (bit : Nat) : s.OnlyWakes (s.eventAll bit) := by
  refine State.onlyWakes_foldl (fun u p => ?_) _ s
  split
  · exact u.event_onlyWakes p bit
  · exact u.onlyWakes_refl

/-! Instructions that end, with a result, as a refusal or as a violation. -/

theorem State.exceptionN_onlyWakes (s : State) (t : Nat) (cause : Byte) (pc addr : Word) (n : Nat) :
    s.OnlyWakes (s.exceptionN t cause pc addr n) := (s.exception0_onlyWakes t cause pc addr n).trans (State.afterEnd_onlyWakes _ t)

theorem State.goto_onlyWakes (s : State) (t : Nat) (target : Word) : s.OnlyWakes (s.goto t target) := by
  unfold State.goto
  split
  · exact s.onlyWakes_refl
  · split
    · exact State.onlyWakes_of_rad (by simp) (by simp)
    · exact (s.goto0_onlyWakes t target).trans (State.afterEnd_onlyWakes _ t)

theorem State.next_onlyWakes (s : State) (t : Nat) : s.OnlyWakes (s.next t) := by
  unfold State.next
  split
  · exact s.onlyWakes_refl
  · exact State.OnlyWakes.trans (State.onlyWakes_of_rad (by simp) (by simp)) (State.goto_onlyWakes _ t _)

theorem State.pass_onlyWakes (s : State) (t : Nat) : s.OnlyWakes (s.pass t) := by
  unfold State.pass
  split
  · exact s.onlyWakes_refl
  · exact s.goto_onlyWakes t _

theorem State.finish_onlyWakes (s : State) (t : Nat) (gd : Reg) (v : Word) : s.OnlyWakes (s.finish t gd v) :=
  State.OnlyWakes.trans (State.onlyWakes_of_rad (s.putReg_lasts t gd v) (s.putReg_rad t gd v)) (State.next_onlyWakes _ t)

theorem State.refuse_onlyWakes (s : State) (t : Nat) (gd : Reg) (code : Word) : s.OnlyWakes (s.refuse t gd code) :=
  State.OnlyWakes.trans (State.onlyWakes_of_rad (s.putReg_lasts t gd code) (s.putReg_rad t gd code)) (State.pass_onlyWakes _ t)

theorem State.violate_onlyWakes (s : State) (t : Nat) (kind : Byte) (gd : Reg) : s.OnlyWakes (s.violate t kind gd) := by
  unfold State.violate
  split
  · exact s.onlyWakes_refl
  · exact State.OnlyWakes.trans (State.onlyWakes_of_rad (by simp) (by simp)) (State.pass_onlyWakes _ t)

end Sys2Proof.Machine

namespace Sys2Proof.Machine

/-! What a lane's descriptors, delays and samples change of a channel: its trunk side. -/

/-- What a changed slot keeps stays in every slot. -/
theorem State.slot_setSlot_congr {α : Type} {π : Slot → α} {s : State} {k : Nat} {x : Slot} (h : π x = π (s.slot k)) (n : Nat) :
    π ((s.setSlot k x).slot n) = π (s.slot n) := by
  by_cases hn : n = k
  · rw [hn, State.slot_setSlot, h]
  · rw [State.slot_setSlot_ne _ hn]

/-- A channel without its trunk side, the mutes, and what a task has staged. -/
def Slot.besideTrunk (x : Slot) : Slot :=
  { x with pend := none, trunk := Trunk.initial, mutes := Mutes.none, muteReq := Mutes.none }

/-- `u` follows from `s` by work on trunk lanes: the clock, ports and synthesisers stay, and of the channels what is not their trunk
side. -/
structure State.OnlyTrunks (s u : State) : Prop where
  clk : u.clk = s.clk
  ports : u.ports = s.ports
  syn : u.syn = s.syn
  lasts : s.Lasts u
  roundQ : u.rad.roundQ = s.rad.roundQ
  refill : u.rad.refill = s.rad.refill
  answers : s.rad.laneAns = [] → u.rad.laneAns = []
  slot : ∀ n, (u.slot n).besideTrunk = (s.slot n).besideTrunk

theorem State.onlyTrunks_refl (s : State) : s.OnlyTrunks s := ⟨rfl, rfl, rfl, s.lasts_refl, rfl, rfl, id, fun _ => rfl⟩

theorem State.OnlyTrunks.trans {s u v : State} (h1 : s.OnlyTrunks u) (h2 : u.OnlyTrunks v) : s.OnlyTrunks v where
  clk := h2.clk.trans h1.clk
  ports := h2.ports.trans h1.ports
  syn := h2.syn.trans h1.syn
  lasts := h1.lasts.trans h2.lasts
  roundQ := h2.roundQ.trans h1.roundQ
  refill := h2.refill.trans h1.refill
  answers := h2.answers ∘ h1.answers
  slot n := (h2.slot n).trans (h1.slot n)

theorem State.onlyTrunks_foldl {α : Type} {f : State → α → State} (hf : ∀ (s : State) (a : α), s.OnlyTrunks (f s a)) (l : List α)
    (s : State) : s.OnlyTrunks (l.foldl f s) := by
  induction l generalizing s with
  | nil => exact s.onlyTrunks_refl
  | cons a l ih => exact (hf s a).trans (ih (f s a))

theorem State.OnlyTrunks.settling {s u : State} (h : s.OnlyTrunks u) (n : Nat) : (u.slot n).settling = (s.slot n).settling := by
  have e := congrArg Slot.settling (h.slot n)
  exact e

theorem State.OnlyTrunks.fade {s u : State} (h : s.OnlyTrunks u) (n : Nat) : (u.slot n).fade = (s.slot n).fade := by
  have e := congrArg Slot.fade (h.slot n)
  exact e

theorem State.OnlyWakes.onlyTrunks {s u : State} (h : s.OnlyWakes u) (k : s.Keeps u) : s.OnlyTrunks u where
  clk := k.clk
  ports := k.ports
  syn := k.syn
  lasts := h.lasts
  roundQ := h.roundQ
  refill := h.refill
  answers := h.answers
  slot n := by
    have e := congrArg Slot.besideTrunk (h.slot n)
    exact e

/-- A change of one channel's trunk side and mutes. -/
theorem State.setSlot_onlyTrunks {s : State} {k : Nat} {x : Slot} (h : x.besideTrunk = (s.slot k).besideTrunk) :
    s.OnlyTrunks (s.setSlot k x) := ⟨rfl, rfl, rfl, s.lasts_refl, rfl, rfl, id, State.slot_setSlot_congr h⟩

theorem State.mapSlot_onlyTrunks (s : State) (k : Nat) {f : Slot → Slot} (h : ∀ x, (f x).besideTrunk = x.besideTrunk) :
    s.OnlyTrunks (s.mapSlot k f) := State.setSlot_onlyTrunks (h _)

theorem State.linePulse_onlyTrunks (s : State) (n : SubId) (kind : Byte) : s.OnlyTrunks (s.linePulse n kind) :=
  (State.onlyWakes_of_rad (s.linePulse_lasts n kind) (s.linePulse_rad n kind)).onlyTrunks (s.linePulse_keeps n kind)

theorem State.log_onlyTrunks (s : State) (code p0 p1 p2 : Nat) : s.OnlyTrunks (s.log code p0 p1 p2) :=
  (State.onlyWakes_of_rad (s.log_lasts code p0 p1 p2) (s.log_rad code p0 p1 p2)).onlyTrunks (s.log_keeps code p0 p1 p2)

theorem State.event_onlyTrunks (s : State) (p : PartId) (bit : Nat) : s.OnlyTrunks (s.event p bit) :=
  (s.event_onlyWakes p bit).onlyTrunks (s.event_keeps p bit)

theorem State.unannounced_onlyTrunks (s : State) : s.OnlyTrunks s.unannounced :=
  ⟨rfl, rfl, rfl, s.lasts_refl, rfl, rfl, id, fun _ => rfl⟩

theorem State.chEvent_onlyTrunks (s : State) (k : Nat) : s.OnlyTrunks (s.chEvent k) := by
  unfold State.chEvent
  dsimp only
  split
  · exact (s.event_onlyTrunks _ _).trans (State.unannounced_onlyTrunks _)
  · exact s.unannounced_onlyTrunks

theorem State.trkMute_onlyTrunks (s : State) (k : Nat) : s.OnlyTrunks (s.trkMute k) := by
  unfold State.trkMute
  dsimp only
  split
  · split
    · exact s.onlyTrunks_refl
    · exact s.mapSlot_onlyTrunks k fun _ => rfl
  · split
    · refine State.OnlyTrunks.trans ?_ (State.chEvent_onlyTrunks _ k)
      exact s.mapSlot_onlyTrunks k fun _ => rfl
    · exact s.onlyTrunks_refl

theorem State.followOn_onlyTrunks (s : State) (k : Nat) (code : BitVec 4) : s.OnlyTrunks (s.followOn k code) := by
  refine State.OnlyTrunks.trans ?_ (State.trkMute_onlyTrunks _ k)
  exact s.mapSlot_onlyTrunks k fun _ => rfl

theorem State.followDesc_onlyTrunks (s : State) (a : Lane) (code : BitVec 4) : s.OnlyTrunks (s.followDesc a code) :=
  State.onlyTrunks_foldl (fun u k => u.followOn_onlyTrunks k code) _ s

theorem State.followAll_onlyTrunks (s : State) : s.OnlyTrunks s.followAll :=
  State.onlyTrunks_foldl (fun u _ => State.onlyTrunks_foldl (fun v _ => v.followDesc_onlyTrunks _ _) _ u) _ s

end Sys2Proof.Machine

namespace Sys2Proof.Machine

/-! O37: the synthesisers and the reference (R59, R60, R69, R73 to R75, R112). -/

/-- A hardware event whose condition holds gives what its effect shows. -/
theorem State.gives_of_whenDo {s v : State} {c : Instr} {b : Bool} {P : State → Prop} (h : exec c s = whenDo b s v) (hb : b = true)
    (hv : P v) : s.gives c P := ⟨v, by rw [h, whenDo, if_pos hb], hv⟩

theorem State.synLine_keeps (s : State) (kind : Byte) : s.Keeps (s.synLine kind) := by
  unfold State.synLine State.lineLevel
  split
  · exact s.lineRise_keeps 1 kind
  · exact s.lineFall_keeps 1

theorem State.Keeps.port {s u : State} (h : s.Keeps u) (p : PortId) : u.ports[p] = s.ports[p] := by
  simp only [h.ports]

@[simp] theorem State.synLine_rad (s : State) (kind : Byte) : (s.synLine kind).rad = s.rad := by
  unfold State.synLine State.lineLevel
  split <;> simp

/-- SYN's line and a record leave ports and synthesisers. -/
theorem State.synLine_log_keeps (s : State) (kind : Byte) (code p0 p1 p2 : Nat) : s.Keeps ((s.synLine kind).log code p0 p1 p2) :=
  (s.synLine_keeps kind).trans (State.log_keeps _ code p0 p1 p2)

/-! A retune (R69). -/

theorem portSynthLocked_calibrates {s : State} {p : PortId} (h : s.ports[p].retune = some .locking) (run : s.engineHeld = false) :
    s.gives (.portSynthLocked p) fun u => u.ports[p].retune = some .calibrating ∧ u.ports[p].lock = true := by
  refine State.gives_of_whenDo (show _ = execPortSynthLocked p s from rfl) (by rw [decide_eq_true h, run]; rfl) ?_
  rw [(State.synLine_keeps _ 0x18).port, State.port_mapPort]
  exact ⟨rfl, rfl⟩

/-- A bank change that has not begun, or whose interval runs, starts no retune. -/
theorem State.beginBank_noRetune {s : State} {p : PortId} (h : s.ports[p].bankWait.isSome = true → s.ports[p].bankAt.isSome = true) :
    (s.beginBank p).ports[p] = { s.ports[p] with bankAt := (s.beginBank p).ports[p].bankAt } := by
  unfold State.beginBank
  dsimp only
  split
  · rfl
  · rename_i r hr
    split
    · rw [State.port_mapPort]
    · rw [if_pos (.inr (h (by rw [hr]; rfl)))]

/-- The transmit calibration leaves in the port what it measured. -/
theorem State.port_txCal (s : State) (p : PortId) (leak image : Level) :
    (s.txCal p leak image).ports[p] = { s.ports[p] with txLeak := leak, txImage := image } := by
  simp only [State.txCal]
  split
  · exact ((State.linePulse_keeps _ 2 0x20).port p).trans (s.port_mapPort p _)
  · exact s.port_mapPort p _

theorem Port.loadCoef_eq (q : Port) (p : PortId) (bank : BitVec 4) :
    q.loadCoef p bank = { q with coef := (q.loadCoef p bank).coef, coefs := (q.loadCoef p bank).coefs } := by
  unfold Port.loadCoef
  split <;> rfl

/-- The port once its coefficients are loaded and its samples valid, before it moves (R65, R69). -/
def State.recalibrated (s : State) (cal : PortCal) : State :=
  (((s.txCal cal.port cal.leak cal.image).mapPort cal.port fun q =>
    { q.loadCoef cal.port q.bankAhead with retune := none, rxv := true, blank := false }).trackFreeze).fixOutputs cal.port

theorem State.port_recalibrated (s : State) (cal : PortCal) :
    let q := s.ports[cal.port]
    let u := (s.recalibrated cal).ports[cal.port]
    u = { q with
      txLeak := cal.leak, txImage := cal.image, coef := u.coef, coefs := u.coefs, retune := none, rxv := true, blank := false } := by
  have tuned : (s.recalibrated cal).ports[cal.port] = _ := State.port_mapPort _ cal.port fun q =>
    { q.loadCoef cal.port q.bankAhead with retune := none, rxv := true, blank := false }
  dsimp only
  rw [tuned, State.port_txCal, Port.loadCoef_eq]

theorem portRetuneComplete_ends {s : State} {p : PortId} (leak image : Level) (h : s.ports[p].retune = some .calibrating)
    (run : s.engineHeld = false) (bank : s.ports[p].bankWait.isSome = true → s.ports[p].bankAt.isSome = true) :
    s.gives (.portRetuneComplete ⟨p, leak, image⟩) fun u =>
      u.ports[p].retune = none ∧ u.ports[p].rxv = true ∧ u.ports[p].blank = false ∧
      u.ports[p].txLeak = leak ∧ u.ports[p].txImage = image := by
  refine State.gives_of_whenDo (v := ((s.recalibrated ⟨p, leak, image⟩).drive p).beginBank p)
    (show _ = execPortRetuneComplete ⟨p, leak, image⟩ s from rfl) (by rw [decide_eq_true h, run]; rfl) ?_
  have loaded := s.port_recalibrated ⟨p, leak, image⟩
  have pins := (s.recalibrated ⟨p, leak, image⟩).drive_sameButPins p
  have waits : ((s.recalibrated ⟨p, leak, image⟩).drive p).ports[p].bankWait.isSome = true →
      ((s.recalibrated ⟨p, leak, image⟩).drive p).ports[p].bankAt.isSome = true := by
    rw [pins, loaded]
    exact bank
  rw [State.beginBank_noRetune waits, pins, loaded]
  exact ⟨rfl, rfl, rfl, rfl, rfl⟩

/-! Locks that are lost (R73, R74). -/

/-- A port whose synthesiser has lost its lock (R73). -/
def Port.unlocked (q : Port) (now : Nat) : Port :=
  { q.stopTx now false with lock := false, blank := true, rxv := false, adapt := false, retune := some .locking }

theorem State.portUnlock_of_idle {s : State} {p : PortId} (h : s.ports[p].probing = none) :
    s.portUnlock p = (s.mapPort p fun q => q.unlocked s.clk.ed).trackFreeze := by
  have idle : ((s.mapPort p fun q => q.unlocked s.clk.ed).trackFreeze).ports[p].probing = none := by
    rw [show ((s.mapPort p fun q => q.unlocked s.clk.ed).trackFreeze).ports[p] = s.ports[p].unlocked s.clk.ed from
      s.port_mapPort p fun q => q.unlocked s.clk.ed]
    exact h
  show ((s.mapPort p fun q => q.unlocked s.clk.ed).trackFreeze).abortBurst p = _
  simp only [State.abortBurst, idle]

theorem State.port_portUnlock {s : State} {p : PortId} (h : s.ports[p].probing = none) :
    (s.portUnlock p).ports[p] = s.ports[p].unlocked s.clk.ed := by
  rw [State.portUnlock_of_idle h]
  exact s.port_mapPort p fun q => q.unlocked s.clk.ed

theorem State.port_portUnlock_ne {s : State} {p q : PortId} (h : s.ports[p].probing = none) (hq : q ≠ p) :
    (s.portUnlock p).ports[q] = s.ports[q] := by
  rw [State.portUnlock_of_idle h]
  exact s.port_mapPort_ne hq fun q => q.unlocked s.clk.ed

theorem portSynthUnlock_cuts {s : State} {p : PortId} (h : s.ports[p].lock = true) (idle : s.ports[p].probing = none) :
    s.gives (.portSynthUnlock p) fun u => u.ports[p].lock = false ∧ u.ports[p].rxv = false ∧ u.ports[p].blank = true ∧
      u.ports[p].tx ≠ .on ∧ u.ports[p].tx ≠ .starting ∧ u.ports[p].bkey = false ∧
      u.ports[p].retune = some .locking ∧ u.syn.unlk = true := by
  refine State.gives_of_whenDo (show _ = execPortSynthUnlock p s from rfl) h ?_
  have keeps := State.synLine_log_keeps { s.portUnlock p with syn := { (s.portUnlock p).syn with unlk := true } } 0x18 0x1100 p.val 0 0
  obtain ⟨key, on, starting⟩ := s.ports[p].stopTx_silent s.clk.ed false
  have port : _ = s.ports[p].unlocked s.clk.ed := (keeps.port p).trans (State.port_portUnlock idle)
  rw [port, keeps.syn]
  exact ⟨rfl, rfl, rfl, on, starting, key, rfl, rfl⟩

/-- No burst runs on the port, and its lock is lost and its output cut. -/
def Port.cut (q : Port) : Prop := q.probing = none ∧ q.lock = false ∧ q.silent

theorem Port.unlocked_cut {q : Port} (h : q.probing = none) (now : Nat) : (q.unlocked now).cut :=
  ⟨h, rfl, q.stopTx_silent now false⟩

/-- Ports in no burst lose their locks one by one, and those that have lost them stay cut (R74). -/
theorem State.portUnlock_foldl (l : List PortId) (s : State) (idle : ∀ q : PortId, s.ports[q].probing = none) (q : PortId)
    (h : q ∈ l ∨ s.ports[q].cut) : (l.foldl (fun s p => s.portUnlock p) s).ports[q].cut := by
  induction l generalizing s with
  | nil => simpa using h
  | cons p l ih =>
    refine ih _ (fun r => ?_) ?_
    · by_cases hr : r = p
      · rw [hr, State.port_portUnlock (idle p)]
        exact idle p
      · rw [State.port_portUnlock_ne (idle p) hr]
        exact idle r
    · by_cases hq : q = p
      · rw [hq, State.port_portUnlock (idle p)]
        exact .inr (Port.unlocked_cut (idle p) _)
      · rw [State.port_portUnlock_ne (idle p) hq]
        simpa [hq] using h

/-- Every port and the main clock have lost their locks (R74). -/
def State.mainUnlocked (s : State) : State :=
  let s1 := (List.finRange 4).foldl (fun s p => s.portUnlock p) s
  { s1 with syn := { s1.syn with unlk := true, mainLk := false, mainLost := true } }

theorem State.port_mainUnlocked {s : State} (idle : ∀ q : PortId, s.ports[q].probing = none) (q : PortId) :
    s.mainUnlocked.ports[q].cut := by
  unfold State.mainUnlocked
  exact State.portUnlock_foldl (List.finRange 4) s idle q (.inl (List.mem_finRange q))

theorem mainSynthUnlock_cuts {s : State} (h : s.syn.mainLk = true) (idle : ∀ q : PortId, s.ports[q].probing = none) :
    s.gives .mainSynthUnlock fun u => u.syn.mainLk = false ∧ u.syn.unlk = true ∧ u.roundsRun = false ∧
      ∀ q : PortId, u.ports[q].lock = false ∧ u.ports[q].tx ≠ .on ∧ u.ports[q].tx ≠ .starting := by
  refine State.gives_of_whenDo (v := (s.mainUnlocked.synLine 0x19).log 0x1100 4 0 0)
    (show _ = execMainSynthUnlock s from rfl) h ?_
  have keeps := s.mainUnlocked.synLine_log_keeps 0x19 0x1100 4 0 0
  have unlocked : ((s.mainUnlocked.synLine 0x19).log 0x1100 4 0 0).syn.mainLk = false := by
    rw [keeps.syn]
    rfl
  refine ⟨unlocked, by rw [keeps.syn]; rfl, by simp only [State.roundsRun, unlocked, Bool.false_and], fun q => ?_⟩
  rw [keeps.port q]
  obtain ⟨-, lock, -, on, starting⟩ := State.port_mainUnlocked idle q
  exact ⟨lock, on, starting⟩

/-! The main clock's relock (R74, R112). -/

/-- Every live channel refills (R112). -/
def State.refilling (s : State) : State :=
  let fill : Nat → Slot → Slot := fun _ x => x.refill
  { s.lockMain with rad := { s.lockMain.rad with refill := true, slots := tblMap fill s.lockMain.rad.slots } }

theorem State.slot_refilling {s : State} {n : Nat} (h : (s.slot n).live = true) :
    (s.refilling.slot n).settling = true ∧ (s.refilling.slot n).fade = none := by
  simp only [State.slot, State.refilling, State.lockMain, tblGet, tblFind_tblMap] at h ⊢
  cases hx : tblFind n s.rad.slots with
  | none =>
    rw [hx] at h
    exact absurd h (by decide)
  | some x =>
    rw [hx] at h
    have live : x.live = true := h
    simp only [Option.map_some, Option.getD_some, Slot.refill, live, if_true]
    exact ⟨rfl, rfl⟩

theorem mainSynthRelock_refills {s : State} (h : s.syn.mainLk = false) (off : s.pwr.mode ≠ .off) (reset : s.pwr.mode ≠ .reset)
    (lost : s.syn.mainLost = true) :
    s.gives .mainSynthRelock fun u => u.syn.mainLk = true ∧ u.rad.refill = true ∧
      ∀ n, (s.slot n).live = true → (u.slot n).settling = true ∧ (u.slot n).fade = none := by
  refine State.gives_of_whenDo (v := if s.syn.mainLost then (s.refilling.followAll.synLine 0x19).linePulse 3 0x28 else s.lockMain)
    (show _ = execMainSynthRelock s from rfl) (by simp [h, off, reset]) ?_
  rw [if_pos lost]
  have follow := s.refilling.followAll_onlyTrunks
  have keeps := (s.refilling.followAll.synLine_keeps 0x19).trans (State.linePulse_keeps _ 3 0x28)
  have rad : ((s.refilling.followAll.synLine 0x19).linePulse 3 0x28).rad = s.refilling.followAll.rad := by
    rw [State.linePulse_rad, State.synLine_rad]
  refine ⟨by rw [keeps.syn, follow.syn]; rfl, by rw [rad, follow.refill]; rfl, fun n live => ?_⟩
  obtain ⟨settling, fade⟩ := State.slot_refilling live
  rw [State.slot_of_rad rad]
  exact ⟨(follow.settling n).trans settling, (follow.fade n).trans fade⟩

/-! The steering (R59, R60). -/

theorem clampInt_eq_bound {lo hi : Int} (h : lo ≤ hi) (x : Int) : clampInt x lo hi = bound lo hi x := by
  simp only [clampInt, bound]
  omega

theorem slewTo_near (x y m : Int) (h : 0 ≤ m) : (slewTo x y m - x).natAbs ≤ m.natAbs ∧ (slewTo x y m - y).natAbs ≤ (x - y).natAbs := by
  simp only [slewTo, clampInt]
  omega

theorem State.steerNow_slews {s : State} (h : s.anyTx = true) :
    (s.steerNow - s.syn.steer).natAbs ≤ (s.clk.ed - s.syn.slewAt) / 983040 ∧
      (s.steerNow - s.syn.target).natAbs ≤ (s.syn.steer - s.syn.target).natAbs := by
  simp only [State.steerNow, h, if_true]
  exact slewTo_near s.syn.steer s.syn.target _ (Int.natCast_nonneg _)

theorem synCorrectionApply_steers {s : State} (corr offset : Int) (src : s.tsu.srcPresent = true) :
    s.gives (.synCorrectionApply corr offset) fun u =>
      (s.anyTx = false → u.syn.steer = bound (-1200000) 1200000 corr) ∧
      (s.anyTx = true → (u.syn.steer - s.syn.steer).natAbs ≤ (s.clk.ed - s.syn.slewAt) / 983040 ∧
        (u.syn.steer - s.syn.target).natAbs ≤ (s.syn.steer - s.syn.target).natAbs) ∧
      u.syn.target = bound (-1200000) 1200000 corr ∧
      (s.syn.ref = 0 ∨ 5000 < offset.natAbs → u.syn.ref = 1) ∧
      (s.syn.ref = 2 → offset.natAbs ≤ 5000 → u.syn.ref = 2) := by
  refine State.gives_of_whenDo (show _ = execSynCorrectionApply corr offset s from rfl) src ?_
  have goal : clampInt corr (-1200000) 1200000 = bound (-1200000) 1200000 corr := clampInt_eq_bound (by decide) corr
  refine ⟨fun tx => ?_, fun tx => ?_, goal, fun far => ?_, fun two near => ?_⟩
  · simp [tx, goal]
  · simp only [tx, if_true]
    exact State.steerNow_slews tx
  · exact if_pos (show 5000 < offset.natAbs ∨ s.syn.ref = 0 ∨ s.syn.ref = 3 by tauto)
  · have follows : ¬(5000 < offset.natAbs ∨ s.syn.ref = 0 ∨ s.syn.ref = 3) := by simp [two, near]
    exact (if_neg follows).trans two

theorem refSyntonised_sets {s : State} {e : Nat} (ref : s.syn.ref = 1) (src : s.tsu.srcPresent = true) (since : s.syn.inSince = some e)
    (ten : e + 9830400000 ≤ s.clk.ed) : exec .refSyntonised s = .next { s with syn := { s.syn with ref := 2 } } := by
  have passed : e + edMs 10000 ≤ s.clk.ed := ten
  show execRefSyntonised s = _
  simp only [execRefSyntonised, ref, src, since, passed, whenDo, decide_true, Bool.and_self, if_true]

/-! The core clock (R75). -/

theorem coreFreqChange_starts {s : State} {f : BitVec 2} (h : s.syn.coreF ≠ if f = 3 then 2 else f) :
    s.gives (.coreFreqChange f) fun u =>
      u.syn.coreF = (if f = 3 then 2 else f) ∧ u.syn.coreByp = true ∧ u.syn.coreLk = false := by
  refine ⟨s.coreFreq f, rfl, ?_⟩
  rw [State.coreFreq, if_neg (c := s.syn.coreF = (if f = 3 then 2 else f) ∧ s.syn.coreByp = false) fun same => h same.1]
  exact ⟨rfl, rfl, rfl⟩

theorem coreSynthLocked_locks {s : State} (byp : s.syn.coreByp = true) (lk : s.syn.coreLk = false) :
    s.gives .coreSynthLocked fun u => u.syn.coreLk = true ∧ u.syn.coreByp = false := by
  refine State.gives_of_whenDo (show _ = execCoreSynthLocked s from rfl) (by simp [byp, lk]) ?_
  rw [(State.synLine_keeps _ 0x1A).syn]
  exact ⟨rfl, rfl⟩

theorem coreSynthLockFail_flags {s : State} (byp : s.syn.coreByp = true) (lk : s.syn.coreLk = false) :
    s.gives .coreSynthLockFail fun u => u.syn.unlk = true ∧ u.syn.coreByp = true := by
  refine State.gives_of_whenDo (show _ = execCoreSynthLockFail s from rfl) (by simp [byp, lk]) ?_
  rw [(State.synLine_log_keeps _ 0x1A 0x1100 5 0 0).syn]
  exact ⟨rfl, byp⟩

/-- Settles O37: each event of the synthesisers by its condition and its effect on its port; a lost main lock port by port, the relock by
the refill of each slot, which what follows the lanes' descriptors leaves. -/
theorem synthesisersAndReference : Obligations.SynthesisersAndReference := by
  unfold Obligations.SynthesisersAndReference
  intro s p
  exact ⟨portSynthLocked_calibrates, portRetuneComplete_ends, portSynthUnlock_cuts, mainSynthUnlock_cuts, mainSynthRelock_refills,
    synCorrectionApply_steers, fun _ => refSyntonised_sets, fun _ => coreFreqChange_starts,
    fun byp lk => ⟨coreSynthLocked_locks byp lk, coreSynthLockFail_flags byp lk⟩⟩

end Sys2Proof.Machine

namespace Sys2Proof.Machine

/-! O30: the ends of settling, of cross-fades and of ramps (R97, R103, R108, R111). -/

/-- Following the freezes of models changes in each slot the instant at which its freeze began. -/
theorem State.slot_trackFreeze (s : State) (n : Nat) : s.trackFreeze.slot n =
    { s.slot n with fbc := { (s.slot n).fbc with frozenAt := (s.trackFreeze.slot n).fbc.frozenAt } } := by
  simp only [State.slot, State.trackFreeze, tblGet, tblFind_tblMap]
  cases tblFind n s.rad.slots with
  | none => rfl
  | some x =>
    simp only [Option.map_some, Option.getD_some]
    split <;> rfl

theorem settlingComplete_settles {s : State} {n : SlotId} (live : (s.slot n).live = true) (settling : (s.slot n).settling = true)
    (run : s.engineHeld = false) :
    s.gives (.settlingComplete n) fun u => u = { s with rad := { s.rad with slots := u.rad.slots } } ∧
      ∀ j, let x := if j = n.val then (s.slot n).settled else s.slot j
        u.slot j = { x with fbc := { x.fbc with frozenAt := (u.slot j).fbc.frozenAt } } := by
  refine State.gives_of_whenDo (show _ = execSettlingComplete n s from rfl) (by rw [live, settling, run]; rfl) ⟨rfl, fun j => ?_⟩
  have slot : (s.mapSlot n Slot.settled).slot j = if j = n.val then (s.slot n).settled else s.slot j := by
    split
    · subst j
      exact s.slot_mapSlot n _
    · rename_i h
      exact s.slot_mapSlot_ne h _
  rw [← slot]
  exact State.slot_trackFreeze _ j

theorem fadeEnd_ends {s : State} {n : SlotId} {f : Fade} (fade : (s.slot n).fade = some f) (crossing : f.ended = false)
    (run : s.engineHeld = false) :
    exec (.fadeEnd n) s = .next (s.setSlot n { s.slot n with fade := some { f with ended := true } }) := by
  show execFadeEnd n s = _
  simp only [execFadeEnd, Slot.fading, State.mapSlot, whenDo, fade, crossing, run, Option.map_some, Bool.not_false, Bool.and_self, if_true]

theorem muteRampComplete_zeroes {s : State} {n : SlotId}
    (falls : (s.slot n).guard.fenced = true ∨ (s.slot n).mutes.any = true ∨ (s.slot n).phase = .freeing)
    (falling : (s.slot n).zero = false) (run : s.engineHeld = false) :
    exec (.muteRampComplete n) s = .next (s.setSlot n { s.slot n with zero := true, ramp := 0 }) := by
  have caught : ((s.slot n).mutes.any || (s.slot n).guard.fenced || decide ((s.slot n).phase = .freeing)) = true := by
    simpa only [Bool.or_eq_true, decide_eq_true_eq, or_comm, or_left_comm] using falls
  show execMuteRampComplete n s = _
  simp only [execMuteRampComplete, State.mapSlot, whenDo, falling, run, caught, Bool.not_false, Bool.and_self, if_true]

theorem filterAndRampEnds : FilterAndRampEnds :=
  fun _ _ => ⟨settlingComplete_settles, fun _ => fadeEnd_ends, muteRampComplete_zeroes⟩

end Sys2Proof.Machine

namespace Sys2Proof.Machine

/-! What the work of a round boundary leaves: the clock, partitions, the temperature band and every port's bias always; until the
instructions take effect, and after them, the channels' settings and commits too. -/

/-- The clock, the partitions' records but for their faults and events, the temperature band and each port's PA bias table are in `u` as
in `s`. -/
structure State.Calm (s u : State) : Prop where
  clk : u.clk = s.clk
  parts : u.parts.map Part.lasting = s.parts.map Part.lasting
  band : u.ms.band = s.ms.band
  bias : ∀ p : PortId, u.ports[p].bias = s.ports[p].bias

/-- What a commit concerns of a channel: its settings, whether it is committed, its phase, and the request that waits. -/
def Slot.planned (x : Slot) : Settings × Bool × Phase × Option CommitReq := (x.set, x.committed, x.phase, x.req)

/-- Besides, no channel's settings or commit changed, and nothing that WATCH, an election or the boundary holds came or went. -/
structure State.KeepsPlans (s u : State) : Prop extends s.Calm u where
  held : u.cpu.heldQ = s.cpu.heldQ
  roundQ : u.rad.roundQ = s.rad.roundQ
  answers : s.rad.laneAns = [] → u.rad.laneAns = []
  plan : ∀ n, (u.slot n).planned = (s.slot n).planned

theorem State.Calm.trans {s u v : State} (h1 : s.Calm u) (h2 : u.Calm v) : s.Calm v where
  clk := h2.clk.trans h1.clk
  parts := h2.parts.trans h1.parts
  band := h2.band.trans h1.band
  bias p := (h2.bias p).trans (h1.bias p)

theorem State.KeepsPlans.trans {s u v : State} (h1 : s.KeepsPlans u) (h2 : u.KeepsPlans v) : s.KeepsPlans v where
  toCalm := h1.toCalm.trans h2.toCalm
  held := h2.held.trans h1.held
  roundQ := h2.roundQ.trans h1.roundQ
  answers := h2.answers ∘ h1.answers
  plan n := (h2.plan n).trans (h1.plan n)

theorem State.calm_refl (s : State) : s.Calm s := ⟨rfl, rfl, rfl, fun _ => rfl⟩

theorem State.keepsPlans_refl (s : State) : s.KeepsPlans s := ⟨s.calm_refl, rfl, rfl, id, fun _ => rfl⟩

theorem State.calm_foldl {α : Type} {f : State → α → State} (hf : ∀ (s : State) (a : α), s.Calm (f s a)) (l : List α) (s : State) :
    s.Calm (l.foldl f s) := by
  induction l generalizing s with
  | nil => exact s.calm_refl
  | cons a l ih => exact (hf s a).trans (ih (f s a))

theorem State.keepsPlans_foldl {α : Type} {f : State → α → State} (hf : ∀ (s : State) (a : α), s.KeepsPlans (f s a)) (l : List α)
    (s : State) : s.KeepsPlans (l.foldl f s) := by
  induction l generalizing s with
  | nil => exact s.keepsPlans_refl
  | cons a l ih => exact (hf s a).trans (ih (f s a))

theorem State.Calm.part {s u : State} (h : s.Calm u) (p : PartId) : u.parts[p].lasting = s.parts[p].lasting := by
  have e := congrArg (fun v : Vector Part 8 => v[p]) h.parts
  simpa using e

theorem State.OnlyWakes.calm {s u : State} (h : s.OnlyWakes u) (k : s.Keeps u) : s.Calm u :=
  ⟨k.clk, h.lasts.1, h.lasts.2.1, fun p => by rw [k.port p]⟩

theorem State.OnlyTrunks.keepsPlans {s u : State} (h : s.OnlyTrunks u) : s.KeepsPlans u where
  clk := h.clk
  parts := h.lasts.1
  band := h.lasts.2.1
  bias p := by simp only [h.ports]
  held := h.lasts.2.2
  roundQ := h.roundQ
  answers := h.answers
  plan n := by
    have e := congrArg Slot.planned (h.slot n)
    exact e

theorem State.OnlyWakes.keepsPlans {s u : State} (h : s.OnlyWakes u) (k : s.Keeps u) : s.KeepsPlans u := (h.onlyTrunks k).keepsPlans

/-- A change outside the clock, the partitions, memory, the ports, the channels and what is held. -/
theorem State.keepsPlans_of_update (s : State) (free : Nat) (cht : Charter) (syn : Syn) (links : Vector Link 4) (fab : Fab) (tsu : Tsu)
    (pwr : Pwr) (obs : Obs) : s.KeepsPlans { s with
      free := free, cht := cht, syn := syn, links := links, fab := fab, tsu := tsu, pwr := pwr, obs := obs } :=
  ⟨⟨rfl, rfl, rfl, fun _ => rfl⟩, rfl, rfl, id, fun _ => rfl⟩

/-- A change of the radio, of clamps or of the mode that leaves settings, commits and what is held. -/
theorem State.keepsPlans_of_rad (s : State) (r : Radio) {cht : Charter} {pwr : Pwr} (slots : r.slots = s.rad.slots)
    (queue : r.roundQ = s.rad.roundQ) (answers : r.laneAns = s.rad.laneAns) :
    s.KeepsPlans { s with rad := r, cht := cht, pwr := pwr } :=
  ⟨⟨rfl, rfl, rfl, fun _ => rfl⟩, rfl, queue, answers.trans, fun n => by simp only [State.slot, slots]⟩

/-- A change of every slot that leaves settings and commits. -/
theorem State.mapSlots_keepsPlans (s : State) (f : Nat → Slot → Slot) (h : ∀ k x, (f k x).planned = x.planned) :
    s.KeepsPlans { s with rad := { s.rad with slots := tblMap f s.rad.slots } } :=
  ⟨⟨rfl, rfl, rfl, fun _ => rfl⟩, rfl, rfl, id, s.slot_tblMap Slot.planned f h⟩

theorem State.setSlot_keepsPlans {s : State} {k : Nat} {x : Slot} (h : x.planned = (s.slot k).planned) :
    s.KeepsPlans (s.setSlot k x) := ⟨⟨rfl, rfl, rfl, fun _ => rfl⟩, rfl, rfl, id, State.slot_setSlot_congr h⟩

theorem State.mapSlot_keepsPlans (s : State) (k : Nat) {f : Slot → Slot} (h : ∀ x, (f x).planned = x.planned) :
    s.KeepsPlans (s.mapSlot k f) := State.setSlot_keepsPlans (h _)

/-- A change of ports that leaves their bias. -/
theorem State.keepsPlans_of_ports (s : State) {ports : Vector Port 4} (h : ∀ p : PortId, ports[p].bias = s.ports[p].bias) :
    s.KeepsPlans { s with ports := ports } := ⟨⟨rfl, rfl, rfl, h⟩, rfl, rfl, id, fun _ => rfl⟩

theorem State.mapPort_keepsPlans (s : State) (p : PortId) {f : Port → Port} (h : (f s.ports[p]).bias = s.ports[p].bias) :
    s.KeepsPlans (s.mapPort p f) := by
  refine s.keepsPlans_of_ports fun q => ?_
  by_cases hq : q = p
  · subst hq
    exact (congrArg Port.bias (s.port_mapPort q f)).trans h
  · exact congrArg Port.bias (s.port_mapPort_ne hq f)

theorem State.mapPorts_keepsPlans (s : State) {f : Port → Port} (h : ∀ q, (f q).bias = q.bias) : s.KeepsPlans (s.mapPorts f) :=
  s.keepsPlans_of_ports fun p => (congrArg Port.bias (s.port_mapPorts p f)).trans (h _)

/-! Records, lines, counts and events. -/

theorem State.countBy_keepsPlans (s : State) (c n : Nat) : s.KeepsPlans (s.countBy c n) := by
  unfold State.countBy
  split
  · exact s.keepsPlans_refl
  · exact s.keepsPlans_of_update _ _ _ _ _ _ _ _

theorem State.count_keepsPlans (s : State) (c : Nat) : s.KeepsPlans (s.count c) := s.countBy_keepsPlans c 1

theorem State.linePulse_keepsPlans (s : State) (n : SubId) (kind : Byte) : s.KeepsPlans (s.linePulse n kind) :=
  (s.linePulse_onlyTrunks n kind).keepsPlans

theorem State.log_keepsPlans (s : State) (code p0 p1 p2 : Nat) : s.KeepsPlans (s.log code p0 p1 p2) :=
  (s.log_onlyTrunks code p0 p1 p2).keepsPlans

theorem State.chEvent_keepsPlans (s : State) (k : Nat) : s.KeepsPlans (s.chEvent k) := (s.chEvent_onlyTrunks k).keepsPlans

theorem State.event_keepsPlans (s : State) (p : PartId) (bit : Nat) : s.KeepsPlans (s.event p bit) :=
  (s.event_onlyTrunks p bit).keepsPlans

theorem State.eventAll_keepsPlans (s : State) (bit : Nat) : s.KeepsPlans (s.eventAll bit) :=
  (s.eventAll_onlyWakes bit).keepsPlans (s.eventAll_keeps bit)

theorem State.ngdFlag_keepsPlans (s : State) (b : Nat) : s.KeepsPlans (s.ngdFlag b) := s.keepsPlans_of_rad _ rfl rfl rfl

theorem State.countSource_keepsPlans (s : State) (k : Nat) : s.KeepsPlans (s.countSource k) := s.keepsPlans_of_update _ _ _ _ _ _ _ _

theorem State.trackFreeze_keepsPlans (s : State) : s.KeepsPlans s.trackFreeze := by
  refine s.mapSlots_keepsPlans _ fun k x => ?_
  dsimp only
  split <;> rfl

theorem State.memberCheck_keepsPlans (s : State) (k : Nat) : s.KeepsPlans (s.memberCheck k) := by
  unfold State.memberCheck
  extract_lets x c s1
  have held : s.KeepsPlans s1 := by
    refine State.KeepsPlans.trans ?_ (State.trkMute_onlyTrunks _ k).keepsPlans
    exact s.mapSlot_keepsPlans k fun _ => rfl
  split
  · exact s.keepsPlans_refl
  · split
    · exact held
    · refine State.KeepsPlans.trans ?_ (State.log_keepsPlans _ _ _ _ _)
      refine State.KeepsPlans.trans ?_ (State.linePulse_keepsPlans _ _ _)
      exact held.trans (s1.keepsPlans_of_rad _ rfl rfl rfl)

end Sys2Proof.Machine

namespace Sys2Proof.Machine

/-! The samples of the round that ends, and the lanes, leave every channel's settings and commits (R14, R110). -/

@[simp] theorem Slot.saturate_planned (x : Slot) (c : Bool) : (x.saturate c).planned = x.planned := by
  unfold Slot.saturate
  split <;> rfl

@[simp] theorem Slot.resampled_planned (x : Slot) (w : Int × Int) : (x.resampled w).1.planned = x.planned := rfl

@[simp] theorem Slot.rampWord_planned (x : Slot) (y : Int × Int) : (x.rampWord y).1.planned = x.planned := by
  unfold Slot.rampWord
  split
  · rfl
  · split <;> rfl

@[simp] theorem Slot.passWord_planned (x : Slot) (k : Nat) (held : Bool) (w : Int × Int) : (x.passWord k held w).planned = x.planned :=
  (Slot.rampWord_planned _ _).trans (Slot.saturate_planned _ _)

@[simp] theorem Slot.fadeWords_planned (x : Slot) (old new : Int × Int) : (x.fadeWords old new).1.planned = x.planned := by
  unfold Slot.fadeWords
  split <;> rfl

@[simp] theorem Slot.passSample_planned (x : Slot) (k : Nat) (held : Bool) (old acc : Int × Int) :
    (x.passSample k held old acc).planned = x.planned := by
  simp [Slot.passSample]

@[simp] theorem Slot.passCut_planned (x : Slot) (k : Nat) (held : Bool) (c : ChannelCut) : (x.passCut k held c).planned = x.planned := by
  unfold Slot.passCut
  extract_lets old
  have passed : ∀ (l : List (Int × Int)) (y : Slot × Nat),
      (l.foldl (fun (y : Slot × Nat) a => (y.1.passSample k held (old y.2) a, y.2 + 1)) y).1.planned = y.1.planned := fun l => by
    induction l with
    | nil => exact fun _ => rfl
    | cons a l ih => exact fun y => (ih _).trans (y.1.passSample_planned _ _ _ _)
  exact passed _ _

/-- The output held of a channel is not part of its plan. -/
theorem State.setOut_keepsPlans {s : State} {k : Nat} {x : Slot} (h : x.planned = (s.slot k).planned) (out : List (Int × Int)) :
    s.KeepsPlans (s.setSlot k { x with out := out }) := State.setSlot_keepsPlans h

theorem State.useFree_keepsPlans (s : State) (n : Nat) : s.KeepsPlans (s.useFree n) := s.keepsPlans_of_update _ _ _ _ _ _ _ _

theorem State.carryCut_keepsPlans (s : State) (c : ChannelCut) : s.KeepsPlans (s.carryCut c) := by
  unfold State.carryCut
  extract_lets x x1 n word words s1
  have passed : s.KeepsPlans s1 := by
    refine State.KeepsPlans.trans ?_ (State.useFree_keepsPlans _ _)
    exact State.setOut_keepsPlans (x.passCut_planned _ _ _) _
  split
  · split
    · exact passed.trans (s1.keepsPlans_of_rad _ rfl rfl rfl)
    · exact passed
  · exact s.keepsPlans_refl

/-- A channel's trunk side is not part of its plan. -/
theorem State.setTrunk_keepsPlans (s : State) (k : Nat) (t : Trunk) : s.KeepsPlans (s.setSlot k { s.slot k with trunk := t }) :=
  State.setSlot_keepsPlans rfl

theorem State.startGrid_keepsPlans (s : State) (k n : Nat) : s.KeepsPlans (s.startGrid k n) := by
  unfold State.startGrid
  extract_lets x p g
  split
  · exact s.setTrunk_keepsPlans k _
  · exact s.keepsPlans_refl

theorem State.feedLane_keepsPlans (s : State) (k n : Nat) : s.KeepsPlans (s.feedLane k n) := by
  unfold State.feedLane
  extract_lets x
  split
  · exact s.setTrunk_keepsPlans k _
  · exact s.keepsPlans_refl

theorem State.carryCuts_keepsPlans (s : State) (cs : List ChannelCut) : s.KeepsPlans (s.carryCuts cs) := by
  refine State.keepsPlans_foldl (fun u c => ?_) cs s
  refine State.KeepsPlans.trans ?_ (State.feedLane_keepsPlans _ _ _)
  exact (u.startGrid_keepsPlans _ _).trans (State.carryCut_keepsPlans _ c)

/-! Lanes (R224 to R240). -/

theorem Slot.release_planned (x : Slot) (k now : Nat) : (x.release k now).planned = x.planned := by
  have passed : ∀ (l : List (Nat × LaneSample)) (y : Slot), (l.foldl (fun y e => y.passLane k e.2) y).planned = y.planned := fun l => by
    induction l with
    | nil => exact fun _ => rfl
    | cons e l ih => exact fun y => (ih _).trans (Slot.passWord_planned _ _ _ _)
  exact passed _ _

theorem State.releaseLanes_keepsPlans (s : State) : s.KeepsPlans s.releaseLanes := by
  refine s.mapSlots_keepsPlans _ fun k x => ?_
  split
  · exact x.release_planned _ _
  · rfl

theorem State.laneSat_keepsPlans (s : State) (full : Bool) : s.KeepsPlans (s.laneSat full) := by
  unfold State.laneSat
  split
  · refine State.KeepsPlans.trans ?_ (State.linePulse_keepsPlans _ _ _)
    exact s.keepsPlans_of_rad _ rfl rfl rfl
  · exact s.keepsPlans_refl

theorem State.mapLink_keepsPlans (s : State) (l : LinkId) (f : Link → Link) : s.KeepsPlans (s.mapLink l f) :=
  s.keepsPlans_of_update _ _ _ _ _ _ _ _

theorem State.sendLane_keepsPlans (s : State) (key : Nat) (pick : ChainId → Lane → Bool) (f : Link → Lane → Link) :
    s.KeepsPlans (s.sendLane key pick f) := by
  refine State.keepsPlans_foldl (fun u m => ?_) _ s
  split
  · split
    · exact u.mapLink_keepsPlans _ _
    · exact u.keepsPlans_refl
  · exact u.keepsPlans_refl

theorem State.realign_keepsPlans (s : State) (k path : Nat) : s.KeepsPlans (s.realign k path) := by
  unfold State.realign
  extract_lets x a rel
  split
  · exact (s.useFree_keepsPlans 1).trans (State.setTrunk_keepsPlans _ k _)
  · exact s.setTrunk_keepsPlans k _

theorem State.takeDl_keepsPlans (s : State) (k : Nat) (via : Option ChainId) (n : Nat) (xs : List LaneSample) :
    s.KeepsPlans (s.takeDl k via n xs) := s.setTrunk_keepsPlans k _

theorem State.sinkTake_keepsPlans (s : State) (k n : Nat) (xs : List LaneSample) : s.KeepsPlans (s.sinkTake k n xs) :=
  s.setTrunk_keepsPlans k _

theorem State.takeHere_keepsPlans (s : State) (key num tref : Nat) (xs : List LaneSample) :
    s.KeepsPlans (s.takeHere key num tref xs) := by
  refine State.keepsPlans_foldl (fun u k => ?_) _ s
  extract_lets first s1 s2
  have aligned : u.KeepsPlans s1 := by
    unfold s1
    split
    · exact u.realign_keepsPlans _ _
    · exact u.keepsPlans_refl
  have stamped : s1.KeepsPlans s2 := by
    unfold s2
    split
    · exact s1.mapSlot_keepsPlans k fun _ => rfl
    · exact s1.keepsPlans_refl
  exact (aligned.trans stamped).trans <| (s2.memberCheck_keepsPlans k).trans (State.takeDl_keepsPlans _ _ _ _ _)

theorem State.sourceLane_keepsPlans (s : State) (k : Nat) : s.KeepsPlans (s.sourceLane k) := by
  unfold State.sourceLane
  extract_lets x key n s0 s1
  have followed : s.KeepsPlans s0 := by
    refine State.keepsPlans_foldl (fun u m => ?_) _ s
    split
    · exact u.keepsPlans_refl
    · exact (u.followOn_onlyTrunks m _).keepsPlans
  have sent : s0.KeepsPlans s1 :=
    State.keepsPlans_foldl (fun u _ => (u.takeHere_keepsPlans _ _ _ _).trans (State.sendLane_keepsPlans _ _ _ _)) _ s0
  split
  · exact (followed.trans sent).trans (s1.mapSlot_keepsPlans k fun _ => rfl)
  · exact s.keepsPlans_refl

theorem startLane_keepsPlans (a : Lane) (l : ChainId) (fuel : Nat) (s : State) : s.KeepsPlans (startLane a l fuel s) := by
  induction fuel generalizing s with
  | zero => exact s.keepsPlans_refl
  | succ fuel ih =>
    unfold startLane
    dsimp only
    split
    · exact (s.mapLink_keepsPlans _ _).trans <| (State.laneSat_keepsPlans _ _).trans (ih _)
    · exact s.keepsPlans_refl

theorem State.startLanes_keepsPlans (s : State) : s.KeepsPlans s.startLanes := by
  refine State.keepsPlans_foldl (fun u l => ?_) _ s
  split
  · refine State.keepsPlans_foldl (fun v a => ?_) _ u
    split
    · exact startLane_keepsPlans _ _ _ v
    · exact v.keepsPlans_refl
  · exact u.keepsPlans_refl

theorem State.deliverUl_keepsPlans (s : State) (key n : Nat) (xs : List LaneSample) : s.KeepsPlans (s.deliverUl key n xs) := by
  unfold State.deliverUl
  extract_lets s1 ys s2
  have taken : s1.KeepsPlans s2 := State.keepsPlans_foldl (fun u k => u.sinkTake_keepsPlans k _ _) _ s1
  exact (s.laneSat_keepsPlans _).trans <| taken.trans (s2.sendLane_keepsPlans _ _ _)

theorem startHome_keepsPlans (k key fuel : Nat) (s : State) : s.KeepsPlans (startHome k key fuel s) := by
  induction fuel generalizing s with
  | zero => exact s.keepsPlans_refl
  | succ fuel ih =>
    unfold startHome
    dsimp only
    split
    · refine State.KeepsPlans.trans ?_ (ih _)
      refine State.KeepsPlans.trans ?_ (State.deliverUl_keepsPlans _ _ _ _)
      exact s.keepsPlans_of_update _ _ _ _ _ _ _ _
    · exact s.keepsPlans_refl

theorem State.startHomes_keepsPlans (s : State) : s.KeepsPlans s.startHomes := by
  refine State.keepsPlans_foldl (fun u x => ?_) _ s
  dsimp only
  split
  · exact startHome_keepsPlans _ _ _ u
  · exact u.keepsPlans_refl

theorem State.laneRound_keepsPlans (s : State) : s.KeepsPlans s.laneRound := by
  refine State.KeepsPlans.trans ?_ (State.startHomes_keepsPlans _)
  refine State.KeepsPlans.trans ?_ (State.startLanes_keepsPlans _)
  exact s.releaseLanes_keepsPlans.trans (State.keepsPlans_foldl (fun u k => u.sourceLane_keepsPlans k) _ _)

/-! The gain's control sample, and the fades that have ended. -/

theorem Slot.foldRound_planned (x : Slot) (scaled : Bool) : (x.foldRound scaled).planned = x.planned := rfl

theorem State.foldRounds_keepsPlans (s : State) : s.KeepsPlans s.foldRounds := by
  refine ⟨⟨rfl, rfl, rfl, fun p => ?_⟩, rfl, rfl, id, s.slot_tblMap Slot.planned _ fun k x => ?_⟩
  · simp [State.foldRounds]
  · split
    · exact x.foldRound_planned _
    · rfl

theorem State.releaseFades_keepsPlans (s : State) : s.KeepsPlans s.releaseFades := by
  refine s.mapSlots_keepsPlans _ fun k x => ?_
  split
  · split <;> rfl
  · rfl

end Sys2Proof.Machine

namespace Sys2Proof.Machine

/-! Fences, mutes, the way into SILENCED and the Gauntlet's clamps leave every channel's settings and commits (R110, R171 to R186). -/

theorem State.lineLevel_keepsPlans (s : State) (n : SubId) (kind : Byte) (c : Bool) : s.KeepsPlans (s.lineLevel n kind c) := by
  unfold State.lineLevel
  split
  · exact (State.onlyWakes_of_rad (s.lineRise_lasts n kind) (s.lineRise_rad n kind)).keepsPlans (s.lineRise_keeps n kind)
  · exact (State.onlyWakes_of_rad (s.lineFall_lasts n) (s.lineFall_rad n)).keepsPlans (s.lineFall_keeps n)

/-! Ports that move, retune, and leave their bursts. -/

theorem State.drive_keepsPlans (s : State) (p : PortId) : s.KeepsPlans (s.drive p) := by
  have pins := s.drive_sameButPins p
  unfold State.drive at pins ⊢
  dsimp only at pins ⊢
  split
  · exact s.keepsPlans_refl
  · rename_i h
    rw [if_neg h, State.port_mapPort] at pins
    exact s.mapPort_keepsPlans p (by rw [pins])

theorem State.driveAll_keepsPlans (s : State) : s.KeepsPlans s.driveAll := State.keepsPlans_foldl State.drive_keepsPlans _ s

theorem State.freeOutputs_keepsPlans (s : State) (p : PortId) (part : PartId) : s.KeepsPlans (s.freeOutputs p part) := by
  refine s.mapSlots_keepsPlans _ fun k x => ?_
  split <;> rfl

theorem State.deriveOffsets_keepsPlans (s : State) : s.KeepsPlans s.deriveOffsets := by
  refine s.mapSlots_keepsPlans _ fun k x => ?_
  split <;> rfl

theorem State.startRetune_keepsPlans (s : State) (p : PortId) : s.KeepsPlans (s.startRetune p) := by
  refine State.KeepsPlans.trans ?_ (State.trackFreeze_keepsPlans _)
  exact (s.freeOutputs_keepsPlans p _).trans (State.mapPort_keepsPlans _ p rfl)

theorem State.beginBank_keepsPlans (s : State) (p : PortId) : s.KeepsPlans (s.beginBank p) := by
  unfold State.beginBank
  dsimp only
  split
  · exact s.keepsPlans_refl
  · split
    · exact s.mapPort_keepsPlans p rfl
    · split
      · exact s.keepsPlans_refl
      · split
        · refine State.KeepsPlans.trans ?_ (State.deriveOffsets_keepsPlans _)
          refine State.KeepsPlans.trans ?_ (State.startRetune_keepsPlans _ p)
          exact s.mapPort_keepsPlans p rfl
        · exact s.mapPort_keepsPlans p rfl

theorem State.beforeTune_keepsPlans (s : State) (p : PortId) (r : TuneRec) : s.KeepsPlans (s.beforeTune p r) := by
  unfold State.beforeTune
  extract_lets q rebanks s1
  have retuned : s.KeepsPlans s1 := by
    unfold s1
    split
    · exact s.startRetune_keepsPlans p
    · exact s.keepsPlans_refl
  split
  · exact retuned.trans (s1.freeOutputs_keepsPlans p _)
  · exact retuned

theorem Port.take_bias (q : Port) (r : TuneRec) (now : Nat) (rebanks waits : Bool) : (q.take r now rebanks waits).bias = q.bias := by
  unfold Port.take Port.dropBoost
  split <;> rfl

theorem State.applyTune_keepsPlans (s : State) (p : PortId) (r : TuneRec) : s.KeepsPlans (s.applyTune p r) := by
  rw [State.applyTune_eq]
  refine State.KeepsPlans.trans ?_ (State.beginBank_keepsPlans _ p)
  refine State.KeepsPlans.trans ?_ (State.drive_keepsPlans _ p)
  refine State.KeepsPlans.trans ?_ (State.deriveOffsets_keepsPlans _)
  refine State.KeepsPlans.trans ?_ (State.lineLevel_keepsPlans _ _ _ _)
  exact (s.beforeTune_keepsPlans p _).trans (State.mapPort_keepsPlans _ p (Port.take_bias _ _ _ _ _))

theorem Port.toReturn_bias (q : Port) : q.toReturn.bias = q.bias := by
  unfold Port.toReturn
  dsimp only
  split <;> rfl

theorem State.leaveProbe_keepsPlans (s : State) (p : PortId) : s.KeepsPlans (s.leaveProbe p) := by
  unfold State.leaveProbe
  dsimp only
  split
  · refine State.KeepsPlans.trans ?_ (State.applyTune_keepsPlans _ p _)
    exact s.mapPort_keepsPlans p rfl
  · refine State.KeepsPlans.trans ?_ (State.drive_keepsPlans _ p)
    refine State.KeepsPlans.trans ?_ (State.mapPort_keepsPlans _ p rfl)
    exact s.mapPort_keepsPlans p (Port.toReturn_bias _)

theorem State.dropBursts_keepsPlans (s : State) (k : Nat) : s.KeepsPlans (s.dropBursts k) := s.mapPorts_keepsPlans fun _ => rfl

theorem State.probeInvalid_keepsPlans (s : State) (k : Nat) : s.KeepsPlans (s.probeInvalid k) := by
  unfold State.probeInvalid
  extract_lets s1
  have dropped : s.KeepsPlans s1 := by
    refine State.KeepsPlans.trans ?_ (State.dropBursts_keepsPlans _ k)
    exact s.mapSlot_keepsPlans k fun _ => rfl
  split
  · exact dropped.trans (s1.event_keepsPlans _ 9)
  · exact dropped

theorem State.abortBurst_keepsPlans (s : State) (p : PortId) : s.KeepsPlans (s.abortBurst p) := by
  unfold State.abortBurst
  split
  · exact (s.leaveProbe_keepsPlans p).trans (State.probeInvalid_keepsPlans _ _)
  · exact s.keepsPlans_refl

theorem State.abortProbes_keepsPlans (s : State) : s.KeepsPlans s.abortProbes :=
  (State.keepsPlans_foldl State.abortBurst_keepsPlans _ s).trans
    (State.keepsPlans_foldl (fun u (x : Nat × Slot) => u.probeInvalid_keepsPlans x.1) _ _)

/-! Modes (R20, R178). -/

theorem State.enterMode_keepsPlans (s : State) (m : Mode) : s.KeepsPlans (s.enterMode m) := by
  unfold State.enterMode
  extract_lets s1 first
  have aborted : s.KeepsPlans s1 := by
    unfold s1
    split
    · exact s.abortProbes_keepsPlans
    · exact s.keepsPlans_refl
  refine State.KeepsPlans.trans ?_ (State.eventAll_keepsPlans _ 10)
  refine State.KeepsPlans.trans ?_ (State.driveAll_keepsPlans _)
  exact aborted.trans (s1.keepsPlans_of_rad _ rfl rfl rfl)

theorem State.enterWatch_keepsPlans (s : State) : s.KeepsPlans s.enterWatch := by
  have enters : s.KeepsPlans (({ s with pwr := { s.pwr with watchFrom := s.pwr.mode } }).dropArms.enterMode .watch) := by
    refine State.KeepsPlans.trans ?_ (State.enterMode_keepsPlans _ _)
    refine (s.keepsPlans_of_update _ _ _ _ _ _ _ _).trans (State.mapSlots_keepsPlans _ _ fun k x => ?_)
    split <;> rfl
  unfold State.enterWatch
  split
  case h_1 | h_2 | h_3 | h_4 => exact enters
  case h_5 | h_6 => exact s.keepsPlans_of_update _ _ _ _ _ _ _ _
  case h_7 => exact s.keepsPlans_refl

theorem State.changeMode_keepsPlans (s : State) (m : Mode) : s.KeepsPlans (s.changeMode m) := by
  unfold State.changeMode
  dsimp only
  split
  · exact (s.enterMode_keepsPlans m).trans (State.enterWatch_keepsPlans _)
  · exact s.enterMode_keepsPlans m

theorem State.markSevere_keepsPlans (s : State) (src : Nat) : s.KeepsPlans (s.markSevere src) := by
  unfold State.markSevere
  split
  · exact s.keepsPlans_refl
  · refine State.KeepsPlans.trans ?_ (State.linePulse_keepsPlans _ _ _)
    refine State.KeepsPlans.trans ?_ (State.ngdFlag_keepsPlans _ 5)
    exact s.keepsPlans_of_update _ _ _ _ _ _ _ _

theorem State.enterSilenced_keepsPlans (s : State) (ks : List Nat) : s.KeepsPlans (s.enterSilenced ks) := by
  unfold State.enterSilenced
  split
  · extract_lets now entries secs involve s1 charter s2
    have involved : s.KeepsPlans s1 := by
      refine State.keepsPlans_foldl (fun u k => ?_) ks s
      refine State.KeepsPlans.trans ?_ (State.markSevere_keepsPlans _ _)
      refine u.mapSlot_keepsPlans k fun x => ?_
      split <;> rfl
    refine State.KeepsPlans.trans ?_ (State.log_keepsPlans _ _ _ _ _)
    refine State.KeepsPlans.trans ?_ (State.linePulse_keepsPlans _ _ _)
    refine State.KeepsPlans.trans ?_ (State.changeMode_keepsPlans _ _)
    exact involved.trans (s1.keepsPlans_of_update _ _ _ _ _ _ _ _)
  · exact s.keepsPlans_refl

/-! Fences and mutes (R108, R171, R172). -/

theorem State.countFence_keepsPlans (s : State) (src : Nat) : s.KeepsPlans (s.countFence src) := by
  unfold State.countFence
  extract_lets s1
  have counted : s.KeepsPlans s1 := s.countSource_keepsPlans src
  split
  · exact counted.trans <| (s1.ngdFlag_keepsPlans 5).trans (State.linePulse_keepsPlans _ _ _)
  · exact counted

theorem State.joinSilenced_keepsPlans (s : State) : s.KeepsPlans s.joinSilenced := by
  unfold State.joinSilenced
  split
  · refine s.mapSlots_keepsPlans _ fun k x => ?_
    split <;> rfl
  · exact s.keepsPlans_refl

theorem State.fenceSlot_keepsPlans (s : State) (k : Nat) : s.KeepsPlans (s.fenceSlot k) := by
  unfold State.fenceSlot
  extract_lets x req x0 guard s1 s2 n osc charter s3
  have fenced : s.KeepsPlans s1 := State.setSlot_keepsPlans rfl
  have counted : s1.KeepsPlans s2 := by
    unfold s2
    split
    · exact s1.keepsPlans_refl
    · exact s1.countFence_keepsPlans _
  have noted : s2.KeepsPlans s3 := by
    unfold s3
    split
    · split
      · exact s2.keepsPlans_of_update _ _ _ _ _ _ _ _
      · exact s2.keepsPlans_refl
    · exact s2.keepsPlans_refl
  split
  · exact s.keepsPlans_refl
  · split
    · exact s.mapSlot_keepsPlans k fun _ => rfl
    · split
      · exact fenced
      · refine State.KeepsPlans.trans ?_ (State.chEvent_keepsPlans _ k)
        refine State.KeepsPlans.trans ?_ (State.log_keepsPlans _ _ _ _ _)
        refine State.KeepsPlans.trans ?_ (State.linePulse_keepsPlans _ _ _)
        exact (fenced.trans counted).trans (noted.trans (s3.count_keepsPlans 201))

theorem State.muteSlot_keepsPlans (s : State) (k : Nat) : s.KeepsPlans (s.muteSlot k) := by
  unfold State.muteSlot
  extract_lets x g x0
  split
  · exact s.keepsPlans_refl
  · split
    · exact s.mapSlot_keepsPlans k fun _ => rfl
    · refine State.KeepsPlans.trans ?_ (State.chEvent_keepsPlans _ k)
      exact State.setSlot_keepsPlans rfl

theorem State.resetMutes_keepsPlans (s : State) : s.KeepsPlans s.resetMutes := by
  refine s.mapSlots_keepsPlans _ fun k x => ?_
  split <;> rfl

theorem State.silencedCheck_keepsPlans (s : State) : s.KeepsPlans s.silencedCheck := by
  unfold State.silencedCheck
  extract_lets recent charter s1
  have recorded : s.KeepsPlans s1 := s.keepsPlans_of_update _ _ _ _ _ _ _ _
  split
  · exact recorded.trans (s1.enterSilenced_keepsPlans _)
  · exact recorded

theorem State.hardwareRound_keepsPlans (s : State) : s.KeepsPlans s.hardwareRound := by
  unfold State.hardwareRound
  extract_lets ks ps s1 s2 s3
  have fences : s.KeepsPlans s1 := s.joinSilenced_keepsPlans.trans (State.keepsPlans_foldl State.fenceSlot_keepsPlans _ _)
  have counts : s1.KeepsPlans s2 := State.keepsPlans_foldl (fun u p => u.countFence_keepsPlans _) _ s1
  have mutes : s2.KeepsPlans s3 := State.keepsPlans_foldl State.muteSlot_keepsPlans _ s2
  exact (fences.trans counts).trans <| mutes.trans <| s3.resetMutes_keepsPlans.trans (State.silencedCheck_keepsPlans _)

/-! The Gauntlet, and the gain of the round that begins (R126, R129, R131, R186). -/

theorem State.clamp_keepsPlans (s : State) (p : PortId) (ks : List Nat) : s.KeepsPlans (s.clamp p ks) := by
  unfold State.clamp
  extract_lets recent radio charter s1
  have clamped : s.KeepsPlans s1 := by
    refine State.KeepsPlans.trans ?_ (State.linePulse_keepsPlans _ _ _)
    refine State.KeepsPlans.trans ?_ (State.count_keepsPlans _ 203)
    exact s.keepsPlans_of_rad _ rfl rfl rfl
  split
  · exact clamped.trans (s1.enterSilenced_keepsPlans _)
  · exact clamped

theorem State.gntRound_keepsPlans (s : State) (k : Nat) : s.KeepsPlans (s.gntRound k) := by
  unfold State.gntRound
  dsimp only
  split
  · split
    · refine State.KeepsPlans.trans ?_ (State.clamp_keepsPlans _ _ _)
      exact s.mapSlot_keepsPlans k fun _ => rfl
    · exact s.keepsPlans_refl
  · exact s.keepsPlans_refl

theorem State.glcFlags_keepsPlans (s : State) (k : Nat) (ungated : Bool) (old new : Slot) :
    s.KeepsPlans (s.glcFlags k ungated old new) := by
  unfold State.glcFlags
  extract_lets gated radio s1 s2
  have flagged : s.KeepsPlans s1 := s.keepsPlans_of_rad _ rfl rfl rfl
  have counted : s1.KeepsPlans s2 := by
    unfold s2
    split
    · exact s1.count_keepsPlans 205
    · exact s1.keepsPlans_refl
  split
  · exact (flagged.trans counted).trans (s2.chEvent_keepsPlans k)
  · exact flagged.trans counted

theorem Slot.evaluate_planned (x : Slot) (valid : Bool) (perm : Level) : (x.evaluate valid perm).planned = x.planned := rfl

theorem State.glcRound_keepsPlans (s : State) (k : Nat) : s.KeepsPlans (s.glcRound k) := by
  unfold State.glcRound
  extract_lets x glc x0 x1 s1
  have set : s.KeepsPlans s1 := State.setSlot_keepsPlans (x0.evaluate_planned _ _)
  split
  · split
    · exact set
    · exact set.trans (s1.glcFlags_keepsPlans _ _ _ _)
  · exact s.keepsPlans_refl

theorem State.gainDisagree_keepsPlans (s : State) (k : Nat) : s.KeepsPlans (s.gainDisagree k) := by
  unfold State.gainDisagree
  extract_lets x s1
  have gated : s.KeepsPlans s1 := by
    refine State.KeepsPlans.trans ?_ (State.glcFlags_keepsPlans _ _ _ _ _)
    exact State.setSlot_keepsPlans rfl
  split
  · refine State.KeepsPlans.trans ?_ (State.log_keepsPlans _ _ _ _ _)
    refine State.KeepsPlans.trans ?_ (State.linePulse_keepsPlans _ _ _)
    exact gated.trans (s1.keepsPlans_of_rad _ rfl rfl rfl)
  · exact s.keepsPlans_refl

end Sys2Proof.Machine

namespace Sys2Proof.Machine

/-! Instructions at the boundary, the head's answers, and what WATCH held: whatever they do to channels and ports, the clock, the
partitions' grants and tables and the PA bias stay (R110, R342). -/

theorem State.setSlot_calm (s : State) (k : Nat) (x : Slot) : s.Calm (s.setSlot k x) := ⟨rfl, rfl, rfl, fun _ => rfl⟩

theorem State.mapSlot_calm (s : State) (k : Nat) (f : Slot → Slot) : s.Calm (s.mapSlot k f) := s.setSlot_calm k _

/-- A change of the radio, or of what the head, the tasks and the mode's power control know. -/
theorem State.calm_of_update (s : State) (free : Nat) (cpu : Cpu) (rad : Radio) (links : Vector Link 4) (fab : Fab) (pwr : Pwr) :
    s.Calm { s with free := free, cpu := cpu, rad := rad, links := links, fab := fab, pwr := pwr } := ⟨rfl, rfl, rfl, fun _ => rfl⟩

theorem State.calm_of_keeps {s u : State} (k : s.Keeps u) (h : s.Lasts u) : s.Calm u := ⟨k.clk, h.1, h.2.1, fun p => by rw [k.port p]⟩

theorem State.mapPort_calm (s : State) (p : PortId) {f : Port → Port} (h : (f s.ports[p]).bias = s.ports[p].bias) :
    s.Calm (s.mapPort p f) := (s.mapPort_keepsPlans p h).toCalm

theorem State.count_calm (s : State) (c : Nat) : s.Calm (s.count c) := (s.count_keepsPlans c).toCalm

theorem State.useFree_calm (s : State) (n : Nat) : s.Calm (s.useFree n) := (s.useFree_keepsPlans n).toCalm

theorem State.askHead_calm (s : State) (q : LaneRequest) : s.Calm (s.askHead q) := s.calm_of_update _ _ _ _ _ _

/-! Tasks whose instructions end. -/

theorem State.finish_calm (s : State) (t : Nat) (gd : Reg) (v : Word) : s.Calm (s.finish t gd v) :=
  (s.finish_onlyWakes t gd v).calm (s.finish_keeps t gd v)

theorem State.refuse_calm (s : State) (t : Nat) (gd : Reg) (code : Word) : s.Calm (s.refuse t gd code) :=
  (s.refuse_onlyWakes t gd code).calm (s.refuse_keeps t gd code)

theorem State.violate_calm (s : State) (t : Nat) (kind : Byte) (gd : Reg) : s.Calm (s.violate t kind gd) :=
  (s.violate_onlyWakes t kind gd).calm (s.violate_keeps t kind gd)

theorem State.exception_calm (s : State) (t : Nat) (cause : Byte) (pc addr : Word) : s.Calm (s.exception t cause pc addr) :=
  (s.exceptionN_onlyWakes t cause pc addr 1).calm (s.exceptionN_keeps t cause pc addr 1)

theorem State.wake_calm (s : State) (t : Nat) (gd : Reg) (v : Word) : s.Calm (s.wake t gd v) :=
  (s.wake_onlyWakes t gd v).calm (s.wake_keeps t gd v)

theorem State.wakeRefuse_calm (s : State) (t : Nat) (gd : Reg) (code : Word) : s.Calm (s.wakeRefuse t gd code) :=
  (s.wakeWith_onlyWakes t gd 0 code 0).calm (s.wakeWith_keeps t gd 0 code 0)

theorem State.makeWait_calm (s : State) (t : Nat) (w : Wait) : s.Calm (s.makeWait t w) :=
  State.calm_of_keeps (s.makeWait_keeps t w) (s.makeWait_lasts t w)

theorem State.makeReady_calm (s : State) (t : Nat) : s.Calm (s.makeReady t) :=
  State.calm_of_keeps (s.makeReady_keeps t) (s.makeReady_lasts t)

theorem State.hold_calm (s : State) (t : Nat) (i : Instr) : s.Calm (s.hold t i) := by
  refine State.Calm.trans ?_ (State.makeWait_calm _ t _)
  exact s.calm_of_update _ _ _ _ _ _

theorem State.wakePower_calm (s : State) : s.Calm s.wakePower := by
  unfold State.wakePower
  split
  · exact s.calm_of_update _ _ _ _ _ _
  · exact s.calm_refl

theorem onRunning_calm {t : TaskId} {s u : State} {f : Task → State → State} (hf : ∀ k v, State.Calm v (f k v))
    (h : onRunning t s f = .next u) : s.Calm u := by
  unfold onRunning at h
  split at h
  · split at h
    · cases h
      refine State.Calm.trans ?_ (hf _ _)
      split
      · exact s.calm_refl
      · exact State.calm_of_keeps (s.countFor_keeps _ 0) (by simp)
    · cases h
      exact s.calm_refl
  · cases h
    exact s.calm_refl

theorem onEngine_calm {t : TaskId} {kind : Byte} {s u : State} {f : Task → State → State} (hf : ∀ k v, State.Calm v (f k v))
    (h : onEngine t kind s f = .next u) : s.Calm u := by
  unfold onEngine at h
  split at h
  · cases h
    exact State.calm_of_keeps (s.violation_keeps _ kind) (s.violation_lasts _ kind)
  · exact onRunning_calm hf h

theorem onChannelHeld_calm {t : TaskId} {gd ga : Reg} {i : Instr} {s u : State} {f : Task → Nat → State → State}
    (hf : ∀ k n v, State.Calm v (f k n v)) (h : onChannelHeld t gd ga i s f = .next u) : s.Calm u := by
  refine onEngine_calm (fun k v => ?_) h
  split
  · exact v.hold_calm t i
  · split
    · exact hf _ _ _
    · exact v.violate_calm t 3 gd

theorem State.withRecord_calm (s : State) (t : Nat) (gd : Reg) (k : Task) (ea : Word) (n : Nat) {f : List Byte → State → State}
    (hf : ∀ bs v, State.Calm v (f bs v)) : s.Calm (s.withRecord t gd k ea n f) := by
  unfold State.withRecord
  extract_lets s1
  have read : s.Calm s1 := State.calm_of_keeps (s.readErrors_keeps _ _ _) (s.readErrors_lasts _ _ _)
  split
  · split
    · exact read.trans (s1.exception_calm t 2 _ _)
    · exact read.trans (hf _ _)
  · exact s.violate_calm t 1 gd

/-! Commits (R103, R110, R340). -/

theorem State.leaveLane_calm (s : State) (k : Nat) (c : Settings) : s.Calm (s.leaveLane k c) := by
  unfold State.leaveLane
  extract_lets s1 q
  have emptied : s.Calm s1 := by
    unfold s1
    split
    · exact s.calm_of_update _ _ _ _ _ _
    · exact s.calm_refl
  split
  · split
    · refine emptied.trans ?_
      unfold State.leaveAtHead
      dsimp only
      split <;> exact s1.calm_of_update _ _ _ _ _ _
    · exact emptied.trans (s1.askHead_calm q)
  · exact s.calm_refl

theorem State.memberCheck_calm (s : State) (k : Nat) : s.Calm (s.memberCheck k) := (s.memberCheck_keepsPlans k).toCalm

theorem State.effectCommit_calm (s : State) (k : Nat) : s.Calm (s.effectCommit k) := by
  unfold State.effectCommit
  dsimp only
  split
  · exact s.calm_refl
  · split
    · refine State.Calm.trans ?_ (State.memberCheck_calm _ k)
      refine State.Calm.trans ?_ (State.calm_of_update _ _ _ _ _ _ _)
      refine State.Calm.trans ?_ (State.setSlot_calm _ k _)
      split
      · exact s.leaveLane_calm k _
      · exact s.calm_refl
    · exact s.setSlot_calm k _

theorem State.doRearm_calm (s : State) (k : Nat) : s.Calm (s.doRearm k) := by
  unfold State.doRearm
  split
  · exact s.calm_refl
  · split
    · exact (s.mapSlot_calm k _).trans (State.chEvent_keepsPlans _ k).toCalm
    · exact s.mapSlot_calm k _

theorem State.queueRound_calm (s : State) (o : RoundOp) : s.Calm (s.queueRound o) := s.calm_of_update _ _ _ _ _ _

theorem State.runRoundOp_calm (s : State) (o : RoundOp) : s.Calm (s.runRoundOp o) := by
  cases o with
  | commit k => exact s.effectCommit_calm k
  | mute k => exact s.mapSlot_calm k fun x => { x.rampDown with mutes := { x.mutes with prog := true } }
  | unmute k =>
    dsimp only [State.runRoundOp]
    split
    · exact s.queueRound_calm _
    · exact s.mapSlot_calm k _
  | rearm k =>
    dsimp only [State.runRoundOp]
    split
    · exact s.queueRound_calm _
    · exact s.doRearm_calm k

theorem State.runRoundOps_calm (s : State) : s.Calm s.runRoundOps :=
  State.Calm.trans (s.calm_of_update _ _ _ _ _ _) (State.calm_foldl State.runRoundOp_calm _ _)

theorem State.commitRefused_calm (s : State) (k : Nat) (r : CommitReq) (code : Word) : s.Calm (s.commitRefused k r code) := by
  unfold State.commitRefused
  split
  · exact State.Calm.trans (s.calm_of_update _ _ _ _ _ _) (State.count_calm _ 198)
  · split
    · exact State.Calm.trans (s.calm_of_update _ _ _ _ _ _) (State.count_calm _ 197)
    · exact s.calm_refl

theorem State.commitAdmit_calm (s : State) (t k : Nat) (r : CommitReq) : s.Calm (s.commitAdmit t k r) := by
  unfold State.commitAdmit
  extract_lets r1 drop s1 radio s2
  have admitted : s.Calm s2 := s.calm_of_update _ _ _ _ _ _
  refine State.Calm.trans ?_ (State.count_calm _ 196)
  refine State.Calm.trans ?_ (State.useFree_calm _ _)
  exact admitted.trans (s2.calm_of_update _ _ _ _ _ _)

theorem commitOn_calm (t : TaskId) (gd : Reg) (fade : Bool) (k : Nat) (s : State) : s.Calm (commitOn t gd fade k s) := by
  unfold commitOn
  extract_lets r code s1
  have told : s.Calm s1 := by
    unfold s1
    split
    · exact s.askHead_calm _
    · exact s.calm_refl
  split
  · exact (s.commitRefused_calm k r code).trans (State.refuse_calm _ t gd code)
  · split
    · split
      · exact (s.count_calm 197).trans (State.refuse_calm _ t gd 3)
      · exact (s.askHead_calm _).trans (State.makeWait_calm _ t _)
    · exact told.trans <| (s1.commitAdmit_calm t k r).trans (State.finish_calm _ t gd 1)

theorem commitInstr_calm {t : TaskId} {gd ga : Reg} {fade : Bool} {i : Instr} {s u : State}
    (h : commitInstr t gd ga fade i s = .next u) : s.Calm u := by
  refine onChannelHeld_calm (fun k n v => ?_) h
  split
  · exact (v.hold_calm t i).trans (State.wakePower_calm _)
  · exact commitOn_calm t gd fade n v

/-! The other instructions that WATCH or DOZE may hold (R339, R341, R347, R348). -/

theorem execChAlloc_calm {t : TaskId} {gd ga gb : Reg} {s u : State} (h : execChAlloc t gd ga gb s = .next u) : s.Calm u := by
  refine onEngine_calm (fun k v => ?_) h
  split
  · exact v.hold_calm t _
  · split
    · exact v.refuse_calm t gd 3
    · split
      · exact v.refuse_calm t gd 2
      · exact (v.setSlot_calm _ _).trans (State.makeWait_calm _ t _)

theorem State.freeChannel_calm (s : State) (k : Nat) : s.Calm (s.freeChannel k) := by
  unfold State.freeChannel
  dsimp only
  refine State.Calm.trans ?_ (State.dropBursts_keepsPlans _ k).toCalm
  refine State.Calm.trans ?_ (State.mapSlot_calm _ k _)
  split
  · exact s.leaveLane_calm k _
  · exact s.calm_refl

theorem execChFree_calm {t : TaskId} {gd ga : Reg} {s u : State} (h : execChFree t gd ga s = .next u) : s.Calm u :=
  onChannelHeld_calm (fun _ n v => (v.freeChannel_calm n).trans (State.finish_calm _ t gd 1)) h

theorem execChProbe_calm {t : TaskId} {gd ga : Reg} {k : Fin 16} {s u : State} (h : execChProbe t gd ga k s = .next u) : s.Calm u := by
  refine onChannelHeld_calm (fun _ n v => ?_) h
  dsimp only
  split
  · refine State.Calm.trans ?_ (State.finish_calm _ t gd 1)
    refine State.Calm.trans ?_ (State.wakePower_calm _)
    exact (v.mapSlot_calm n _).trans (State.useFree_calm _ 4)
  · split
    · exact (v.mapSlot_calm n _).trans (State.finish_calm _ t gd 1)
    · split
      · exact State.Calm.trans (v.calm_of_update _ _ _ _ _ _) (State.refuse_calm _ t gd 4)
      · split
        · exact v.finish_calm t gd 1
        · split
          · exact v.finish_calm t gd 1
          · refine State.Calm.trans ?_ (State.finish_calm _ t gd 1)
            exact (v.mapSlot_calm n _).trans (State.mapPort_calm _ _ rfl)

theorem execPortTune_calm {t : TaskId} {gd ga gb : Reg} {s u : State} (h : execPortTune t gd ga gb s = .next u) : s.Calm u := by
  refine onEngine_calm (fun k v => ?_) h
  split
  · exact v.hold_calm t _
  · refine v.withRecord_calm t gd k _ 32 fun bs w => ?_
    dsimp only
    split
    · exact w.refuse_calm t gd 6
    · split
      · refine State.Calm.trans ?_ (State.finish_calm _ t gd 1)
        exact (w.mapPort_calm _ rfl).trans (State.mapPort_calm _ _ rfl)
      · refine State.Calm.trans ?_ (State.finish_calm _ t gd 1)
        exact (w.mapPort_calm _ rfl).trans (State.applyTune_keepsPlans _ _ _).toCalm

theorem Port.loadSched_bias (q : Port) (sc : Option Sched) : (q.loadSched sc).bias = q.bias := by
  unfold Port.loadSched
  split
  · rfl
  · split <;> rfl

theorem execPortSched_calm {t : TaskId} {gd ga gb : Reg} {s u : State} (h : execPortSched t gd ga gb s = .next u) : s.Calm u := by
  refine onEngine_calm (fun k v => ?_) h
  split
  · exact v.hold_calm t _
  · refine v.withRecord_calm t gd k _ 16 fun hd w => ?_
    refine w.withRecord_calm t gd k _ _ fun bs w => w.wakePower_calm.trans ?_
    generalize w.wakePower = y
    dsimp only
    split
    · exact y.refuse_calm t gd 6
    · split
      · refine State.Calm.trans ?_ (State.finish_calm _ t gd 1)
        exact y.mapPort_calm _ (Port.loadSched_bias _ _)
      · split
        · exact State.Calm.trans (y.calm_of_update _ _ _ _ _ _) (State.refuse_calm _ t gd 4)
        · refine State.Calm.trans ?_ (State.finish_calm _ t gd 1)
          exact (y.mapPort_calm _ (Port.loadSched_bias _ _)).trans (State.useFree_calm _ 32)

theorem heldExec_calm {i : Instr} {s u : State} (h : heldExec i s = .next u) : s.Calm u := by
  unfold heldExec at h
  split at h
  · exact execChAlloc_calm h
  · exact execChFree_calm h
  · exact commitInstr_calm h
  · exact commitInstr_calm h
  · exact execChProbe_calm h
  · exact execPortTune_calm h
  · exact execPortSched_calm h
  · cases h
    exact s.calm_refl

theorem State.runHeldOne_calm (s : State) (t : Nat) (i : Instr) : s.Calm (s.runHeldOne t i) := by
  unfold State.runHeldOne
  split
  · exact s.calm_refl
  · split
    · split
      · rename_i s1 h
        have ran : s.Calm s1 := State.Calm.trans (s.calm_of_update _ _ _ _ _ _) (heldExec_calm h)
        split
        · split
          · exact ran.trans (s1.makeReady_calm t)
          · exact ran
        · exact ran
      · exact s.calm_refl
    · exact s.calm_refl

theorem State.releaseHeld_calm (s : State) : s.Calm s.releaseHeld := by
  unfold State.releaseHeld
  split
  · exact s.calm_refl
  · exact State.Calm.trans (s.calm_of_update _ _ _ _ _ _) (State.calm_foldl (fun u (x : Nat × Instr) => u.runHeldOne_calm x.1 x.2) _ _)

/-! The head's answers (R19, R212, R225, R340). -/

theorem State.followProfile_calm (s : State) (k : Nat) (p : BitVec 4) : s.Calm (s.followProfile k p) := by
  unfold State.followProfile
  extract_lets x c r s1
  split
  · exact (s.mapSlot_calm k _).trans (s1.calm_of_update _ _ _ _ _ _)
  · exact s.calm_refl

theorem State.laneAgain_calm (s : State) (k : Nat) (a : LaneAnswer) : s.Calm (s.laneAgain k a) := by
  unfold State.laneAgain
  dsimp only
  split
  · exact s.calm_refl
  · split
    · refine State.Calm.trans ?_ (State.memberCheck_calm _ k)
      exact (s.setSlot_calm k _).trans (State.followProfile_calm _ k _)
    · refine State.Calm.trans ?_ (State.log_keepsPlans _ _ _ _ _).toCalm
      exact (s.mapSlot_calm k _).trans (State.trkMute_onlyTrunks _ k).keepsPlans.toCalm

theorem State.commitAnswered_calm (s : State) (k : Nat) (a : LaneAnswer) (t : Nat) (gd : Reg) (fade : Bool) :
    s.Calm (s.commitAnswered k a t gd fade) := by
  unfold State.commitAnswered
  extract_lets r0 known r code
  split
  · refine State.Calm.trans ?_ (State.wake_calm _ t gd 1)
    exact (s.commitAdmit_calm t k r).trans (State.mapSlot_calm _ k _)
  · split
    · exact (s.count_calm 197).trans (State.wakeRefuse_calm _ t gd 3)
    · exact (s.commitRefused_calm k r code).trans (State.wakeRefuse_calm _ t gd code)

theorem State.laneResult_calm (s : State) (k : Nat) (a : LaneAnswer) : s.Calm (s.laneResult k a) := by
  unfold State.laneResult
  extract_lets b s1
  have done : s.Calm s1 := s.calm_of_update _ _ _ _ _ _
  refine done.trans ?_
  split
  · unfold State.dropped
    split
    · exact s1.calm_of_update _ _ _ _ _ _
    · exact s1.calm_refl
  · split
    · exact s1.laneAgain_calm k b
    · exact s1.commitAnswered_calm k b _ _ _

theorem State.releaseAnswers_calm (s : State) : s.Calm s.releaseAnswers := by
  unfold State.releaseAnswers
  split
  · exact s.calm_refl
  · exact State.Calm.trans (s.calm_of_update _ _ _ _ _ _)
      (State.calm_foldl (fun u (e : Nat × LaneAnswer) => u.laneResult_calm e.1 e.2) _ _)

end Sys2Proof.Machine

namespace Sys2Proof.Machine

/-! O30: the round boundary (R82, R83, R103, R110, R136, R147, R389, R451). -/

/-- The instant of the boundary (R82). -/
theorem State.toBoundary_ed {s : State} (h : s.pwr.mode ≠ .off) :
    s.toBoundary.clk.ed = s.clk.ed + (1152 - (s.clk.ed - s.clk.origin) % 1152) := by
  simp only [State.toBoundary, State.advance, if_neg h, State.roundPos, roundLen]

/-- On the way there tenants' credit runs down, and nothing else of the partitions changes (R393). -/
theorem State.toBoundary_grants (s : State) (p : PartId) : s.toBoundary.parts[p].grants = s.parts[p].grants := by
  unfold State.toBoundary State.advance
  split
  · rfl
  · simp

theorem State.toBoundary_others (s : State) :
    s.toBoundary.ms = s.ms ∧ s.toBoundary.rad = s.rad ∧ s.toBoundary.cpu = s.cpu := by
  unfold State.toBoundary State.advance
  split <;> exact ⟨rfl, rfl, rfl⟩

/-- A round boundary up to where tables and grants come into force: the samples of the round that ends, the lanes, the gain's samples,
and the fades that have ended. -/
def State.roundEnded (s : State) (cuts : List ChannelCut) : State :=
  ((s.toBoundary.carryCuts cuts).laneRound).foldRounds.releaseFades

/-- The gain of the round that begins, with its checks. -/
def State.gainRound (s : State) (disagree : List SlotId) : State :=
  let ks := s.rad.slots.map (·.1)
  let s2 := ks.foldl (fun s k => s.glcRound k) s
  let s3 := disagree.foldl (fun s k => s.gainDisagree k.val) s2
  (ks.foldl (fun s k => s.gntRound k) s3).trackFreeze

theorem State.round_eq (s : State) (disagree : List SlotId) (cuts : List ChannelCut) : s.round disagree cuts =
    ((s.roundEnded cuts).partRound.biasRound.hardwareRound.runRoundOps.gainRound disagree).releaseAnswers.releaseHeld := by
  unfold State.round State.roundEnded State.gainRound
  rfl

theorem State.roundEnded_keepsPlans (s : State) (cuts : List ChannelCut) : s.toBoundary.KeepsPlans (s.roundEnded cuts) := by
  refine State.KeepsPlans.trans ?_ (State.releaseFades_keepsPlans _)
  refine State.KeepsPlans.trans ?_ (State.foldRounds_keepsPlans _)
  exact (s.toBoundary.carryCuts_keepsPlans cuts).trans (State.laneRound_keepsPlans _)

theorem State.gainRound_keepsPlans (s : State) (disagree : List SlotId) : s.KeepsPlans (s.gainRound disagree) := by
  refine State.KeepsPlans.trans ?_ (State.trackFreeze_keepsPlans _)
  refine State.KeepsPlans.trans ?_ (State.keepsPlans_foldl State.gntRound_keepsPlans _ _)
  exact (State.keepsPlans_foldl State.glcRound_keepsPlans _ s).trans
    (State.keepsPlans_foldl (fun u (k : SlotId) => u.gainDisagree_keepsPlans k.val) _ _)

/-- From where tables, grants and bias are in force to the end of the boundary's work. -/
theorem State.round_calm (s : State) (disagree : List SlotId) (cuts : List ChannelCut) :
    (s.roundEnded cuts).partRound.biasRound.Calm (s.round disagree cuts) := by
  rw [State.round_eq]
  refine State.Calm.trans ?_ (State.releaseHeld_calm _)
  refine State.Calm.trans ?_ (State.releaseAnswers_calm _)
  refine State.Calm.trans ?_ (State.gainRound_keepsPlans _ _).toCalm
  exact (State.hardwareRound_keepsPlans _).toCalm.trans (State.runRoundOps_calm _)

/-- Swaps and grants in force in a partition (R136, R147, R389). -/
def Part.inForce (x : Part) : Part := { x with tabs := x.tabs.swap, effEng := x.grants.eng, effCan := x.grants.can }

/-- What swaps and grants in force show of a record `x` that lasts from them on, itself lasting from `z`. -/
theorem Part.inForce_shows {x y z : Part} (kept : x.lasting = y.inForce.lasting) (ended : y.lasting = z.lasting) :
    x.tabs.gPend = 0 ∧ x.tabs.fPend = 0 ∧ x.effEng = z.grants.eng ∧ x.effCan = z.grants.can := by
  have tabs : x.tabs = y.tabs.swap := congrArg Part.tabs kept
  have eng : x.effEng = y.grants.eng := congrArg Part.effEng kept
  have can : x.effCan = y.grants.can := congrArg Part.effCan kept
  have grants : y.lasting.grants = z.lasting.grants := congrArg Part.grants ended
  change y.grants = z.grants at grants
  rw [tabs, eng, can, grants]
  exact ⟨rfl, rfl, rfl, rfl⟩

/-- Tables, grants and bias come into force (R136, R147, R389, R451). -/
theorem State.partRound_biasRound (s : State) : s.partRound.biasRound =
    { s with parts := s.partRound.biasRound.parts, ports := s.partRound.biasRound.ports } := rfl

theorem State.part_partRound (s : State) (p : PartId) : s.partRound.biasRound.parts[p] = s.parts[p].inForce := by
  simp [State.biasRound, State.partRound, Part.inForce]

theorem State.bias_biasRound (s : State) (p : PortId) : s.partRound.biasRound.ports[p].bias = s.ms.band := by
  rw [State.biasRound, State.port_mapPorts]
  rfl

theorem State.round_ed {s : State} (h : s.pwr.mode ≠ .off) (disagree : List SlotId) (cuts : List ChannelCut) :
    (s.round disagree cuts).clk.ed = s.clk.ed + (1152 - (s.clk.ed - s.clk.origin) % 1152) := by
  rw [(s.round_calm disagree cuts).clk, State.partRound_biasRound, (s.roundEnded_keepsPlans cuts).clk, State.toBoundary_ed h]

/-- Table swaps and grants are in force at the end (R136, R147, R389). -/
theorem State.round_parts (s : State) (disagree : List SlotId) (cuts : List ChannelCut) (p : PartId) :
    (s.round disagree cuts).parts[p].tabs.gPend = 0 ∧ (s.round disagree cuts).parts[p].tabs.fPend = 0 ∧
      (s.round disagree cuts).parts[p].effEng = s.parts[p].grants.eng ∧
      (s.round disagree cuts).parts[p].effCan = s.parts[p].grants.can := by
  have kept := (s.round_calm disagree cuts).part p
  have ended := (s.roundEnded_keepsPlans cuts).part p
  rw [State.part_partRound] at kept
  rw [← s.toBoundary_grants p]
  exact Part.inForce_shows kept ended

theorem State.round_bias (s : State) (disagree : List SlotId) (cuts : List ChannelCut) (p : PortId) :
    (s.round disagree cuts).ports[p].bias = s.ms.band := by
  obtain ⟨ms, -, -⟩ := s.toBoundary_others
  rw [(s.round_calm disagree cuts).bias, State.bias_biasRound, (s.roundEnded_keepsPlans cuts).band, ms]

/-! A commit at the boundary (R103, R110). -/

theorem Slot.takeCommit_planned (x : Slot) (r : CommitReq) (cover : Option Nat) :
    (x.takeCommit r cover).planned = (r.set, true, x.phase, none) := rfl

theorem Slot.startSamples_planned (x : Slot) (first : Bool) (n : Nat) : (x.startSamples first n).planned = x.planned := by
  unfold Slot.startSamples
  split <;> rfl

theorem State.placeOffsets_planned (s : State) (x : Slot) : (s.placeOffsets x).planned = x.planned := rfl

/-- A commit of a channel that its partition still owns puts the settings it asks for in force. -/
theorem State.effectCommit_planned {s : State} {k : Nat} {r : CommitReq} (owned : (s.slot k).phase = .owned)
    (asks : (s.slot k).req = some r) : ((s.effectCommit k).slot k).planned = (r.set, true, .owned, none) := by
  unfold State.effectCommit
  simp only [asks, owned, true_or, if_true]
  rw [(State.memberCheck_keepsPlans _ k).plan k]
  refine (congrArg Slot.planned (State.slot_setSlot _ k _)).trans ?_
  rw [State.placeOffsets_planned, Slot.startSamples_planned, Slot.takeCommit_planned, owned]

theorem State.runRoundOps_commit {s : State} {k : Nat} (h : s.rad.roundQ = [.commit k]) :
    s.runRoundOps = ({ s with rad := { s.rad with roundQ := [] } } : State).effectCommit k := by
  simp only [State.runRoundOps, h, List.foldl_cons, List.foldl_nil, State.runRoundOp]

theorem State.leaveLane_eq (s : State) (k : Nat) (c : Settings) :
    s.leaveLane k c = { s with fab := (s.leaveLane k c).fab, links := (s.leaveLane k c).links } := by
  unfold State.leaveLane State.leaveAtHead
  dsimp only
  split
  · split
    · split <;> split <;> rfl
    · split <;> rfl
  · rfl

/-- A commit neither holds an instruction nor an answer of the head. -/
theorem State.effectCommit_holds (s : State) (k : Nat) :
    (s.effectCommit k).cpu.heldQ = s.cpu.heldQ ∧ (s.rad.laneAns = [] → (s.effectCommit k).rad.laneAns = []) := by
  unfold State.effectCommit
  dsimp only
  split
  · exact ⟨rfl, id⟩
  · split
    · refine ⟨(State.memberCheck_keepsPlans _ k).held.trans ?_, fun h => (State.memberCheck_keepsPlans _ k).answers ?_⟩
      · split
        · rw [State.leaveLane_eq]
          rfl
        · rfl
      · split
        · rw [State.leaveLane_eq]
          exact h
        · exact h
    · exact ⟨rfl, id⟩

theorem State.releaseAnswers_of_none {s : State} (h : s.rad.laneAns = []) : s.releaseAnswers = s := by
  unfold State.releaseAnswers
  split
  · rfl
  · rw [h, List.foldl_nil, ← h]

theorem State.releaseHeld_of_none {s : State} (h : s.cpu.heldQ = []) : s.releaseHeld = s := by
  unfold State.releaseHeld State.runHeld
  split
  · rfl
  · rw [h, List.foldl_nil, ← h]

/-- The commit that waits takes effect, and no later work of the boundary changes what it has put in force. -/
theorem State.boundary_commits {s : State} {n : Nat} {r : CommitReq} (held : s.cpu.heldQ = []) (unanswered : s.rad.laneAns = [])
    (queue : s.rad.roundQ = [.commit n]) (owned : (s.slot n).planned.2.2 = (.owned, some r)) (disagree : List SlotId) :
    (((s.partRound.biasRound.hardwareRound.runRoundOps.gainRound disagree).releaseAnswers.releaseHeld).slot n).planned =
      (r.set, true, .owned, none) := by
  have hardware := s.partRound.biasRound.hardwareRound_keepsPlans
  generalize s.partRound.biasRound.hardwareRound = h at hardware ⊢
  replace owned : (h.slot n).planned.2.2 = (.owned, some r) := (congrArg (fun x => x.2.2) (hardware.plan n)).trans owned
  rw [State.runRoundOps_commit (hardware.roundQ.trans queue)]
  obtain ⟨heldQ, answers⟩ := State.effectCommit_holds { h with rad := { h.rad with roundQ := [] } } n
  have taken := State.effectCommit_planned (s := { h with rad := { h.rad with roundQ := [] } }) (k := n) (congrArg Prod.fst owned)
    (congrArg Prod.snd owned)
  generalize State.effectCommit _ n = c at heldQ answers taken ⊢
  have gain := c.gainRound_keepsPlans disagree
  rw [State.releaseAnswers_of_none (gain.answers (answers (hardware.answers unanswered))),
    State.releaseHeld_of_none (gain.held.trans (heldQ.trans (hardware.held.trans held))), gain.plan n, taken]

theorem State.round_commits (s : State) (disagree : List SlotId) (cuts : List ChannelCut) (n : Nat) (r : CommitReq)
    (held : s.cpu.heldQ = []) (unanswered : s.rad.laneAns = []) (queue : s.rad.roundQ = [.commit n])
    (owned : (s.slot n).phase = .owned) (asks : (s.slot n).req = some r) :
    ((s.round disagree cuts).slot n).set = r.set ∧ ((s.round disagree cuts).slot n).committed = true ∧
      ((s.round disagree cuts).slot n).req = none := by
  obtain ⟨-, rad, cpu⟩ := s.toBoundary_others
  have ended := s.roundEnded_keepsPlans cuts
  have planned : ((s.roundEnded cuts).slot n).planned.2.2 = (.owned, some r) := by
    rw [ended.plan n, State.slot_of_rad rad, ← owned, ← asks]
    rfl
  rw [← cpu] at held
  rw [← rad] at unanswered queue
  have commits := State.boundary_commits (ended.held.trans held)
    (ended.answers unanswered) (ended.roundQ.trans queue) planned disagree
  rw [← State.round_eq] at commits
  generalize (s.round disagree cuts).slot n = x at commits ⊢
  simp only [Slot.planned, Prod.mk.injEq] at commits
  obtain ⟨set, committed, -, req⟩ := commits
  exact ⟨set, committed, req⟩

/-- The boundary lies on the grid of rounds (R83). -/
theorem State.round_grid {s : State} (h : s.pwr.mode ≠ .off) (origin : s.clk.origin ≤ s.clk.ed) (disagree : List SlotId)
    (cuts : List ChannelCut) : ((s.round disagree cuts).clk.ed - s.clk.origin) % 1152 = 0 := by
  rw [State.round_ed h]
  omega

theorem roundBoundaryEffects : RoundBoundaryEffects := by
  intro s seen run
  have on : s.pwr.mode ≠ .off := by
    simp only [State.roundsRun, Bool.and_eq_true, decide_eq_true_eq] at run
    exact run.1.2
  have ed := State.round_ed on seen.disagree seen.cuts
  have grid := fun origin => State.round_grid on origin seen.disagree seen.cuts
  have parts := s.round_parts seen.disagree seen.cuts
  have bias := s.round_bias seen.disagree seen.cuts
  have commits := s.round_commits seen.disagree seen.cuts
  refine State.gives_of_whenDo (show _ = execEngineRoundBoundary seen s from rfl) run ?_
  -- The state at the boundary's end is named, so that comparing the parts does not compute it.
  generalize s.round seen.disagree seen.cuts = u at ed grid parts bias commits ⊢
  exact ⟨ed, grid, parts, bias, commits⟩

/-- Settles O30: the work before the boundary's instructions keeps clock, grants and commits, the tables, grants and bias come into
force, the waiting commit takes effect, and what follows changes none of these; the ends of settling, fades and ramps change their
slot. -/
theorem roundBoundaryAndFilterEnds : Obligations.RoundBoundaryAndFilterEnds := ⟨roundBoundaryEffects, filterAndRampEnds⟩

end Sys2Proof.Machine

namespace Sys2Proof.Machine

/-! Instructions on a channel's handle (R281): the state that they act on is that of their issue, counters aside. -/

/-- `s` with other performance counters and sampled copies (R482, R487). -/
def State.counted (s : State) (x : List (Nat × BitVec 48)) (y : List (Nat × (Nat × Nat))) : State :=
  { s with obs := { s.obs with counters := x, sampled := y } }

section

variable (s : State) (x : List (Nat × BitVec 48)) (y : List (Nat × (Nat × Nat)))

@[simp] theorem State.counted_slot : (s.counted x y).slot = s.slot := rfl

@[simp] theorem State.counted_chan : (s.counted x y).chan = s.chan := rfl

@[simp] theorem State.counted_covered : (s.counted x y).covered = s.covered := rfl

@[simp] theorem State.counted_fenceSevere : (s.counted x y).fenceSevere = s.fenceSevere := rfl

theorem State.count_counted (c : Nat) : ∃ x y, s.count c = s.counted x y := ⟨_, s.obs.sampled, s.count_eq c⟩

end

/-! What holds of the end of an instruction's work on every such state holds of what the instruction answers. -/

theorem onEngine_counted {s : State} {t : TaskId} {k : Task} {c : Nat} (h : s.runs t k c) {kind : Byte} {f : Task → State → State}
    {P : State → Prop} (hf : ∀ x y, P (f k (s.counted x y))) : ∃ u, onEngine t kind s f = .next u ∧ P u := by
  obtain ⟨x, y, counts⟩ := s.issued_counts k c
  refine ⟨_, onEngine_issued h kind f, ?_⟩
  rw [counts]
  exact hf x y

section

variable {s : State} {t : TaskId} {k : Task} {c n : Nat} {ga : Reg}

theorem onChannel_counted (h : s.onChan t k c ga n) {gd : Reg} {f : Task → Nat → State → State} {P : State → Prop}
    (hf : ∀ x y, P (f k n (s.counted x y))) : ∃ u, onChannel t gd ga s f = .next u ∧ P u := by
  obtain ⟨hrun, -, hchan⟩ := h
  refine onEngine_counted hrun fun x y => ?_
  simp only [State.counted_chan, hchan]
  exact hf x y

theorem onChannelHeld_counted (h : s.onChan t k c ga n) (hw : s.inWatch = false) {gd : Reg} {i : Instr}
    {f : Task → Nat → State → State} {P : State → Prop} (hf : ∀ x y, P (f k n (s.counted x y))) :
    ∃ u, onChannelHeld t gd ga i s f = .next u ∧ P u := by
  obtain ⟨x, y, counts⟩ := s.issued_counts k c
  refine ⟨_, onChannelHeld_onChan h hw gd i f, ?_⟩
  rw [counts]
  exact hf x y

/-! How the instruction of task `t` ends in a state that differs from `v` in counters alone. -/

variable {v : State} (task : v.task? t = some k) (hn : v.nextOk k) (x : List (Nat × BitVec 48)) (y : List (Nat × (Nat × Nat)))

include task hn

theorem State.finish_counted (gd : Reg) (a : Word) : v.becomes ((v.counted x y).finish t gd a) t (k.step gd a) :=
  State.finish_becomes (s := v.counted x y) task hn gd a

theorem State.finish2_counted (gd gb : Reg) (a b : Word) :
    v.becomes ((v.counted x y).finish2 t gd gb a b) t (k.step2 gd gb a b) :=
  State.finish2_becomes (s := v.counted x y) task hn gd gb a b

theorem State.refuse_counted (gd : Reg) (code : Word) : v.becomes ((v.counted x y).refuse t gd code) t (k.step gd code) := by
  rw [State.refuse_eq (s := v.counted x y) task hn gd code]
  rfl

end

/-! O15: ch.set, ch.get and ch.meas (R107, R336 to R338, R343). -/

/-- The values that task `t` has pending for the channel (R338). -/
def Slot.staged (x : Slot) (t : Nat) : List (Nat × Int) :=
  match x.pend with
  | some p => if p.task = t then p.vals else []
  | none => []

theorem Slot.staged_own {x : Slot} {q : PendSet} {t : Nat} (h : x.pend = some q) (ht : q.task = t) : x.staged t = q.vals := by
  simp only [Slot.staged, h, ht, if_true]

section

variable {s : State} {t : TaskId} {k : Task} {c n : Nat} {ga : Reg}

/-- ch.set of a setting that replaces the field by `v`, outside a fade. -/
theorem execChSet_stages (h : s.onChan t k c ga n) (still : (s.slot n).fade = none) {gb : Reg} {e : BitVec 6} {v : Int}
    (defined : settingDefined e.toNat = true) (replaced : replaceValue e.toNat (k.get gb).toNat = some v) (gd : Reg) :
    ∃ u, exec (.chSet t gd ga gb e) s = .next u ∧
      (s.setSlot n { s.slot n with
        pend := some { task := t, vals := putPend ((s.slot n).staged t) e.toNat v } }).becomes u t (k.step gd 1) := by
  refine onChannel_counted h fun x y => ?_
  rw [if_neg (by simp [defined]), if_neg (by simp [still]), replaced]
  exact State.finish_counted (v := s.setSlot n _) h.1.1 h.2.1 x y gd 1

/-- ch.get of a setting that exists. -/
theorem execChGet_reads (h : s.onChan t k c ga n) {e : BitVec 6} (he : e ≠ 0x3F) (defined : settingDefined e.toNat = true)
    (gd gb : Reg) : ∃ u, exec (.chGet t gd ga gb e) s = .next u ∧
      s.becomes u t (k.step2 gd gb 1 ((s.slot n).set.read e.toNat)) := by
  obtain ⟨hrun, hn, hchan⟩ := h
  refine onEngine_counted hrun fun x y => ?_
  simp only [State.counted_chan, hchan, he, defined, if_false, if_true]
  exact State.finish2_counted hrun.1 hn x y gd gb 1 _

theorem execChGet_code (h : s.onChan t k c ga n) (gd gb : Reg) : ∃ u, exec (.chGet t gd ga gb 0x3F) s = .next u ∧
    s.becomes u t (k.step2 gd gb 1 (BitVec.ofNat 64 (s.slot n).code)) := by
  obtain ⟨hrun, hn, hchan⟩ := h
  refine onEngine_counted hrun fun x y => ?_
  simp only [State.counted_chan, hchan, if_true]
  exact State.finish2_counted hrun.1 hn x y gd gb 1 _

theorem execChMeas_item (h : s.onChan t k c ga n) (gd gb : Reg) : ∃ u, exec (.chMeas t gd ga gb) s = .next u ∧
    s.becomes u t (k.step2 gd gb 1 ((BitVec.ofInt 32 (s.measItem n ((k.get gb).toNat % 256))).signExtend 64)) := by
  obtain ⟨hrun, hn, hchan⟩ := h
  refine onEngine_counted hrun fun x y => ?_
  have field : fieldN (k.get gb).toNat 7 0 = (k.get gb).toNat % 256 := by simp [fieldN]
  simp only [State.counted_chan, hchan, field]
  exact State.finish2_counted hrun.1 hn x y gd gb 1 _

end

/-- The settings with numeric limits (R336): the setting, the width of its field in gb, and its limits. -/
def numericSettings : List (BitVec 6 × Nat × Nat × Nat) :=
  [ (0x06, 17, 16, 65536), (0x08, 5, 10, 20), (0x10, 16, 0, 950), (0x11, 16, 0, 950), (0x14, 16, 80, 400), (0x15, 16, 0, 950),
    (0x16, 16, 0, 950), (0x28, 16, 30, 120), (0x29, 16, 10, 100), (0x2A, 16, 30, 300), (0x2B, 16, 1, 10000), (0x2C, 16, 1, 600),
    (0x2D, 16, 10, 60000), (0x31, 12, 1, 4000), (0x32, 22, 0, 3932160), (0x34, 16, 30, 200), (0x35, 13, 16, 4096) ]

theorem limit_eq_max_min {lo hi : Nat} (h : lo ≤ hi) (x : Nat) : limit x lo hi = ((max lo (min hi x) : Nat) : Int) := by
  unfold limit clampNat
  omega

/-- A setting with numeric limits exists, and its field is replaced by the nearest limit (R336, R337). -/
theorem replaceValue_numeric {e : BitVec 6 × Nat × Nat × Nat} (he : e ∈ numericSettings) (w : Nat) :
    settingDefined e.1.toNat = true ∧
      replaceValue e.1.toNat w = some ((max e.2.2.1 (min e.2.2.2 (w % 2 ^ e.2.1)) : Nat) : Int) := by
  have row : e.2.2.1 ≤ e.2.2.2 ∧ settingDefined e.1.toNat = true ∧
      replaceValue e.1.toNat w = some (limit (w % 2 ^ e.2.1) e.2.2.1 e.2.2.2) := by
    simp only [numericSettings, List.mem_cons, List.not_mem_nil, or_false] at he
    rcases he with rfl | rfl | rfl | rfl | rfl | rfl | rfl | rfl | rfl | rfl | rfl | rfl | rfl | rfl | rfl | rfl | rfl <;>
      exact ⟨by decide, rfl, rfl⟩
  obtain ⟨ordered, defined, replaced⟩ := row
  exact ⟨defined, replaced.trans (congrArg some (limit_eq_max_min ordered _))⟩

theorem chSetHoldsValueInLimits : ChSetHoldsValueInLimits := by
  intro s t k c gd ga gb n h still e he
  obtain ⟨defined, replaced⟩ := replaceValue_numeric he (k.get gb).toNat
  obtain ⟨u, hu, becomes⟩ := execChSet_stages h still defined replaced gd
  exact ⟨u, _, _, hu, becomes, rfl, rfl, fun q hq ht => by rw [Slot.staged_own hq ht]⟩

theorem chGetAndMeasResults : ChGetAndMeasResults := by
  intro s t k c gd ga gb n h
  refine ⟨execChGet_code h gd gb, ?_, ?_⟩
  · simp only [List.forall_mem_cons]
    exact ⟨execChGet_reads h (by decide) rfl gd gb, execChGet_reads h (by decide) rfl gd gb,
      execChGet_reads h (by decide) rfl gd gb, execChGet_reads h (by decide) rfl gd gb, by simp⟩
  · have item : ∀ (i : Nat) (v : Int), s.measItem n i = v → (k.get gb).toNat % 256 = i →
        ∃ u, exec (.chMeas t gd ga gb) s = .next u ∧ s.becomes u t (k.step2 gd gb 1 ((BitVec.ofInt 32 v).signExtend 64)) := by
      rintro i v rfl rfl
      exact execChMeas_item h gd gb
    simp only [List.forall_mem_cons]
    exact ⟨item _ _ rfl, item _ _ rfl, item _ _ rfl, by simp⟩

/-- Settles O15: the row of each numeric setting gives what is staged, and a read answers with what the slot holds. -/
theorem settingsWrittenAndRead : Obligations.SettingsWrittenAndRead := ⟨chSetHoldsValueInLimits, chGetAndMeasResults⟩

end Sys2Proof.Machine

namespace Sys2Proof.Machine

/-! O18: ch.mute, ch.unmute and ch.arm (R110, R173, R341). -/

theorem Slot.fenced_of_code {x : Slot} (h : x.code = 7) : x.guard.fenced = true := by
  unfold Slot.code at h
  split at h
  · cases h
  · cases h
  · by_contra hf
    rw [if_neg hf] at h
    split_ifs at h <;> cases h

/-- The channel in slot `n` with a re-arm by `who` that waits for the round boundary (R173). -/
def State.rearming (s : State) (n : Nat) (who : HeldArm) : State :=
  (s.mapSlot n fun x => { x with guard := { x.guard with arm := who } }).queueRound (.rearm n)

/-- A re-arm is asked for once HOLD has passed, and none is asked for already (R173). -/
theorem State.askArm_queues {s : State} {n : Nat} (hw : s.inWatch = false) (idle : (s.slot n).guard.arm = .none)
    (passed : s.holdPassed n = true) (who : HeldArm) : s.askArm n who = s.rearming n who := by
  simp [State.askArm, State.rearming, idle, passed, hw]

section

variable {s : State} {t : TaskId} {k : Task} {c n : Nat} {ga : Reg} (h : s.onChan t k c ga n)

include h

theorem execChMute_queues (gd : Reg) : ∃ u, exec (.chMute t gd ga) s = .next u ∧
    (s.queueRound (.mute n)).becomes u t (k.step gd 1) :=
  onChannel_counted h fun x y => State.finish_counted (v := s.queueRound _) h.1.1 h.2.1 x y gd 1

theorem execChUnmute_queues (hd : s.dozing = false) (gd : Reg) : ∃ u, exec (.chUnmute t gd ga) s = .next u ∧
    (s.queueRound (.unmute n)).becomes u t (k.step gd 1) := by
  refine onChannel_counted h fun x y => ?_
  have awake : (s.counted x y).wakePower = s.counted x y := State.wakePower_awake hd
  rw [awake, ite_self]
  exact State.finish_counted (v := s.queueRound _) h.1.1 h.2.1 x y gd 1

theorem execChArm_idle (unfenced : (s.slot n).code ≠ 7) (gd : Reg) : ∃ u, exec (.chArm t gd ga) s = .next u ∧
    s.becomes u t (k.step gd 1) := by
  refine onChannel_counted h fun x y => ?_
  rw [State.counted_slot, if_pos unfenced]
  exact State.finish_counted h.1.1 h.2.1 x y gd 1

theorem execChArm_severe (fenced : (s.slot n).code = 7) (severe : s.fenceSevere n = true) (gd : Reg) :
    ∃ u, exec (.chArm t gd ga) s = .next u ∧ s.becomes u t (k.step gd 6) := by
  refine onChannel_counted h fun x y => ?_
  rw [State.counted_slot, if_neg (not_not.mpr fenced), State.counted_fenceSevere, if_pos severe]
  exact State.refuse_counted h.1.1 h.2.1 x y gd 6

theorem execChArm_arms (hw : s.inWatch = false) (hd : s.dozing = false) (fenced : (s.slot n).code = 7)
    (mild : s.fenceSevere n = false) (covered : s.covered (s.slot n).set = true) (idle : (s.slot n).guard.arm = .none)
    (passed : s.holdPassed n = true) (gd : Reg) : ∃ u, exec (.chArm t gd ga) s = .next u ∧
      (s.rearming n .tenant).becomes u t (k.step gd 1) := by
  refine onChannel_counted h fun x y => ?_
  have arms := State.askArm_queues (s := s.counted x y) hw idle passed .tenant
  have awake : ((s.counted x y).rearming n .tenant).wakePower = _ := State.wakePower_awake hd
  rw [State.counted_slot, if_neg (not_not.mpr fenced), State.counted_fenceSevere, if_neg (by simp [mild]),
    State.counted_covered, if_neg (by simp [covered]), arms, awake]
  exact State.finish_counted (v := s.rearming n .tenant) h.1.1 h.2.1 x y gd 1

end

/-- Settles O18: each operation is the last that waits for the boundary, and a re-arm leaves the fence in force till then. -/
theorem muteUnmuteArmQueue : Obligations.MuteUnmuteArmQueue := by
  intro s t k c gd ga n h hw hd
  dsimp only
  refine ⟨execChMute_queues h gd, execChUnmute_queues h hd gd, fun unfenced => execChArm_idle h unfenced gd,
    fun fenced severe => execChArm_severe h fenced severe gd, fun fenced mild covered idle past => ?_⟩
  have passed : s.holdPassed n = true := by
    have waited : (s.slot n).guard.lastFence + edMs (s.slot n).set.guard.hold ≤ s.clk.ed := past
    simp only [State.holdPassed, decide_eq_true waited]
  obtain ⟨u, hu, becomes⟩ := execChArm_arms h hw hd fenced mild covered idle passed gd
  have rad := State.becomes_rad becomes
  have slot := (State.slot_of_rad rad n).trans (s.slot_mapSlot n fun x => { x with guard := { x.guard with arm := .tenant } })
  refine ⟨u, hu, State.task?_becomes becomes, by rw [rad]; rfl, by rw [slot], ?_⟩
  rw [slot]
  exact Slot.fenced_of_code fenced

end Sys2Proof.Machine

namespace Sys2Proof.Machine

/-! Tasks that wait and go on (R277 to R279, R353, R394, R395): what placement leaves of each task and of the requests for the head. -/

/-! What packets and stores leave alone: the tasks, and the requests that wait for the head. -/

/-- `u` has the tasks of `s`, and what `s` asks the head for. -/
structure State.KeepsTasks (s u : State) : Prop where
  cpu : u.cpu = s.cpu
  asks : u.fab.asks = s.fab.asks

theorem State.keepsTasks_refl (s : State) : s.KeepsTasks s := ⟨rfl, rfl⟩

theorem State.KeepsTasks.trans {s u v : State} (h1 : s.KeepsTasks u) (h2 : u.KeepsTasks v) : s.KeepsTasks v :=
  ⟨h2.cpu.trans h1.cpu, h2.asks.trans h1.asks⟩

/-- The same, the second change first. -/
theorem State.KeepsTasks.after {s u v : State} (h2 : u.KeepsTasks v) (h1 : s.KeepsTasks u) : s.KeepsTasks v := h1.trans h2

theorem State.keepsTasks_foldl {α : Type} {f : State → α → State} (hf : ∀ (s : State) (a : α), s.KeepsTasks (f s a)) (l : List α)
    (s : State) : s.KeepsTasks (l.foldl f s) := by
  induction l generalizing s with
  | nil => exact s.keepsTasks_refl
  | cons a l ih => exact (hf s a).trans (ih (f s a))

theorem State.countBy_keepsTasks (s : State) (c n : Nat) : s.KeepsTasks (s.countBy c n) := ⟨s.countBy_cpu c n, by rw [State.countBy_fab]⟩

theorem State.mapLink_keepsTasks (s : State) (l : LinkId) (f : Link → Link) : s.KeepsTasks (s.mapLink l f) := ⟨rfl, rfl⟩

theorem State.enqueue_keepsTasks (s : State) (p : TxPacket) : s.KeepsTasks (s.enqueue p) := by
  unfold State.enqueue
  split
  · exact s.countBy_keepsTasks _ _
  · exact ⟨rfl, rfl⟩

theorem State.queuePri_keepsTasks (s : State) (p : TxPacket) : s.KeepsTasks (s.queuePri p) := by
  simp only [State.queuePri]
  split
  · exact s.enqueue_keepsTasks p
  · split
    · exact (s.enqueue_keepsTasks p).trans (State.mapLink_keepsTasks _ _ _)
    · split
      · exact (s.enqueue_keepsTasks _).trans (State.countBy_keepsTasks _ _ _)
      · refine State.KeepsTasks.trans ?_ (State.countBy_keepsTasks _ _ _)
        exact (s.enqueue_keepsTasks _).trans ⟨rfl, rfl⟩

theorem State.queueOn_keepsTasks (s : State) (p : TxPacket) : s.KeepsTasks (s.queueOn p) := by
  unfold State.queueOn
  split
  · exact (s.mapLink_keepsTasks _ _).trans (State.queuePri_keepsTasks _ p)
  · exact s.queuePri_keepsTasks p

theorem State.deadEnd_keepsTasks (s : State) (dst : NodeId) (cells : Nat) (first : Bool) :
    s.KeepsTasks (s.deadEnd dst cells first) := by
  unfold State.deadEnd
  split_ifs
  · exact s.keepsTasks_refl
  · exact s.countBy_keepsTasks _ _
  · exact s.keepsTasks_refl
  · exact s.countBy_keepsTasks _ _
  · exact s.keepsTasks_refl

theorem State.sendPacket_keepsTasks (s : State) (dst : NodeId) (pri : BitVec 3) (typ : BitVec 4) (part : PartId) (body : PktBody) :
    s.KeepsTasks (s.sendPacket dst pri typ part body) := by
  unfold State.sendPacket State.sendOnPorts
  split_ifs
  · exact s.keepsTasks_refl
  · exact s.deadEnd_keepsTasks _ _ _
  · exact State.KeepsTasks.after (State.keepsTasks_foldl (fun u _ => u.queueOn_keepsTasks _) _ _) ⟨rfl, rfl⟩

theorem State.askDiscard_keepsTasks (s : State) (key : Nat) : s.KeepsTasks (s.askDiscard key) := by
  unfold State.askDiscard
  split
  · exact s.keepsTasks_refl
  · split
    · exact s.keepsTasks_refl
    · exact State.KeepsTasks.after (State.keepsTasks_foldl (fun u _ => u.sendPacket_keepsTasks _ _ _ _ _) _ _) ⟨rfl, rfl⟩

theorem State.askDiscardAt_keepsTasks (s : State) (part : PartId) (va n : Nat) : s.KeepsTasks (s.askDiscardAt part va n) := by
  unfold State.askDiscardAt
  extract_lets key first
  have asked : s.KeepsTasks first := by
    unfold first
    split
    · exact s.askDiscard_keepsTasks _
    · exact s.keepsTasks_refl
  split
  · exact asked
  · split
    · exact asked.trans (State.askDiscard_keepsTasks _ _)
    · exact asked

theorem State.touch_keepsTasks (s : State) (part : PartId) (va : Nat) : s.KeepsTasks (s.touch part va) := by
  unfold State.touch
  split
  · exact s.keepsTasks_refl
  · exact State.KeepsTasks.after (State.countBy_keepsTasks _ _ _) ⟨rfl, rfl⟩

theorem State.storeBytes_keepsTasks (s : State) (part : PartId) (va : Nat) (bs : List Byte) :
    s.KeepsTasks (s.storeBytes part va bs) :=
  State.KeepsTasks.after (State.keepsTasks_foldl (fun u _ => u.touch_keepsTasks _ _) _ _) ⟨rfl, rfl⟩

theorem drainList_keepsTasks (part : PartId) (l : List StoreEntry) (n : Nat) (held : List StoreEntry) (s : State) :
    s.KeepsTasks (drainList part n held l s).1 := by
  induction l generalizing s n held with
  | nil => exact s.keepsTasks_refl
  | cons e l ih =>
    unfold drainList
    split_ifs
    · exact ih _ _ s
    · exact (s.askDiscardAt_keepsTasks _ _ _).trans (ih _ _ _)
    · exact (s.storeBytes_keepsTasks _ _ _).trans (ih _ _ _)

/-! HSC places tasks on contexts (R278, R394, R395): what becomes of one task's record. -/

theorem State.drain_eq {s : State} {t : Nat} {k : Task} (h : s.task? t = some k) :
    ∃ v sq, s.KeepsTasks v ∧ s.drain t = v.setTask t { k with sq := sq } := by
  refine ⟨_, (drainList k.part k.sq.length [] k.sq s).2, drainList_keepsTasks k.part k.sq k.sq.length [] s, ?_⟩
  simp only [State.drain, State.drainSome, h]

theorem State.task?_of_cpu {s u : State} (h : u.cpu = s.cpu) (t : Nat) : u.task? t = s.task? t := by simp only [State.task?, h]

/-- HSC has placed task `t` in `u`, or left it: its record is that of its context, and its stores may have drained. Other tasks and
what waits for the head stay. -/
structure State.Places (s : State) (t : Nat) (u : State) : Prop where
  other : ∀ i, i ≠ t → u.task? i = s.task? i
  own : ∀ k, s.task? t = some k → ∃ k', u.task? t = some k' ∧ k'.regs = k.regs ∧ k'.pc = k.pc ∧
    (k'.st = k.st ∨ ∃ c, k'.st = .running c)
  asks : u.fab.asks = s.fab.asks

/-- One task's record is replaced, after packets and stores. -/
theorem State.KeepsTasks.places {s v u : State} {t : Nat} {k k' : Task} (h : s.KeepsTasks v) (found : s.task? t = some k)
    (tasks : u.cpu.tasks = tblPut t k' v.cpu.tasks) (asks : u.fab.asks = v.fab.asks) (regs : k'.regs = k.regs) (pc : k'.pc = k.pc)
    (st : k'.st = k.st ∨ ∃ c, k'.st = .running c) : s.Places t u where
  other i hi := by simp only [State.task?, tasks, tblFind_tblPut_ne hi, h.cpu]
  own k1 h1 := by
    obtain rfl : k = k1 := Option.some.inj (found.symm.trans h1)
    exact ⟨k', by simp only [State.task?, tasks, tblFind_tblPut_same], regs, pc, st⟩
  asks := asks.trans h.asks

theorem State.placeOn_places (s : State) (t c : Nat) : s.Places t (s.placeOn t c) := by
  unfold State.placeOn
  split
  · exact ⟨fun _ _ => rfl, fun k h => ⟨k, h, rfl, rfl, .inl rfl⟩, rfl⟩
  · rename_i k found
    split
    · exact s.keepsTasks_refl.places found rfl rfl rfl rfl (.inr ⟨c, rfl⟩)
    · obtain ⟨v, sq, kept, drained⟩ := State.drain_eq found
      simp only [drained, State.task?_setTask]
      split
      · refine kept.places found (k' := { k with sq := sq, st := .running c, placedAt := s.clk.ed, lastCtx := some c }) ?_ ?_ rfl rfl
          (.inr ⟨c, rfl⟩)
        · simp
        · simp
      · exact kept.places found rfl rfl rfl rfl (.inl rfl)

theorem placeList_asks (l : List Nat) (s : State) : (placeList l s).fab.asks = s.fab.asks := by
  induction l generalizing s with
  | nil => rfl
  | cons t l ih =>
    unfold placeList
    split
    · split
      · exact (ih _).trans (s.placeOn_places _ _).asks
      · exact ih s
    · exact ih _

theorem State.place_asks (s : State) : s.place.fab.asks = s.fab.asks := by
  unfold State.place
  split
  · exact placeList_asks _ s
  · rfl

/-- A task that is not READY is not placed. -/
theorem placeList_task? {l : List Nat} {t : Nat} (h : t ∉ l) (s : State) : (placeList l s).task? t = s.task? t := by
  induction l generalizing s with
  | nil => rfl
  | cons j l ih =>
    obtain ⟨other, rest⟩ := List.ne_and_not_mem_of_not_mem_cons h
    unfold placeList
    split
    · split
      · exact (ih rest _).trans ((s.placeOn_places _ _).other t other)
      · exact ih rest s
    · exact ih rest _

theorem State.place_task? {s : State} {t : Nat} (h : t ∉ s.cpu.ready) : s.place.task? t = s.task? t := by
  unfold State.place
  split
  · exact placeList_task? h s
  · rfl

/-! A task that waits (R277, R279). -/

theorem State.makeWait_eq {s : State} {t : Nat} {k : Task} (h : s.task? t = some k) (w : Wait) :
    s.makeWait t w = (s.setTask t { k with st := .waiting w }).place := by
  simp only [State.makeWait, h]

theorem State.makeWait_task? {s : State} {t : Nat} {k : Task} (h : s.task? t = some k) (idle : t ∉ s.cpu.ready) (w : Wait) :
    (s.makeWait t w).task? t = some { k with st := .waiting w } := by
  rw [State.makeWait_eq h, State.place_task? (by exact idle), State.task?_setTask]

@[simp] theorem State.makeWait_rad (s : State) (t : Nat) (w : Wait) : (s.makeWait t w).rad = s.rad := by
  unfold State.makeWait
  split <;> simp

theorem State.makeWait_asks (s : State) (t : Nat) (w : Wait) : (s.makeWait t w).fab.asks = s.fab.asks := by
  unfold State.makeWait
  split
  · rfl
  · rw [State.place_asks]
    rfl

/-! A task whose wait ends (R353, R395). -/

/-- Task `t` is READY or placed on a context, with the registers and the program counter of `k`. -/
def State.resumes (u : State) (t : Nat) (k : Task) : Prop :=
  ∃ k', u.task? t = some k' ∧ k'.regs = k.regs ∧ k'.pc = k.pc ∧ (k'.st = .ready ∨ ∃ c, k'.st = .running c)

theorem State.resumes_step2 (u : State) (t : Nat) (k : Task) (gd gb : Reg) (v w : Word) :
    u.resumes t (k.step2 gd gb v w) ↔ u.woken t k gd gb v w := Iff.rfl

theorem State.resumes.placed {s u : State} {t j : Nat} {k : Task} (h : s.resumes t k) (placed : s.Places j u) : u.resumes t k := by
  obtain ⟨k', found, regs, pc, st⟩ := h
  by_cases hj : t = j
  · subst hj
    obtain ⟨k'', found', regs', pc', st'⟩ := placed.own k' found
    refine ⟨k'', found', regs'.trans regs, pc'.trans pc, ?_⟩
    rcases st' with st' | running
    · rwa [st']
    · exact .inr running
  · exact ⟨k', (placed.other t hj).trans found, regs, pc, st⟩

theorem placeList_resumes {t : Nat} {k : Task} (l : List Nat) {s : State} (h : s.resumes t k) : (placeList l s).resumes t k := by
  induction l generalizing s with
  | nil => exact h
  | cons j l ih =>
    unfold placeList
    split
    · split
      · exact ih (h.placed (s.placeOn_places _ _))
      · exact ih h
    · exact ih h

theorem State.place_resumes {s : State} {t : Nat} {k : Task} (h : s.resumes t k) : s.place.resumes t k := by
  unfold State.place
  split
  · exact placeList_resumes _ h
  · exact h

theorem State.makeReady_resumes {s : State} {t : Nat} {k : Task} (h : s.task? t = some k) : (s.makeReady t).resumes t k := by
  simp only [State.makeReady, h]
  exact State.place_resumes ⟨{ k with st := .ready }, tblFind_tblPut_same t _ s.cpu.tasks, rfl, rfl, .inl rfl⟩

/-- Only a task that is DONE has joins to be served (R352). -/
theorem State.resumes.serveJoins {s : State} {t : Nat} {k : Task} (h : s.resumes t k) (fuel : Nat) : s.serveJoins t fuel = s := by
  obtain ⟨k', found, -, -, st⟩ := h
  cases fuel with
  | zero => rfl
  | succ fuel =>
    unfold State.serveJoins
    rcases st with st | ⟨c, st⟩ <;> simp only [found, st]

theorem State.goto0_eq {s : State} {t : Nat} {k : Task} (h : s.task? t = some k) {target : Word}
    (hf : s.fetchClean k.part target) : s.goto0 t target = s.setTask t { k with pc := target } := by
  rw [← State.goto_eq h hf]
  simp only [State.goto, State.goto0, h, hf.1, if_true]

/-- The wait of task `t` ends, and its next instruction may be fetched. -/
theorem State.wakeRaw_resumes {s : State} {t : Nat} {k : Task} {w : Wait} (h : s.task? t = some k) (waits : k.st = .waiting w)
    (hn : s.nextOk k) (gd gb : Reg) (a b : Word) : (s.wakeRaw t gd gb a b).resumes t (k.step2 gd gb a b) := by
  have regs : (s.putReg t gd a).putReg t gb b = s.setTask t ((k.put gd a).put gb b) := by
    rw [State.putReg_eq h, State.putReg_eq (State.task?_setTask s t _), State.setTask_setTask]
  have fetch : (s.setTask t ((k.put gd a).put gb b)).goto0 t (k.pc + 4) = s.setTask t (k.step2 gd gb a b) := by
    rw [State.goto0_eq (State.task?_setTask s t _) (by simpa [State.nextOk] using hn), State.setTask_setTask]
    rfl
  have st : (k.step2 gd gb a b).st = .waiting w := by simp [Task.step2, waits]
  simp only [State.wakeRaw, h, regs, fetch, State.task?_setTask, st]
  exact State.makeReady_resumes (State.task?_setTask s t _)

/-- A task that waited completes with a code and a second result. -/
theorem State.wake2_woken {s : State} {t : Nat} {k : Task} {w : Wait} (h : s.task? t = some k) (waits : k.st = .waiting w)
    (hn : s.nextOk k) (gd gb : Reg) (a b : Word) : (s.wake2 t gd gb a b).woken t k gd gb a b := by
  have done : s.countDone t = s.countInstr k := by simp only [State.countDone, h]
  have raw : ((s.countInstr k).wakeRaw t gd gb a b).resumes t (k.step2 gd gb a b) :=
    State.wakeRaw_resumes (by rw [State.task?_countInstr]; exact h) waits (by rw [State.nextOk, State.fetchClean_countInstr]; exact hn)
      gd gb a b
  rw [State.wake2, done, State.wakeWith, State.afterEnd, raw.serveJoins, ← State.resumes_step2]
  exact State.place_resumes raw

theorem State.wake2_onlyWakes (s : State) (t : Nat) (gd gb : Reg) (a b : Word) : s.OnlyWakes (s.wake2 t gd gb a b) :=
  State.OnlyWakes.trans (State.onlyWakes_of_rad (s.countDone_lasts t) (s.countDone_rad t)) (State.wakeWith_onlyWakes _ _ _ _ _ _)

end Sys2Proof.Machine

namespace Sys2Proof.Machine

/-! O19: ch.free, ch.alloc and their ends (R111, R281, R339). -/

/-- The record of a slot from ch.free until it is FREE (R111). -/
def Slot.freed (x : Slot) : Slot :=
  { x with phase := .freeing, gen := x.gen + 1, owner := 0, pend := none, zero := x.silentNow,
           guard := { x.guard with arm := .none }, fbc := Fbc.initial }

/-- ch.free changes the slot, the ports' bursts, and what the fabric holds of the channel's lane. -/
theorem State.freeChannel_eq (s : State) (n : Nat) : ∃ fab links,
    s.freeChannel n = ((({ s with fab := fab, links := links } : State).mapSlot n Slot.freed).dropBursts n) := by
  unfold State.freeChannel
  dsimp only
  split
  · refine ⟨(s.leaveLane n (s.slot n).set).fab, (s.leaveLane n (s.slot n).set).links, ?_⟩
    rw [← State.leaveLane_eq]
    rfl
  · exact ⟨s.fab, s.links, rfl⟩

theorem State.freeChannel_slot (s : State) (n : Nat) :
    (s.freeChannel n).slot n = (s.slot n).freed ∧ ∀ m, m ≠ n → (s.freeChannel n).slot m = s.slot m := by
  obtain ⟨fab, links, freed⟩ := s.freeChannel_eq n
  rw [freed]
  exact ⟨State.slot_mapSlot _ n Slot.freed, fun m hm => State.slot_mapSlot_ne _ hm Slot.freed⟩

theorem State.freeChannel_probeQ (s : State) (n : Nat) (p : PortId) : n ∉ (s.freeChannel n).ports[p].probeQ := by
  obtain ⟨fab, links, freed⟩ := s.freeChannel_eq n
  rw [freed, State.dropBursts, State.port_mapPorts]
  simp

theorem State.freeChannel_others (s : State) (n : Nat) : (s.freeChannel n).cpu = s.cpu ∧ (s.freeChannel n).ms = s.ms := by
  obtain ⟨fab, links, freed⟩ := s.freeChannel_eq n
  rw [freed]
  exact ⟨rfl, rfl⟩

theorem State.chan_eq_some {s : State} {p : PartId} {a : Word} {n : Nat} (h : s.chan p a = some n) : fieldN a.toNat 7 0 = n := by
  unfold State.chan at h
  dsimp only at h
  split at h
  · exact Option.some.inj h
  · cases h

/-- A handle names no slot that is not owned (R281). -/
theorem State.chan_eq_none {s : State} {p : PartId} {a : Word} (h : (s.slot (fieldN a.toNat 7 0)).phase ≠ .owned) :
    s.chan p a = none := by
  simp [State.chan, h]

theorem chFreeInvalidatesHandle : ChFreeInvalidatesHandle := by
  intro s t k c gd ga n h hw
  refine onChannelHeld_counted h hw fun x y => ?_
  obtain ⟨hrun, hn, hchan⟩ := h
  obtain ⟨cpu, ms⟩ := (s.counted x y).freeChannel_others n
  obtain ⟨own, other⟩ := (s.counted x y).freeChannel_slot n
  have becomes := State.finish_becomes_of_runs hrun hn cpu ms gd 1
  have slot := State.slot_of_rad (State.becomes_rad becomes)
  have ports := (((s.counted x y).freeChannel n).finish_keeps t gd 1).ports
  rw [State.counted_slot] at own other
  have freeing : ((((s.counted x y).freeChannel n).finish t gd 1).slot n) = (s.slot n).freed := (slot n).trans own
  refine ⟨State.task?_becomes becomes, by rw [freeing]; rfl, by rw [freeing]; rfl, State.chan_eq_none ?_, fun p => ?_,
    fun m hm => (slot m).trans (other m hm)⟩
  · rw [State.chan_eq_some hchan, freeing]
    exact fun e => nomatch e
  · rw [ports]
    exact (s.counted x y).freeChannel_probeQ n p

/-! ch.alloc reserves a slot. -/

/-- The slot `n` reserved for partition `p` until the round boundary (R339). -/
def State.reserve (s : State) (n : Nat) (p : PartId) : State :=
  s.setSlot n { (s.slot n).emptied with phase := .reserved, owner := p }

theorem execChAlloc_reserves {s : State} {t : TaskId} {k : Task} {c n : Nat} {ga : Reg} (h : s.runs t k c) (hw : s.inWatch = false)
    (quota : s.countSlots (fun x => x.ownedBy k.part) < s.share k.part 192 (fun p => p.grants.chq))
    (pick : s.pickSlot ((k.get ga).toNat % 256) = some n) (gd gb : Reg) : ∃ u, exec (.chAlloc t gd ga gb) s = .next u ∧
      ∃ x y, u = ((s.counted x y).reserve n k.part).makeWait t (.alloc gd gb n) := by
  refine onEngine_counted h fun x y => ⟨x, y, ?_⟩
  have field : fieldN (k.get ga).toNat 7 0 = (k.get ga).toNat % 256 := by simp [fieldN]
  have room : ¬ (s.counted x y).countSlots (fun x => x.ownedBy k.part) ≥ (s.counted x y).share k.part 192 (fun p => p.grants.chq) :=
    Nat.not_le.mpr quota
  have free : (s.counted x y).pickSlot ((k.get ga).toNat % 256) = some n := pick
  have watch : ¬ (s.counted x y).inWatch = true := Bool.eq_false_iff.mp hw
  rw [if_neg watch, if_neg room, field, free]
  rfl

/-! At the boundary the waiting ch.alloc completes. -/

/-- The one task that waits for slot `n` is the one that takes it. -/
theorem allocWaiter_unique {l : List (Nat × Task)} {n t : Nat} {k : Task} {gd gb : Reg} (found : tblFind t l = some k)
    (waits : k.st = .waiting (.alloc gd gb n)) (unique : ∀ x ∈ l, ∀ gd' gb', x.2.st = .waiting (.alloc gd' gb' n) → x.1 = t) :
    allocWaiter n l = some (t, gd, gb) := by
  induction l with
  | nil => cases found
  | cons x l ih =>
    obtain ⟨j, k'⟩ := x
    by_cases hj : j = t
    · obtain rfl : k' = k := by simpa [tblFind, hj] using found
      simp [allocWaiter, waits, hj]
    · have rest := ih (by simpa [tblFind, hj] using found) fun x hx => unique x (List.mem_cons_of_mem _ hx)
      unfold allocWaiter
      split
      · rename_i gd' gb' c st
        rw [if_neg fun e => hj (unique (j, k') List.mem_cons_self gd' gb' (by rw [← e]; exact st))]
        exact rest
      · exact rest

/-- The reserved slot `n` is its partition's (R108, R339). -/
def State.allot (s : State) (n : Nat) : State := s.mapSlot n fun x => { x with phase := .owned }

theorem execChAllocReturn_wakes {s : State} {n : SlotId} {t : Nat} {gd gb : Reg} (reserved : (s.slot n).phase = .reserved)
    (boundary : s.atBoundary = true) (waiter : allocWaiter n s.cpu.tasks = some (t, gd, gb)) :
    exec (.chAllocReturn n) s = .next ((s.allot n).wake2 t gd gb 1 ((s.allot n).handleOf n)) := by
  show execChAllocReturn n s = _
  simp only [execChAllocReturn, whenDo, reserved, boundary, decide_true, Bool.and_self, if_true, State.mapSlot_cpu, waiter]
  rfl

theorem State.handleOf_allot (s : State) (n : Nat) : (s.allot n).handleOf n =
    BitVec.ofNat 64 (n + (s.slot n).gen.toNat * 2 ^ 8 + (s.slot n).owner.val * 2 ^ 16) := by
  simp only [State.handleOf, State.allot, State.slot_mapSlot]

/-- A freed slot is FREE at a boundary (R111). -/
theorem execChFreeRelease_frees {s : State} {n : SlotId} (freeing : (s.slot n).phase = .freeing) (zero : (s.slot n).zero = true)
    (idle : (s.slot n).req = none) (boundary : s.atBoundary = true) : ∃ u, exec (.chFreeRelease n) s = .next u ∧
      u.rad.slots = tblPut n { Slot.initial with gen := (s.slot n).gen } s.rad.slots := by
  refine ⟨_, (congrArg Host.Outcome.next (if_pos ?_) : whenDo _ _ _ = _), rfl⟩
  simp [freeing, zero, idle, boundary]

theorem slotAllocationAndRelease : SlotAllocationAndRelease := by
  refine ⟨fun s t k c gd ga gb n hrun idle hw quota pick => ?_, fun s n t k gd gb reserved found waits hn boundary unique => ?_,
    fun s n freeing zero req boundary => ?_⟩
  · obtain ⟨u, hu, x, y, rfl⟩ := execChAlloc_reserves hrun hw quota pick gd gb
    have slot : (((s.counted x y).reserve n k.part).makeWait t (.alloc gd gb n)).slot n =
        { (s.slot n).emptied with phase := .reserved, owner := k.part } :=
      (State.slot_of_rad (State.makeWait_rad _ t _) n).trans (State.slot_setSlot _ n _)
    refine ⟨_, hu, State.makeWait_task? (s := (s.counted x y).reserve n k.part) hrun.1 idle _, ?_⟩
    rw [slot]
    exact ⟨rfl, rfl, rfl, rfl, rfl⟩
  · have waiter := allocWaiter_unique found waits unique
    refine ⟨_, execChAllocReturn_wakes reserved boundary waiter, ?_, ?_⟩
    · have kept := congrArg Slot.phase ((State.wake2_onlyWakes (s.allot n) t gd gb 1 ((s.allot n).handleOf n)).slot n)
      refine (kept : _ = ((s.allot n).slot n).phase).trans ?_
      rw [State.allot, State.slot_mapSlot]
    · rw [State.handleOf_allot]
      exact State.wake2_woken (s := s.allot n) found waits hn gd gb 1 _
  · obtain ⟨u, hu, slots⟩ := execChFreeRelease_frees freeing zero req boundary
    have slot : ∀ m, u.slot m = (s.setSlot n { Slot.initial with gen := (s.slot n).gen }).slot m := fun m => by
      simp only [State.slot, slots, State.setSlot]
    have own := (slot n).trans (State.slot_setSlot s n _)
    exact ⟨u, hu, own, by rw [own]; rfl, fun m hm => (slot m).trans (State.slot_setSlot_ne s hm _)⟩

/-- Settles O19: a freed slot is owned by nobody, so that no handle names it; the one task that waits for a reserved slot takes its
handle, and what wakes it leaves the slot; a release empties its slot alone. -/
theorem slotLifecycle : Obligations.SlotLifecycle := ⟨chFreeInvalidatesHandle, slotAllocationAndRelease⟩

end Sys2Proof.Machine

namespace Sys2Proof.Machine

/-! O17: ch.commit (R103, R207, R225, R338, R340). -/

/-- The request that a commit of task `t` makes of the channel in slot `n`, with the profile of its lane where it is a member of one
(R225, R338). -/
def State.commitRequest (s : State) (t n : Nat) (fade : Bool) : CommitReq := (s.slot n).laneProfile ((s.slot n).request t fade)

/-- The request is a new lane member's, which is covered and charged for the anchor's profile (R225). -/
def State.asksLane (s : State) (n : Nat) (r : CommitReq) : Bool := r.set.member && (s.slot n).needsLane r

/-- The charter covers what a request asks for before the head is asked (R184, R185). -/
def State.mayCover (s : State) (n : Nat) (r : CommitReq) : Bool := if s.asksLane n r then s.coverable r.set else s.covered r.set

theorem State.mayCover_asking {s : State} {n : Nat} {r : CommitReq} (h : s.asksLane n r = true) :
    s.mayCover n r = s.coverable r.set := if_pos h

theorem State.mayCover_own {s : State} {n : Nat} {r : CommitReq} (h : s.asksLane n r = false) :
    s.mayCover n r = s.covered r.set := if_neg (Bool.eq_false_iff.mp h)

@[simp] theorem State.commitRequest_task (s : State) (t n : Nat) (fade : Bool) : (s.commitRequest t n fade).task = t := by
  unfold State.commitRequest Slot.laneProfile
  split <;> rfl

/-! The code of a commit before the head is asked, in the order of R340. -/

theorem State.commitCode_fading {s : State} {n : Nat} (h : (s.slot n).fade.isSome = true) (r : CommitReq) : s.commitCode n r = 5 := by
  rw [State.commitCode, if_pos h]

theorem State.commitCode_uncovered {s : State} {n : Nat} (still : (s.slot n).fade = none) {r : CommitReq}
    (h : s.covered r.set = false) : s.commitCode n r = 4 := by
  rw [State.commitCode, if_neg (by simp [still]), if_pos (by simp [h])]

theorem State.commitCode_unfit {s : State} {n : Nat} (still : (s.slot n).fade = none) {r : CommitReq}
    (covered : s.covered r.set = true) (h : s.cfeFits n r = false ∨ s.canFits n r = false) : s.commitCode n r = 3 := by
  rw [State.commitCode, if_neg (by simp [still]), if_neg (by simp [covered]), if_pos (by simpa using h)]

theorem State.commitCode_ok {s : State} {n : Nat} (still : (s.slot n).fade = none) {r : CommitReq}
    (covered : s.covered r.set = true) (cfe : s.cfeFits n r = true) (can : s.canFits n r = true) : s.commitCode n r = 1 := by
  rw [State.commitCode, if_neg (by simp [still]), if_neg (by simp [covered]), if_neg (by simp [cfe, can])]

theorem State.codeBefore_asking {s : State} {n : Nat} {r : CommitReq} (h : s.asksLane n r = true) :
    s.codeBefore n r = if (s.slot n).fade.isSome then 5 else if s.coverable r.set then 1 else 4 := if_pos h

theorem State.codeBefore_own {s : State} {n : Nat} {r : CommitReq} (h : s.asksLane n r = false) :
    s.codeBefore n r = s.commitCode n r := if_neg (Bool.eq_false_iff.mp h)

theorem State.codeBefore_fading {s : State} {n : Nat} (h : (s.slot n).fade.isSome = true) (r : CommitReq) : s.codeBefore n r = 5 := by
  cases asks : s.asksLane n r
  · rw [State.codeBefore_own asks, State.commitCode_fading h]
  · rw [State.codeBefore_asking asks, if_pos h]

theorem State.codeBefore_uncovered {s : State} {n : Nat} (still : (s.slot n).fade = none) {r : CommitReq}
    (h : s.mayCover n r = false) : s.codeBefore n r = 4 := by
  cases asks : s.asksLane n r
  · rw [State.codeBefore_own asks, State.commitCode_uncovered still (State.mayCover_own asks ▸ h)]
  · rw [State.codeBefore_asking asks, ← State.mayCover_asking asks, if_neg (by simp [still]), if_neg (Bool.eq_false_iff.mp h)]

theorem State.codeBefore_ok {s : State} {n : Nat} (still : (s.slot n).fade = none) {r : CommitReq}
    (may : s.mayCover n r = true) (h : s.asksLane n r = true ∨ s.commitCode n r = 1) : s.codeBefore n r = 1 := by
  cases asks : s.asksLane n r
  · rw [State.codeBefore_own asks]
    exact h.resolve_left (Bool.eq_false_iff.mp asks)
  · rw [State.codeBefore_asking asks, ← State.mayCover_asking asks, if_neg (by simp [still]), if_pos may]

/-! A commit's four ends (R207, R340). -/

/-- The head is told of an anchor's new CEIL and LDEL (R226, R234). -/
def State.tellHead (s : State) (n : Nat) (r : CommitReq) : State :=
  { s with fab := { s.fab with asks := s.fab.asks ++ if (s.slot n).tellsHead r then [s.laneRequest n r.set false] else [] } }

section

variable {s : State} {t : TaskId} {n : Nat} {fade : Bool}

theorem commitOn_refuses {code : Word} (h : s.codeBefore n (s.commitRequest t n fade) = code) (bad : code ≠ 1) (gd : Reg) :
    commitOn t gd fade n s = (s.commitRefused n (s.commitRequest t n fade) code).refuse t gd code := by
  subst h
  exact if_pos bad

variable (ok : s.codeBefore n (s.commitRequest t n fade) = 1)

include ok

theorem commitOn_headless (needs : (s.slot n).needsLane (s.commitRequest t n fade) = true) (headless : s.fab.headless = true)
    (still : s.fab.elect = false) (gd : Reg) : commitOn t gd fade n s = (s.count 197).refuse t gd 3 := by
  refine (if_neg (not_not.mpr ok)).trans ((if_pos needs).trans (if_pos ⟨headless, still⟩))

theorem commitOn_asks (needs : (s.slot n).needsLane (s.commitRequest t n fade) = true)
    (head : s.fab.headless = false ∨ s.fab.elect = true) (gd : Reg) : commitOn t gd fade n s =
      (s.askHead (s.laneRequest n (s.commitRequest t n fade).set false)).makeWait t (.commit gd n fade s.newDeadline) := by
  refine (if_neg (not_not.mpr ok)).trans ((if_pos needs).trans (if_neg ?_))
  rintro ⟨headless, still⟩
  rcases head with led | electing
  · exact Bool.false_ne_true (led.symm.trans headless)
  · exact Bool.false_ne_true (still.symm.trans electing)

theorem commitOn_admits (own : (s.slot n).needsLane (s.commitRequest t n fade) = false) (gd : Reg) : commitOn t gd fade n s =
    ((s.tellHead n (s.commitRequest t n fade)).commitAdmit t n (s.commitRequest t n fade)).finish t gd 1 := by
  have told : (if (s.slot n).tellsHead (s.commitRequest t n fade) = true
      then s.askHead (s.laneRequest n (s.commitRequest t n fade).set false) else s) = s.tellHead n (s.commitRequest t n fade) := by
    unfold State.tellHead
    split
    · rfl
    · rw [List.append_nil]
  refine (if_neg (not_not.mpr ok)).trans ((if_neg (Bool.eq_false_iff.mp own)).trans ?_)
  exact congrArg (fun v => (State.commitAdmit v t n (s.commitRequest t n fade)).finish t gd 1) told

end

/-- A refused commit's flags and counts: no slot, no waiting operation and nothing of the plan. -/
theorem State.commitRefused_leaves (s : State) (n : Nat) (r : CommitReq) (code : Word) :
    (s.commitRefused n r code).cpu = s.cpu ∧ (s.commitRefused n r code).ms = s.ms ∧
      (s.commitRefused n r code).rad.slots = s.rad.slots ∧ (s.commitRefused n r code).rad.roundQ = s.rad.roundQ ∧
      (s.commitRefused n r code).rad.plan = s.rad.plan := by
  unfold State.commitRefused
  split_ifs <;> simp

/-! The commit instructions outside WATCH and DOZE. -/

section

variable {s : State} {t : TaskId} {k : Task} {c n : Nat} {ga : Reg}

theorem commitInstr_counted (h : s.onChan t k c ga n) (hw : s.inWatch = false) (hd : s.dozing = false) {gd : Reg} {fade : Bool}
    {i : Instr} {P : State → Prop} (hf : ∀ x y, P (commitOn t gd fade n (s.counted x y))) :
    ∃ u, commitInstr t gd ga fade i s = .next u ∧ P u := by
  refine onChannelHeld_counted h hw fun x y => ?_
  have awake : (s.counted x y).dozing = false := hd
  rw [if_neg (by simp [awake])]
  exact hf x y

/-- What a refused commit leaves: its task's record with the code, and the channels as they were. -/
def State.refusesCommit (s u : State) (t : TaskId) (k : Task) : Prop :=
  u.task? t = some k ∧ u.rad.slots = s.rad.slots ∧ u.rad.roundQ = s.rad.roundQ ∧ u.rad.plan = s.rad.plan

theorem commitInstr_refuses (h : s.onChan t k c ga n) (hw : s.inWatch = false) (hd : s.dozing = false) {fade : Bool} {code : Word}
    (refused : s.codeBefore n (s.commitRequest t n fade) = code) (bad : code ≠ 1) (gd : Reg) (i : Instr) :
    ∃ u, commitInstr t gd ga fade i s = .next u ∧ s.refusesCommit u t (k.step gd code) := by
  refine commitInstr_counted h hw hd fun x y => ?_
  obtain ⟨cpu, ms, leaves⟩ := (s.counted x y).commitRefused_leaves n ((s.counted x y).commitRequest t n fade) code
  rw [commitOn_refuses (s := s.counted x y) refused bad, State.refuse_refuses h.1 h.2.1 cpu ms]
  exact ⟨State.task?_setTask _ _ _, leaves⟩

theorem commitInstr_headless (h : s.onChan t k c ga n) (hw : s.inWatch = false) (hd : s.dozing = false) {fade : Bool}
    (ok : s.codeBefore n (s.commitRequest t n fade) = 1) (needs : (s.slot n).needsLane (s.commitRequest t n fade) = true)
    (headless : s.fab.headless = true) (still : s.fab.elect = false) (gd : Reg) (i : Instr) :
    ∃ u, commitInstr t gd ga fade i s = .next u ∧ s.refusesCommit u t (k.step gd 3) := by
  refine commitInstr_counted h hw hd fun x y => ?_
  obtain ⟨x', y', counts⟩ := (s.counted x y).count_counted 197
  rw [commitOn_headless (s := s.counted x y) ok needs headless still, counts,
    State.refuse_refuses (u := (s.counted x y).counted x' y') h.1 h.2.1 rfl rfl]
  exact ⟨State.task?_setTask _ _ _, rfl, rfl, rfl⟩

/-- A commit that needs lane blocks waits for the head's answer (R207). -/
theorem commitInstr_asks (h : s.onChan t k c ga n) (hw : s.inWatch = false) (hd : s.dozing = false) {fade : Bool}
    (ok : s.codeBefore n (s.commitRequest t n fade) = 1) (needs : (s.slot n).needsLane (s.commitRequest t n fade) = true)
    (head : s.fab.headless = false ∨ s.fab.elect = true) (idle : t.val ∉ s.cpu.ready) (gd : Reg) (i : Instr) :
    ∃ u, commitInstr t gd ga fade i s = .next u ∧
      u.task? t = some { k with st := .waiting (.commit gd n fade s.newDeadline) } ∧ u.rad.slots = s.rad.slots ∧
      u.fab.asks = s.fab.asks ++ [s.laneRequest n (s.commitRequest t n fade).set false] := by
  refine commitInstr_counted h hw hd fun x y => ?_
  rw [commitOn_asks (s := s.counted x y) ok needs head]
  refine ⟨State.makeWait_task? ?_ ?_ _, ?_, ?_⟩
  · exact h.1.1
  · exact idle
  · rw [State.makeWait_rad]
    rfl
  · rw [State.makeWait_asks]
    rfl

end

/-- The commit instructions, each with whether it asks for a fade (R340). -/
def commitInstrs : List ((TaskId → Reg → Reg → Instr) × Bool) := [(.chCommitCut, false), (.chCommitFade, true)]

theorem exec_commit {e : (TaskId → Reg → Reg → Instr) × Bool} (he : e ∈ commitInstrs) (t : TaskId) (gd ga : Reg) (s : State) :
    exec (e.1 t gd ga) s = commitInstr t gd ga e.2 (e.1 t gd ga) s := by
  simp only [commitInstrs, List.mem_cons, List.not_mem_nil, or_false] at he
  rcases he with rfl | rfl <;> rfl

theorem commitRefusals : CommitRefusals := by
  intro s t k c gd ga n h hw hd e he
  have run := exec_commit he t gd ga s
  rw [run]
  intro x r asks may refused
  have refuses : ∀ code, s.codeBefore n r = code → code ≠ 1 → refused code := fun code h1 h2 =>
    commitInstr_refuses h hw hd h1 h2 gd _
  refine ⟨fun fading => refuses 5 (State.codeBefore_fading fading r) (by decide),
    fun still none => refuses 4 (State.codeBefore_uncovered still none) (by decide),
    fun still own covered unfit => refuses 3 ((State.codeBefore_own own).trans (State.commitCode_unfit still covered unfit)) (by decide),
    fun still needs may ok => ?_⟩
  have admits : s.codeBefore n r = 1 := State.codeBefore_ok still may ok
  exact ⟨fun headless quiet => commitInstr_headless h hw hd admits needs headless quiet gd _,
    fun head idle => commitInstr_asks h hw hd admits needs head idle gd _⟩

end Sys2Proof.Machine

namespace Sys2Proof.Machine

/-! An admitted commit (R103, R338, R345). -/

/-- A channel with the request `m` that waits for the round boundary; the pending set of task `t` is consumed (R103, R338). -/
def Slot.admitting (x : Slot) (t : Nat) (m : CommitReq) : Slot :=
  { x with pend := x.pend.filter fun p => decide (p.task ≠ t), req := some m, commits := x.commits + 1 }

/-- The channel in slot `n` has the request `m` waiting, which is the last of the round and in the committed plan (R103, R444). -/
def State.admits (s : State) (t n : Nat) (m : CommitReq) : State :=
  { s with rad := { s.rad with
      slots := tblPut n ((s.slot n).admitting t m) s.rad.slots
      roundQ := s.rad.roundQ ++ [RoundOp.commit n]
      plan := tblPut n m.set s.rad.plan } }

theorem State.commitAdmit_eq (s : State) (t n : Nat) (r : CommitReq) : s.commitAdmit t n r =
    (((s.admits t n ((s.slot n).settledFade (s.settleReq t n r))).knowCommit t n).useFree
      (if s.unordered t n then 1 else 0)).count 196 := by
  unfold State.commitAdmit
  extract_lets m drop s1 src s2
  have taken : s1 = s.setSlot n ((s.slot n).admitting t m) := by
    refine congrArg (s.setSlot n) ?_
    unfold drop
    generalize s.slot n = x
    rcases hp : x.pend with _ | p
    · simp only [Slot.admitting, hp, Option.filter_none]
    · by_cases ht : p.task = t <;> simp [Slot.admitting, hp, ht, Option.filter]
  have queued : s2 = s.admits t n m := by
    unfold s2 src
    rw [taken]
    rfl
  rw [queued]

/-! What a commit's code, order and request depend on. -/

theorem State.commitCode_congr {s u : State} (rad : u.rad = s.rad) (cht : u.cht = s.cht) (parts : u.parts = s.parts) :
    u.commitCode = s.commitCode := by
  cases u; cases s; cases rad; cases cht; cases parts
  rfl

theorem State.unordered_congr {s u : State} (rad : u.rad = s.rad) (cpu : u.cpu = s.cpu) : u.unordered = s.unordered := by
  cases u; cases s; cases rad; cases cpu
  rfl

theorem State.settleReq_congr {s u : State} (rad : u.rad = s.rad) (cht : u.cht = s.cht) (parts : u.parts = s.parts)
    (cpu : u.cpu = s.cpu) (free : u.free = s.free) : u.settleReq = s.settleReq := by
  cases u; cases s; cases rad; cases cht; cases parts; cases cpu; cases free
  rfl

/-- The state that an admitted commit of task `t` leaves, but for the end of its instruction; `m` is the request that waits. -/
def State.committing (s : State) (t n : Nat) (r m : CommitReq) : State :=
  (((s.tellHead n r).admits t n ((s.slot n).settledFade m)).knowCommit t n).useFree (if s.unordered t n then 1 else 0)

theorem State.commitAdmit_counted (s : State) (t n : Nat) (r : CommitReq) (x : List (Nat × BitVec 48)) (y : List (Nat × (Nat × Nat))) :
    ∃ x' y', ((s.counted x y).tellHead n r).commitAdmit t n r = (s.committing t n r (s.settleReq t n r)).counted x' y' := by
  have request : ((s.counted x y).tellHead n r).settleReq = s.settleReq := State.settleReq_congr rfl rfl rfl rfl rfl
  have ordered : ((s.counted x y).tellHead n r).unordered = s.unordered := State.unordered_congr rfl rfl
  rw [State.commitAdmit_eq, request, ordered]
  generalize s.settleReq t n r = m
  exact State.count_counted _ 196

theorem State.committing_others (s : State) (t n : Nat) (r m : CommitReq) :
    (s.committing t n r m).cpu.tasks = s.cpu.tasks ∧ (s.committing t n r m).ms = s.ms := ⟨rfl, rfl⟩

section

variable {s : State} {t : TaskId} {k : Task} {c n : Nat} {ga : Reg}

theorem commitInstr_admits (h : s.onChan t k c ga n) (hw : s.inWatch = false) (hd : s.dozing = false) {fade : Bool}
    (ok : s.codeBefore n (s.commitRequest t n fade) = 1) (own : (s.slot n).needsLane (s.commitRequest t n fade) = false) (gd : Reg)
    (i : Instr) : ∃ u, commitInstr t gd ga fade i s = .next u ∧
      (s.committing t n (s.commitRequest t n fade) (s.settleReq t n (s.commitRequest t n fade))).becomes u t (k.step gd 1) := by
  refine commitInstr_counted h hw hd fun x y => ?_
  obtain ⟨x', y', admitted⟩ := s.commitAdmit_counted t n (s.commitRequest t n fade) x y
  obtain ⟨tasks, ms⟩ := s.committing_others t n (s.commitRequest t n fade) (s.settleReq t n (s.commitRequest t n fade))
  rw [commitOn_admits (s := s.counted x y) ok own]
  refine (congrArg (fun v => State.becomes _ (State.finish v t gd 1) t _) admitted).mpr (State.finish_counted ?_ ?_ x' y' gd 1)
  · rw [State.task?, tasks]
    exact h.1.1
  · rw [State.nextOk, State.fetchClean_congr ms]
    exact h.2.1

end

end Sys2Proof.Machine

namespace Sys2Proof.Machine

/-! The request that waits passes the checks of R340 (case 2 of R301, R302). -/

theorem tblPut_map_congr {α β : Type} {f : Nat × α → β} (n : Nat) {a b : α} (h : f (n, a) = f (n, b)) (l : List (Nat × α)) :
    (tblPut n a l).map f = (tblPut n b l).map f := by
  induction l with
  | nil => simp [tblPut, h]
  | cons x l ih =>
    obtain ⟨j, c⟩ := x
    unfold tblPut
    split_ifs <;> simp [h, ih]

/-- A fade that is carried out as a cut is charged as one from its acceptance on (R104, R105). -/
theorem Slot.settledFade_fades (x : Slot) (r : CommitReq) :
    (x.fades (x.settledFade r) && x.mayFade) = (x.fades r && x.mayFade) := by
  unfold Slot.fades Slot.settledFade
  cases x.mayFade <;> simp

theorem Slot.settledFade_costNext (x : Slot) (r : CommitReq) :
    { x with req := some (x.settledFade r) }.costNext = { x with req := some r }.costNext :=
  if_congr (iff_of_eq (congrArg (· = true) (x.settledFade_fades r))) rfl rfl

theorem Slot.settledFade_canCostNext (x : Slot) (r : CommitReq) :
    { x with req := some (x.settledFade r) }.canCostNext = { x with req := some r }.canCostNext :=
  if_congr (iff_of_eq (congrArg (· = true) (x.settledFade_fades r))) rfl rfl

theorem State.sumSlots_settledFade (s : State) (n : Nat) (r : CommitReq) {f : Slot → Nat}
    (h : f { s.slot n with req := some ((s.slot n).settledFade r) } = f { s.slot n with req := some r }) :
    (s.mapSlot n fun x => { x with req := some ((s.slot n).settledFade r) }).sumSlots f =
      (s.mapSlot n fun x => { x with req := some r }).sumSlots f :=
  congrArg List.sum (tblPut_map_congr (f := fun x => f x.2) n h s.rad.slots)

theorem State.cfeFits_settledFade (s : State) (n : Nat) (r : CommitReq) :
    s.cfeFits n ((s.slot n).settledFade r) = s.cfeFits n r := by
  have cost := (s.slot n).settledFade_costNext r
  unfold State.cfeFits
  dsimp only
  rw [s.sumSlots_settledFade n r cost, s.sumSlots_settledFade n r
    (f := fun x => if x.ownedBy (s.slot n).owner then x.costNext else 0)
    (congrArg (fun a => if (s.slot n).ownedBy (s.slot n).owner then a else 0) cost)]

theorem State.canFits_settledFade (s : State) (n : Nat) (r : CommitReq) :
    s.canFits n ((s.slot n).settledFade r) = s.canFits n r := by
  have cost := (s.slot n).settledFade_canCostNext r
  unfold State.canFits
  dsimp only
  rw [s.sumSlots_settledFade n r cost, s.sumSlots_settledFade n r
    (f := fun x => if x.ownedBy (s.slot n).owner then x.canCostNext else 0)
    (congrArg (fun a => if (s.slot n).ownedBy (s.slot n).owner then a else 0) cost)]

theorem State.commitCode_settledFade (s : State) (n : Nat) (r : CommitReq) :
    s.commitCode n ((s.slot n).settledFade r) = s.commitCode n r := by
  unfold State.commitCode
  rw [s.cfeFits_settledFade n r, s.canFits_settledFade n r]
  rfl

theorem State.settleReq_ordered {s : State} {t n : Nat} (h : s.unordered t n = false) (r : CommitReq) : s.settleReq t n r = r := by
  simp [State.settleReq, h]

/-- What waits in place of an admitted request is admitted too, and is of the same task. -/
theorem State.settleReq_passes {s : State} {n : Nat} {r : CommitReq} (h : s.commitCode n r = 1) (t : Nat) :
    s.commitCode n (s.settleReq t n r) = 1 ∧ (s.settleReq t n r).task = r.task := by
  unfold State.settleReq
  extract_lets old m
  split
  · rename_i mixed
    simp only [Bool.and_eq_true, decide_eq_true_eq] at mixed
    obtain ⟨⟨-, passes⟩, -⟩ := mixed
    exact ⟨passes, rfl⟩
  · exact ⟨h, rfl⟩

/-! The obligation. -/

/-- What `u` leaves is `s` with what tasks know in `u`, where the state before the instruction's end is `s` but for that (R345). -/
theorem State.becomes_knowing {s w u : State} {t : Nat} {k : Task} (h : w.becomes u t k) (same : s.knowing w = w) :
    (s.knowing u).becomes u t k := by
  have know : u.cpu.know = w.cpu.know := by
    unfold State.becomes at h
    rw [h]
  rw [← same] at h
  unfold State.knowing at h ⊢
  rwa [know]

theorem State.committing_ordered {s : State} {t n : Nat} (h : s.unordered t n = false) (r : CommitReq) :
    ((s.tellHead n r).admits t n ((s.slot n).settledFade r)).knowing (s.committing t n r (s.settleReq t n r)) =
      s.committing t n r (s.settleReq t n r) := by
  rw [State.settleReq_ordered h, State.committing, h]
  rfl

theorem State.committing_slot (s : State) (t n : Nat) (r m : CommitReq) :
    (s.committing t n r m).slot n = (s.slot n).admitting t ((s.slot n).settledFade m) ∧
      ∀ i, i ≠ n → (s.committing t n r m).slot i = s.slot i := by
  have slots : ∀ i, (s.committing t n r m).slot i = (s.setSlot n ((s.slot n).admitting t ((s.slot n).settledFade m))).slot i :=
    fun _ => rfl
  exact ⟨(slots n).trans (s.slot_setSlot n _), fun i hi => (slots i).trans (s.slot_setSlot_ne hi _)⟩

theorem commitAdmitted : CommitAdmitted := by
  intro s t k c gd ga n h hw hd e he
  have run := exec_commit he t gd ga s
  intro x r still covered cfe can own
  have code : s.commitCode n r = 1 := State.commitCode_ok still covered cfe can
  have asks : s.asksLane n r = false := (congrArg (r.set.member && ·) own).trans (Bool.and_false _)
  obtain ⟨u, hu, becomes⟩ := commitInstr_admits h hw hd ((State.codeBefore_own asks).trans code) own gd (e.1 t gd ga)
  refine ⟨fun ordered => ⟨u, x.pend.filter fun p => decide (p.task ≠ t), run.trans hu,
      State.becomes_knowing becomes (State.committing_ordered ordered r), ?_, ?_⟩,
    fun _ => ⟨u, x.settledFade (s.settleReq t n r), run.trans hu, State.task?_becomes becomes, ?_⟩⟩
  · intro p hp
    simpa [Option.filter_eq_some_iff] using hp
  · intro p hp other
    simp [hp, other]
  · obtain ⟨passes, task⟩ := State.settleReq_passes code t
    obtain ⟨own', others⟩ := s.committing_slot t n r (s.settleReq t n r)
    have rad := State.becomes_rad becomes
    have slot := (State.slot_of_rad rad n).trans own'
    refine ⟨by rw [slot]; rfl, (s.commitCode_settledFade n _).trans passes, task.trans (s.commitRequest_task t n e.2), by rw [slot]; rfl,
      by rw [rad]; rfl, fun i hi => (State.slot_of_rad rad i).trans (others i hi)⟩

/-- Settles O17: the code before the head is asked decides between refusal, the head and admission, and what an admitted commit leaves
waiting passes the same checks. -/
theorem commitAdmission : Obligations.CommitAdmission := ⟨commitAdmitted, commitRefusals⟩

end Sys2Proof.Machine

namespace Sys2Proof.Machine

/-! O31: the gain of a control sample (R119 to R133). -/

/-- What a control sample settles of a channel: its settings, the count of saturated words, and the state of GLC. -/
def Slot.gained (x : Slot) : Settings × Nat × Glc := (x.set, x.sats, x.glc)

/-! The evaluation of the gain (R124 to R127). -/

theorem Slot.ctl_le_gmax (x : Slot) (lev brim perm : Level) : x.ctl lev brim perm ≤ tenths x.set.gain.gmax :=
  (min_le_right _ _).trans (min_le_right _ _)

theorem Slot.ctl_le_perm (x : Slot) (lev brim perm : Level) : x.ctl lev brim perm ≤ perm :=
  (min_le_right _ _).trans (min_le_left _ _)

/-- The gain that an evaluation applies is g_ctl less the trims, rounded down, and no such gain below 0 dB is applied. -/
theorem Slot.evaluate_applied {x : Slot} {valid : Bool} {perm g : Level} (h : (x.evaluate valid perm).glc.applied = some g) :
    0 ≤ g ∧ g = floorTenth ((x.evaluate valid perm).glc.ctl - trimStep * (x.guard.trimSteps : Int)) := by
  unfold Slot.evaluate at h
  extract_lets c gmin t lev0 brim0 ends lev brim ctl opens applied at h
  have opened : opens = true ∧ floorTenth (ctl - t) = g := by simpa [applied] using h
  obtain ⟨isOpen, rfl⟩ := opened
  refine ⟨?_, rfl⟩
  simp only [opens, Bool.and_eq_true, decide_eq_true_eq] at isOpen
  exact isOpen.1.2

theorem floorTenth_whole (g : Level) : floorTenth g % 128 = 0 := Int.mul_emod_left _ _

theorem floorTenth_le (g : Level) : floorTenth g ≤ g := Int.ediv_mul_le g (by decide)

theorem trims_nonneg (g : Guard) : 0 ≤ trimStep * (g.trimSteps : Int) := Int.mul_nonneg (by decide) (Int.natCast_nonneg _)

theorem Slot.evaluate_ctl (x : Slot) (valid : Bool) (perm : Level) :
    (x.evaluate valid perm).glc.ctl ≤ tenths x.set.gain.gmax ∧
      (x.evaluate valid perm).glc.ctl ≤ (x.evaluate valid perm).glc.gPerm := ⟨x.ctl_le_gmax _ _ _, x.ctl_le_perm _ _ _⟩

theorem Slot.evaluate_bounds {x : Slot} {valid : Bool} {perm g : Level} (h : (x.evaluate valid perm).glc.applied = some g) :
    0 ≤ g ∧ g % 128 = 0 ∧ g ≤ 128 * x.set.gain.gmax ∧ g ≤ (x.evaluate valid perm).glc.gPerm := by
  obtain ⟨nonneg, rfl⟩ := Slot.evaluate_applied h
  obtain ⟨gmax, ceiling⟩ := x.evaluate_ctl valid perm
  have below := (floorTenth_le _).trans (sub_le_self (x.evaluate valid perm).glc.ctl (trims_nonneg x.guard))
  exact ⟨nonneg, floorTenth_whole _, below.trans gmax, below.trans ceiling⟩

/-! What follows the gain at the boundary leaves it: flags and events, counts, OVR's trim or fence, and the freezes of models. -/

theorem State.OnlyTrunks.gained {s u : State} (h : s.OnlyTrunks u) (n : Nat) : (u.slot n).gained = (s.slot n).gained := by
  have e := congrArg Slot.gained (h.slot n)
  exact e

theorem State.mapSlot_gained (s : State) (k n : Nat) {f : Slot → Slot} (h : ∀ x, (f x).gained = x.gained) :
    ((s.mapSlot k f).slot n).gained = (s.slot n).gained := State.slot_setSlot_congr (h _) n

theorem State.glcFlags_gained (s : State) (k : Nat) (ungated : Bool) (old new : Slot) (n : Nat) :
    ((s.glcFlags k ungated old new).slot n).gained = (s.slot n).gained := by
  unfold State.glcFlags
  extract_lets gated _ s1 s2
  have counted : s2.slot n = s.slot n := by
    unfold s2
    split
    · exact State.slot_of_rad (s1.count_rad 205) n
    · rfl
  rw [← counted]
  split
  · exact (s2.chEvent_onlyTrunks k).gained n
  · rfl

theorem State.trim_gained (s : State) (k det n : Nat) : ((s.trim k det).slot n).gained = (s.slot n).gained := by
  unfold State.trim
  extract_lets now add
  rw [(State.chEvent_onlyTrunks _ k).gained, State.slot_of_rad (State.count_rad _ _)]
  exact s.mapSlot_gained k n fun _ => rfl

theorem State.askFence_gained (s : State) (k c n : Nat) : ((s.askFence k c).slot n).gained = (s.slot n).gained :=
  s.mapSlot_gained k n fun _ => rfl

theorem State.slot_ngdFlag (s : State) (b n : Nat) : (s.ngdFlag b).slot n = s.slot n := rfl

theorem State.ovrCheck_gained (s : State) (k : Nat) (m : ControlSample) (skip : Bool) (n : Nat) :
    ((s.ovrCheck k m skip).slot n).gained = (s.slot n).gained := by
  unfold State.ovrCheck
  extract_lets x s1
  have hit : (s1.slot n).gained = (s.slot n).gained := s.mapSlot_gained k n fun _ => rfl
  clear_value s1
  split
  · rfl
  · split
    · split
      · split
        · rw [State.slot_ngdFlag, State.askFence_gained, hit]
        · rw [State.slot_ngdFlag, State.trim_gained, hit]
      · exact hit
    · exact s.mapSlot_gained k n fun _ => rfl

theorem State.trackFreeze_gained (s : State) (n : Nat) : (s.trackFreeze.slot n).gained = (s.slot n).gained := by
  rw [State.slot_trackFreeze]
  rfl

/-- The saturated words of a control sample, flagged and counted (R101, R526). -/
def State.saturated (s : State) (n : Nat) : State :=
  if n = 0 then s else { s.countBy 199 n with rad := { s.rad with sat := true } }

theorem State.slot_saturated (s : State) (n k : Nat) : (s.saturated n).slot k = s.slot k := by
  unfold State.saturated
  split <;> rfl

/-! The control sample (R119, R120, R129). -/

theorem State.glcStep_counts (s : State) (x : Slot) (m : ControlSample) :
    (s.glcStep x m).set = x.set ∧ (s.glcStep x m).sats = x.sats := by
  unfold State.glcStep
  extract_lets
  split <;> exact ⟨rfl, rfl⟩

/-- The channel after the loops' step of a control sample in which it was never gated (R122 to R124). -/
def State.loopsStepped (s : State) (x : Slot) (m : ControlSample) : Slot :=
  if x.glc.csGated then x.boundaryStart else s.glcStep x m

theorem State.loopsStepped_counts (s : State) (x : Slot) (m : ControlSample) :
    (s.loopsStepped x m).set = x.set ∧ (s.loopsStepped x m).sats = x.sats := by
  unfold State.loopsStepped
  split
  · exact ⟨rfl, rfl⟩
  · exact s.glcStep_counts x m

/-- The channel after its control sample: loops, record and gain. -/
def State.afterSample (s : State) (x : Slot) (m : ControlSample) : Slot :=
  ((s.loopsStepped x m).endSample m).evaluate (s.isoOf x).isSome (s.permOf x)

theorem State.afterSample_records (s : State) (x : Slot) (m : ControlSample) :
    (s.afterSample x m).set = x.set ∧ (s.afterSample x m).sats = x.sats + m.satWords ∧
      (s.afterSample x m).glc.lastL = m.level ∧ (s.afterSample x m).glc.input = m.input ∧ (s.afterSample x m).glc.csN = 0 := by
  obtain ⟨set, sats⟩ := s.loopsStepped_counts x m
  exact ⟨set, congrArg (· + m.satWords) sats, rfl, rfl, rfl⟩

theorem State.afterSample_bounds {s : State} {x : Slot} {m : ControlSample} {g : Level}
    (h : (s.afterSample x m).glc.applied = some g) :
    0 ≤ g ∧ g % 128 = 0 ∧ g ≤ 128 * x.set.gain.gmax ∧ g ≤ (s.afterSample x m).glc.gPerm := by
  obtain ⟨set, -⟩ := s.loopsStepped_counts x m
  have ended : ((s.loopsStepped x m).endSample m).set = x.set := set
  unfold State.afterSample at h ⊢
  rw [← ended]
  exact Slot.evaluate_bounds h

theorem execControlSampleBoundary_gained {s : State} {n : SlotId} {m : ControlSample} (live : (s.slot n).live = true)
    (due : s.sampleDue (s.slot n) = true) (run : s.engineHeld = false) :
    s.gives (.controlSampleBoundary n m) fun u =>
      (u.slot n).gained = (s.afterSample (s.slot n) (sampleAtLeast m (s.slot n).glc.csSat)).gained := by
  refine State.gives_of_whenDo (show _ = execControlSampleBoundary n m s from rfl) (by rw [live, due, run]; rfl) ?_
  rw [State.trackFreeze_gained, State.ovrCheck_gained]
  refine (congrArg Slot.gained (State.slot_saturated _ _ _)).trans ?_
  rw [State.glcFlags_gained, State.slot_setSlot]
  rfl

/-- Settles O31: what follows the evaluation of the gain leaves the channel's GLC state, and the evaluation bounds the gain by g_ctl,
which neither GMAX nor the ceiling exceeds. -/
theorem controlSampleGain : Obligations.ControlSampleGain := by
  intro s n m live run boundary multiple rounds
  have due : s.sampleDue (s.slot n) = true := by simp [State.sampleDue, boundary, multiple, rounds]
  obtain ⟨u, hu, gained⟩ := execControlSampleBoundary_gained (m := m) live due run
  obtain ⟨set, sats, level, input, rest⟩ := s.afterSample_records (s.slot n) (sampleAtLeast m (s.slot n).glc.csSat)
  simp only [Slot.gained, Prod.mk.injEq] at gained
  obtain ⟨hset, hsats, hglc⟩ := gained
  rw [← hglc] at level input rest
  refine ⟨u, hu, level, input, hsats.trans sats, hset.trans set, rest, fun g applied => ?_⟩
  rw [hglc] at applied ⊢
  exact State.afterSample_bounds applied

end Sys2Proof.Machine

namespace Sys2Proof.Machine

/-! O55: the tables of GLC and FBC, the canceller's taps and SW.CH_FIND (R134 to R136, R147, R152, R153, R500). -/

/-! Fields of a word with a bit set beside them (R6). -/

theorem bitN_toNat {n : Nat} (w : BitVec n) (i : Nat) : bitN w.toNat i = w.getLsbD i := by
  rw [bitN, BitVec.getLsbD, Nat.testBit_eq_decide_div_mod_eq]

theorem gKey_or (v m : Word) (low : m.setWidth 2 = 0#2) (kind : m.getLsbD 2 = false) :
    gKey (bitN (v ||| m).toNat 2) ((v ||| m).setWidth 2) = gKey (v.getLsbD 2) (v.setWidth 2) := by
  rw [bitN_toNat, BitVec.getLsbD_or, kind, Bool.or_false, BitVec.setWidth_or, low, BitVec.or_zero]

theorem signedN_fieldN (x lo : Nat) : signedN 32 (fieldN x (lo + 31) lo) = signedN 32 (x / 2 ^ lo) := by
  have width : lo + 31 + 1 - lo = 32 := by omega
  simp only [signedN, fieldN, width, Nat.mod_mod]

/-! What a write does to the tables' words (R135, R136, R147). -/

theorem Tables.writeTsel_swap (x : Tables) (v : Word) :
    (x.writeTsel (v ||| 0x10000)).gPend = x.gPend ||| (1#8 <<< gKey (v.getLsbD 2) (v.setWidth 2)) ∧
      (x.writeTsel (v ||| 0x10000)).gActive = x.gActive := by
  have swap : bitN (v ||| 0x10000).toNat 16 = true := by rw [bitN_toNat]; simp
  refine ⟨?_, rfl⟩
  simp only [Tables.writeTsel, swap, if_true]
  rw [gKey_or v 0x10000 (by decide) (by decide)]

theorem Tables.writeTsel_eset (x : Tables) (v : Word) :
    (tblGet GTab.initial (gKey (v.getLsbD 2) (v.setWidth 2)) (x.writeTsel (v ||| 8)).gShadow).eres =
      BitVec.ofNat 2 (v.toNat / 2 ^ 4) := by
  have eset : bitN (v ||| 8).toNat 3 = true := by rw [bitN_toNat]; simp
  have field : (v ||| 8).toNat / 2 ^ 4 = v.toNat / 2 ^ 4 := by
    rw [BitVec.toNat_or, ← Nat.shiftRight_eq_div_pow, Nat.shiftRight_or_distrib, Nat.shiftRight_eq_div_pow]
    exact Nat.or_zero _
  simp only [Tables.writeTsel, eset, if_true]
  rw [gKey_or v 8 (by decide) (by decide), tblGet_tblPut_same, fieldN, field]
  exact BitVec.eq_of_toNat_eq (by simp)

theorem Tables.writeTdata_stores (x : Tables) (v : Word) :
    (x.writeTdata v).gPtr = x.gPtr + 1 ∧ tblFind x.gPtr.toNat (x.writeTdata v).gTab.ent = some (v.setWidth 16) := by
  have shadow : (x.writeTdata v).gTab.ent = tblPut x.gPtr.toNat (v.setWidth 16) x.gTab.ent :=
    congrArg GTab.ent (tblGet_tblPut_same _ x.gSel _ x.gShadow)
  exact ⟨rfl, by rw [shadow, tblFind_tblPut_same]⟩

theorem Tables.writeFsel_swap (x : Tables) (v : Word) :
    (x.writeFsel (v ||| 0x10000)).fPend = x.fPend ||| (1#4 <<< (v.toNat % 4)) ∧
      (x.writeFsel (v ||| 0x10000)).fActive = x.fActive := by
  have swap : bitN (v ||| 0x10000).toNat 16 = true := by rw [bitN_toNat]; simp
  have number : ((v ||| 0x10000).setWidth 2).toNat = v.toNat % 4 := by
    rw [BitVec.setWidth_or, show (0x10000 : Word).setWidth 2 = 0#2 from by decide, BitVec.or_zero, BitVec.toNat_setWidth]
  refine ⟨?_, rfl⟩
  simp only [Tables.writeFsel, swap, if_true]
  rw [number]

theorem Tables.writeFdata_stores (x : Tables) (v : Word) :
    (x.writeFdata v).fPtr = x.fPtr + 1 ∧
      tblFind x.fPtr.toNat (tblGet [] x.fTnum.toNat (x.writeFdata v).fShadow) = some (v.setWidth 16) := by
  refine ⟨rfl, ?_⟩
  simp only [Tables.writeFdata, tblGet_tblPut_same, tblFind_tblPut_same]

/-! System words of the issuing task's partition (R330). -/

theorem State.becomes_parts {s u : State} {t : Nat} {k : Task} (h : s.becomes u t k) : u.parts = s.parts := by
  unfold State.becomes at h
  rw [h]

theorem State.tabs_mapTabs (s : State) (p : PartId) (f : Tables → Tables) :
    (s.mapTabs p f).parts[p].tabs = f s.parts[p].tabs := by
  simp [State.mapTabs]

section

variable {s : State} {t : TaskId} {k : Task} {c : Nat}

theorem State.gives_of_onRunning (h : s.runs t k c) {i : Instr} {f : Task → State → State} {P : State → Prop}
    (runs : exec i s = onRunning t s f) (hf : ∀ x y, P (f k (s.counted x y))) : s.gives i P := by
  obtain ⟨x, y, counts⟩ := s.issued_counts k c
  refine ⟨f k (s.issued k c), runs.trans (onRunning_runs h f), ?_⟩
  rw [counts]
  exact hf x y

theorem State.nextOk_mapTabs (hn : s.nextOk k) (p : PartId) (f : Tables → Tables) : (s.mapTabs p f).nextOk k := by
  unfold State.nextOk
  rw [State.fetchClean_congr (s := s) (u := s.mapTabs p f) rfl]
  exact hn

/-- A write of a system word that changes the tables of the partition. -/
theorem State.gives_of_tables_written (h : s.runs t k c) (hn : s.nextOk k) {i : Instr} {w : Nat} {v : Word} {f : Tables → Tables}
    {P : State → Prop} (runs : exec i s = onRunning t s fun k u => u.sysWrite t k w v)
    (writes : ∀ u : State, u.sysWrite t k w v = (u.mapTabs k.part f).next t)
    (hP : ∀ u : State, u.task? t = some { k with pc := k.pc + 4 } → u.parts[k.part].tabs = f s.parts[k.part].tabs → P u) :
    s.gives i P := by
  refine State.gives_of_onRunning h runs fun x y => ?_
  have ends := State.next_becomes (s := (s.counted x y).mapTabs k.part f) (t := t) h.1 (State.nextOk_mapTabs hn k.part f)
  rw [writes]
  refine hP _ (State.task?_becomes ends) ?_
  rw [State.becomes_parts ends, State.tabs_mapTabs]
  rfl

/-- A read of a system word that answers with `v` and changes the tables of the partition at most. -/
theorem State.gives_of_tables_read (h : s.runs t k c) (hn : s.nextOk k) {i : Instr} {gd : Reg} {w : Nat} {v : Word}
    {f : Tables → Tables} (runs : exec i s = onRunning t s fun k u => u.sysRead t k gd w)
    (reads : ∀ x y, (s.counted x y).sysRead t k gd w = ((s.mapTabs k.part f).counted x y).finish t gd v) :
    s.gives i fun u => (s.mapTabs k.part f).becomes u t (k.step gd v) := by
  refine State.gives_of_onRunning h runs fun x y => ?_
  rw [reads]
  exact State.finish_counted (v := s.mapTabs k.part f) h.1 (State.nextOk_mapTabs hn k.part f) x y gd v

/-- An access that ends as a violation (R298). -/
theorem State.gives_of_violate (h : s.runs t k c) (hn : s.nextOk k) {i : Instr} {f : Task → State → State} {kind : Byte} {gd : Reg}
    (runs : exec i s = onRunning t s f) (ends : ∀ x y, f k (s.counted x y) = (s.counted x y).violate t kind gd) :
    s.gives i fun u => s.violates u t (k.step gd 0) kind := by
  refine State.gives_of_onRunning h runs fun x y => ?_
  rw [ends]
  exact State.violate_violates (s := s.counted x y) h.1 hn kind gd

/-! The canceller's taps (R152, R153). -/

theorem State.invalidate_eq (s : State) (k : Nat) : s.invalidate k = { s with rad := (s.invalidate k).rad } := by
  unfold State.invalidate
  split <;> rfl

/-- A tap written at PTR with the model frozen (R153). -/
def State.tapStored (s : State) (p : PartId) (n : Nat) (v : Word) : State :=
  ((s.mapTabs p fun x => { x with tapPtr := tapNext s.parts[p].tabs.tapPtr }).invalidate n).mapSlot n fun x =>
    { x with fbc := { x.fbc with
        taps := tblPut s.parts[p].tabs.tapPtr.toNat (signedN 32 (fieldN v.toNat 31 0), signedN 32 (fieldN v.toNat 63 32)) x.fbc.taps
        valid := false, proof := 0, seed := none } }

theorem State.tapStored_eq (s : State) (p : PartId) (n : Nat) (v : Word) :
    s.tapStored p n v = { s.mapTabs p fun x => { x with tapPtr := tapNext s.parts[p].tabs.tapPtr } with
      rad := (s.tapStored p n v).rad } := by
  unfold State.tapStored
  rw [State.invalidate_eq]
  rfl

theorem State.writeTap_stores {n : Nat} (chan : s.tapChan k.part = some n) (range : s.parts[k.part].tabs.tapPtr.toNat < 48)
    (still : s.adapting (s.slot n) = false) (v : Word) : s.writeTap t k v = (s.tapStored k.part n v).next t := by
  simp only [State.writeTap, chan, still, range, Bool.false_eq_true, if_false, if_true]
  rfl

theorem fbcTapdWrite_stores {n : Nat} (h : s.runs t k c) (hn : s.nextOk k) (chan : s.tapChan k.part = some n)
    (range : s.parts[k.part].tabs.tapPtr.toNat < 48) (still : s.adapting (s.slot n) = false) (v : Word) :
    s.gives (.fbcTapdWrite t v) fun u => u.task? t = some { k with pc := k.pc + 4 } ∧ (u.slot n).fbc.valid = false ∧
      tblFind s.parts[k.part].tabs.tapPtr.toNat (u.slot n).fbc.taps = some (signedN 32 v.toNat, signedN 32 (v.toNat / 2 ^ 32)) ∧
      u.parts[k.part].tabs.tapPtr = tapNext s.parts[k.part].tabs.tapPtr := by
  refine State.gives_of_onRunning h (show _ = execFbcTapdWrite t v s from rfl) fun x y => ?_
  have writes : (s.counted x y).sysWrite t k 0x185 v = ((s.counted x y).tapStored k.part n v).next t :=
    State.writeTap_stores (s := s.counted x y) chan range still v
  have stored := (s.counted x y).tapStored_eq k.part n v
  have task : ((s.counted x y).tapStored k.part n v).task? t = some k := by
    rw [stored]
    exact h.1
  have next : ((s.counted x y).tapStored k.part n v).nextOk k := by
    unfold State.nextOk
    rw [State.fetchClean_congr (s := s) (by rw [stored]; rfl)]
    exact hn
  have ends := State.next_becomes task next
  have slot : ∀ i, (((s.counted x y).tapStored k.part n v).next t).slot i = ((s.counted x y).tapStored k.part n v).slot i :=
    State.slot_of_rad (State.becomes_rad ends)
  rw [writes]
  refine ⟨State.task?_becomes ends, ?_, ?_, ?_⟩
  · rw [slot, State.tapStored, State.slot_mapSlot]
  · rw [slot, State.tapStored, State.slot_mapSlot]
    refine (tblFind_tblPut_same _ _ _).trans ?_
    rw [signedN_fieldN v.toNat 0, signedN_fieldN v.toNat 32, Nat.pow_zero, Nat.div_one]
  · rw [State.becomes_parts ends, stored]
    have advanced := (s.counted x y).tabs_mapTabs k.part fun z => { z with tapPtr := tapNext s.parts[k.part].tabs.tapPtr }
    exact congrArg Tables.tapPtr advanced

theorem State.readTap_reads {n : Nat} (chan : s.tapChan k.part = some n) (range : s.parts[k.part].tabs.tapPtr.toNat < 48) (gd : Reg) :
    let tap := tblGet (0, 0) s.parts[k.part].tabs.tapPtr.toNat (s.slot n).fbc.taps
    s.readTap t k gd = (s.mapTabs k.part fun x => { x with tapPtr := tapNext s.parts[k.part].tabs.tapPtr }).finish t gd
      (BitVec.ofNat 64 (toUnsignedN 32 tap.1 + 2 ^ 32 * toUnsignedN 32 tap.2)) := by
  simp only [State.readTap, chan, range, if_true]

theorem State.writeTap_refuses (chan : s.tapChan k.part = none) (v : Word) : s.writeTap t k v = s.violate t 3 0 := by
  simp only [State.writeTap, chan]

theorem State.readTap_refuses (chan : s.tapChan k.part = none) (gd : Reg) : s.readTap t k gd = s.violate t 3 gd := by
  simp only [State.readTap, chan]

end

/-- SW.CH_FIND names the slot and, where the partition owns it, its handle (R500). -/
theorem State.readFind_eq (s : State) (p : PartId) :
    s.readFind p = s.parts[p].tabs.findSlot.toNat + 2 ^ 32 *
      (if s.parts[p].tabs.findSlot.toNat < 192 ∧ (s.slot s.parts[p].tabs.findSlot.toNat).phase = .owned ∧
          (s.slot s.parts[p].tabs.findSlot.toNat).owner = p
        then (s.handleOf s.parts[p].tabs.findSlot.toNat).toNat % 2 ^ 19 else 0) := by
  simp only [State.readFind, fieldN, Nat.pow_zero, Nat.div_one]

/-- Settles O55: each word is its write or read of the partition's tables, and the taps are those of the channel that the handle names,
if it names one. -/
theorem tablesAndTaps : Obligations.TablesAndTaps := by
  intro s t k c v gd h hn x done only
  refine ⟨?_, ?_, ?_, ?_, ?_, ?_, ?_, ?_, ?_, ?_⟩
  · refine State.gives_of_tables_written h hn (f := fun y => y.writeTsel (v ||| 0x10000)) rfl (fun _ => rfl) fun u task tabs => ?_
    exact ⟨task, by rw [tabs]; exact x.writeTsel_swap v⟩
  · refine State.gives_of_tables_written h hn (f := fun y => y.writeTsel (v ||| 8)) rfl (fun _ => rfl) fun u task tabs => ?_
    exact ⟨task, by rw [tabs]; exact x.writeTsel_eset v⟩
  · refine State.gives_of_tables_written h hn (f := fun y => y.writeTdata v) rfl (fun _ => rfl) fun u task tabs => ?_
    exact ⟨task, by rw [tabs]; exact x.writeTdata_stores v⟩
  · exact State.gives_of_tables_read h hn (f := fun y => { y with gPtr := y.gPtr + 1 }) rfl fun _ _ => rfl
  · refine State.gives_of_tables_written h hn (f := fun y => y.writeFsel (v ||| 0x10000)) rfl (fun _ => rfl) fun u task tabs => ?_
    exact ⟨task, by rw [tabs]; exact x.writeFsel_swap v⟩
  · refine State.gives_of_tables_written h hn (f := fun y => y.writeFdata v) rfl (fun _ => rfl) fun u task tabs => ?_
    exact ⟨task, by rw [tabs]; exact x.writeFdata_stores v⟩
  · exact State.gives_of_tables_read h hn (f := fun y => { y with fPtr := y.fPtr + 1 }) rfl fun _ _ => rfl
  · intro n chan range
    refine ⟨fun still => fbcTapdWrite_stores h hn chan range still v, ?_⟩
    exact State.gives_of_tables_read h hn (f := fun y => { y with tapPtr := tapNext x.tapPtr }) rfl
      fun a b => State.readTap_reads (s := s.counted a b) chan range gd
  · intro chan
    constructor
    · exact State.gives_of_violate h hn (show _ = execFbcTapdWrite t v s from rfl)
        fun a b => State.writeTap_refuses (s := s.counted a b) chan v
    · exact State.gives_of_violate h hn (show _ = execFbcTapdRead t gd s from rfl)
        fun a b => State.readTap_refuses (s := s.counted a b) chan gd
  · intro n
    refine State.gives_of_onRunning h (show _ = execChFindRead t gd s from rfl) fun a b => ?_
    show s.becomes ((s.counted a b).finish t gd (BitVec.ofNat 64 (s.readFind k.part))) t _
    rw [State.readFind_eq]
    exact State.finish_counted h.1 hn a b gd _

end Sys2Proof.Machine

namespace Sys2Proof.Machine

/-! O32: the canceller's model (R146, R149, R150, R159, R523). -/

section

variable {s : State} {n : SlotId}

/-- A model that was not valid, after an update step of step size `mu`: the taps adapt, the raw depth takes the larger residual, and the
count with that depth makes it valid (R146, R149, R150). -/
def Fbc.proving (f : Fbc) (mu : Nat) (m : UpdateStep) : Fbc :=
  let raw := min m.ratio16 m.ratio256
  { f with
    taps := nlmsTaps mu f.taps m.grad 0
    valid := decide (256 ≤ f.proof + 1) && decide (7680 ≤ raw)
    steps := min (f.steps + 1) 2147483647
    proof := f.proof + 1
    raw := raw
    srr := m.srr
    seed := if f.proof + 1 < 256 then f.seed else none }

theorem fbcUpdateStep_proves (m : UpdateStep) (model : (s.slot n).hasModel = true) (adapts : s.modelFrozen (s.slot n) = false)
    (run : s.syn.mainLk = true) (unproved : (s.slot n).fbc.valid = false) :
    exec (.fbcUpdateStep n m) s = .next (s.mapSlot n fun x =>
      { x with fbc := x.fbc.proving (s.stepEntry x (stepIndex m.srr)) m }) := by
  show execFbcUpdateStep n m s = _
  simp only [execFbcUpdateStep, whenDo, model, adapts, run, unproved, Bool.not_false, Bool.and_self, if_true, Bool.false_eq_true, if_false]
  rfl

/-- A model of which FBC has lost the proof: its depth is 0 dB until 256 further steps (R149). -/
def Slot.unproved (x : Slot) : Slot := { x with fbc := { x.fbc with valid := false, proof := 0 } }

theorem State.invalidate_of_valid (valid : (s.slot n).fbc.valid = true) :
    s.invalidate n = { s.mapSlot n Slot.unproved with rad := { (s.mapSlot n Slot.unproved).rad with inval := true } } :=
  if_pos valid

theorem modelFreezeTimeout_invalidates {e : EdCycles} (model : (s.slot n).hasModel = true)
    (frozen : s.modelFrozen (s.slot n) = true) (since : (s.slot n).fbc.frozenAt = some e) (long : e + edMs 10 ≤ s.clk.ed)
    (run : s.engineHeld = false) : exec (.modelFreezeTimeout n) s = .next (s.invalidate n) := by
  show execModelFreezeTimeout n s = _
  simp only [execModelFreezeTimeout, whenDo, model, frozen, since, decide_eq_true long, run, Bool.not_false, Bool.and_self, if_true]

/-- A parity error clears the model, whether valid or not, and pulses FBC's line (R523). -/
theorem modelParityError_clears (model : (s.slot n).hasModel = true) :
    s.gives (.modelParityError n) fun u => (u.slot n).fbc.taps = [] ∧ (u.slot n).fbc.valid = false ∧
      ((s.slot n).fbc.valid = true → u.rad.inval = true) ∧
      (s.obs.live.getLsbD 5 = false → u.obs.sticky.getLsbD 5 = true ∧ u.obs.live.getLsbD 5 = false) := by
  refine State.gives_of_whenDo (show _ = execModelParityError n s from rfl) model ?_
  have slot := fun v : State => State.slot_of_rad (v.linePulse_rad 5 0x38) n
  have obs : (s.invalidate n).obs = s.obs := by rw [State.invalidate_eq]
  refine ⟨?_, ?_, fun valid => ?_, fun low => ⟨State.linePulse_sticky (n := 5) ?_ 0x38, ?_⟩⟩
  · rw [slot, State.slot_mapSlot]
    rfl
  · rw [slot, State.slot_mapSlot]
    rfl
  · rw [State.linePulse_rad, State.invalidate_of_valid valid]
    rfl
  · rw [State.mapSlot_obs, obs]
    exact low
  · rw [State.linePulse_live_eq, State.mapSlot_obs, obs]
    exact low

/-- The estimate `i` of slot `k` lowered to `c`: a drop of more than 3 dB sets ISODROP and leaves a record (R159). -/
def State.isoLowered (s : State) (k : SlotId) (i c : Level) : State :=
  let s1 := s.mapSlot k fun x => { x with fbc := { x.fbc with iso := some c } }
  if 3840 < i - c then
    ({ s1 with rad := { s1.rad with isoDrop := true } }).log 0x1500 k.val (toUnsignedN 32 (meas256 i)) (toUnsignedN 32 (meas256 c))
  else s1

theorem State.slot_isoLowered (s : State) (k : SlotId) (i c : Level) :
    (s.isoLowered k i c).slot k = { s.slot k with fbc := { (s.slot k).fbc with iso := some c } } := by
  unfold State.isoLowered
  extract_lets s1
  have lowered : s1.slot k = { s.slot k with fbc := { (s.slot k).fbc with iso := some c } } := s.slot_mapSlot k _
  split
  · exact (State.slot_of_rad (State.log_rad _ _ _ _ _) k).trans lowered
  · exact lowered

theorem isolationRefresh_lowers {i g gains : Level} (iso : (s.slot n).fbc.iso = some i) (applied : (s.slot n).glc.applied = some g)
    (model : (s.slot n).hasModel = true) (valid : (s.slot n).fbc.valid = true) (adapts : s.modelFrozen (s.slot n) = false)
    (run : s.engineHeld = false) (lower : (s.slot n).modelCoupling g gains - 2560 < i) :
    exec (.isolationRefresh n gains) s = .next (s.isoLowered n i ((s.slot n).modelCoupling g gains - 2560)) := by
  show execIsolationRefresh n gains s = _
  simp only [execIsolationRefresh, iso, applied, model, valid, adapts, run, lower, Bool.not_false, Bool.and_self, if_true]
  rfl

end

/-- Settles O32: under its conditions each event has one effect, of which the clauses are read off. -/
theorem cancellerModel : Obligations.CancellerModel := by
  intro s n
  refine ⟨fun m model adapts run unproved => ?_, fun e model frozen since long valid run => ?_, modelParityError_clears,
    fun i g gains iso applied model valid adapts run lower => ?_⟩
  · refine ⟨_, fbcUpdateStep_proves m model adapts run unproved, rfl, ?_⟩
    rw [State.slot_mapSlot]
    exact ⟨rfl, rfl, rfl, fun j other => s.slot_mapSlot_ne other _⟩
  · refine ⟨_, modelFreezeTimeout_invalidates model frozen since long run, ?_⟩
    rw [State.invalidate_of_valid valid]
    exact ⟨rfl, s.slot_mapSlot n Slot.unproved⟩
  · exact ⟨_, isolationRefresh_lowers iso applied model valid adapts run lower, s.slot_isoLowered n i _⟩

end Sys2Proof.Machine

namespace Sys2Proof.Machine

/-! Rules of the guard's requests (R166 to R172, R186, R188): flags, fences, trims and clamps. -/

theorem getLsbD_setFlag {n i : Nat} (h : i < n) (x : BitVec n) : (x ||| (1#n <<< i)).getLsbD i = true := by
  simp [h]

theorem State.ngdFlag_sets (s : State) {b : Nat} (h : b < 6) : (s.ngdFlag b).rad.ngd.getLsbD b = true := getLsbD_setFlag h _

/-- What every step of a fold keeps, and the step of one element brings about. -/
theorem State.foldl_reaches {α : Type} {f : State → α → State} {Q P : State → Prop} (hQ : ∀ s a, Q s → Q (f s a))
    (hP : ∀ s a, P s → P (f s a)) {a : α} (sets : ∀ s, Q s → P (f s a)) {l : List α} (mem : a ∈ l) {s : State} (h : Q s) :
    P (l.foldl f s) := by
  have kept : ∀ (l : List α) (u : State), P u → P (l.foldl f u) := fun l => by
    induction l with
    | nil => exact fun _ hu => hu
    | cons b l ih => exact fun u hu => ih _ (hP u b hu)
  induction l generalizing s with
  | nil => cases mem
  | cons b l ih =>
    rcases List.mem_cons.mp mem with rfl | mem
    · exact kept l _ (sets s h)
    · exact ih mem (hQ s b h)

/-- A fence is asked for, and nothing else of the channel changes (R171). -/
theorem State.guard_askFence (s : State) (k c : Nat) : ((s.askFence k c).slot k).guard =
    { (s.slot k).guard with fenceReq := (s.slot k).guard.fenceReq ||| (1#16 <<< c) } :=
  congrArg Slot.guard (s.slot_mapSlot k _)

theorem State.guard_askFence_ne (s : State) {n k : Nat} (h : n ≠ k) (c : Nat) :
    ((s.askFence k c).slot n).guard = (s.slot n).guard := congrArg Slot.guard (s.slot_mapSlot_ne h _)

theorem State.askFence_asks (s : State) (k : Nat) {c : Nat} (h : c < 16) :
    ((s.askFence k c).slot k).guard.fenceReq.getLsbD c = true := by
  rw [State.guard_askFence]
  exact getLsbD_setFlag h _

theorem State.askFence_keeps_asked {s : State} {n c : Nat} (h : (s.slot n).guard.fenceReq.getLsbD c = true) (k d : Nat) :
    ((s.askFence k d).slot n).guard.fenceReq.getLsbD c = true := by
  by_cases hn : n = k
  · subst hn
    rw [State.guard_askFence]
    simp [h]
  · rw [s.guard_askFence_ne hn]
    exact h

/-- Fences asked for on each of several channels. -/
theorem State.askFences_asks (s : State) {l : List Nat} {c n : Nat} (hc : c < 16) (hn : n ∈ l) :
    ((l.foldl (fun u k => u.askFence k c) s).slot n).guard.fenceReq.getLsbD c = true :=
  State.foldl_reaches (Q := fun _ => True) (P := fun u => (u.slot n).guard.fenceReq.getLsbD c = true) (fun _ _ _ => trivial)
    (fun _ k asked => State.askFence_keeps_asked asked k c) (fun u _ => u.askFence_asks n hc) hn trivial

theorem State.askFences_cht (s : State) (l : List Nat) (c : Nat) : (l.foldl (fun u k => u.askFence k c) s).cht = s.cht := by
  induction l generalizing s with
  | nil => rfl
  | cons k l ih => exact ih (s.askFence k c)

/-- A clamp with none in the 10 ms before it sets CLAMP, and the mode and the channels stay (R178, R186, R190). -/
theorem State.clamp_rad {s : State} (alone : s.cht.clamps = []) (p : PortId) (ks : List Nat) :
    (s.clamp p ks).rad = { s.rad with clamp := true } := by
  simp [State.clamp, alone]

theorem State.clamp_clamps {s : State} (alone : s.cht.clamps = []) (p : PortId) (ks : List Nat) :
    (s.clamp p ks).rad.clamp = true := by
  rw [State.clamp_rad alone]

theorem State.clamp_slot {s : State} (alone : s.cht.clamps = []) (p : PortId) (ks : List Nat) (n : Nat) :
    (s.clamp p ks).slot n = s.slot n := by
  simp only [State.slot, State.clamp_rad alone]

/-! O36: the Gauntlet's output checks (R186, R190). -/

section

variable {s : State} {p : PortId}

/-- The check of a slot's power with a sound clamp, by its limit. -/
theorem gntPowerCheck_compares {n : SlotId} {i : Nat} {e : Ent} (port : (s.slot n).set.txPort = some p)
    (cover : (s.slot n).guard.cover = some i) (ent : s.entitlements[i]? = some e) (power : Level) :
    exec (.gntPowerCheck n power true) s =
      .next (if (s.slot n).radiating && decide (128 * e.pmax + 640 < power) then (s.askFence n 4).clamp p [n.val] else s) := by
  show execGntPowerCheck n power true s = _
  simp only [execGntPowerCheck, port, cover, ent, Option.map_some, tenths, if_true]

/-- The check of a port's transmit time with a sound clamp, by its limit. -/
theorem gntDutyCheck_compares {sc : Sched} {d : Nat} (sched : s.ports[p].sched = some sc) (duty : s.dutyLimit p = some d)
    (ns : Nat) : exec (.gntDutyCheck p ns true) s =
      .next (if s.ports[p].schedRun && decide ((d + 1) * sc.period < 100 * ns) then
        ((s.radiatingOn p).foldl (fun u k => u.askFence k 6) s).clamp p (s.radiatingOn p) else s) := by
  show execGntDutyCheck p ns true s = _
  simp only [execGntDutyCheck, sched, duty, Option.getD_some, if_true]

end

/-- Settles O36: each check compares with its limit, and what passes it asks for the fences and then clamps the port. -/
theorem gauntletOutputChecks : Obligations.GauntletOutputChecks := by
  unfold Obligations.GauntletOutputChecks
  intro s
  refine ⟨fun n power p i e port cover ent => ⟨fun within => ?_, fun radiates beyond alone => ?_⟩,
    fun p ns sc d sched duty => ⟨fun within => ?_, fun runs beyond alone => ?_⟩⟩
  · have inside : ¬128 * e.pmax + 640 < power := Int.not_lt.mpr within
    rw [gntPowerCheck_compares port cover ent, if_neg (by simp [inside])]
  · have fresh : (s.askFence n 4).cht.clamps = [] := alone
    refine ⟨_, gntPowerCheck_compares port cover ent power, ?_⟩
    rw [radiates, decide_eq_true beyond, Bool.and_self, if_pos rfl]
    refine ⟨State.clamp_clamps fresh p _, ?_⟩
    rw [State.clamp_slot fresh]
    exact s.askFence_asks n (by decide)
  · rw [gntDutyCheck_compares sched duty, if_neg (by simp; omega)]
  · have fresh := (s.askFences_cht (s.radiatingOn p) 6).symm ▸ alone
    refine ⟨_, gntDutyCheck_compares sched duty ns, ?_⟩
    rw [runs, decide_eq_true beyond, Bool.and_self, if_pos rfl]
    refine ⟨State.clamp_clamps fresh p _, fun n radiates => ?_⟩
    rw [State.clamp_slot fresh]
    exact s.askFences_asks (by decide) radiates

end Sys2Proof.Machine

namespace Sys2Proof.Machine

/-! Events of a channel's change, and trims (R166, R169, R354). -/

theorem State.chEvent_onlyWakes (s : State) (k : Nat) : s.OnlyWakes (s.chEvent k) := by
  have unannounced : ∀ u : State, u.OnlyWakes u.unannounced := fun u => State.onlyWakes_of_rad ⟨rfl, rfl, rfl⟩ rfl
  unfold State.chEvent
  dsimp only
  split
  · exact (s.event_onlyWakes _ _).trans (unannounced _)
  · exact unannounced s

/-- What an ended wait leaves of a channel: all but what a task has staged for it. -/
theorem State.OnlyWakes.guard {s u : State} (h : s.OnlyWakes u) (n : Nat) : (u.slot n).guard = (s.slot n).guard := by
  have e := congrArg Slot.guard (h.slot n)
  exact e

theorem State.OnlyWakes.mutes {s u : State} (h : s.OnlyWakes u) (n : Nat) : (u.slot n).mutes = (s.slot n).mutes := by
  have e := congrArg Slot.mutes (h.slot n)
  exact e

theorem State.guard_chEvent (s : State) (k n : Nat) : ((s.chEvent k).slot n).guard = (s.slot n).guard :=
  (s.chEvent_onlyWakes k).guard n

theorem State.slot_count (s : State) (c n : Nat) : (s.count c).slot n = s.slot n := State.slot_of_rad (s.count_rad c) n

/-- A change of one channel by hardware, counted, of which its owner is told. -/
theorem State.guard_told (s : State) (k : Nat) (f : Slot → Slot) (c : Nat) :
    ((((s.mapSlot k f).count c).chEvent k).slot k).guard = (f (s.slot k)).guard := by
  rw [State.guard_chEvent, State.slot_count, State.slot_mapSlot]

theorem State.guard_trim_ne (s : State) {n k : Nat} (h : n ≠ k) (det : Nat) :
    ((s.trim k det).slot n).guard = (s.slot n).guard := by
  unfold State.trim
  rw [State.guard_chEvent, State.slot_count, State.slot_mapSlot_ne _ h]

theorem State.trim_rho (s : State) (k det : Nat) : ((s.trim k det).slot k).guard.rho = (s.slot k).guard.rho := by
  unfold State.trim
  rw [State.guard_told]
  dsimp only
  split <;> rfl

section

variable {s : State} {k : Nat} (room : (s.slot k).guard.trimSteps < 10)

include room

theorem State.trim_osc : ((s.trim k 0).slot k).guard.tOsc = (s.slot k).guard.tOsc + 1 := by
  unfold State.trim
  rw [State.guard_told]
  simp [room]

theorem State.trim_nrise : ((s.trim k 2).slot k).guard.tNrise = (s.slot k).guard.tNrise + 1 := by
  unfold State.trim
  rw [State.guard_told]
  simp [room]

end

/-! The release of a trim (R169). -/

/-- The shares that are not zero: when the detector trimmed last, and which it is. -/
def Guard.ages (g : Guard) : List (Nat × Nat) :=
  (if g.tOsc = 0 then [] else [(g.atOsc, 0)]) ++ (if g.tOvr = 0 then [] else [(g.atOvr, 1)])
    ++ (if g.tNrise = 0 then [] else [(g.atNrise, 2)]) ++ (if g.tAclr = 0 then [] else [(g.atAclr, 3)])

/-- The older of two shares, the earlier one where both are as old. -/
def olderShare (a : Option (Nat × Nat)) (e : Nat × Nat) : Option (Nat × Nat) :=
  match a with
  | some b => if e.1 < b.1 then some e else some b
  | none => some e

/-- One step off the share that `e` names. -/
def Guard.lower (g : Guard) (now : Nat) (e : Option (Nat × Nat)) : Guard :=
  match e with
  | some (_, 0) => { g with tOsc := g.tOsc - 1, lastTrim := now }
  | some (_, 1) => { g with tOvr := g.tOvr - 1, lastTrim := now }
  | some (_, 2) => { g with tNrise := g.tNrise - 1, lastTrim := now }
  | some (_, _) => { g with tAclr := g.tAclr - 1, lastTrim := now }
  | none => g

theorem Guard.release_eq (g : Guard) (now : Nat) : g.release now = g.lower now (g.ages.foldl olderShare none) := rfl

theorem foldl_olderShare_mem (l : List (Nat × Nat)) (b : Nat × Nat) : ∃ e ∈ b :: l, l.foldl olderShare (some b) = some e := by
  induction l generalizing b with
  | nil => exact ⟨b, by simp, rfl⟩
  | cons c l ih =>
    have one : olderShare (some b) c = some c ∨ olderShare (some b) c = some b := by
      unfold olderShare
      dsimp only
      split
      · exact .inl rfl
      · exact .inr rfl
    rw [List.foldl_cons]
    rcases one with one | one <;> rw [one]
    · obtain ⟨e, mem, found⟩ := ih c
      exact ⟨e, List.mem_cons_of_mem _ mem, found⟩
    · obtain ⟨e, mem, found⟩ := ih b
      refine ⟨e, ?_, found⟩
      rcases List.mem_cons.mp mem with rfl | mem
      · simp
      · simp [mem]

theorem Guard.ages_ne_nil {g : Guard} (h : 0 < g.trimSteps) : g.ages ≠ [] := by
  unfold Guard.trimSteps at h
  simp only [Guard.ages, ne_eq, List.append_eq_nil_iff, ite_eq_left_iff, List.cons_ne_nil, imp_false, not_not]
  omega

theorem Guard.mem_ages {g : Guard} {e : Nat × Nat} (h : e ∈ g.ages) :
    (g.tOsc ≠ 0 ∧ e = (g.atOsc, 0)) ∨ (g.tOvr ≠ 0 ∧ e = (g.atOvr, 1)) ∨ (g.tNrise ≠ 0 ∧ e = (g.atNrise, 2)) ∨
      (g.tAclr ≠ 0 ∧ e = (g.atAclr, 3)) := by
  simpa [Guard.ages, or_assoc] using h

/-- The share released from is not zero, so that T falls by one step. -/
theorem Guard.release_steps {g : Guard} (h : 0 < g.trimSteps) (now : Nat) : (g.release now).trimSteps + 1 = g.trimSteps := by
  obtain ⟨e, mem, found⟩ : ∃ e ∈ g.ages, g.ages.foldl olderShare none = some e := by
    cases hl : g.ages with
    | nil => exact absurd hl (Guard.ages_ne_nil h)
    | cons b l => exact foldl_olderShare_mem l b
  rw [Guard.release_eq, found]
  rcases Guard.mem_ages mem with ⟨pos, rfl⟩ | ⟨pos, rfl⟩ | ⟨pos, rfl⟩ | ⟨pos, rfl⟩
  all_goals
    simp only [Guard.lower, Guard.trimSteps]
    omega

/-! ACLR's acts (R166). -/

theorem State.guard_askAclrFence (s : State) (k : Nat) (p : PortId) : ((s.askAclrFence k p).slot k).guard =
    { (s.slot k).guard with aclrPort := some p, fenceReq := (s.slot k).guard.fenceReq ||| (1#16 <<< 3) } := by
  unfold State.askAclrFence
  rw [State.guard_askFence, State.slot_mapSlot]

theorem State.guard_aclrAct_ne (s : State) {n k : Nat} (h : n ≠ k) (p : PortId) :
    ((s.aclrAct p k).slot n).guard = (s.slot n).guard := by
  unfold State.aclrAct
  split
  · unfold State.askAclrFence
    rw [State.guard_askFence_ne _ h, State.slot_mapSlot_ne _ h]
  · exact s.guard_trim_ne h 3

/-- ACLR's share of a channel stands at 12 dB. -/
def State.aclrFull (n : Nat) (s : State) : Prop := 4 ≤ (s.slot n).guard.tAclr

/-- ACLR has asked for a fence of the channel, whose source is the port. -/
def State.aclrFences (p : PortId) (n : Nat) (s : State) : Prop :=
  (s.slot n).guard.fenceReq.getLsbD 3 = true ∧ (s.slot n).guard.aclrPort = some p

theorem State.aclrAct_fences {s : State} {n : Nat} (full : s.aclrFull n) (p : PortId) :
    (s.aclrAct p n).aclrFull n ∧ (s.aclrAct p n).aclrFences p n := by
  have acts : s.aclrAct p n = s.askAclrFence n p := if_pos full
  rw [acts, State.aclrFull, State.aclrFences, State.guard_askAclrFence]
  exact ⟨full, getLsbD_setFlag (by decide) _, rfl⟩

/-- ACLR acts on the channels of a list; the share of one of them stands at 12 dB. -/
theorem State.aclrActs_fence {s : State} {n : Nat} (full : s.aclrFull n) (p : PortId) {l : List Nat} (mem : n ∈ l) :
    (l.foldl (fun u k => u.aclrAct p k) s).aclrFences p n := by
  have other : ∀ (u : State) (k : Nat), n ≠ k → (u.aclrAct p k).aclrFull n = u.aclrFull n ∧
      (u.aclrAct p k).aclrFences p n = u.aclrFences p n := fun u k h => by
    simp only [State.aclrFull, State.aclrFences, u.guard_aclrAct_ne h p, and_self]
  have keeps : ∀ (u : State) (k : Nat), u.aclrFull n → (u.aclrAct p k).aclrFull n := fun u k h => by
    by_cases hn : n = k
    · exact hn ▸ (State.aclrAct_fences h p).1
    · rwa [(other u k hn).1]
  refine (State.foldl_reaches (P := fun u => u.aclrFull n ∧ u.aclrFences p n) keeps (fun u k asked => ?_)
    (fun u h => State.aclrAct_fences h p) mem full).2
  by_cases hn : n = k
  · exact hn ▸ State.aclrAct_fences asked.1 p
  · rwa [(other u k hn).1, (other u k hn).2]

/-! O34: the guard's detectors (R166, R169, R170, R188). -/

section

variable {s : State} {n : SlotId}

theorem Slot.live_of_radiating {x : Slot} (h : x.radiating = true) : x.live = true := by
  unfold Slot.radiating Slot.code at h
  unfold Slot.live
  cases hp : x.phase <;> cases hc : x.committed <;> simp_all

/-- The channel with the ρ of its window. -/
def Slot.rated (x : Slot) (rho : Nat) : Slot := { x with guard := { x.guard with rho := rho } }

/-- OSC's window ends on a channel that it judges (R166). -/
theorem oscWindowEnd_judges (radiates : (s.slot n).radiating = true) (loop : (s.slot n).set.loop = true)
    (sees : s.detectorSkips (s.slot n) = false) (rho : Nat) : exec (.oscWindowEnd n rho) s =
      .next (if 896 ≤ rho then ((s.mapSlot n fun x => x.rated rho).askFence n 1).ngdFlag 0
        else if 512 ≤ rho then ((s.mapSlot n fun x => x.rated rho).trim n 0).ngdFlag 0
        else s.mapSlot n fun x => x.rated rho) := by
  show execOscWindowEnd n rho s = _
  simp only [execOscWindowEnd, whenDo, radiates, loop, sees, Bool.not_false, Bool.and_self, if_true]
  rfl

/-- The channel after an estimate of NRISE's that is a hit and follows one (R166). -/
def Slot.risen (x : Slot) (rise : Level) : Slot := { x with guard := { x.guard with nrise := rise, nriseHits := 2 } }

/-- NRISE's second hit on a channel that is not muted by it trims it (R166). -/
theorem nriseEstimate_trims {noise g : Level} {p : PortId} (rx : (s.slot n).set.rxPort = some p)
    (applied : (s.slot n).glc.applied = some g) (radiates : (s.slot n).radiating = true) (ul : (s.slot n).set.filt.ul = true)
    (sees : s.detectorSkips (s.slot n) = false) (unmuted : (s.slot n).mutes.nrise = false)
    (hit : 1 ≤ (s.slot n).guard.nriseHits) (room : (s.slot n).guard.trimSteps < 10)
    (rises : noiseRx p (s.slot n).set + g + 128 * (s.slot n).set.guard.nrth < noise) : exec (.nriseEstimate n noise) s =
      .next (((s.mapSlot n fun x => x.risen (noise - (noiseRx p (s.slot n).set + g))).trim n 2).ngdFlag 2) := by
  have twice : min ((s.slot n).guard.nriseHits + 1) 2 = 2 := by omega
  have high : tenths (s.slot n).set.guard.nrth < noise - (noiseRx p (s.slot n).set + g) := Int.lt_sub_left_of_add_lt rises
  have few : ¬10 ≤ (s.slot n).guard.trimSteps := by omega
  show execNriseEstimate n noise s = _
  simp only [execNriseEstimate, rx, applied, Slot.live_of_radiating radiates, radiates, ul, sees, unmuted, high, twice, few,
    Bool.not_true, Bool.or_self, Bool.false_eq_true, if_false, Bool.or_false, decide_true, if_true, lt_irrefl]
  rfl

theorem dlossMute_asks {input : Level} (radiates : (s.slot n).radiating = true) (rx : (s.slot n).set.rxPort.isSome = true)
    (dl : (s.slot n).set.filt.ul = false) (sees : s.detectorSkips (s.slot n) = false) (low : input < (s.slot n).donorFloor) :
    s.gives (.dlossMute n input) fun u => (u.slot n).muteReq.dloss = true ∧ u.rad.ngd.getLsbD 3 = true := by
  refine State.gives_of_whenDo (show _ = execDlossMute n input s from rfl) (by simp [radiates, rx, dl, sees, low]) ?_
  rw [State.slot_count, State.count_rad, State.slot_ngdFlag, State.slot_mapSlot]
  exact ⟨rfl, State.ngdFlag_sets _ (by decide)⟩

theorem dlossUnmute_ends {input : Level} (live : (s.slot n).live = true) (muted : (s.slot n).mutes.dloss = true)
    (sees : s.detectorSkips (s.slot n) = false) (high : (s.slot n).donorFloor + 3840 ≤ input) :
    s.gives (.dlossUnmute n input) fun u => (u.slot n).mutes.dloss = false := by
  refine State.gives_of_whenDo (show _ = execDlossUnmute n input s from rfl) (by simp [live, muted, sees, high]) ?_
  rw [(State.chEvent_onlyWakes _ n).mutes, State.slot_mapSlot]

theorem trimRelease_releases (trimmed : 0 < (s.slot n).guard.trimSteps) (unmuted : (s.slot n).mutes.nrise = false)
    (due : (s.slot n).guard.lastTrim + 98304000 * (s.slot n).set.guard.trel ≤ s.clk.ed) :
    s.gives (.trimRelease n) fun u => (u.slot n).guard.trimSteps + 1 = (s.slot n).guard.trimSteps := by
  have passed : (s.slot n).guard.lastTrim + edMs (100 * (s.slot n).set.guard.trel) ≤ s.clk.ed := by
    simp only [edMs]
    omega
  refine State.gives_of_whenDo (show _ = execTrimRelease n s from rfl) (by simp [trimmed, unmuted, passed]) ?_
  rw [State.guard_chEvent, State.slot_mapSlot]
  exact Guard.release_steps trimmed s.clk.ed

/-- ACLR's second hit fences a channel whose share stands at 12 dB (R166, R173). -/
theorem aclrMeasure_fences {p : PortId} {ratio : Level} (on : s.ports[p].tx = .on) (sound : s.ports[p].bflt = false)
    (high : s.pwr.rfkill = false) (still : s.ports[p].disturbed = false) (valid : s.ports[p].rxv = true)
    (beyond : 1280 * s.ports[p].tune.aclr < ratio) (hit : 1 ≤ s.ports[p].aclrHits) (mem : n.val ∈ s.aclrChannels p)
    (full : 4 ≤ (s.slot n).guard.tAclr) :
    s.gives (.aclrMeasure p ratio) fun u => (u.slot n).guard.fenceReq.getLsbD 3 = true ∧
      (u.slot n).guard.aclrPort = some p ∧ u.rad.ngd.getLsbD 4 = true := by
  have someone : (s.aclrChannels p).isEmpty = false := by
    simpa using List.ne_nil_of_mem mem
  refine State.gives_of_whenDo (show _ = execAclrMeasure p ratio s from rfl)
    (by rw [on, sound, high, still, valid, someone]; rfl) ?_
  rw [if_pos beyond, if_pos hit]
  obtain ⟨asked, port⟩ := State.aclrActs_fence (s := s.mapPort p fun q => { q with aclrHits := min (q.aclrHits + 1) 2 }) full p mem
  exact ⟨asked, port, State.ngdFlag_sets _ (by decide)⟩

theorem State.mem_aclrChannels {p : PortId} (radiates : (s.slot n).radiating = true) (tx : (s.slot n).set.txPort = some p)
    (sees : s.detectorSkips (s.slot n) = false) (mem : (n.val, s.slot n) ∈ s.rad.slots) : n.val ∈ s.aclrChannels p := by
  exact List.mem_filter.mpr ⟨List.mem_map.mpr ⟨_, List.mem_filter.mpr ⟨mem, by simp [radiates, tx]⟩, rfl⟩, by simp [sees]⟩

end

/-- Settles O34: each detector by its act on the channel, which the event to its owner leaves as it is. -/
theorem guardDetectors : Obligations.GuardDetectors := by
  unfold Obligations.GuardDetectors
  intro s n
  refine ⟨fun rho radiates loop sees => ⟨_, oscWindowEnd_judges radiates loop sees rho, ?_⟩,
    fun noise g p rx applied radiates ul sees unmuted hit room rises =>
      ⟨_, nriseEstimate_trims rx applied radiates ul sees unmuted hit room rises, ?_, State.ngdFlag_sets _ (by decide)⟩,
    fun _ => dlossMute_asks, fun _ => dlossUnmute_ends, trimRelease_releases,
    fun p ratio on sound high still valid sees beyond hit radiates tx mem _ full =>
      aclrMeasure_fences on sound high still valid beyond hit (State.mem_aclrChannels radiates tx sees mem) full⟩
  · have rated : (s.mapSlot n fun x => x.rated rho).slot n = (s.slot n).rated rho := s.slot_mapSlot n _
    refine ⟨?_, fun severe => ?_, fun fair under room => ?_, fun good => ?_⟩
    · split
      · rw [State.slot_ngdFlag, State.guard_askFence, rated]
        rfl
      · split
        · rw [State.slot_ngdFlag, State.trim_rho, rated]
          rfl
        · rw [rated]
          rfl
    · rw [if_pos severe, State.slot_ngdFlag]
      exact ⟨State.askFence_asks _ n (by decide), State.ngdFlag_sets _ (by decide)⟩
    · rw [if_neg (Nat.not_le.mpr under), if_pos fair, State.slot_ngdFlag]
      refine ⟨?_, State.ngdFlag_sets _ (by decide)⟩
      rw [State.trim_osc (by rw [rated]; exact room), rated]
      rfl
    · rw [if_neg (by omega), if_neg (by omega), rated]
      rfl
  · have risen := s.slot_mapSlot n fun x => x.risen (noise - (noiseRx p (s.slot n).set + g))
    rw [State.slot_ngdFlag, State.trim_nrise (by rw [risen]; exact room), risen]
    rfl

end Sys2Proof.Machine

namespace Sys2Proof.Machine

/-! Re-arms and SILENCED's end (R173 to R180): what they leave. -/

theorem Slot.rearm_guard (x : Slot) : x.rearm.guard = { x.guard with
    fenced := false, causes := 0, aclrPort := none, tOsc := 0, tOvr := 0, tNrise := 0, tAclr := 0, arm := .none } := by
  unfold Slot.rearm
  dsimp only
  split <;> rfl

/-- A re-arm that passes its checks ends the fence and every trim (R169, R174). -/
theorem State.doRearm_passes {s : State} {k : Nat} (arm : (s.slot k).guard.arm ≠ .none) (passes : s.armPasses k = true) :
    s.doRearm k = (s.mapSlot k Slot.rearm).chEvent k := by
  rw [State.doRearm, if_neg arm, if_pos passes]

theorem heldRearmEffect_rearms {s : State} {n : SlotId} (due : s.rearmDue n = true) (due' : s.nextBoundary.rearmDue n = true)
    (arm : (s.nextBoundary.slot n).guard.arm ≠ .none) (passes : s.nextBoundary.armPasses n = true) :
    s.gives (.heldRearmEffect n) fun u => u.clk = s.nextBoundary.clk ∧ (u.slot n).guard.fenced = false ∧
      (u.slot n).guard.causes = 0 ∧ (u.slot n).guard.trimSteps = 0 ∧ (u.slot n).guard.arm = .none := by
  refine State.gives_of_whenDo (show _ = execHeldRearmEffect n s from rfl) due ?_
  generalize s.nextBoundary = b at due' arm passes ⊢
  rw [if_pos due', State.doRearm_passes arm passes, (State.chEvent_onlyTrunks _ n).clk, State.guard_chEvent, State.slot_mapSlot,
    Slot.rearm_guard]
  exact ⟨rfl, rfl, rfl, rfl, rfl⟩

/-! A Warden word written by a task of P0 (R288). -/

/-- What a write leaves, apart from the task's record and the counters: a state with the tasks and the memory of its issue. -/
theorem State.gives_of_wardenWrite {s : State} {t : TaskId} {k : Task} {c : Nat} (h : s.runs t k c) (hn : s.nextOk k)
    (warden : k.part = 0) {i : Instr} {f : State → State} {P : State → Prop} (runs : exec i s = wardenWrite t f s)
    (hf : ∀ x y, ∃ v, f (s.counted x y) = v ∧ v.cpu = s.cpu ∧ v.ms = s.ms ∧
      ∀ u, v.becomes u t { k with pc := k.pc + 4 } → P u) : s.gives i P := by
  refine State.gives_of_onRunning h runs fun x y => ?_
  obtain ⟨v, written, cpu, ms, shows⟩ := hf x y
  rw [if_pos warden, written]
  refine shows _ (State.next_becomes ?_ ?_)
  · rw [State.task?_of_cpu cpu]
    exact h.1
  · rw [State.fetchClean_congr ms]
    exact hn

/-! SW.NGD_SARM (R176). -/

theorem State.askArm_eq (s : State) (k : Nat) (who : HeldArm) : s.askArm k who = { s with rad := (s.askArm k who).rad } := by
  unfold State.askArm
  split
  · rfl
  · dsimp only
    split <;> rfl

theorem State.wardenArm_eq (s : State) (k : Nat) : s.wardenArm k = { s with rad := (s.wardenArm k).rad } := by
  unfold State.wardenArm
  rw [State.askArm_eq]
  rfl

theorem State.wardenArms_eq (l : List (Nat × Slot)) (s : State) :
    l.foldl (fun u x => u.wardenArm x.1) s = { s with rad := (l.foldl (fun u x => u.wardenArm x.1) s).rad } := by
  induction l generalizing s with
  | nil => rfl
  | cons x l ih =>
    rw [List.foldl_cons, ih, State.wardenArm_eq]

/-- The word that names slot `n` with GO set. -/
def sarmWord (n : SlotId) : Word := BitVec.ofNat 64 n.val ||| 0x10000

theorem sarmWord_fields (n : SlotId) :
    bitN (sarmWord n).toNat 16 = true ∧ bitN (sarmWord n).toNat 10 = false ∧ fieldN (sarmWord n).toNat 7 0 = n.val := by
  have small : n.val < 2 ^ 8 := by omega
  have below : n.val.testBit 10 = false := Nat.testBit_lt_two_pow (by omega)
  refine ⟨?_, ?_, ?_⟩
  · rw [bitN_toNat, sarmWord, BitVec.getLsbD_or]
    simp
  · rw [bitN_toNat, sarmWord, BitVec.getLsbD_or]
    rw [BitVec.getLsbD_ofNat, below]
    rfl
  · have word : (sarmWord n).toNat = n.val ||| 0x10000 := by
      simp only [sarmWord, BitVec.toNat_or, BitVec.toNat_ofNat]
      rw [Nat.mod_eq_of_lt (by omega)]
      rfl
    simp only [fieldN, word, pow_zero, Nat.div_one, Nat.or_mod_two_pow]
    rw [Nat.mod_eq_of_lt small]
    exact Nat.or_zero _

/-- `s` with the count and severity of source `i` forgotten, and the radio `r` (R176). -/
def State.forgiven (s : State) (i : Nat) (r : Radio) : State :=
  { s with rad := r, obs := { s.obs with sources := tblDel i s.obs.sources } }

theorem State.source_forgiven (s : State) (i : Nat) (r : Radio) :
    (s.forgiven i r).source i = { times := [], severe := false, window := 0 } := by
  simp only [State.source, State.forgiven, tblGet, tblFind_tblDel_same, Option.getD_none]

/-- A write of SW.NGD_SARM that names a slot forgets its source's count and severity; besides, it re-arms channels. -/
theorem State.writeSarm_slot {s : State} (awake : s.dozing = false) (n : SlotId) :
    ∃ r, s.writeSarm (sarmWord n) = s.forgiven n.val r := by
  obtain ⟨go, port, slot⟩ := sarmWord_fields n
  have named : ¬192 ≤ n.val := by omega
  unfold State.writeSarm
  simp only [go, port, slot, Bool.not_true, Bool.false_eq_true, if_false, Bool.not_false, Bool.true_and, decide_eq_true_eq, named,
    srcSlot]
  generalize arms : List.foldl (fun (u : State) (x : Nat × Slot) => u.wardenArm x.1) _ _ = v
  obtain ⟨r, rfl⟩ : ∃ r, v = s.forgiven n.val r := ⟨v.rad, arms ▸ State.wardenArms_eq _ _⟩
  refine ⟨r, ?_⟩
  split
  · exact State.wakePower_awake awake
  · rfl

theorem State.becomes_source {s u : State} {t : Nat} {k : Task} (h : s.becomes u t k) (i : Nat) : u.source i = s.source i := by
  unfold State.becomes at h
  rw [h]
  rfl

theorem ngdSarmGo_clears {s : State} {t : TaskId} {k : Task} {c : Nat} (h : s.runs t k c) (hn : s.nextOk k) (warden : k.part = 0)
    (awake : s.dozing = false) (n : SlotId) : s.gives (.ngdSarmGo t (BitVec.ofNat 64 n.val)) fun u =>
      u.task? t = some { k with pc := k.pc + 4 } ∧ (u.source n.val).severe = false ∧ (u.source n.val).times = [] := by
  refine State.gives_of_wardenWrite h hn warden (f := fun s => s.writeSarm (sarmWord n)) rfl fun x y => ?_
  obtain ⟨r, written⟩ := State.writeSarm_slot (s := s.counted x y) awake n
  refine ⟨_, written, rfl, rfl, fun u ends => ?_⟩
  rw [State.becomes_source ends, State.source_forgiven]
  exact ⟨State.task?_becomes ends, rfl, rfl⟩

/-! The end of SILENCED's hold-off (R24, R180). -/

/-- No mode request is held. -/
def State.unheld (s : State) : State := { s with cht := { s.cht with heldMode := none } }

theorem silencedHoldoffEnd_enters {s : State} {m : Mode} (held : s.cht.heldMode = some m) (ready : s.heldReady = true)
    (ready' : s.nextBoundary.heldReady = true) : exec .silencedHoldoffEnd s =
      .next (s.nextBoundary.unheld.changeMode m) := by
  show execSilencedHoldoffEnd s = _
  simp only [execSilencedHoldoffEnd, held, ready, ready', if_true]
  rfl

theorem State.changeMode_awake {s : State} (core : s.cpu.coreUp ≠ 0) (m : Mode) : s.changeMode m = s.enterMode m := by
  simp only [State.changeMode, core, and_false, if_false]

theorem State.drive_eq (s : State) (p : PortId) : s.drive p = { s with ports := (s.drive p).ports } := by
  unfold State.drive
  dsimp only
  split <;> rfl

theorem State.driveAll_cht (s : State) : s.driveAll.cht = s.cht := by
  unfold State.driveAll
  induction List.finRange 4 generalizing s with
  | nil => rfl
  | cons p l ih => rw [List.foldl_cons, ih, State.drive_eq]

/-- Out of a mode that is not ISOLATE no burst ends, and what the charter's part holds stays. -/
theorem State.enterMode_cht {s : State} (h : s.pwr.mode ≠ .isolate) (m : Mode) : (s.enterMode m).cht = s.cht := by
  unfold State.enterMode
  simp only [h, false_and, if_false]
  rw [(State.eventAll_keeps _ 10).cht, State.driveAll_cht]

/-- Settles O35: the re-arm at the boundary, the source that the word names, the request held through the hold-off, and the count by
operating time. -/
theorem rearmAndSilencedEnd : Obligations.RearmAndSilencedEnd := by
  refine ⟨fun s n due => heldRearmEffect_rearms due, fun s t k c n h hn warden awake => ngdSarmGo_clears h hn warden awake n,
    fun s m held mode ended runs ready core => ?_, fun s => rfl⟩
  have due : s.heldReady = true := by
    simp [State.heldReady, State.holdOffRuns, mode, runs, ended]
  refine ⟨_, silencedHoldoffEnd_enters held due ready, ?_⟩
  generalize s.nextBoundary = b at ready core ⊢
  have calm : b.unheld.pwr.mode ≠ .isolate := by
    simp only [State.heldReady, Bool.and_eq_true, decide_eq_true_eq] at ready
    exact fun isolate => absurd (ready.1.1.symm.trans isolate) (by decide)
  rw [State.changeMode_awake (s := b.unheld) core]
  exact ⟨State.enterMode_mode _ m, congrArg Charter.heldMode (State.enterMode_cht calm m), State.enterMode_req _ m⟩

end Sys2Proof.Machine

namespace Sys2Proof.Machine

/-! Slot operations (R495, R496). -/

theorem State.becomes_svc {s u : State} {t : Nat} {k : Task} (h : s.becomes u t k) : u.svc = s.svc := by
  unfold State.becomes at h
  rw [h]

section

variable {s : State} {t : TaskId} {k : Task} {c : Nat}

/-- A write of OP, where none runs and where one does (R496). -/
theorem slotOp_starts (h : s.runs t k c) (hn : s.nextOk k) (warden : k.part = 0) {i : Instr} {o : SlotOp}
    (runs : exec i s = wardenWrite t (fun s => s.startOp o) s) :
    (s.svc.op = .none → s.gives i fun u => u.svc = { s.svc with op := o } ∧ u.task? t = some { k with pc := k.pc + 4 }) ∧
      (s.svc.op ≠ .none → s.gives i fun u => s.becomes u t { k with pc := k.pc + 4 }) := by
  refine ⟨fun idle => State.gives_of_wardenWrite h hn warden runs fun x y => ?_,
    fun busy => State.gives_of_wardenWrite h hn warden runs fun x y => ?_⟩
  · have starts : (s.counted x y).startOp o = { s.counted x y with
        svc := { s.svc with op := o }, cht := { s.cht with actReq := s.cht.actReq || decide (o = SlotOp.actcht) } } :=
      if_neg (not_not.mpr idle)
    exact ⟨_, starts, rfl, rfl, fun u ends => ⟨State.becomes_svc ends, State.task?_becomes ends⟩⟩
  · exact ⟨s.counted x y, if_pos busy, rfl, rfl, fun u ends => ends⟩

end

section

variable {s : State}

theorem slotOpComplete_idle (h : s.svc.op = .none) : exec .slotOpComplete s = .next s := by
  show execSlotOpComplete s = _
  simp only [execSlotOpComplete, h]

/-- CONFIRM (R496): the trial ends, and the confirmed version is the higher one. -/
theorem slotOpComplete_confirms (h : s.svc.op = .confirm) : s.gives .slotOpComplete fun u =>
    u.svc.op = .none ∧ u.svc.res = 1 ∧ u.svc.trial = false ∧
      u.svc.confirmed.toNat = max s.svc.confirmed.toNat (imageVersion s.svc.image).toNat := by
  refine ⟨s.doConfirm, ?_, rfl, rfl, rfl, ?_⟩
  · show execSlotOpComplete s = _
    simp only [execSlotOpComplete, h]
  · simp only [State.doConfirm, State.setRes]
    split
    · rename_i le
      exact (max_eq_right le).symm
    · rename_i gt
      exact (max_eq_left (Nat.le_of_not_le gt)).symm

/-- WRIMG (R496, R499): nothing staged, an image that fails, and one that goes into the slot that is not running. -/
theorem slotOpComplete_writesImage (h : s.svc.op = .wrimg) :
    (s.stagedImage = none → s.gives .slotOpComplete fun u => u.svc = { s.svc with op := .none, res := 4 }) ∧
      ∀ b, s.stagedImage = some b →
        (s.imageVerifies b = false → s.gives .slotOpComplete fun u => u.svc = { s.svc with op := .none, res := 2 }) ∧
        (s.imageVerifies b = true → s.gives .slotOpComplete fun u => u.svc.res = 1 ∧ u.svc.op = .none ∧
          u.svc.slotBytes (!s.svc.run) = b ∧ u.svc.rejected (!s.svc.run) = false ∧
          u.svc.slotBytes s.svc.run = s.svc.slotBytes s.svc.run) := by
  have does : exec .slotOpComplete s = .next s.doWrimg := by
    show execSlotOpComplete s = _
    simp only [execSlotOpComplete, h]
  refine ⟨fun none => ⟨_, does, ?_⟩, fun b staged => ⟨fun bad => ⟨_, does, ?_⟩, fun good => ⟨_, does, ?_⟩⟩⟩
  · simp only [State.doWrimg, none, State.setRes]
  · simp only [State.doWrimg, staged, bad, Bool.false_eq_true, if_false, State.setRes]
  · simp only [State.doWrimg, staged, good, if_true, State.setRes]
    cases s.svc.run <;> simp [Svc.slotBytes, Svc.rejected]

/-- WRCHT (R496): the staged charter goes into the slot not in force. -/
theorem slotOpComplete_writesCharter (h : s.svc.op = .wrcht) {b : List Byte} (staged : s.stagedCharter = some b) :
    s.gives .slotOpComplete fun u => u.svc = { s.svc with op := .none, res := 1 } ∧
      u.cht.slotBytes s.cht.idleB = b ∧ u.cht.force = s.cht.force := by
  refine ⟨s.doWrcht, ?_, ?_⟩
  · show execSlotOpComplete s = _
    simp only [execSlotOpComplete, h]
  · simp only [State.doWrcht, staged, State.setRes]
    cases s.cht.idleB <;> simp [Charter.slotBytes]

end

/-! Pages made for an image (R530) leave the pair as it stands. -/

/-- The service words, the modes, and whether the pair runs are in `u` as in `s`, and there is no task where there was none. -/
structure State.KeepsPair (s u : State) : Prop where
  svc : u.svc = s.svc
  pwr : u.pwr = s.pwr
  wrun : u.cpu.wrun = s.cpu.wrun
  tasks : s.cpu.tasks = [] → u.cpu.tasks = []

theorem State.keepsPair_refl (s : State) : s.KeepsPair s := ⟨rfl, rfl, rfl, id⟩

theorem State.KeepsPair.trans {s u v : State} (h1 : s.KeepsPair u) (h2 : u.KeepsPair v) : s.KeepsPair v where
  svc := h2.svc.trans h1.svc
  pwr := h2.pwr.trans h1.pwr
  wrun := h2.wrun.trans h1.wrun
  tasks := h2.tasks ∘ h1.tasks

theorem State.keepsPair_foldl {α : Type} {f : State → α → State} (hf : ∀ (s : State) (a : α), s.KeepsPair (f s a)) (l : List α)
    (s : State) : s.KeepsPair (l.foldl f s) := by
  induction l generalizing s with
  | nil => exact s.keepsPair_refl
  | cons a l ih => exact (hf s a).trans (ih _)

theorem State.Keeps.keepsPair {s u : State} (h : s.Keeps u) (cpu : u.cpu = s.cpu) : s.KeepsPair u where
  svc := h.svc
  pwr := h.pwr
  wrun := by rw [cpu]
  tasks := by rw [cpu]; exact id

theorem State.keepsPair_of_ms (s : State) (ms : MemSys) : s.KeepsPair { s with ms := ms } := ⟨rfl, rfl, rfl, id⟩

theorem State.makeRoom_cpu (s : State) (g : Nat) : (s.makeRoom g).cpu = s.cpu := by
  unfold State.makeRoom
  induction List.range s.ms.replicas.length generalizing s with
  | nil => rfl
  | cons a l ih =>
    rw [List.foldl_cons, ih]
    split
    · rfl
    · simp only [State.dropColdReplica]
      split
      · rw [State.count_cpu]
      · rfl

theorem State.takeFrame_cpu (s : State) (t g : Nat) : (s.takeFrame t g).1.cpu = s.cpu := by
  simp only [State.takeFrame]
  split
  · rfl
  · split <;> rfl

theorem State.leaveFrame_cpu (s : State) (t g : Nat) (ce : List Nat) : (s.leaveFrame t g ce).cpu = s.cpu := by
  simp only [State.leaveFrame]
  split
  · simp [State.frameGone]
  · split <;> rfl

theorem State.addPage_keepsPair (s : State) (part : PartId) (va : Nat) (peck keep : Bool) :
    s.KeepsPair (s.addPage part va peck keep) := by
  refine (s.addPage_keeps part va peck keep).keepsPair ?_
  unfold State.addPage
  extract_lets g s1 tier r c page
  have taken : r.1.cpu = s.cpu := (s1.takeFrame_cpu _ _).trans (s.makeRoom_cpu g)
  have copied : c.1.cpu = r.1.cpu := by
    unfold c
    split
    · exact r.1.takeFrame_cpu 2 g
    · rfl
  split
  · exact copied.trans taken
  · exact s.makeRoom_cpu g

theorem State.clearKeep_keepsPair (s : State) (q : Page) : s.KeepsPair (s.clearKeep q) := by
  unfold State.clearKeep
  extract_lets a s1 s2
  have left : s1.KeepsPair s2 := by
    unfold s2
    split
    · exact s1.keepsPair_refl
    · exact (s1.leaveFrame_keeps _ _ _).keepsPair (s1.leaveFrame_cpu _ _ _)
  exact ((s.keepsPair_of_ms _).trans left).trans (s2.keepsPair_of_ms _)

theorem State.voidStores_keepsPair (s : State) (part : PartId) (va n : Nat) : s.KeepsPair (s.voidStores part va n) where
  svc := rfl
  pwr := rfl
  wrun := rfl
  tasks := fun none => by
    simp only [State.voidStores, none]
    rfl

theorem State.freeFrames_keepsPair (s : State) (q : Page) : s.KeepsPair (s.freeFrames q) := by
  refine (s.freeFrames_keeps q).keepsPair ?_
  unfold State.freeFrames
  dsimp only
  split <;> simp only [State.leaveFrame_cpu]

theorem State.releasePage_keepsPair (s : State) (q : Page) : s.KeepsPair (s.releasePage q) := by
  unfold State.releasePage
  extract_lets key s1 ms s2 ms2 s3
  have voided : s.KeepsPair s2 := by
    refine State.KeepsPair.trans ?_ (s1.keepsPair_of_ms _)
    exact ((s.askDiscard_keeps key).keepsPair (s.askDiscard_keepsTasks key).cpu).trans (State.voidStores_keepsPair _ _ _ _)
  have freed : s2.KeepsPair s3 := by
    unfold s3
    split
    · exact s2.keepsPair_of_ms _
    · exact s2.freeFrames_keepsPair q
  exact (voided.trans freed).trans (s3.keepsPair_of_ms _)

theorem State.ensureGill_keepsPair (s : State) (va : Nat) : s.KeepsPair (s.ensureGill va) := by
  unfold State.ensureGill
  split
  · exact s.addPage_keepsPair _ _ _ _
  · split
    · split
      · exact s.clearKeep_keepsPair _
      · exact s.keepsPair_refl
    · exact (s.releasePage_keepsPair _).trans (State.addPage_keepsPair _ _ _ _ _)

theorem State.placeImage_keepsPair (s : State) : s.KeepsPair s.placeImage :=
  (State.keepsPair_foldl (fun u i => u.ensureGill_keepsPair (imageLoad s.svc.image + 0x1000 * i)) _ s).trans
    (State.keepsPair_of_ms _ _)

/-! RESTART (R499, R530). -/

/-- The pair stopped, with the image of the slot that does not run in force on trial. -/
def State.onTrial (s : State) : State :=
  { s.pairStopped with svc := { s.pairStopped.svc with
      image := s.svc.slotBytes (!s.svc.run), run := !s.svc.run, source := if !s.svc.run then 1 else 0, trial := true } }

theorem slotOpComplete_restarts {s : State} (h : s.svc.op = .restart)
    (verifies : s.imageVerifies (s.svc.slotBytes (!s.svc.run)) = true) (fit : s.svc.rejected (!s.svc.run) = false) :
    exec .slotOpComplete s = .next (s.onTrial.placeImage.setRes 1) := by
  show execSlotOpComplete s = _
  simp only [execSlotOpComplete, h, State.doRestart, verifies, fit, Bool.not_false, Bool.and_self, if_true]
  rfl

theorem slotOpComplete_restart_gives {s : State} (h : s.svc.op = .restart)
    (verifies : s.imageVerifies (s.svc.slotBytes (!s.svc.run)) = true) (fit : s.svc.rejected (!s.svc.run) = false) :
    s.gives .slotOpComplete fun u => u.svc.res = 1 ∧ u.svc.trial = true ∧ u.svc.run = !s.svc.run ∧ u.cpu.wrun = false ∧
      u.pwr.req = none ∧ (s.dozing = false → u.cpu.tasks = []) ∧ (s.pwr.mode = .quiet → u.pwr.mode = .watch) := by
  refine ⟨_, slotOpComplete_restarts h verifies fit, ?_⟩
  obtain ⟨wrun, req, -, -⟩ := s.pairStopped_standsStill
  have placed := s.onTrial.placeImage_keepsPair
  exact ⟨rfl, congrArg Svc.trial placed.svc, congrArg Svc.run placed.svc, placed.wrun.trans wrun,
    (congrArg Pwr.req placed.pwr).trans req, fun awake => placed.tasks (State.pairStopped_tasks awake),
    fun quiet => (congrArg Pwr.mode placed.pwr).trans (State.pairStopped_quiet quiet).1⟩

end Sys2Proof.Machine

namespace Sys2Proof.Machine

/-! CHARTER_ACTIVATE (R182, R183): what follows from a charter at its boundary leaves the charter in force and the service words. -/

/-- Which charter is in force, its sequence number, whether one is to be activated, and the service words are in `u` as in `s`. -/
structure State.KeepsCharter (s u : State) : Prop where
  svc : u.svc = s.svc
  force : u.cht.force = s.cht.force
  actReq : u.cht.actReq = s.cht.actReq
  seq : u.cht.seq = s.cht.seq

theorem State.keepsCharter_of_eq {s u : State} (svc : u.svc = s.svc) (cht : u.cht = s.cht) : s.KeepsCharter u :=
  ⟨svc, by rw [cht], by rw [cht], by rw [cht]⟩

theorem State.Keeps.keepsCharter {s u : State} (h : s.Keeps u) : s.KeepsCharter u := State.keepsCharter_of_eq h.svc h.cht

theorem State.keepsCharter_refl (s : State) : s.KeepsCharter s := ⟨rfl, rfl, rfl, rfl⟩

theorem State.KeepsCharter.trans {s u v : State} (h1 : s.KeepsCharter u) (h2 : u.KeepsCharter v) : s.KeepsCharter v where
  svc := h2.svc.trans h1.svc
  force := h2.force.trans h1.force
  actReq := h2.actReq.trans h1.actReq
  seq := h2.seq.trans h1.seq

theorem State.keepsCharter_foldl {α : Type} {f : State → α → State} (hf : ∀ (s : State) (a : α), s.KeepsCharter (f s a))
    (l : List α) (s : State) : s.KeepsCharter (l.foldl f s) := by
  induction l generalizing s with
  | nil => exact s.keepsCharter_refl
  | cons a l ih => exact (hf s a).trans (ih _)

theorem State.setSlot_keepsCharter (s : State) (k : Nat) (x : Slot) : s.KeepsCharter (s.setSlot k x) :=
  (s.setSlot_keeps k x).keepsCharter

theorem State.chEvent_keepsCharter (s : State) (k : Nat) : s.KeepsCharter (s.chEvent k) := by
  have unannounced : ∀ u : State, u.KeepsCharter u.unannounced := fun _ => State.keepsCharter_of_eq rfl rfl
  unfold State.chEvent
  dsimp only
  split
  · exact (s.event_keeps _ _).keepsCharter.trans (unannounced _)
  · exact unannounced s

theorem State.countFence_keepsCharter (s : State) (src : Nat) : s.KeepsCharter (s.countFence src) := by
  unfold State.countFence
  extract_lets s1
  have counted : s.KeepsCharter s1 := (s.countSource_keeps src).keepsCharter
  have flagged : s1.KeepsCharter (s1.ngdFlag 5) := State.keepsCharter_of_eq rfl rfl
  split
  · exact counted.trans (flagged.trans (State.linePulse_keeps _ _ _).keepsCharter)
  · exact counted

theorem State.fenceSlot_keepsCharter (s : State) (k : Nat) : s.KeepsCharter (s.fenceSlot k) := by
  unfold State.fenceSlot
  extract_lets x req x0 guard s1 s2 n osc charter s3
  have fenced : s.KeepsCharter s1 := s.setSlot_keepsCharter k _
  have counted : s1.KeepsCharter s2 := by
    unfold s2
    split
    · exact s1.keepsCharter_refl
    · exact s1.countFence_keepsCharter _
  have noted : s2.KeepsCharter s3 := by
    unfold s3
    split
    · split
      · exact ⟨rfl, rfl, rfl, rfl⟩
      · exact s2.keepsCharter_refl
    · exact s2.keepsCharter_refl
  split
  · exact s.keepsCharter_refl
  · split
    · exact s.setSlot_keepsCharter k _
    · split
      · exact fenced
      · refine State.KeepsCharter.trans ?_ (State.chEvent_keepsCharter _ k)
        refine State.KeepsCharter.trans ?_ (State.log_keeps _ _ _ _ _).keepsCharter
        refine State.KeepsCharter.trans ?_ (State.linePulse_keeps _ _ _).keepsCharter
        exact (fenced.trans counted).trans (noted.trans (s3.count_keeps 201).keepsCharter)

theorem State.fenceUncovered_keepsCharter (s : State) (k : Nat) : s.KeepsCharter (s.fenceUncovered k) := by
  unfold State.fenceUncovered
  dsimp only
  split
  · exact (s.setSlot_keepsCharter k _ : s.KeepsCharter (s.askFence k 7)).trans (State.fenceSlot_keepsCharter _ k)
  · exact s.keepsCharter_refl

theorem State.stopOverDuty_keepsCharter (s : State) (p : PortId) : s.KeepsCharter (s.stopOverDuty p) := by
  unfold State.stopOverDuty
  dsimp only
  split
  · split
    · rw [State.drive_eq]
      exact ⟨rfl, rfl, rfl, rfl⟩
    · exact s.keepsCharter_refl
  · exact s.keepsCharter_refl

/-- The activation is no longer asked for, and ACTCHT has ended. -/
def State.activated (s : State) : State :=
  { s with
    cht := { s.cht with actReq := false }
    svc := { s.svc with op := if s.svc.op = SlotOp.actcht then SlotOp.none else s.svc.op } }

/-- The charter of slot `b` in force with RES 1, and every channel's covering entitlement under it. -/
def State.chartered (s : State) (b : Bool) : State :=
  (({ s.activated with svc := { s.activated.svc with res := 1, replicaOut := true } }).chartInForce b).recover

/-- What follows from the charter in force: fences of what it does not cover, the end of schedules over their duty, and a record. -/
def State.charterFollowed (s : State) (b : Bool) : State :=
  let s2 := (s.rad.slots.map (·.1)).foldl (fun s k => s.fenceUncovered k) s
  let s3 := (List.finRange 4).foldl (fun s p => s.stopOverDuty p) s2
  s3.log 0x1700 s3.cht.seq.toNat (if b then 1 else 0) 0

theorem State.charterFollowed_keepsCharter (s : State) (b : Bool) : s.KeepsCharter (s.charterFollowed b) := by
  refine State.KeepsCharter.trans ?_ (State.log_keeps _ _ _ _ _).keepsCharter
  exact (State.keepsCharter_foldl State.fenceUncovered_keepsCharter _ s).trans
    (State.keepsCharter_foldl State.stopOverDuty_keepsCharter _ _)

section

variable {s b : State}

theorem charterActivate_verified (asked : s.cht.actReq = true) (hb : s.nextBoundary = b)
    (verifies : b.charterVerifies (b.cht.slotBytes b.cht.idleB) = true) :
    exec .charterActivate s = .next ((b.chartered b.cht.idleB).charterFollowed b.cht.idleB) := by
  show execCharterActivate s = _
  simp only [execCharterActivate, whenDo, asked, if_true, hb, verifies]
  rfl

theorem charterActivate_takes (asked : s.cht.actReq = true) (hb : s.nextBoundary = b)
    (verifies : b.charterVerifies (b.cht.slotBytes b.cht.idleB) = true) :
    s.gives .charterActivate fun u => u.cht.force = some b.cht.idleB ∧ u.cht.actReq = false ∧ u.svc.res = 1 ∧
      u.cht.seq = charterSeq (b.cht.slotBytes b.cht.idleB) := by
  refine ⟨_, charterActivate_verified asked hb verifies, ?_⟩
  obtain ⟨svc, force, actReq, seq⟩ := (b.chartered b.cht.idleB).charterFollowed_keepsCharter b.cht.idleB
  rw [force, actReq, svc, seq]
  exact ⟨rfl, rfl, rfl, rfl⟩

theorem charterActivate_refuses (asked : s.cht.actReq = true) (hb : s.nextBoundary = b)
    (fails : b.charterVerifies (b.cht.slotBytes b.cht.idleB) = false) :
    s.gives .charterActivate fun u => u.cht = { b.cht with actReq := false } ∧ u.svc.res = 2 ∧ u.rad.vfail = true := by
  refine State.gives_of_whenDo (show _ = execCharterActivate s from rfl) asked ?_
  rw [hb]
  dsimp only
  rw [if_neg (by rw [fails]; decide), (State.linePulse_keeps _ 7 0x4A).cht, (State.linePulse_keeps _ 7 0x4A).svc,
    State.linePulse_rad]
  exact ⟨rfl, rfl, rfl⟩

end

/-! Personalities (R501, R502). -/

theorem State.sourceChanged_cht (s : State) : s.sourceChanged.cht = s.cht := by
  have lost : ∀ u : State, u.loseSource.cht = u.cht := fun u => by
    unfold State.loseSource
    dsimp only
    split
    · exact (State.linePulse_keeps _ _ _).cht
    · rfl
  have based : ∀ u : State, u.timeBaseChanged.cht = u.cht := fun u => by
    unfold State.timeBaseChanged
    dsimp only
    split <;> rfl
  unfold State.sourceChanged
  dsimp only
  rw [based]
  split
  · exact lost _
  · rfl

theorem State.writeTsuCfg_cht (s : State) (v : Word) : (s.writeTsuCfg v).cht = s.cht := by
  unfold State.writeTsuCfg
  extract_lets w src tsu x kind svc s1
  have written : s1.cht = s.cht := rfl
  rw [← written]
  split
  · exact s1.sourceChanged_cht
  · rfl

theorem State.adoptWords_cht (s : State) (p : Personality) : (s.adoptWords p).cht = s.cht := by
  have thm : ∀ (u : State) (v : Word), (u.writeThmCfg v).cht = u.cht := fun u v => by
    unfold State.writeThmCfg
    dsimp only
    split <;> rfl
  exact (thm _ _).trans (State.writeTsuCfg_cht _ _)

/-- An election starts: the node's ID and the charter slots stay (R202 to R204). -/
theorem State.startElection_keeps (s : State) : s.startElection.fab.elect = true ∧ s.startElection.fab.idSet = s.fab.idSet ∧
    s.startElection.fab.nodeId = s.fab.nodeId ∧ s.startElection.cht = s.cht := by
  unfold State.startElection
  simp

/-- The bit that says that an ID is set, and the ID beside it (R202). -/
theorem idSet_fields (v : Word) : bitN (v ||| 0x800).toNat 11 = true ∧ (v ||| 0x800).setWidth 11 = v.setWidth 11 := by
  refine ⟨?_, ?_⟩
  · rw [bitN_toNat, BitVec.getLsbD_or]
    simp
  · rw [BitVec.setWidth_or]
    exact BitVec.or_zero

/-- The words that an offer makes its receiver adopt: its node's, with the ID marked as set (R502). -/
def offeredPersonality (o : ReplicaOffer) : Personality :=
  { fabCfg := o.fabCfg ||| 0x800, tsuCfg := o.tsuCfg, tsuAsym := o.tsuAsym, thmCfg := o.thmCfg, charter := o.charter }

/-- An offer is adopted: its words, its charter in slot A, and the words before it kept beside its ID (R502). -/
def State.adopting (s : State) (o : ReplicaOffer) : State :=
  let adopted := s.adoptWords (offeredPersonality o)
  { adopted with
    cht := { adopted.cht with slotA := if o.charter.isEmpty then adopted.cht.slotA else o.charter }
    svc := { adopted.svc with offer := some (offerId o, { s.personality with charter := s.cht.slotA }) } }

theorem personalityOfferRx_first {s : State} {o : ReplicaOffer} (both : o.neighboursMatch = true) (free : o.idHasAddress = false)
    (good : s.svc.offerBad = false) (none : s.svc.offer = none) (unset : s.fab.idSet = false) :
    exec (.personalityOfferRx o) s = .next (s.adopting o).startElection := by
  show execPersonalityOfferRx o s = _
  simp only [execPersonalityOfferRx, whenDo, both, free, good, none, unset]
  rfl

theorem personalityOfferRx_adopts {s : State} {o : ReplicaOffer} (both : o.neighboursMatch = true) (free : o.idHasAddress = false)
    (good : s.svc.offerBad = false) (none : s.svc.offer = none) (unset : s.fab.idSet = false) :
    s.gives (.personalityOfferRx o) fun u => u.fab.idSet = true ∧ u.fab.nodeId = o.fabCfg.setWidth 11 ∧ u.fab.elect = true ∧
      u.cht.slotA = if o.charter.isEmpty then s.cht.slotA else o.charter := by
  refine ⟨_, personalityOfferRx_first both free good none unset, ?_⟩
  obtain ⟨elect, idSet, nodeId, cht⟩ := (s.adopting o).startElection_keeps
  obtain ⟨marked, named⟩ := idSet_fields o.fabCfg
  refine ⟨idSet.trans marked, nodeId.trans named, elect, ?_⟩
  rw [cht, ← s.adoptWords_cht (offeredPersonality o)]
  rfl

/-! The test access port (R512). -/

theorem State.tapFall_st (s : State) (x : Tap) : (s.tapFall x).st = x.st := by
  unfold State.tapFall
  dsimp only
  split_ifs <;> rfl

theorem testAccessPortClock_resets {s : State} (on : s.pwr.mode ≠ .off) (tms tdi : Bool) :
    s.gives (.testAccessPortClock tms tdi true) fun u => u.tap.st = 0 ∧ u.tap.ir = [] :=
  State.gives_of_whenDo (show _ = execTestAccessPortClock tms tdi true s from rfl) (decide_eq_true on) ⟨rfl, rfl⟩

theorem testAccessPortClock_follows {s : State} (on : s.pwr.mode ≠ .off) (tms tdi : Bool) :
    s.gives (.testAccessPortClock tms tdi false) fun u => u.tap.st = tapNextState s.tap.st tms :=
  State.gives_of_whenDo (show _ = execTestAccessPortClock tms tdi false s from rfl) (decide_eq_true on) (s.tapFall_st _)

/-- Settles O56: a write of OP by its case, each operation's end by its work, the activation by what follows from it leaving the
charter in force, the offer by what is adopted before the election, and the test access port by its controller's next state. -/
theorem slotOperationsAndService : Obligations.SlotOperationsAndService := by
  unfold Obligations.SlotOperationsAndService
  intro s
  refine ⟨fun t k c h hn warden e he => ?_, slotOpComplete_idle, slotOpComplete_confirms, slotOpComplete_writesImage,
    fun op b => slotOpComplete_writesCharter op, slotOpComplete_restart_gives,
    fun asked => ⟨charterActivate_takes asked rfl, charterActivate_refuses asked rfl⟩, fun due => ?_,
    fun o => personalityOfferRx_adopts,
    fun tms tdi on => ⟨testAccessPortClock_resets on tms tdi, testAccessPortClock_follows on tms tdi⟩⟩
  · simp only [List.mem_cons, List.not_mem_nil, or_false] at he
    rcases he with rfl | rfl | rfl | rfl | rfl | rfl <;> exact slotOp_starts h hn warden rfl
  · exact congrArg Host.Outcome.next (if_pos due)

end Sys2Proof.Machine

namespace Sys2Proof.Machine

/-! O14: sysr and sysw of task and Warden words, and the return from a handler (R214, R289 to R291, R330, R455). -/

theorem sysIndex_eq (w : Word) : sysIndex w = w.toNat % 4096 := by
  simp [sysIndex, fieldN]

section

variable {s : State} {t : TaskId} {k : Task} {c : Nat} {gd ga : Reg}

/-- A task word is read: gd takes it, and nothing else happens (R330). -/
theorem sysr_reads {i v : Nat} (h : s.runs t k c) (hn : s.nextOk k) (index : (k.get ga).toNat % 4096 = i) (low : i < 0x180)
    (tenant : tenantWord i = true) (word : ∀ x y, (s.counted x y).readTaskWord t k i = v) :
    s.gives (.sysr t gd ga) fun u => s.becomes u t (k.step gd (BitVec.ofNat 64 v)) := by
  refine State.gives_of_onRunning h (show _ = execSysr t gd ga s from rfl) fun x y => ?_
  have reads : (s.counted x y).sysRead t k gd i = (s.counted x y).finish t gd (BitVec.ofNat 64 v) := by
    have n1 : i ≠ 0x181 := by omega
    have n2 : i ≠ 0x183 := by omega
    have n3 : i ≠ 0x185 := by omega
    have n4 : i ≠ 0x206 := by omega
    have n5 : i ≠ 0x211 := by omega
    have n6 : ¬(0x220 ≤ i ∧ i ≤ 0x233) := by omega
    simp only [State.sysRead, n1, n2, n3, n4, n5, n6, if_false, tenant, if_true, word]
  simp only [sysIndex_eq, index, tenant, Bool.true_or, if_true, reads]
  exact State.finish_counted h.1 hn x y gd _

theorem sysrTaskWords : SysrTaskWords := by
  intro s t k c gd ga h hn e he index
  simp only [List.mem_cons, List.not_mem_nil, or_false] at he
  rcases he with rfl | rfl | rfl | rfl | rfl | rfl
  · refine sysr_reads h hn index (by simp) rfl fun x y => ?_
    obtain ⟨-, running⟩ := h
    simp only [State.readTaskWord, State.selfWord, running]
    rfl
  all_goals exact sysr_reads h hn index (by simp) rfl fun x y => rfl

/-- A word of the task's own record is written: the record changes as the word says (R290, R330). -/
theorem sysw_changes {i : Nat} {f : Task → Task} (h : s.runs t k c) (hn : s.nextOk k) (index : (k.get ga).toNat % 4096 = i)
    (tenant : tenantWord i = true) (part : (f k).part = k.part) (pc : (f k).pc = k.pc)
    (writes : ∀ x y, (s.counted x y).sysWrite t k i (k.get gd) = ((s.counted x y).mapTask t f).next t) :
    s.gives (.sysw t gd ga) fun u => s.becomes u t { f k with pc := k.pc + 4 } := by
  refine State.gives_of_onRunning h (show _ = execSysw t gd ga s from rfl) fun x y => ?_
  have task : (s.counted x y).task? t = some k := h.1
  have mapped : (s.counted x y).mapTask t f = (s.setTask t (f k)).counted x y := by
    simp only [State.mapTask, task]
    rfl
  simp only [sysIndex_eq, index, tenant, Bool.true_or, if_true, writes, mapped]
  have next : ((s.setTask t (f k)).counted x y).fetchClean (f k).part ((f k).pc + 4) := by
    rw [part, pc]
    exact hn
  have ends := State.next_becomes (s := (s.setTask t (f k)).counted x y) (State.task?_setTask s t (f k)) next
  rw [pc] at ends
  exact State.becomes_trans (State.setTask_becomes s t (f k)) ends

/-- A Warden word is written by a task of P0: the state changes as the word says, and the task goes on (R288, R330). -/
theorem sysw_writesWarden {i : Nat} {v : State} (h : s.runs t k c) (hn : s.nextOk k) (warden : k.part = 0)
    (index : (k.get ga).toNat % 4096 = i) (word : tenantWord i = false ∧ wardenWord i = true ∧ i ≠ 0x001 ∧ i ≠ 0x185)
    (cpu : v.cpu = s.cpu) (ms : v.ms = s.ms) (writes : ∀ x y, (s.counted x y).writeWardenWord i (k.get gd) = v.counted x y) :
    s.gives (.sysw t gd ga) fun u => v.becomes u t { k with pc := k.pc + 4 } := by
  obtain ⟨notTenant, wardens, n1, n2⟩ := word
  refine State.gives_of_onRunning h (show _ = execSysw t gd ga s from rfl) fun x y => ?_
  have task : (v.counted x y).task? t = some k := (State.task?_of_cpu cpu t).trans h.1
  have next : (v.counted x y).nextOk k := by
    unfold State.nextOk
    rw [State.fetchClean_congr (s := s) (u := v.counted x y) ms]
    exact hn
  have permitted : (tenantWord i || (wardenWord i && decide (k.part = 0))) = true := by
    simp only [wardens, warden, decide_true, Bool.and_true, Bool.or_true]
  have written : (s.counted x y).sysWrite t k i (k.get gd) = (v.counted x y).next t := by
    simp only [State.sysWrite, n1, n2, notTenant, Bool.false_eq_true, if_false, writes]
  simp only [sysIndex_eq, index, permitted, if_true, written]
  exact State.next_becomes task next

theorem syswWords : SyswWords := by
  intro s t k c gd ga h hn
  refine ⟨fun index => ?_, fun index => ?_, fun warden index => ?_, fun warden index => ?_⟩
  · exact sysw_changes (f := fun k' => { k' with excPc := k.get gd }) h hn index rfl rfl rfl fun _ _ => rfl
  · exact sysw_changes (f := fun k' => { k' with evec := k.get gd &&& ~~~3#64 }) h hn index rfl rfl rfl fun _ _ => rfl
  · refine sysw_writesWarden h hn warden index (by decide) rfl rfl fun x y => ?_
    have held : clampNat (fieldN (k.get gd).toNat 23 0) 100 100000 = max 100 (min 100000 ((k.get gd).toNat % 2 ^ 24)) := by
      simp only [clampNat, fieldN, Nat.pow_zero, Nat.div_one]
      omega
    rw [← held]
    rfl
  · exact sysw_writesWarden h hn warden index (by decide) rfl rfl fun x y => rfl

/-- `s` with no message of task `t` in handling (R471). -/
def State.handled (s : State) (t : Nat) : State := { s with obs := { s.obs with handling := tblDel t s.obs.handling } }

/-- Where its address may be fetched, the return is the change of the task's record, counters aside (R290). -/
theorem State.excReturn_becomes {v : State} (task : v.task? t = some k) (clean : v.fetchClean k.part (k.excPc &&& ~~~3#64)) :
    (v.handled t).becomes (v.excReturn t) t { k with active := false, pc := k.excPc &&& ~~~3#64 } := by
  obtain ⟨x, y, counts⟩ := (v.handled t).countInstr_counts k
  have returns : v.excReturn t = (((v.handled t).countInstr k).setTask t { k with active := false }).goto t (k.excPc &&& ~~~3#64) := by
    simp only [State.excReturn, task]
    rfl
  rw [returns, State.goto_eq (State.task?_setTask _ t { k with active := false }) (by
    rw [State.fetchClean_setTask, State.fetchClean_countInstr]; exact clean), State.setTask_setTask, counts]
  rfl

theorem handlerReturn : HandlerReturn := by
  intro s t k c h clean
  exact State.gives_of_onRunning (P := fun u => (s.handled t).becomes u t _) h (show _ = execExcRet t s from rfl)
    fun x y => State.excReturn_becomes (v := s.counted x y) h.1 clean

end

/-- Settles O14: each word read or written is one field of the task's record, of its partition or of the Warden's words, and the return
is the record's. -/
theorem systemWordsAndHandlerReturn : Obligations.SystemWordsAndHandlerReturn := ⟨sysrTaskWords, syswWords, handlerReturn⟩

end Sys2Proof.Machine

namespace Sys2Proof.Machine

/-! What joins the queues of the chain ports stays in them, whatever packets, stores and placements follow (R213, R216). -/

/-- Every packet queued in `s` is queued in `u`. -/
def State.KeepsOut (s u : State) : Prop := ∀ p ∈ s.fab.out, p ∈ u.fab.out

theorem State.keepsOut_of_fab {s u : State} (h : u.fab = s.fab) : s.KeepsOut u := fun p hp => by rwa [h]

theorem State.keepsOut_refl (s : State) : s.KeepsOut s := fun _ h => h

theorem State.KeepsOut.trans {s u v : State} (h1 : s.KeepsOut u) (h2 : u.KeepsOut v) : s.KeepsOut v := fun p hp => h2 p (h1 p hp)

/-- The same, the second change first. -/
theorem State.KeepsOut.after {s u v : State} (h2 : u.KeepsOut v) (h1 : s.KeepsOut u) : s.KeepsOut v := h1.trans h2

theorem State.keepsOut_foldl {α : Type} {f : State → α → State} (hf : ∀ (s : State) (a : α), s.KeepsOut (f s a)) (l : List α)
    (s : State) : s.KeepsOut (l.foldl f s) := by
  induction l generalizing s with
  | nil => exact s.keepsOut_refl
  | cons a l ih => exact (hf s a).trans (ih (f s a))

theorem State.countBy_keepsOut (s : State) (c n : Nat) : s.KeepsOut (s.countBy c n) := State.keepsOut_of_fab (s.countBy_fab c n)

theorem State.enqueue_keepsOut (s : State) (p : TxPacket) : s.KeepsOut (s.enqueue p) := by
  unfold State.enqueue
  split
  · exact s.countBy_keepsOut _ _
  · exact fun q hq => List.mem_append_left _ hq

theorem State.queuePri_keepsOut (s : State) (p : TxPacket) : s.KeepsOut (s.queuePri p) := by
  simp only [State.queuePri]
  split
  · exact s.enqueue_keepsOut p
  · split
    · exact s.enqueue_keepsOut p
    · split
      · exact (s.enqueue_keepsOut _).trans (State.countBy_keepsOut _ _ _)
      · refine State.KeepsOut.trans ?_ (State.countBy_keepsOut _ _ _)
        exact (s.enqueue_keepsOut _).trans fun q hq => List.mem_append_left _ hq

theorem State.queueOn_keepsOut (s : State) (p : TxPacket) : s.KeepsOut (s.queueOn p) := by
  unfold State.queueOn
  split
  · exact State.queuePri_keepsOut (s.mapLink _ _) p
  · exact s.queuePri_keepsOut p

theorem State.deadEnd_keepsOut (s : State) (dst : NodeId) (cells : Nat) (first : Bool) : s.KeepsOut (s.deadEnd dst cells first) := by
  unfold State.deadEnd
  split_ifs
  · exact s.keepsOut_refl
  · exact s.countBy_keepsOut _ _
  · exact s.keepsOut_refl
  · exact s.countBy_keepsOut _ _
  · exact s.keepsOut_refl

theorem State.sendPacket_keepsOut (s : State) (dst : NodeId) (pri : BitVec 3) (typ : BitVec 4) (part : PartId) (body : PktBody) :
    s.KeepsOut (s.sendPacket dst pri typ part body) := by
  unfold State.sendPacket State.sendOnPorts
  split_ifs
  · exact s.keepsOut_refl
  · exact s.deadEnd_keepsOut _ _ _
  · exact State.KeepsOut.after (State.keepsOut_foldl (fun u _ => u.queueOn_keepsOut _) _ _) fun _ h => h

theorem State.askDiscard_keepsOut (s : State) (key : Nat) : s.KeepsOut (s.askDiscard key) := by
  unfold State.askDiscard
  split
  · exact s.keepsOut_refl
  · split
    · exact s.keepsOut_refl
    · exact State.KeepsOut.after (State.keepsOut_foldl (fun u _ => u.sendPacket_keepsOut _ _ _ _ _) _ _) fun _ h => h

theorem State.askDiscardAt_keepsOut (s : State) (part : PartId) (va n : Nat) : s.KeepsOut (s.askDiscardAt part va n) := by
  unfold State.askDiscardAt
  extract_lets key first
  have asked : s.KeepsOut first := by
    unfold first
    split
    · exact s.askDiscard_keepsOut _
    · exact s.keepsOut_refl
  split
  · exact asked
  · split
    · exact asked.trans (State.askDiscard_keepsOut _ _)
    · exact asked

theorem State.touch_keepsOut (s : State) (part : PartId) (va : Nat) : s.KeepsOut (s.touch part va) := by
  unfold State.touch
  split
  · exact s.keepsOut_refl
  · exact State.KeepsOut.after (State.countBy_keepsOut _ _ _) fun _ h => h

theorem State.storeBytes_keepsOut (s : State) (part : PartId) (va : Nat) (bs : List Byte) : s.KeepsOut (s.storeBytes part va bs) :=
  State.KeepsOut.after (State.keepsOut_foldl (fun u _ => u.touch_keepsOut _ _) _ _) fun _ h => h

theorem drainList_keepsOut (part : PartId) (l : List StoreEntry) (n : Nat) (held : List StoreEntry) (s : State) :
    s.KeepsOut (drainList part n held l s).1 := by
  induction l generalizing s n held with
  | nil => exact s.keepsOut_refl
  | cons e l ih =>
    unfold drainList
    split_ifs
    · exact ih _ _ s
    · exact (s.askDiscardAt_keepsOut _ _ _).trans (ih _ _ _)
    · exact (s.storeBytes_keepsOut _ _ _).trans (ih _ _ _)

theorem State.drain_keepsOut (s : State) (t : Nat) : s.KeepsOut (s.drain t) := by
  unfold State.drain State.drainSome
  split
  · exact s.keepsOut_refl
  · split
    · exact s.keepsOut_refl
    · exact drainList_keepsOut _ _ _ _ s

theorem State.placeOn_keepsOut (s : State) (t c : Nat) : s.KeepsOut (s.placeOn t c) := by
  unfold State.placeOn
  split
  · exact s.keepsOut_refl
  · split
    · exact s.keepsOut_refl
    · refine (s.drain_keepsOut t).trans ?_
      dsimp only
      split
      · exact State.keepsOut_refl _
      · split
        · exact State.keepsOut_of_fab (by rw [State.countFor_fab])
        · exact State.keepsOut_refl _

theorem placeList_keepsOut (l : List Nat) (s : State) : s.KeepsOut (placeList l s) := by
  induction l generalizing s with
  | nil => exact s.keepsOut_refl
  | cons t l ih =>
    unfold placeList
    split
    · split
      · exact (s.placeOn_keepsOut _ _).trans (ih _)
      · exact ih s
    · exact State.KeepsOut.after (ih _) fun _ h => h

theorem State.place_keepsOut (s : State) : s.KeepsOut s.place := by
  unfold State.place
  split
  · exact placeList_keepsOut _ s
  · exact s.keepsOut_refl

theorem State.makeWait_keepsOut (s : State) (t : Nat) (w : Wait) : s.KeepsOut (s.makeWait t w) := by
  unfold State.makeWait
  split
  · exact s.keepsOut_refl
  · exact State.KeepsOut.after (State.place_keepsOut _) fun _ h => h

/-! A packet below priority 7 is queued whole on every chain port whose queue is not full (R208, R216). -/

section

variable {p : TxPacket} (low : p.pri ≠ 7) (own : p.body.isForwarded = false)

include low own

theorem State.queueOn_out (s : State) :
    (s.queueOn p).fab.out = if s.queueFull p.link then s.fab.out else s.fab.out ++ [p] := by
  have joins : ∀ u : State, u.fab = s.fab →
      (u.queuePri p).fab.out = if s.queueFull p.link then s.fab.out else s.fab.out ++ [p] := by
    intro u same
    have full : u.queueFull p.link = s.queueFull p.link := by simp only [State.queueFull, same]
    simp only [State.queuePri, low, ne_eq, not_false_eq_true, if_true, State.enqueue, decide_true, own, Bool.not_false, Bool.true_and,
      full]
    split
    · rw [State.count_fab, same]
    · rw [same]
  unfold State.queueOn
  split
  · exact joins _ rfl
  · exact joins s rfl

theorem State.queueOn_queueFull (s : State) {l : ChainId} (other : p.link ≠ l) : (s.queueOn p).queueFull l = s.queueFull l := by
  have filtered : (s.queueOn p).fab.out.filter (fun q => decide (q.link = l)) = s.fab.out.filter fun q => decide (q.link = l) := by
    rw [State.queueOn_out low own]
    split
    · rfl
    · simp [List.filter_append, other]
  simp only [State.queueFull, filtered]

theorem State.queueOn_queues {s : State} (room : s.queueFull p.link = false) : p ∈ (s.queueOn p).fab.out := by
  rw [State.queueOn_out low own, room]
  simp

end

theorem State.queueOns_queue {q : ChainId → TxPacket} (low : ∀ l, (q l).pri ≠ 7) (own : ∀ l, (q l).body.isForwarded = false)
    (links : ∀ l, (q l).link = l) (ports : List ChainId) {l : ChainId} (mem : l ∈ ports) {s : State}
    (room : s.queueFull l = false) : q l ∈ (ports.foldl (fun u m => u.queueOn (q m)) s).fab.out := by
  induction ports generalizing s with
  | nil => exact absurd mem List.not_mem_nil
  | cons m ports ih =>
    rw [List.foldl_cons]
    by_cases first : m = l
    · subst first
      have queued := State.queueOn_queues (low m) (own m) (s := s) (by rwa [links])
      exact State.keepsOut_foldl (fun u _ => u.queueOn_keepsOut _) _ _ _ queued
    · refine ih ((List.mem_cons.mp mem).resolve_left (Ne.symm first)) ?_
      rwa [State.queueOn_queueFull (low m) (own m) s (by rwa [links])]

/-- A packet of a node with an address, for a node that no split has cut off. -/
theorem State.sendPacket_queues {s : State} {dst : NodeId} {pri : BitVec 3} {typ : BitVec 4} {part : PartId} {body : PktBody}
    (addr : s.fab.addr.isSome = true) (sound : s.fab.noAddr = false) (whole : s.cutOff dst = false) (low : pri ≠ 7)
    (own : body.isForwarded = false) {l : ChainId} (mem : l ∈ s.openPorts) (room : s.queueFull l = false) :
    ∃ p ∈ (s.sendPacket dst pri typ part body).fab.out, p.link = l ∧ p.dst = dst ∧ p.pri = pri ∧ p.typ = typ ∧ p.body = body := by
  have carried : s.openPorts.isEmpty = false := List.isEmpty_eq_false_iff.mpr (List.ne_nil_of_mem mem)
  have named : s.fab.addr.isNone = false := by rw [← Option.not_isSome, addr, Bool.not_true]
  let q : ChainId → TxPacket := fun m =>
    { dst := dst, src := s.senderNode, pri := pri, part := part, typ := typ, seq := s.fab.ownSeq, body := body, link := m, span := none }
  refine ⟨q l, ?_, rfl, rfl, rfl, rfl, rfl⟩
  simp only [State.sendPacket, State.sendOnPorts, named, sound, Bool.or_self, Bool.false_and, Bool.false_eq_true, if_false, carried, whole]
  exact State.queueOns_queue (q := q) (fun _ => low) (fun _ => own) (fun _ => rfl) s.openPorts mem (by exact room)

/-! What packets of this node change: the links, the fabric's queues and the counters (R213, R215, R482). -/

/-- `u` is `s` but for the links, the fabric and the records. -/
def State.OnlyQueues (s u : State) : Prop := ∃ links fab obs, u = { s with links := links, fab := fab, obs := obs }

theorem State.OnlyQueues.cpu_ms {s u : State} (h : s.OnlyQueues u) : u.cpu = s.cpu ∧ u.ms = s.ms := by
  obtain ⟨_, _, _, rfl⟩ := h
  exact ⟨rfl, rfl⟩

theorem State.onlyQueues_refl (s : State) : s.OnlyQueues s := ⟨_, _, _, rfl⟩

theorem State.OnlyQueues.trans {s u v : State} (h1 : s.OnlyQueues u) (h2 : u.OnlyQueues v) : s.OnlyQueues v := by
  obtain ⟨_, _, _, rfl⟩ := h1
  obtain ⟨l, f, o, rfl⟩ := h2
  exact ⟨l, f, o, rfl⟩

theorem State.onlyQueues_foldl {α : Type} {f : State → α → State} (hf : ∀ (s : State) (a : α), s.OnlyQueues (f s a)) (l : List α)
    (s : State) : s.OnlyQueues (l.foldl f s) := by
  induction l generalizing s with
  | nil => exact s.onlyQueues_refl
  | cons a l ih => exact (hf s a).trans (ih (f s a))

theorem State.countBy_onlyQueues (s : State) (c n : Nat) : s.OnlyQueues (s.countBy c n) := ⟨_, _, _, s.countBy_eq c n⟩

theorem State.mapLink_onlyQueues (s : State) (l : LinkId) (f : Link → Link) : s.OnlyQueues (s.mapLink l f) := ⟨_, _, _, rfl⟩

theorem State.enqueue_onlyQueues (s : State) (p : TxPacket) : s.OnlyQueues (s.enqueue p) := by
  unfold State.enqueue
  split
  · exact s.countBy_onlyQueues _ _
  · exact ⟨_, _, _, rfl⟩

theorem State.queuePri_onlyQueues (s : State) (p : TxPacket) : s.OnlyQueues (s.queuePri p) := by
  simp only [State.queuePri]
  split
  · exact s.enqueue_onlyQueues p
  · split
    · exact (s.enqueue_onlyQueues p).trans (State.mapLink_onlyQueues _ _ _)
    · split
      · exact (s.enqueue_onlyQueues _).trans (State.countBy_onlyQueues _ _ _)
      · refine State.OnlyQueues.trans ?_ (State.countBy_onlyQueues _ _ _)
        exact (s.enqueue_onlyQueues _).trans ⟨_, _, _, rfl⟩

theorem State.queueOn_onlyQueues (s : State) (p : TxPacket) : s.OnlyQueues (s.queueOn p) := by
  unfold State.queueOn
  split
  · exact (s.mapLink_onlyQueues _ _).trans (State.queuePri_onlyQueues _ p)
  · exact s.queuePri_onlyQueues p

theorem State.deadEnd_onlyQueues (s : State) (dst : NodeId) (cells : Nat) (first : Bool) :
    s.OnlyQueues (s.deadEnd dst cells first) := by
  unfold State.deadEnd
  split_ifs
  · exact s.onlyQueues_refl
  · exact s.countBy_onlyQueues _ _
  · exact s.onlyQueues_refl
  · exact s.countBy_onlyQueues _ _
  · exact s.onlyQueues_refl

theorem State.sendPacket_onlyQueues (s : State) (dst : NodeId) (pri : BitVec 3) (typ : BitVec 4) (part : PartId) (body : PktBody) :
    s.OnlyQueues (s.sendPacket dst pri typ part body) := by
  unfold State.sendPacket State.sendOnPorts
  split_ifs
  · exact s.onlyQueues_refl
  · exact s.deadEnd_onlyQueues _ _ _
  · exact State.OnlyQueues.trans ⟨_, _, _, rfl⟩ (State.onlyQueues_foldl (fun u _ => u.queueOn_onlyQueues _) _ _)

/-! O11: a global access to another node (R214, R216, R321, R322, R325). -/

theorem firstFree_lt {ok : Nat → Bool} {n i j : Nat} (h : firstFree ok n i = some j) : j < i + n := by
  induction n generalizing i with
  | zero => simp [firstFree] at h
  | succ n ih =>
    unfold firstFree at h
    split at h
    · obtain rfl := Option.some.inj h
      omega
    · have := ih h
      omega

/-- Every chain port that carries cells in `s` and has room holds in `u` the request for the `n` bytes at `ref` under tag `i`. -/
def State.asksAway (s u : State) (i : Nat) (ref : Word) (n : Nat) (op : Fin 5) : Prop :=
  ∀ l ∈ s.openPorts, s.queueFull l = false → ∃ p ∈ u.fab.out, ∃ q, p.link = l ∧ p.dst = refNode ref ∧ p.pri = 5 ∧ p.typ = 0 ∧
    p.body = .request q ∧ q.ref = ref ∧ q.bytes = n ∧ q.op = op ∧ q.tag.val = i ∧ q.deadline = s.fabNs + s.fab.tto * 1000

/-- A task of `s` whose access to another node is not a violation and not misaligned (R321). -/
structure State.Away (s : State) (k : Task) (ref : Word) (n : Nat) : Prop where
  part : k.part = 0 ∨ refPart ref = k.part
  aligned : refVa ref % n = 0
  away : s.isHere (refNode ref) = false
  reached : s.reachable (refNode ref) = true

theorem State.cutOff_of_reachable {s : State} {n : NodeId} (h : s.reachable n = true) : s.cutOff n = false := by
  simp only [State.reachable, Bool.and_eq_true, Bool.not_eq_true'] at h
  simp only [State.cutOff, h.1.2, Bool.and_false]

/-- `s` when the request of task `t` leaves: its tag is open, and its access is numbered (R214, R322). -/
def State.requesting (s : State) (t : Nat) (k : Task) (o : GlobalOp) (i : Nat) (ms : MemSys) : State :=
  { (s.openTag t k i o.ref (o.op = 1)).setTask t { k with gseq := k.gseq + 1 } with ms := ms }

section

variable {s : State} {t : TaskId} {k : Task} {gd : Reg} {o : GlobalOp} {i : Nat}

theorem globalAccess_posted (a : s.Away k o.ref o.bytes) (posted : s.postedAt t o.ref = true) :
    globalAccess t gd o k s = s.makeWait t (.retry false) := by
  have own : ¬(k.part ≠ 0 ∧ refPart o.ref ≠ k.part) := fun h => a.part.elim h.1 h.2
  have reached := a.reached
  simp only [globalAccess, own, if_false, a.aligned, ne_eq, not_true_eq_false, reached, Bool.or_true, posted, Bool.and_self, if_true]

theorem globalAccess_away (a : s.Away k o.ref o.bytes) (free : s.postedAt t o.ref = false) :
    globalAccess t gd o k s = match (if o.op = 0 then s.replicaOf o.ref else none) with
      | some r => replicaLoad t gd o k r s
      | none => globalAway t gd o k s := by
  have own : ¬(k.part ≠ 0 ∧ refPart o.ref ≠ k.part) := fun h => a.part.elim h.1 h.2
  simp only [globalAccess, own, if_false, a.aligned, ne_eq, not_true_eq_false, a.away, a.reached, free, Bool.and_false,
    Bool.false_eq_true, Bool.not_true] <;> rfl

/-- Where no tag is free, an access waits for one, also one that a replica would serve (R321). -/
theorem globalAccess_noTag (a : s.Away k o.ref o.bytes) (free : s.postedAt t o.ref = false) (none : s.freeTag = none) :
    globalAccess t gd o k s = s.makeWait t (.retry true) := by
  rw [globalAccess_away a free]
  split
  · simp only [replicaLoad, none]
  · simp only [globalAway, none]

/-- A load heats the page it reads (R372). -/
def State.readFrom (s : State) (o : GlobalOp) : State :=
  if o.op = 0 then
    let page := o.ref.toNat % 2 ^ 62 / 4096
    { s with ms := { s.ms with readHeat := tblPut page (min (tblGet 0 page s.ms.readHeat + 1) 65535) s.ms.readHeat } }
  else s

theorem State.readFrom_eq (s : State) (o : GlobalOp) : ∃ ms, s.readFrom o = { s with ms := ms } ∧ (o.op = 1 → ms = s.ms) := by
  unfold State.readFrom
  split
  · rename_i load
    exact ⟨_, rfl, fun store => absurd (load.symm.trans store) (by decide)⟩
  · exact ⟨s.ms, rfl, fun _ => rfl⟩

theorem State.bumpSeq_eq {v : State} (task : v.task? t = some k) : v.bumpSeq t = v.setTask t { k with gseq := k.gseq + 1 } := by
  simp only [State.bumpSeq, task]

/-- The access leaves a request, and its task goes on or waits (R322). -/
theorem globalAway_requests (task : s.task? t = some k) (tag : s.freeTag = some i) :
    ∃ ms x y, (o.op = 1 → ms = s.ms) ∧ globalAway t gd o k s =
      let v := ((s.requesting t k o i ms).counted x y).sendPacket (refNode o.ref) 5 0 k.part (.request (o.request s k s.senderNode i))
      if o.op = 1 then v.next t else v.makeWait t (.tag i gd o.bytes o.signed) := by
  obtain ⟨ms, read, kept⟩ := s.readFrom_eq o
  obtain ⟨x, y, counts⟩ : ∃ x y, o.counted k (s.readFrom o) = (s.readFrom o).counted x y := ⟨_, _, State.countFor_eq _ _ _⟩
  rw [read] at counts
  refine ⟨ms, x, y, kept, ?_⟩
  have leaves : globalAway t gd o k s =
      let v := (((o.counted k (s.readFrom o)).openTag t k i o.ref (o.op = 1)).bumpSeq t).sendPacket (refNode o.ref) 5 0 k.part
        (.request (o.request s k s.senderNode i))
      if o.op = 1 then v.next t else v.makeWait t (.tag i gd o.bytes o.signed) := by
    simp only [globalAway, tag]
    rfl
  rw [leaves, read, counts, State.bumpSeq_eq (by exact task)]
  rfl

/-- The state when the request leaves has the queues and the links of `s`. -/
theorem State.requesting_asks (a : s.Away k o.ref o.bytes) (addr : s.fab.addr.isSome = true) (sound : s.fab.noAddr = false)
    (tag : s.freeTag = some i) {v : State} (queues : v.links = s.links) {tags : List (Nat × Tag)} (fab : v.fab = { s.fab with tags := tags }) :
    s.asksAway (v.sendPacket (refNode o.ref) 5 0 k.part (.request (o.request s k s.senderNode i))) i o.ref o.bytes o.op := by
  intro l carries room
  have lines : v.openPorts = s.openPorts := by simp only [State.openPorts, queues]
  have whole : v.cutOff (refNode o.ref) = false := by
    have cut := State.cutOff_of_reachable a.reached
    simpa only [State.cutOff, fab] using cut
  have full : v.queueFull l = false := by simpa only [State.queueFull, fab] using room
  obtain ⟨p, queued, link, dst, pri, typ, body⟩ := State.sendPacket_queues (s := v) (dst := refNode o.ref) (pri := 5) (typ := 0)
    (part := k.part) (body := .request (o.request s k s.senderNode i)) (by rw [fab]; exact addr) (by rw [fab]; exact sound) whole
    (by decide) rfl (by rw [lines]; exact carries) full
  have small : i < 4096 := by simpa using firstFree_lt tag
  exact ⟨p, queued, _, link, dst, pri, typ, body, rfl, rfl, rfl, Nat.mod_eq_of_lt small, rfl⟩

/-- A load or an atomic waits for its response (R322). -/
theorem globalAway_waits (a : s.Away k o.ref o.bytes) (addr : s.fab.addr.isSome = true) (sound : s.fab.noAddr = false)
    (task : s.task? t = some k) (idle : t.val ∉ s.cpu.ready) (tag : s.freeTag = some i) (answered : o.op ≠ 1) :
    s.asksAway (globalAway t gd o k s) i o.ref o.bytes o.op ∧
      (globalAway t gd o k s).task? t = some { k with gseq := k.gseq + 1, st := .waiting (.tag i gd o.bytes o.signed) } := by
  obtain ⟨ms, x, y, -, leaves⟩ := globalAway_requests (gd := gd) (o := o) task tag
  let v := (s.requesting t k o i ms).counted x y
  have asks := State.requesting_asks (v := v) a addr sound tag rfl rfl
  have kept := v.sendPacket_keepsTasks (refNode o.ref) 5 0 k.part (.request (o.request s k s.senderNode i))
  have own : v.task? t = some { k with gseq := k.gseq + 1 } := State.task?_setTask s t _
  rw [leaves]
  simp only [answered, if_false]
  constructor
  · intro l carries room
    obtain ⟨p, queued, holds⟩ := asks l carries room
    exact ⟨p, State.makeWait_keepsOut _ _ _ p queued, holds⟩
  · refine State.makeWait_task? ((State.task?_of_cpu kept.cpu t).trans own) ?_ _
    rw [kept.cpu]
    exact idle

theorem State.becomes_fab {s u : State} {t : Nat} {k : Task} (h : s.becomes u t k) : u.fab = s.fab := by
  unfold State.becomes at h
  rw [h]

/-- A store is posted, and its task goes on (R322). -/
theorem globalAway_posts (a : s.Away k o.ref o.bytes) (addr : s.fab.addr.isSome = true) (sound : s.fab.noAddr = false)
    (task : s.task? t = some k) (hn : s.nextOk k) (tag : s.freeTag = some i) (posted : o.op = 1) :
    s.asksAway (globalAway t gd o k s) i o.ref o.bytes o.op ∧
      (globalAway t gd o k s).task? t = some { k with gseq := k.gseq + 1, pc := k.pc + 4 } := by
  obtain ⟨ms, x, y, same, leaves⟩ := globalAway_requests (gd := gd) (o := o) task tag
  let v := (s.requesting t k o i ms).counted x y
  have asks := State.requesting_asks (v := v) a addr sound tag rfl rfl
  obtain ⟨cpu, mem⟩ := (v.sendPacket_onlyQueues (refNode o.ref) 5 0 k.part (.request (o.request s k s.senderNode i))).cpu_ms
  rw [leaves]
  simp only [posted, if_true]
  rw [posted] at asks
  generalize v.sendPacket (refNode o.ref) 5 0 k.part (.request (o.request s k s.senderNode i)) = w at asks cpu mem ⊢
  have own : w.task? t = some { k with gseq := k.gseq + 1 } := (State.task?_of_cpu cpu t).trans (State.task?_setTask s t _)
  have ends := State.next_becomes own (by rw [State.fetchClean_congr (mem.trans (same posted))]; exact hn)
  refine ⟨fun l carries room => ?_, State.task?_becomes ends⟩
  rw [State.becomes_fab ends]
  exact asks l carries room

section

variable (s : State) (x : List (Nat × BitVec 48)) (y : List (Nat × (Nat × Nat)))

@[simp] theorem State.counted_postedAt : (s.counted x y).postedAt = s.postedAt := rfl

@[simp] theorem State.counted_freeTag : (s.counted x y).freeTag = s.freeTag := rfl

@[simp] theorem State.counted_replicaOf : (s.counted x y).replicaOf = s.replicaOf := rfl

@[simp] theorem State.counted_asksAway : (s.counted x y).asksAway = s.asksAway := rfl

end

theorem State.Away.counted {ref : Word} {n : Nat} (a : s.Away k ref n) (x : List (Nat × BitVec 48)) (y : List (Nat × (Nat × Nat))) :
    (s.counted x y).Away k ref n := ⟨a.part, a.aligned, a.away, a.reached⟩

end

/-! The instructions of R320 and R323 are the accesses of their tables. -/

theorem exec_gld {e : (TaskId → Reg → Reg → BitVec 16 → Instr) × Nat × (Nat → Word)} (he : e ∈ resultsGld) :
    ∃ sg, ∀ t gd ga imm s, exec (e.1 t gd ga imm) s = globalLoad t gd ga imm e.2.1 sg s := by
  simp only [resultsGld, List.mem_cons, List.not_mem_nil, or_false] at he
  rcases he with rfl | rfl | rfl | rfl | rfl | rfl | rfl <;> exact ⟨_, fun _ _ _ _ _ => rfl⟩

theorem exec_gst {e : (TaskId → Reg → Reg → BitVec 16 → Instr) × Nat} (he : e ∈ resultsGst) (t : TaskId) (gd ga : Reg) (imm : BitVec 16)
    (s : State) : exec (e.1 t gd ga imm) s = globalStore t gd ga imm e.2 s := by
  simp only [resultsGst, List.mem_cons, List.not_mem_nil, or_false] at he
  rcases he with rfl | rfl | rfl | rfl <;> rfl

theorem exec_atomic {e : (TaskId → Reg → Reg → Reg → Instr) × Nat × (Nat → Nat → Nat → Nat)} (he : e ∈ resultsA) :
    ∃ op : Fin 5, 2 ≤ op ∧ ∀ t gd ga gb s, exec (e.1 t gd ga gb) s = atomic t gd ga gb op e.2.1 s := by
  simp only [resultsA, List.mem_cons, List.not_mem_nil, or_false] at he
  rcases he with rfl | rfl | rfl | rfl | rfl | rfl <;> exact ⟨_, by decide, fun _ _ _ _ _ => rfl⟩

/-- An access to another node that finds no free tag, or a posted store of its task before it, waits (R321, R325). -/
theorem globalAccess_retries {s : State} {t : TaskId} {k : Task} {gd : Reg} {o : GlobalOp} (tag : Bool) (task : s.task? t = some k)
    (idle : t.val ∉ s.cpu.ready) (a : s.Away k o.ref o.bytes)
    (why : if tag then s.postedAt t o.ref = false ∧ s.freeTag = none else s.postedAt t o.ref = true) :
    (globalAccess t gd o k s).task? t = some { k with st := .waiting (.retry tag) } := by
  have waits : globalAccess t gd o k s = s.makeWait t (.retry tag) := by
    cases tag with
    | false => exact globalAccess_posted a why
    | true => exact globalAccess_noTag a why.1 why.2
  rw [waits]
  exact State.makeWait_task? task idle _

section

variable {s : State} {t : TaskId} {k : Task} {c i : Nat} {gd : Reg} {access : Task → GlobalOp} (h : s.runs t k c)
  (a : s.Away k (access k).ref (access k).bytes)

include h a

theorem onEngine_asks (addr : s.fab.addr.isSome = true) (sound : s.fab.noAddr = false) (idle : t.val ∉ s.cpu.ready)
    (free : s.postedAt t (access k).ref = false) (tag : s.freeTag = some i) (answered : (access k).op ≠ 1)
    (fresh : (access k).op = 0 → s.replicaOf (access k).ref = none) :
    ∃ u, onEngine t 1 s (fun k' v => globalAccess t gd (access k') k' v) = .next u ∧
      s.asksAway u i (access k).ref (access k).bytes (access k).op ∧
      u.task? t = some { k with gseq := k.gseq + 1, st := .waiting (.tag i gd (access k).bytes (access k).signed) } := by
  refine onEngine_counted h fun x y => ?_
  have away : globalAccess t gd (access k) k (s.counted x y) = globalAway t gd (access k) k (s.counted x y) := by
    rw [globalAccess_away (a.counted x y) (by rw [State.counted_postedAt]; exact free), State.counted_replicaOf]
    split
    · rename_i r found
      split at found
      · rename_i load
        rw [fresh load] at found
        exact absurd found (by simp)
      · exact absurd found (by simp)
    · rfl
  rw [away, ← State.counted_asksAway s x y]
  exact globalAway_waits (a.counted x y) addr sound h.1 idle (by rw [State.counted_freeTag]; exact tag) answered

theorem onEngine_posts (hn : s.nextOk k) (addr : s.fab.addr.isSome = true) (sound : s.fab.noAddr = false)
    (free : s.postedAt t (access k).ref = false) (tag : s.freeTag = some i) (posted : (access k).op = 1) :
    ∃ u, onEngine t 1 s (fun k' v => globalAccess t gd (access k') k' v) = .next u ∧
      s.asksAway u i (access k).ref (access k).bytes (access k).op ∧
      u.task? t = some { k with gseq := k.gseq + 1, pc := k.pc + 4 } := by
  refine onEngine_counted h fun x y => ?_
  have away : globalAccess t gd (access k) k (s.counted x y) = globalAway t gd (access k) k (s.counted x y) := by
    rw [globalAccess_away (a.counted x y) (by rw [State.counted_postedAt]; exact free), posted]
    rfl
  rw [away, ← State.counted_asksAway s x y]
  exact globalAway_posts (a.counted x y) addr sound h.1 hn (by rw [State.counted_freeTag]; exact tag) posted

theorem onEngine_retries (idle : t.val ∉ s.cpu.ready) (tag : Bool)
    (why : if tag then s.postedAt t (access k).ref = false ∧ s.freeTag = none else s.postedAt t (access k).ref = true) :
    ∃ u, onEngine t 1 s (fun k' v => globalAccess t gd (access k') k' v) = .next u ∧
      u.task? t = some { k with st := .waiting (.retry tag) } := by
  refine onEngine_counted h fun x y => ?_
  exact globalAccess_retries tag h.1 idle (a.counted x y) (by rw [State.counted_postedAt, State.counted_freeTag]; exact why)

end

/-- Settles O11: the request is queued on every open chain port before the task waits or goes on, and what waits for a tag or for an
earlier store of the task sends nothing. -/
theorem globalAccessAway : Obligations.GlobalAccessAway := by
  intro s t k c gd ga gb imm i h hn idle addr sound away goes sent waits
  refine ⟨fun e he => ?_, fun e he => ?_, fun e he => ?_, fun tag => ⟨fun e he => ?_, fun e he => ?_, fun e he => ?_⟩⟩
  · obtain ⟨sg, runs⟩ := exec_gld he
    rintro ⟨⟨part, aligned, other, reached⟩, free, found⟩ fresh
    obtain ⟨u, done, asked, task⟩ := onEngine_asks (gd := gd) (access := fun k' => ⟨0, e.2.1, sg, refAdd (k'.get ga) imm, 0, 0⟩) h
      ⟨part, aligned, other, reached⟩ addr sound idle free found (show (0 : Fin 5) ≠ 1 by decide) fun _ => fresh
    exact ⟨u, sg, (runs _ _ _ _ _).trans done, asked, task⟩
  · obtain ⟨op, high, runs⟩ := exec_atomic he
    rintro ⟨⟨part, aligned, other, reached⟩, free, found⟩
    obtain ⟨u, done, asked, task⟩ := onEngine_asks (gd := gd)
      (access := fun k' => ⟨op, e.2.1, e.2.1 = 4, k'.get ga, k'.get gb, k'.get gd⟩) h ⟨part, aligned, other, reached⟩ addr sound idle
      free found (by rintro rfl; exact absurd high (by decide)) (by rintro rfl; exact absurd high (by decide))
    exact ⟨u, _, op, (runs _ _ _ _ _).trans done, asked, task⟩
  · rintro ⟨⟨part, aligned, other, reached⟩, free, found⟩
    obtain ⟨u, done, asked, task⟩ := onEngine_posts (gd := 0)
      (access := fun k' => ⟨1, e.2, false, refAdd (k'.get ga) imm, k'.get gd, 0⟩) h ⟨part, aligned, other, reached⟩ hn addr sound
      free found rfl
    exact ⟨u, (exec_gst he _ _ _ _ _).trans done, asked, task⟩
  · obtain ⟨sg, runs⟩ := exec_gld he
    rintro ⟨⟨part, aligned, other, reached⟩, why⟩
    rw [runs]
    exact onEngine_retries (access := fun k' => ⟨0, e.2.1, sg, refAdd (k'.get ga) imm, 0, 0⟩) h ⟨part, aligned, other, reached⟩ idle
      tag why
  · obtain ⟨op, high, runs⟩ := exec_atomic he
    rintro ⟨⟨part, aligned, other, reached⟩, why⟩
    rw [runs]
    exact onEngine_retries (access := fun k' => ⟨op, e.2.1, e.2.1 = 4, k'.get ga, k'.get gb, k'.get gd⟩) h
      ⟨part, aligned, other, reached⟩ idle tag why
  · rintro ⟨⟨part, aligned, other, reached⟩, why⟩
    rw [exec_gst he]
    exact onEngine_retries (access := fun k' => ⟨1, e.2, false, refAdd (k'.get ga) imm, k'.get gd, 0⟩) h
      ⟨part, aligned, other, reached⟩ idle tag why

end Sys2Proof.Machine

namespace Sys2Proof.Machine

/-! The node's place in the fabric, which tasks, memory, packets and faults leave alone (R193 to R213). -/

/-- A link without what its own packets write to it. -/
def Link.beside (x : Link) : Link := { x with p7 := [], askUp := false }

/-- What a node's links and fabric registers hold apart from the traffic of its tasks and messages: no held report, tag, request for the
head or window of numbers is told, and of the packets queued only those on a link that carries none. -/
def State.net (s : State) : Fab × Vector Link 4 :=
  ({ s.fab with
      held := [], tags := [], asks := [], ownSeq := 0, seen := [], dup := false, stale := false, late := [], partial' := []
      out := s.fab.out.filter fun p => !s.links[chainLink p.link].carries },
    s.links.map Link.beside)

/-- Whatever else of the state is replaced, links and fabric registers are as they were. -/
@[simp] theorem State.net_update (s : State) (pending : List Instr) (free : Nat) (clk : Clock) (cpu : Cpu) (parts : Vector Part 8)
    (pw : PartWords) (mail : List (Nat × List Msg)) (ms : MemSys) (rad : Radio) (cht : Charter) (ports : Vector Port 4) (syn : Syn)
    (tsu : Tsu) (hpi : Hpi) (pwr : Pwr) (thm : Thm) (obs : Obs) (svc : Svc) (tap : Tap) :
    ({ s with
        pending := pending, free := free, clk := clk, cpu := cpu, parts := parts, pw := pw, mail := mail, ms := ms, rad := rad,
        cht := cht, ports := ports, syn := syn, tsu := tsu, hpi := hpi, pwr := pwr, thm := thm, obs := obs, svc := svc,
        tap := tap } : State).net = s.net := rfl

theorem State.net_foldl {α : Type} {f : State → α → State} (hf : ∀ (s : State) (a : α), (f s a).net = s.net) (l : List α)
    (s : State) : (l.foldl f s).net = s.net := by
  induction l generalizing s with
  | nil => rfl
  | cons a l ih => exact (ih _).trans (hf s a)

theorem State.net_congr {s u : State} (fab : u.fab = s.fab) (links : u.links = s.links) : u.net = s.net := by
  simp only [State.net, fab, links]

theorem Link.carries_of_beside {x y : Link} (h : x.beside = y.beside) : x.carries = y.carries := by
  have st : x.beside.st = y.beside.st := by rw [h]
  replace st : x.st = y.st := st
  simp only [Link.carries, st]

theorem State.beside_of_net {s u : State} (h : u.net = s.net) (l : LinkId) : (u.links[l]).beside = (s.links[l]).beside := by
  have links : u.links.map Link.beside = s.links.map Link.beside := congrArg Prod.snd h
  have at' := congrArg (fun v : Vector Link 4 => v[l]) links
  simpa using at'

theorem State.carries_of_net {s u : State} (h : u.net = s.net) (l : LinkId) : u.links[l].carries = s.links[l].carries :=
  Link.carries_of_beside (State.beside_of_net h l)

/-! Records, counts, lines and faults. -/

@[simp] theorem State.countBy_net (s : State) (c n : Nat) : (s.countBy c n).net = s.net :=
  State.net_congr (s.countBy_fab c n) (s.countBy_links c n)

@[simp] theorem State.count_net (s : State) (c : Nat) : (s.count c).net = s.net := s.countBy_net c 1

@[simp] theorem State.countFor_net (s : State) (p : PartId) (c : Nat) : (s.countFor p c).net = s.net :=
  State.net_congr (s.countFor_fab p c) (s.countFor_links p c)

@[simp] theorem State.countInstr_net (s : State) (k : Task) : (s.countInstr k).net = s.net :=
  State.net_congr (s.countInstr_fab k) (s.countInstr_links k)

@[simp] theorem State.setTask_net (s : State) (t : Nat) (k : Task) : (s.setTask t k).net = s.net := rfl

@[simp] theorem State.setBox_net (s : State) (k : Nat) (l : List Msg) : (s.setBox k l).net = s.net := rfl

@[simp] theorem State.setSlot_net (s : State) (k : Nat) (x : Slot) : (s.setSlot k x).net = s.net := rfl

@[simp] theorem State.mapSlot_net (s : State) (k : Nat) (f : Slot → Slot) : (s.mapSlot k f).net = s.net := rfl

@[simp] theorem State.mapPart_net (s : State) (p : PartId) (f : Part → Part) : (s.mapPart p f).net = s.net := rfl

@[simp] theorem State.countSource_net (s : State) (k : Nat) : (s.countSource k).net = s.net := rfl

@[simp] theorem State.lineRise_net (s : State) (n : SubId) (kind : Byte) : (s.lineRise n kind).net = s.net := by
  unfold State.lineRise
  split <;> rfl

@[simp] theorem State.lineFall_net (s : State) (n : SubId) : (s.lineFall n).net = s.net := by
  unfold State.lineFall
  split <;> rfl

@[simp] theorem State.linePulse_net (s : State) (n : SubId) (kind : Byte) : (s.linePulse n kind).net = s.net := by
  unfold State.linePulse
  split <;> simp

@[simp] theorem State.logFull_net (s : State) (code : Nat) (fl : RecFlags) (node : NodeId) (part p0 p1 p2 p3 : Nat) :
    (s.logFull code fl node part p0 p1 p2 p3).net = s.net := by
  simp only [State.logFull]
  split
  · rfl
  · split <;> simp

@[simp] theorem State.log_net (s : State) (code p0 p1 p2 : Nat) : (s.log code p0 p1 p2).net = s.net := s.logFull_net _ _ _ _ _ _ _ _

@[simp] theorem State.logFault_net (s : State) (m : BitVec 128) (k : Byte) : (s.logFault m k).net = s.net :=
  s.logFull_net _ _ _ _ _ _ _ _

@[simp] theorem State.placeFault_net (s : State) (m : BitVec 128) (k : Byte) : (s.placeFault m k).net = s.net := by
  simp only [State.placeFault]
  split <;> simp

@[simp] theorem State.net_held (s : State) (held : List HeldFault) :
    ({ s with fab := { s.fab with held := held } } : State).net = s.net := rfl

@[simp] theorem State.holdFault_net (s : State) (m : BitVec 128) (via : Option ChainId) : (s.holdFault m via).net = s.net := by
  simp only [State.holdFault]
  split <;> simp

@[simp] theorem State.codedFaultN_net (s : State) (sub kind part : Nat) (addr : Word) (n : Nat) (exc : Option Nat) :
    (s.codedFaultN sub kind part addr n exc).net = s.net := by
  simp only [State.codedFaultN]
  split
  · rw [State.logFault_net]
    rfl
  · split
    · rw [State.logFault_net]
      rfl
    · cases exc <;> · dsimp only; split <;> simp

@[simp] theorem State.codedFault_net (s : State) (sub kind part : Nat) (addr : Word) : (s.codedFault sub kind part addr).net = s.net :=
  s.codedFaultN_net _ _ _ _ _ _

@[simp] theorem State.violation_net (s : State) (p : PartId) (kind : Byte) : (s.violation p kind).net = s.net := by
  simp [State.violation]

/-! Memory and its errors. -/

@[simp] theorem State.touch_net (s : State) (part : PartId) (va : Nat) : (s.touch part va).net = s.net := by
  unfold State.touch
  split <;> simp

@[simp] theorem State.touchRange_net (s : State) (part : PartId) (va n : Nat) : (s.touchRange part va n).net = s.net :=
  State.net_foldl (fun u _ => u.touch_net _ _) _ s

@[simp] theorem State.frameGone_net (s : State) (t g : Nat) : (s.frameGone t g).net = s.net := by
  simp [State.frameGone]

@[simp] theorem State.leaveFrame_net (s : State) (t g : Nat) (ce : List Nat) : (s.leaveFrame t g ce).net = s.net := by
  simp only [State.leaveFrame]
  split
  · simp
  · split <;> simp

@[simp] theorem State.takeFrame_net (s : State) (t g : Nat) : (s.takeFrame t g).1.net = s.net := by
  simp only [State.takeFrame]
  split
  · rfl
  · split <;> rfl

@[simp] theorem State.mapPage_net (s : State) (p : Page) (f : Page → Page) : (s.mapPage p f).net = s.net := rfl

@[simp] theorem State.dropFlaw_net (s : State) (f : Flaw) : (s.dropFlaw f).net = s.net := rfl

@[simp] theorem State.uncorrected_net (s : State) (part : PartId) (va : Nat) : (s.uncorrected part va).net = s.net := by
  simp [State.uncorrected]

@[simp] theorem State.poisonBlock_net (s : State) (part : PartId) (va : Nat) : (s.poisonBlock part va).net = s.net := by
  simp [State.poisonBlock]

@[simp] theorem State.corrected_net (s : State) : s.corrected.net = s.net := by
  simp [State.corrected]

@[simp] theorem State.carryFlaws_net (s : State) (p : Page) (copy : Bool) : (s.carryFlaws p copy).1.net = s.net := by
  refine State.net_foldl (fun u f => ?_) _ s
  unfold State.carryFlaw
  split <;> simp

@[simp] theorem State.releaseCopy_net (s : State) (p : Page) : (s.releaseCopy p).net = s.net := by
  simp only [State.releaseCopy, State.net_update]
  exact State.net_foldl (fun u f => by simp) _ s

@[simp] theorem State.reframe_net (s : State) (p : Page) (tier : BitVec 2) (gone : Bool) : (s.reframe p tier gone).net = s.net := by
  cases gone <;> · simp only [State.reframe]; split_ifs <;> simp

@[simp] theorem State.dropColdReplica_net (s : State) : s.dropColdReplica.net = s.net := by
  simp only [State.dropColdReplica]
  split <;> simp

@[simp] theorem State.makeRoom_net (s : State) (g : Nat) : (s.makeRoom g).net = s.net := by
  refine State.net_foldl (fun u i => ?_) _ s
  split <;> simp

@[simp] theorem State.retireFrame_net (s : State) (p : Page) (copy : Bool) : (s.retireFrame p copy).net = s.net := by
  simp only [State.retireFrame]
  split
  · split <;> simp
  · split
    · rw [State.count_net, State.reframe_net]
      split <;> simp
    · rfl

@[simp] theorem State.correctedError_net (s : State) (p : Page) (copy : Bool) : (s.correctedError p copy).net = s.net := by
  unfold State.correctedError
  extract_lets times s1
  have counted : s1.net = s.net := by simp [s1]
  split
  · rw [State.retireFrame_net, counted]
  · exact counted

@[simp] theorem State.meetFlaw_net (s : State) (part : PartId) (f : Flaw) : (s.meetFlaw part f).net = s.net := by
  unfold State.meetFlaw
  split
  · rfl
  · split
    · simp
    · dsimp only
      split <;> simp

@[simp] theorem State.readErrors_net (s : State) (part : PartId) (va n : Nat) : (s.readErrors part va n).net = s.net :=
  State.net_foldl (fun u f => u.meetFlaw_net _ f) _ s

@[simp] theorem State.storeBytes_net (s : State) (part : PartId) (va : Nat) (bs : List Byte) : (s.storeBytes part va bs).net = s.net := by
  simp only [State.storeBytes, State.touchRange_net]
  rfl

@[simp] theorem State.freeFrames_net (s : State) (p : Page) : (s.freeFrames p).net = s.net := by
  simp only [State.freeFrames]
  split <;> simp

@[simp] theorem State.freeReleased_net (s : State) : s.freeReleased.net = s.net :=
  State.net_foldl (fun u q => u.freeFrames_net q) _ _

/-! Packets: a link that carries them, and only that, has more in its queue. -/

/-- What a packet writes to its link is not told. -/
theorem State.net_mapLink {s : State} {l : LinkId} {f : Link → Link} (h : (f s.links[l]).beside = (s.links[l]).beside) :
    (s.mapLink l f).net = s.net := by
  have beside : ∀ m : LinkId, ((s.mapLink l f).links[m]).beside = (s.links[m]).beside := by
    intro m
    by_cases same : l = m
    · subst same
      simpa using h
    · have other : l.val ≠ m.val := fun e => same (Fin.ext e)
      simp [other]
  have links : (s.mapLink l f).links.map Link.beside = s.links.map Link.beside := by
    ext1 i hi
    rw [Vector.getElem_map, Vector.getElem_map]
    exact beside ⟨i, hi⟩
  have carries : ∀ m : LinkId, (s.mapLink l f).links[m].carries = s.links[m].carries := fun m => Link.carries_of_beside (beside m)
  simp only [State.net, links, carries, State.mapLink_fab]

section

variable {s : State} {p : TxPacket} (h : s.links[chainLink p.link].carries = true)

include h

theorem State.net_queued : ({ s with fab := { s.fab with out := s.fab.out ++ [p] } } : State).net = s.net := by
  have not : (!s.links[chainLink p.link].carries) = false := by rw [h]; rfl
  simp only [State.net, List.filter_append, List.filter_cons, not, Bool.false_eq_true, if_false, List.filter_nil, List.append_nil]

theorem State.enqueue_net : (s.enqueue p).net = s.net := by
  unfold State.enqueue
  split
  · simp
  · exact State.net_queued h

theorem State.queuePri_net : (s.queuePri p).net = s.net := by
  simp only [State.queuePri]
  split
  · exact State.enqueue_net h
  · split
    · exact (State.net_mapLink (by rfl)).trans (State.enqueue_net h)
    · split
      · rw [State.countBy_net]
        exact State.enqueue_net (by exact h)
      · rw [State.countBy_net]
        refine (State.net_mapLink (by rfl)).trans ?_
        generalize min p.body.cells _ = keep
        have first : (s.enqueue { p with span := some (0, keep) }).net = s.net := State.enqueue_net (by exact h)
        refine Eq.trans ?_ first
        exact State.net_queued (p := { p with pri := 6, span := _ }) ((State.carries_of_net first _).trans h)

theorem State.queueOn_net : (s.queueOn p).net = s.net := by
  unfold State.queueOn
  split
  · have asked : (s.mapLink (chainLink p.link) fun x => { x with askUp := true }).net = s.net := State.net_mapLink rfl
    exact (State.queuePri_net ((State.carries_of_net asked _).trans h)).trans asked
  · exact State.queuePri_net h

end

@[simp] theorem State.deadEnd_net (s : State) (dst : NodeId) (cells : Nat) (first : Bool) : (s.deadEnd dst cells first).net = s.net := by
  unfold State.deadEnd
  split_ifs <;> simp

theorem State.queueOns_net {q : ChainId → TxPacket} (links : ∀ l, (q l).link = l) (ports : List ChainId) {s : State}
    (h : ∀ l ∈ ports, s.links[chainLink l].carries = true) : (ports.foldl (fun u l => u.queueOn (q l)) s).net = s.net := by
  induction ports generalizing s with
  | nil => rfl
  | cons m ports ih =>
    obtain ⟨first, rest⟩ := List.forall_mem_cons.mp h
    have queued : (s.queueOn (q m)).net = s.net := State.queueOn_net (by simpa only [links] using first)
    rw [List.foldl_cons]
    exact (ih fun l hl => (State.carries_of_net queued _).trans (rest l hl)).trans queued

@[simp] theorem State.sendPacket_net (s : State) (dst : NodeId) (pri : BitVec 3) (typ : BitVec 4) (part : PartId) (body : PktBody) :
    (s.sendPacket dst pri typ part body).net = s.net := by
  unfold State.sendPacket State.sendOnPorts
  split_ifs
  · rfl
  · simp
  · refine (State.queueOns_net (fun _ => rfl) _ fun l hl => ?_).trans rfl
    exact of_decide_eq_true (by simpa [State.openPorts] using hl)

@[simp] theorem State.askDiscard_net (s : State) (key : Nat) : (s.askDiscard key).net = s.net := by
  unfold State.askDiscard
  split
  · rfl
  · split
    · rfl
    · exact State.net_foldl (fun u _ => u.sendPacket_net _ _ _ _ _) _ _

@[simp] theorem State.askDiscardAt_net (s : State) (part : PartId) (va n : Nat) : (s.askDiscardAt part va n).net = s.net := by
  unfold State.askDiscardAt
  extract_lets key first
  have asked : first.net = s.net := by
    unfold first
    split <;> simp
  split
  · exact asked
  · split
    · simpa using asked
    · exact asked

@[simp] theorem drainList_net (part : PartId) (l : List StoreEntry) (n : Nat) (held : List StoreEntry) (s : State) :
    (drainList part n held l s).1.net = s.net := by
  induction l generalizing s n held with
  | nil => rfl
  | cons e l ih =>
    unfold drainList
    split_ifs <;> simp [ih]

@[simp] theorem State.drain_net (s : State) (t : Nat) : (s.drain t).net = s.net := by
  unfold State.drain State.drainSome
  split
  · rfl
  · split
    · rfl
    · exact drainList_net _ _ _ _ s

/-! Tasks: placement, ends, exceptions and wakes. -/

@[simp] theorem State.placeOn_net (s : State) (t c : Nat) : (s.placeOn t c).net = s.net := by
  unfold State.placeOn
  split
  · rfl
  · split
    · rfl
    · dsimp only
      split
      · simp
      · split <;> simp

@[simp] theorem placeList_net (l : List Nat) (s : State) : (placeList l s).net = s.net := by
  induction l generalizing s with
  | nil => rfl
  | cons t l ih =>
    unfold placeList
    split
    · split <;> simp [ih]
    · exact ih _

@[simp] theorem State.place_net (s : State) : s.place.net = s.net := by
  unfold State.place
  split <;> simp

@[simp] theorem State.makeReady_net (s : State) (t : Nat) : (s.makeReady t).net = s.net := by
  unfold State.makeReady
  split <;> simp

@[simp] theorem State.makeWait_net (s : State) (t : Nat) (w : Wait) : (s.makeWait t w).net = s.net := by
  unfold State.makeWait
  split <;> simp

@[simp] theorem State.dropPend_net (s : State) (t : Nat) : (s.dropPend t).net = s.net := rfl

@[simp] theorem State.freeIndex_net (s : State) (t : Nat) : (s.freeIndex t).net = s.net := rfl

@[simp] theorem State.taught_net (s : State) (t : Nat) (l : List (Nat × Nat)) : (s.taught t l).net = s.net := by
  unfold State.taught
  split <;> rfl

@[simp] theorem State.publish_net (s : State) (t : Nat) : (s.publish t).net = s.net := by
  unfold State.publish
  dsimp only
  split <;> rfl

@[simp] theorem State.dropAsk_net (s : State) (k : Nat) : (s.dropAsk k).net = s.net := rfl

@[simp] theorem State.dropWait_net (s : State) (t : Nat) : (s.dropWait t).net = s.net := by
  unfold State.dropWait
  split
  · split <;> rfl
  · rfl

@[simp] theorem State.endTask0_net (s : State) (t : Nat) (v : Word) : (s.endTask0 t v).net = s.net := by
  unfold State.endTask0
  split <;> simp

@[simp] theorem State.exceptionEnd_net (s : State) (t : Nat) (cause : Byte) (pc addr : Word) (n : Nat) :
    (s.exceptionEnd t cause pc addr n).net = s.net := by
  unfold State.exceptionEnd
  split <;> simp

@[simp] theorem State.exception0_net (s : State) (t : Nat) (cause : Byte) (pc addr : Word) (n : Nat) :
    (s.exception0 t cause pc addr n).net = s.net := by
  unfold State.exception0
  split
  · rfl
  · split
    · dsimp only
      split_ifs <;> simp
    · simp

@[simp] theorem State.goto0_net (s : State) (t : Nat) (target : Word) : (s.goto0 t target).net = s.net := by
  unfold State.goto0
  split
  · rfl
  · split_ifs <;> simp

@[simp] theorem State.putReg_net (s : State) (t : Nat) (r : Reg) (v : Word) : (s.putReg t r v).net = s.net := by
  unfold State.putReg
  split <;> rfl

/-- A task that still waits is made READY; another is left. -/
theorem State.readyAgain_net {s u : State} {t : Nat} (h : u.net = s.net) :
    (match u.task? t with
      | some k1 => match k1.st with
        | .waiting _ => u.makeReady t
        | _ => u
      | none => u).net = s.net := by
  split
  · split <;> simp [h]
  · exact h

@[simp] theorem State.wakeRaw_net (s : State) (t : Nat) (gd gb : Reg) (v w : Word) : (s.wakeRaw t gd gb v w).net = s.net := by
  unfold State.wakeRaw
  split
  · rfl
  · dsimp only
    split
    · split <;> simp
    · simp

@[simp] theorem State.serveJoins_net (fuel : Nat) (s : State) (t : Nat) : (s.serveJoins t fuel).net = s.net := by
  induction fuel generalizing s t with
  | zero => rfl
  | succ fuel ih =>
    unfold State.serveJoins
    split
    · rfl
    · split
      · split
        · rfl
        · exact (State.net_foldl (fun u x => by simp [ih]) _ _).trans (by simp [ih])
      · rfl

@[simp] theorem State.afterEnd_net (s : State) (t : Nat) : (s.afterEnd t).net = s.net := by
  simp [State.afterEnd]

@[simp] theorem State.endTask_net (s : State) (t : Nat) (v : Word) : (s.endTask t v).net = s.net := by
  simp [State.endTask]

@[simp] theorem State.countDone_net (s : State) (t : Nat) : (s.countDone t).net = s.net := by
  unfold State.countDone
  split <;> simp

@[simp] theorem State.wakeWith_net (s : State) (t : Nat) (gd gb : Reg) (v w : Word) : (s.wakeWith t gd gb v w).net = s.net := by
  simp [State.wakeWith]

@[simp] theorem State.wake_net (s : State) (t : Nat) (gd : Reg) (v : Word) : (s.wake t gd v).net = s.net := by
  simp [State.wake]

@[simp] theorem State.wake2_net (s : State) (t : Nat) (gd gb : Reg) (v w : Word) : (s.wake2 t gd gb v w).net = s.net := by
  simp [State.wake2]

@[simp] theorem State.wakeException_net (s : State) (t : Nat) (cause : Byte) (addr : Word) (n : Nat) :
    (s.wakeException t cause addr n).net = s.net := by
  unfold State.wakeException State.exceptionN
  split
  · rfl
  · dsimp only
    split
    · split <;> simp
    · simp

@[simp] theorem State.wakeRetries_net (s : State) : s.wakeRetries.net = s.net :=
  State.net_foldl (fun u _ => u.makeReady_net _) _ s

@[simp] theorem State.wakeEvents_net (s : State) (p : PartId) : (s.wakeEvents p).net = s.net :=
  State.net_foldl (fun u _ => u.wake_net _ _ _) _ _

@[simp] theorem State.event_net (s : State) (p : PartId) (bit : Nat) : (s.event p bit).net = s.net := by
  simp [State.event]

@[simp] theorem State.eventAll_net (s : State) (bit : Nat) : (s.eventAll bit).net = s.net := by
  refine State.net_foldl (fun u p => ?_) _ s
  split <;> simp

/-! Requests, their tags and their homes (R214, R321 to R327, R373, R375). -/

@[simp] theorem State.setTag_net (s : State) (i : Nat) (x : Tag) : (s.setTag i x).net = s.net := rfl

@[simp] theorem State.storeError_net (s : State) (t seq : Nat) (cause : Byte) (addr : Word) :
    (s.storeError t seq cause addr).net = s.net := by
  unfold State.storeError
  split <;> rfl

@[simp] theorem State.deliver_net (s : State) (g : Tag) (r : HomeReply) : (s.deliver g r).net = s.net := by
  unfold State.deliver
  split
  · rfl
  · split_ifs
    · rfl
    · rfl
    · simp
    · simp
    all_goals
      split
      · simp
      · rfl

@[simp] theorem State.fenceStep_net (s : State) (t : Nat) : (s.fenceStep t).net = s.net := by
  unfold State.fenceStep
  split
  · rfl
  · dsimp only
    split
    · split <;> simp
    · split <;> simp
    · split
      · split
        · rw [State.wakeException_net]
          split <;> simp
        · simp
      · simp
    · split
      · split
        · rw [State.wakeException_net]
          split <;> simp
        · simp
      · simp
    · rfl

@[simp] theorem State.fences_net (s : State) : s.fences.net = s.net := State.net_foldl (fun u _ => u.fenceStep_net _) _ s

@[simp] theorem State.completeTag_net (s : State) (i : Nat) (r : HomeReply) : (s.completeTag i r).net = s.net := by
  simp [State.completeTag]

@[simp] theorem State.failTag_net (s : State) (i : Nat) (err : Fin 5) : (s.failTag i err).net = s.net := by
  simp [State.failTag]

@[simp] theorem State.failUnreachable_net (s : State) : s.failUnreachable.net = s.net :=
  State.net_foldl (fun u _ => u.failTag_net _ _) _ s

@[simp] theorem State.respond_net (s : State) (q : MemRequest) (r : HomeReply) : (s.respond q r).net = s.net := by
  unfold State.respond
  dsimp only
  split <;> simp

@[simp] theorem State.serveHome_net (s : State) (q : MemRequest) : (s.serveHome q).1.net = s.net := by
  unfold State.serveHome
  dsimp only
  split_ifs <;> simp

@[simp] theorem homeDrain_net (l : List HomeWait) (s : State) : (homeDrain l s).net = s.net := by
  induction l generalizing s with
  | nil => rfl
  | cons w l ih =>
    unfold homeDrain
    split
    · simp [ih]
    · dsimp only
      split
      · rw [ih]
        split <;> simp
      · simp [ih]

@[simp] theorem State.memWake_net (s : State) : s.memWake.net = s.net := by
  simp [State.memWake, State.homeRetry]

/-! Messages that go on after a break (R208, R355, R356). -/

@[simp] theorem State.serveRecvOne_net (s : State) (t key : Nat) (gd gb : Reg) (buf : Word) :
    (s.serveRecvOne t key gd gb buf).net = s.net := by
  unfold State.serveRecvOne State.takeMsg
  split
  · rfl
  · split
    · rfl
    · dsimp only
      split_ifs <;> simp

@[simp] theorem State.serveRecv_net (fuel : Nat) (s : State) (key : Nat) : (s.serveRecv key fuel).net = s.net := by
  induction fuel generalizing s with
  | zero => rfl
  | succ fuel ih =>
    unfold State.serveRecv
    split
    · rfl
    · split <;> simp [ih]

@[simp] theorem State.arriveMsg_net (s : State) (p : PartId) (m : Fin 8) (x : Msg) : (s.arriveMsg p m x).net = s.net := by
  unfold State.arriveMsg State.deliverMsg
  dsimp only
  split_ifs <;> simp

@[simp] theorem State.releaseLate_net (s : State) : s.releaseLate.net = s.net := by
  refine State.net_foldl (fun u e => ?_) _ s
  unfold State.releaseOne
  split
  · rfl
  · rw [State.arriveMsg_net]
    rfl

@[simp] theorem State.dropArriving_net (s : State) (l : ChainId) : (s.dropArriving l).net = s.net := by
  unfold State.dropArriving
  rw [State.releaseLate_net]
  rfl

end Sys2Proof.Machine

namespace Sys2Proof.Machine

/-! The channels' work on trunk lanes leaves the node's place in the fabric alone (R225, R235, R236). -/

@[simp] theorem State.chEvent_net (s : State) (k : Nat) : (s.chEvent k).net = s.net := by
  unfold State.chEvent
  dsimp only
  split
  · exact s.event_net _ _
  · rfl

@[simp] theorem State.trkMute_net (s : State) (k : Nat) : (s.trkMute k).net = s.net := by
  unfold State.trkMute
  dsimp only
  split_ifs <;> simp

@[simp] theorem State.memberCheck_net (s : State) (k : Nat) : (s.memberCheck k).net = s.net := by
  unfold State.memberCheck
  dsimp only
  split_ifs <;> simp

@[simp] theorem State.followProfile_net (s : State) (k : Nat) (p : BitVec 4) : (s.followProfile k p).net = s.net := by
  unfold State.followProfile
  extract_lets x c
  split <;> rfl

@[simp] theorem State.laneAgain_net (s : State) (k : Nat) (a : LaneAnswer) : (s.laneAgain k a).net = s.net := by
  unfold State.laneAgain
  dsimp only
  split_ifs <;> simp [State.laneGone]

/-! The new epoch's words, which the lanes of the head leave alone too (R205, R206). -/

/-- What the fabric registers say of election and epoch, apart from the traffic and, at the head, the lanes. -/
def State.epochWords (s : State) : Fab := { s.net.1 with out := [], headMap := [], lanes := [], answers := [] }

theorem State.epochWords_of_net {s u : State} (h : u.net = s.net) : u.epochWords = s.epochWords := by
  simp only [State.epochWords, h]

theorem State.words_of_epochWords {s u : State} (h : u.epochWords = s.epochWords) :
    u.fab.elect = s.fab.elect ∧ u.fab.announce = s.fab.announce ∧ u.fab.epoch = s.fab.epoch ∧ u.fab.headId = s.fab.headId ∧
      u.fab.nodes = s.fab.nodes ∧ u.fab.members = s.fab.members ∧ u.fab.headless = s.fab.headless ∧ u.fab.wide = s.fab.wide ∧
      u.fab.isHead = s.fab.isHead := by
  have at' : ∀ {α : Type} (π : Fab → α), π u.epochWords = π s.epochWords := fun π => congrArg π h
  exact ⟨at' Fab.elect, at' Fab.announce, at' Fab.epoch, at' Fab.headId, at' Fab.nodes, at' Fab.members, at' Fab.headless,
    at' Fab.wide, at' Fab.isHead⟩

theorem State.epochWords_foldl {α : Type} {f : State → α → State} (hf : ∀ (s : State) (a : α), (f s a).epochWords = s.epochWords)
    (l : List α) (s : State) : (l.foldl f s).epochWords = s.epochWords := by
  induction l generalizing s with
  | nil => rfl
  | cons a l ih => exact (ih _).trans (hf s a)

@[simp] theorem State.loseSource_net (s : State) : s.loseSource.net = s.net := by
  simp only [State.loseSource]
  split <;> simp

@[simp] theorem State.timeEpoch_net (s : State) (wasHead : Bool) : (s.timeEpoch wasHead).net = s.net := by
  unfold State.timeEpoch
  extract_lets had s1
  have source : s1.net = s.net := by
    unfold s1
    split <;> simp
  split_ifs <;> exact source

theorem State.spreadLane_epochWords (s : State) (key but : Nat) : (s.spreadLane key but).epochWords = s.epochWords := by
  unfold State.spreadLane
  refine (State.epochWords_foldl (fun u m => ?_) _ _).trans rfl
  split
  · rfl
  · exact State.epochWords_of_net (u.laneAgain_net _ _)

theorem State.recheckMembers_epochWords (s : State) : s.recheckMembers.epochWords = s.epochWords := by
  unfold State.recheckMembers
  extract_lets s1
  refine (State.epochWords_foldl (fun u k => State.epochWords_of_net (u.memberCheck_net k)) _ s1).trans ?_
  unfold s1
  split
  · exact (State.epochWords_foldl (fun u k => u.spreadLane_epochWords k noKey) _ _).trans rfl
  · rfl

theorem State.mapLane_epochWords (s : State) (ds : List Nat) (a : Lane) : (s.mapLane ds a).epochWords = s.epochWords := by
  refine State.epochWords_foldl (fun u d => ?_) ds s
  rfl

theorem State.headMaps_epochWords (s : State) (wasHead : Bool) : (s.headMaps wasHead).epochWords = s.epochWords := by
  unfold State.headMaps
  split_ifs
  · rfl
  · exact (State.epochWords_foldl (fun u e => u.mapLane_epochWords _ _) _ _).trans rfl
  · rfl

theorem State.askAgain_net (s : State) (old : NodeId) : (s.askAgain old).net = s.net := by
  unfold State.askAgain
  split
  · rfl
  · refine State.net_foldl (fun u x => ?_) _ s
    rfl

/-! Elections (R202 to R204). -/

section

variable {s : State} {l : ChainId}

theorem State.startElection_fab (s : State) : s.startElection.fab = { s.fab with
    elect := true, own := s.ownProposal, best := s.ownProposal, bestAt := s.clk.ed, proposalAt := s.clk.ed, parent := none
    accepted := false, acceptOut := none, announce := none, elId := if s.fab.idSet then some s.fab.nodeId else none } := by
  simp [State.startElection]

theorem State.startElection_ms (s : State) : s.startElection.ms = { s.ms with replicas := [] } := by
  simp [State.startElection]

theorem State.startElection_cpu (s : State) : s.startElection.cpu = s.cpu := by
  simp [State.startElection]

theorem electionStart_forgets (runs : s.linksRun = true) : s.gives .electionStart fun u =>
    u.fab.elect = true ∧ u.fab.parent = none ∧ u.fab.accepted = false ∧ u.ms.replicas = [] := by
  refine State.gives_of_whenDo (v := s.startElection) rfl runs ?_
  rw [State.startElection_fab, State.startElection_ms]
  exact ⟨rfl, rfl, rfl, rfl⟩

/-- ELECT is bit 32 of SW.FAB_CFG. -/
theorem elect_field (v : Word) : bitN (v ||| 0x100000000).toNat 32 = true := by
  rw [bitN_toNat, BitVec.getLsbD_or]
  simp

theorem State.writeWardenWord_elect (s : State) (v : Word) :
    s.writeWardenWord 0x1A0 (v ||| 0x100000000) = (s.writeFabCfg (v ||| 0x100000000)).startElection := by
  have other : ¬((0x1A0 : Nat) = 0x190) := by decide
  simp only [State.writeWardenWord, other, if_false, elect_field, if_true]

/-- Replicas are no page of the node's own. -/
theorem State.fetchClean_of_replicas {u : State} {r : List Replica} (h : u.ms = { s.ms with replicas := r }) : u.fetchClean = s.fetchClean := by
  funext p a
  simp only [State.fetchClean, State.fetchOk, State.allocatedRange, State.allocated, State.pageAt, State.badRead, State.poisoned,
    State.flawsAt, State.soundCopy, h]

theorem fabElect_elects {t : TaskId} {k : Task} {c : Nat} (v : Word) (h : s.runs t k c) (hn : s.nextOk k) (warden : k.part = 0) :
    s.gives (.fabElect t v) fun u => u.fab.elect = true ∧ u.task? t = some { k with pc := k.pc + 4 } := by
  refine State.gives_of_onRunning h (f := fun k s => if k.part = 0 then
    (s.writeWardenWord 0x1A0 (v ||| 0x100000000)).next t else s.violate t 2 0) rfl fun x y => ?_
  rw [if_pos warden, State.writeWardenWord_elect]
  set w := (s.counted x y).writeFabCfg (v ||| 0x100000000)
  have found : w.startElection.task? t = some k := (State.task?_of_cpu w.startElection_cpu t).trans h.1
  have fetch : w.startElection.fetchClean k.part (k.pc + 4) := by
    rw [State.fetchClean_of_replicas w.startElection_ms]
    exact hn
  have ends := State.next_becomes found fetch
  refine ⟨?_, State.task?_becomes ends⟩
  rw [State.becomes_fab ends, State.startElection_fab]

theorem State.hear_fab (s : State) (l : ChainId) (p : Proposal) : (s.hear l p).fab = s.fab := by
  unfold State.hear
  split <;> rfl

theorem proposalRx_takes {p : Proposal} (controls : s.links[chainLink l].controls = true) (elect : s.fab.elect = true)
    (better : ∀ b, s.fab.best = some b → betterProposal p b = true) :
    s.gives (.proposalRx l p) fun u => u.fab.best = some p ∧ u.fab.parent = some l ∧ u.fab.accepted = false := by
  refine State.gives_of_whenDo rfl controls ?_
  simp only [elect, if_true]
  have taken : ∀ u : State, ((u.adopt l p).hear l p).fab.best = some p ∧ ((u.adopt l p).hear l p).fab.parent = some l ∧
      ((u.adopt l p).hear l p).fab.accepted = false := fun u => by
    rw [State.hear_fab]
    exact ⟨rfl, rfl, rfl⟩
  split
  · exact taken _
  · rename_i b best
    rw [if_pos (better b best)]
    exact taken _

/-- A neighbour's words change its link's record. -/
theorem parentAnnounceRx_notes (named : Bool) (elect : s.fab.elect = true) (controls : s.links[chainLink l].controls = true) :
    s.gives (.parentAnnounceRx l named) fun u => u.links[chainLink l].child = named := by
  refine State.gives_of_whenDo rfl (by rw [elect, controls]; rfl) ?_
  simp

theorem acceptRx_keeps {a : Accept} (elect : s.fab.elect = true) (sound : a.crcOk = true)
    (child : s.links[chainLink l].child = true) :
    s.gives (.acceptRx l a) fun u => u.links[chainLink l].accept = some a := by
  refine State.gives_of_whenDo rfl (by rw [elect, sound, child]; rfl) ?_
  simp

theorem acceptSend_sends (settled : s.settled = true) (once : s.fab.accepted = false) (parent : s.fab.parent.isSome = true)
    (other : s.fab.best ≠ s.fab.own) :
    s.gives .acceptSend fun u => u.fab.accepted = true ∧ u.fab.acceptOut = some s.mergedAccept :=
  State.gives_of_whenDo rfl (by simp [settled, once, parent, other]) ⟨rfl, rfl⟩

theorem headAnnounce_announces (settled : s.settled = true) (own : s.fab.own.isSome = true) (best : s.fab.best = s.fab.own)
    (once : s.fab.announce = none) :
    s.gives .headAnnounce fun u => ∃ a, u.fab.announce = some a ∧ a.epoch = s.mergedAccept.epoch + 1 ∧
      a.count = s.mergedAccept.count ∧ a.dups = s.mergedAccept.dups :=
  State.gives_of_whenDo rfl (by simp [settled, own, best, once]) ⟨_, rfl, rfl, rfl, rfl⟩

theorem epochAnnounceRx_keeps {a : EpochAnnounce} (controls : s.links[chainLink l].controls = true) (sound : a.crcOk = true)
    (later : s.fab.epoch.toNat < a.epoch.toNat) : s.gives (.epochAnnounceRx l a) fun u => u.fab.announce = some a :=
  State.gives_of_whenDo rfl (by rw [controls, sound, decide_eq_true later]; rfl) rfl

theorem noProposalTimeout_leaves (elect : s.fab.elect = true) (none : s.fab.own = none)
    (late : s.fab.proposalAt + 9830400 ≤ s.clk.ed) :
    s.gives .noProposalTimeout fun u => u.fab.headless = true ∧ u.fab.elect = false ∧ u.fab.isHead = false := by
  refine State.gives_of_whenDo rfl (by simp [elect, none, edMs, late]) ?_
  have goes : ∀ v : State, v.fab.headless = true → v.fab.elect = false → v.fab.isHead = false →
      v.loseSource.failUnreachable.fab.headless = true ∧ v.loseSource.failUnreachable.fab.elect = false ∧
        v.loseSource.failUnreachable.fab.isHead = false := fun v headless idle member => by
    have words : v.loseSource.failUnreachable.epochWords = v.epochWords := State.epochWords_of_net (by simp)
    obtain ⟨elect', -, -, -, -, -, headless', -, isHead'⟩ := State.words_of_epochWords words
    exact ⟨headless'.trans headless, elect'.trans idle, isHead'.trans member⟩
  exact goes _ rfl rfl rfl

end

/-! EPOCH_TAKE (R205, R206). -/

section

variable {s : State} {a : EpochAnnounce} (ring shared : BitVec 3)

/-- All that follows from a new epoch leaves its words; a link that leaves BLOCKED then starts an election (R194, R203). -/
theorem State.takeEpoch_words : ∃ v : State, v.epochWords = (s.epochFab a).epochWords ∧
    (s.takeEpoch a ring shared = v ∨ s.takeEpoch a ring shared = v.startElection) ∧
    ((∀ c : ChainId, s.links[chainLink c].st ≠ .blocked) → s.takeEpoch a ring shared = v) := by
  unfold State.takeEpoch
  extract_lets blocked freed s1 ms svc s2 s3 s4 s5
  have words1 : s1.epochWords = (s.epochFab a).epochWords :=
    (State.headMaps_epochWords _ _).trans ((State.epochWords_of_net (State.timeEpoch_net _ _)).trans rfl)
  have words3 : s3.epochWords = s1.epochWords := by
    unfold s3
    split
    · rfl
    · exact State.epochWords_of_net (s2.linePulse_net _ _)
  have words4 : s4.epochWords = s3.epochWords :=
    (State.epochWords_of_net (State.askAgain_net _ _)).trans
      ((State.recheckMembers_epochWords _).trans (State.epochWords_of_net (by simp)))
  have words5 : s5.epochWords = s4.epochWords := State.epochWords_of_net (s4.eventAll_net 11)
  refine ⟨s5, words5.trans (words4.trans (words3.trans words1)), ?_, fun none => ?_⟩
  · by_cases leaves : freed = true
    · exact .inr (if_pos leaves)
    · exact .inl (if_neg leaves)
  · have stays : freed = false := by
      simp only [freed, List.any_eq_false]
      intro l _
      rw [decide_eq_false (none l), Bool.false_and]
      exact Bool.false_ne_true
    exact if_neg (by rw [stays]; exact Bool.false_ne_true)

theorem epochTake_takes (waits : s.fab.announce = some a) : s.gives (.epochTake ring shared) fun u =>
    ((∀ c : ChainId, s.nextBoundary.links[chainLink c].st ≠ .blocked) → u.fab.elect = false) ∧
      u.fab.announce = none ∧ u.fab.epoch = a.epoch ∧ u.fab.headId = a.head ∧ u.fab.nodes = a.count ∧
      u.fab.members = a.members ∧ u.fab.headless = false ∧ (u.fab.wide = true ↔ 64 < a.count) := by
  have takes : exec (.epochTake ring shared) s = .next (s.nextBoundary.takeEpoch a ring shared) := by
    show execEpochTake ring shared s = _
    simp only [execEpochTake, waits]
  obtain ⟨v, words, after, calm⟩ := State.takeEpoch_words (s := s.nextBoundary) (a := a) ring shared
  obtain ⟨elect, announce, epoch, head, nodes, members, headless, wide, -⟩ := State.words_of_epochWords words
  refine ⟨_, takes, fun none => ?_, ?_⟩
  · rw [calm none, elect]
    rfl
  · have sized : v.fab.wide = true ↔ 64 < a.count := by
      rw [wide]
      exact decide_eq_true_iff
    rcases after with same | again
    · rw [same]
      exact ⟨announce, epoch, head, nodes, members, headless, sized⟩
    · rw [again, State.startElection_fab]
      exact ⟨rfl, epoch, head, nodes, members, headless, sized⟩

end

/-- Settles O40: an election's steps each show in the words they write; the new epoch's words stand through all that follows from it. -/
theorem electionsAndEpochs : Obligations.ElectionsAndEpochs := by
  intro s l
  exact ⟨electionStart_forgets, fun t k c v h hn warden => fabElect_elects v h hn warden,
    fun p controls elect better => proposalRx_takes controls elect better,
    fun named elect controls => parentAnnounceRx_notes named elect controls,
    fun a elect sound child => acceptRx_keeps elect sound child,
    fun settled once parent other => acceptSend_sends settled once parent other,
    fun settled own best once => headAnnounce_announces settled own best once,
    fun a controls sound later => epochAnnounceRx_keeps controls sound later,
    fun ring shared a waits => epochTake_takes ring shared waits,
    fun elect none late => noProposalTimeout_leaves elect none late⟩

end Sys2Proof.Machine

namespace Sys2Proof.Machine

/-! The record of one link (R199, R221). -/

section

variable (s : State)

theorem State.link_mapLink (l : LinkId) (f : Link → Link) : (s.mapLink l f).links[l] = f s.links[l] := by
  simp

theorem State.link_mapLink_ne {l m : LinkId} (h : m ≠ l) (f : Link → Link) : (s.mapLink l f).links[m] = s.links[m] := by
  have other : l.val ≠ m.val := fun e => h (Fin.ext e).symm
  simp [other]

theorem State.linePulse_links (n : SubId) (kind : Byte) : (s.linePulse n kind).links = s.links := by
  unfold State.linePulse State.lineFall State.lineRise
  split_ifs <;> rfl

theorem State.linePulse_fab (n : SubId) (kind : Byte) : (s.linePulse n kind).fab = s.fab := by
  unfold State.linePulse State.lineFall State.lineRise
  split_ifs <;> rfl

theorem State.log_links (code p0 p1 p2 : Nat) : (s.log code p0 p1 p2).links = s.links := by
  simp only [State.log, State.logFull]
  split_ifs
  · rfl
  · rw [State.linePulse_links]
  · rfl

end

/-- What a link's record says of its state: the state itself, the ring, lost lock and a bad frame. -/
def Link.standing (x : Link) : LState × Bool × Bool × Bool := (x.st, x.ring, x.los, x.err)

theorem Link.of_standing {x : Link} {st : LState} {ring los err : Bool} (h : x.standing = (st, ring, los, err)) :
    x.st = st ∧ x.ring = ring ∧ x.los = los ∧ x.err = err := by
  obtain ⟨rfl, rfl, rfl, rfl⟩ : _ ∧ _ ∧ _ ∧ _ := by simpa only [Link.standing, Prod.mk.injEq] using h
  exact ⟨rfl, rfl, rfl, rfl⟩

theorem Link.of_standing_eq {x y : Link} (h : x.standing = y.standing) :
    x.st = y.st ∧ x.ring = y.ring ∧ x.los = y.los ∧ x.err = y.err := Link.of_standing h

theorem State.standing_of_net {s u : State} (h : u.net = s.net) (l : LinkId) : (u.links[l]).standing = (s.links[l]).standing := by
  have same := congrArg Link.standing (State.beside_of_net h l)
  exact same

theorem State.standing_mapLink {s : State} {l : LinkId} {f : Link → Link} (h : (f s.links[l]).standing = (s.links[l]).standing)
    (m : LinkId) : ((s.mapLink l f).links[m]).standing = (s.links[m]).standing := by
  by_cases same : m = l
  · subst same
    rw [State.link_mapLink, h]
  · rw [State.link_mapLink_ne s same]

theorem State.standing_startElection (s : State) (l : LinkId) : (s.startElection.links[l]).standing = (s.links[l]).standing := by
  have links : s.startElection.links = Vector.ofFn fun i => { s.links[i] with child := false, accept := none, heard := none } := by
    simp [State.startElection]
  simp only [links]
  simp [Link.standing]

/-! The links rise (R199, R200, R203). -/

section

variable {s : State} {l : LinkId}

theorem linkLightDetected_trains (chain : l ≠ tapLink) (runs : s.linksRun = true) (down : s.links[l].st = .down) :
    exec (.linkLightDetected l) s = .next (s.mapLink l fun x => { x with st := .train }) := by
  show execLinkLightDetected l s = _
  rw [execLinkLightDetected, whenDo, runs, decide_eq_true chain, decide_eq_true down]
  rfl

theorem linkUp_rises (chain : l ≠ tapLink) (train : s.links[l].st = .train) :
    s.gives (.linkUp l) fun u => u.links[l].st = .up ∧ u.fab.elect = true ∧ u.ms.replicas = [] := by
  have rises : exec (.linkUp l) s = whenDo (decide (s.links[l].st = .train)) s
      ((s.mapLink l fun x => { x with st := .up, broken := false, miss := 0 }).startElection) := if_neg chain
  refine State.gives_of_whenDo rises (decide_eq_true train) ⟨?_, ?_, ?_⟩
  · obtain ⟨st, -⟩ := Link.of_standing_eq
      (State.standing_startElection (s.mapLink l fun x => { x with st := .up, broken := false, miss := 0 }) l)
    rw [st, State.link_mapLink]
  · rw [State.startElection_fab]
  · rw [State.startElection_ms]

theorem linkUp_tap (runs : s.linksRun = true) (enabled : s.fab.tapEn = true) (down : s.links[tapLink].st = .down) :
    s.gives (.linkUp tapLink) fun u => u.links[tapLink].st = .up ∧ u.links[tapLink].speed = s.fab.tapSpeed ∧ u.fab = s.fab := by
  have rises : exec (.linkUp tapLink) s = whenDo (s.linksRun && s.fab.tapEn && decide (s.links[tapLink].st = .down)) s
      (s.mapLink tapLink fun x => { x with st := .up, speed := s.fab.tapSpeed }) := by
    show execLinkUp tapLink s = _
    rw [execLinkUp, if_pos rfl]
  refine State.gives_of_whenDo rises (by rw [runs, enabled, decide_eq_true down]; rfl) ?_
  rw [State.link_mapLink]
  exact ⟨rfl, rfl, rfl⟩

end

/-! A break (R200, R209, R210, R240). -/

theorem Link.standing_sendBlock (x : Link) (a : Lane) (now : Nat) (b : BitVec 64) : (x.sendBlock a now b).standing = x.standing := rfl

theorem Link.standing_sendBlocks (a : Lane) (now : Nat) (kept : List (Nat × BitVec 64)) (x : Link) :
    (kept.foldl (fun y e => y.sendBlock a now e.2) x).standing = x.standing := by
  induction kept generalizing x with
  | nil => rfl
  | cons e kept ih => exact ih _

/-- The fabric registers stay, and of each link what its record says of its state. -/
structure State.KeepsStanding (s u : State) : Prop where
  fab : u.fab = s.fab
  links : ∀ m : LinkId, (u.links[m]).standing = (s.links[m]).standing

theorem State.keepsStanding_refl (s : State) : s.KeepsStanding s := ⟨rfl, fun _ => rfl⟩

theorem State.KeepsStanding.trans {s u v : State} (h1 : s.KeepsStanding u) (h2 : u.KeepsStanding v) : s.KeepsStanding v where
  fab := h2.fab.trans h1.fab
  links m := (h2.links m).trans (h1.links m)

theorem State.keepsStanding_foldl {α : Type} {f : State → α → State} (hf : ∀ (s : State) (a : α), s.KeepsStanding (f s a))
    (l : List α) (s : State) : s.KeepsStanding (l.foldl f s) := by
  induction l generalizing s with
  | nil => exact s.keepsStanding_refl
  | cons a l ih => exact (hf s a).trans (ih _)

section

variable (s : State) (c : ChainId)

theorem State.returnCopies_keepsStanding : s.KeepsStanding (s.returnCopies c) := by
  unfold State.returnCopies
  dsimp only
  split
  · exact s.keepsStanding_refl
  · refine State.keepsStanding_foldl (fun u a => ?_) _ s
    split
    · exact u.keepsStanding_refl
    · exact ⟨rfl, State.standing_mapLink ((Link.standing_sendBlocks _ _ _ _).trans rfl)⟩

/-- What carried the fabric splits it, unless the ring leaves by another link (R209, R210, R240). -/
theorem State.breakAt_links (m : LinkId) : ((s.breakAt c).links[m]).standing = (s.links[m]).standing := by
  unfold State.breakAt
  dsimp only
  split_ifs
  · exact (s.returnCopies_keepsStanding c).links m
  · exact congrArg (fun v : Vector Link 4 => (v[m]).standing) (State.linePulse_links _ 8 0x52)
  · rfl

theorem State.breakAt_splits (carries : s.links[chainLink c].carries = true)
    (opened : s.links[chainLink c].ring = false ∨ s.ringOther c = none) : (s.breakAt c).fab.split = true := by
  have alone : ¬(s.links[chainLink c].ring && (s.ringOther c).isSome) = true := by
    rcases opened with h | h <;> rw [h] <;> simp
  simp only [State.breakAt, carries, if_true]
  rw [if_neg alone, State.linePulse_fab]

theorem State.dropLink_fab (l : LinkId) : (s.dropLink l).fab = s.fab := by
  unfold State.dropLink
  dsimp only
  split_ifs
  · rw [State.linePulse_fab, State.mapLink_fab]
  · rfl

/-- The link is DOWN and off the ring, with lock lost where there was any; the others stay (R200, R221). -/
theorem State.dropLink_links (l : LinkId) : ((s.dropLink l).links[l]).standing =
      (.down, false, s.links[l].los || (decide (s.links[l].st ≠ .down) && decide (s.links[l].st ≠ .train)), s.links[l].err) ∧
    ∀ m : LinkId, m ≠ l → (s.dropLink l).links[m] = s.links[m] := by
  unfold State.dropLink
  extract_lets x lock s1
  have links : (if (lock && decide (l ≠ tapLink)) = true then s1.linePulse 8 0x50 else s1).links = s1.links := by
    split_ifs
    · rw [State.linePulse_links]
    · rfl
  rw [links]
  refine ⟨?_, fun m other => s.link_mapLink_ne other _⟩
  rw [s.link_mapLink l]
  rfl

theorem State.dropQueue_links : (s.dropQueue c).links = s.links := by
  simp [State.dropQueue]

theorem State.dropQueue_fab : (s.dropQueue c).fab = { s.fab with out := s.fab.out.filter fun p => p.link ≠ c } := by
  simp [State.dropQueue]

end

/-- Nothing is queued for a chain link that carries nothing. -/
def State.silentOn (s : State) (c : ChainId) : Prop :=
  s.links[chainLink c].carries = false ∧ ∀ p ∈ s.fab.out, p.link ≠ c

theorem State.silentOn_of_net {s u : State} {c : ChainId} (h : u.net = s.net) (silent : s.silentOn c) : u.silentOn c := by
  obtain ⟨idle, empty⟩ := silent
  have idle' := (State.carries_of_net h (chainLink c)).trans idle
  refine ⟨idle', fun p queued on => ?_⟩
  have out : (u.fab.out.filter fun p => !u.links[chainLink p.link].carries) =
      s.fab.out.filter fun p => !s.links[chainLink p.link].carries := congrArg (fun n : Fab × Vector Link 4 => n.1.out) h
  have there : p ∈ u.fab.out.filter fun p => !u.links[chainLink p.link].carries := by
    refine List.mem_filter.mpr ⟨queued, ?_⟩
    subst on
    rw [idle']
    rfl
  have came : p ∈ s.fab.out.filter fun p => !s.links[chainLink p.link].carries := by
    rwa [← out]
  exact empty p (List.mem_filter.mp came).1 on

theorem State.split_of_net {s u : State} (h : u.net = s.net) : u.fab.split = s.fab.split :=
  congrArg (fun n : Fab × Vector Link 4 => n.1.split) h

theorem State.elect_of_net {s u : State} (h : u.net = s.net) : u.fab.elect = s.fab.elect :=
  congrArg (fun n : Fab × Vector Link 4 => n.1.elect) h

section

variable (s : State) (c : ChainId)

/-- The link is dropped with its queue, before the election that follows. -/
def State.linkGone : State := (((s.breakAt c).dropLink (chainLink c)).dropQueue c).dropArriving c

theorem State.linkGone_standing (l : LinkId) :
    ((s.linkGone c).links[l]).standing = (((s.breakAt c).dropLink (chainLink c)).links[l]).standing := by
  refine (State.standing_of_net (State.dropArriving_net _ c) l).trans ?_
  rw [State.dropQueue_links]

theorem State.linkGone_split : (s.linkGone c).fab.split = (s.breakAt c).fab.split := by
  refine (State.split_of_net (State.dropArriving_net _ c)).trans ?_
  rw [State.dropQueue_fab, State.dropLink_fab]

theorem State.linkGone_silentOn : (s.linkGone c).silentOn c := by
  refine State.silentOn_of_net (State.dropArriving_net _ c) ⟨?_, fun p queued => ?_⟩
  · obtain ⟨st, -⟩ := Link.of_standing ((s.breakAt c).dropLink_links (chainLink c)).1
    rw [State.dropQueue_links, Link.carries, st]
    rfl
  · rw [State.dropQueue_fab] at queued
    exact of_decide_eq_true (List.mem_filter.mp queued).2

theorem State.loseLink_net : (s.loseLink c).net = (s.linkGone c).startElection.net := State.failUnreachable_net _

theorem State.loseLink_standing (l : LinkId) :
    ((s.loseLink c).links[l]).standing = (((s.breakAt c).dropLink (chainLink c)).links[l]).standing :=
  (State.standing_of_net (s.loseLink_net c) l).trans
    ((State.standing_startElection _ l).trans (s.linkGone_standing c l))

theorem State.loseLink_drops : ((s.loseLink c).links[chainLink c]).standing =
    (.down, false,
      s.links[chainLink c].los || (decide (s.links[chainLink c].st ≠ .down) && decide (s.links[chainLink c].st ≠ .train)),
      s.links[chainLink c].err) := by
  obtain ⟨st, -, los, err⟩ := Link.of_standing_eq (s.breakAt_links c (chainLink c))
  rw [s.loseLink_standing c, (State.dropLink_links _ _).1, st, los, err]

theorem State.loseLink_others {m : LinkId} (other : m ≠ chainLink c) :
    ((s.loseLink c).links[m]).standing = (s.links[m]).standing := by
  rw [s.loseLink_standing c, (State.dropLink_links _ _).2 m other, s.breakAt_links c]

theorem State.loseLink_elect : (s.loseLink c).fab.elect = true := by
  rw [State.elect_of_net (s.loseLink_net c), State.startElection_fab]

theorem State.loseLink_split : (s.loseLink c).fab.split = (s.breakAt c).fab.split := by
  rw [State.split_of_net (s.loseLink_net c), State.startElection_fab]
  exact s.linkGone_split c

theorem State.loseLink_empties : ∀ p ∈ (s.loseLink c).fab.out, p.link ≠ c := by
  obtain ⟨idle, empty⟩ := s.linkGone_silentOn c
  refine (State.silentOn_of_net (s.loseLink_net c) ⟨?_, ?_⟩).2
  · obtain ⟨st, -⟩ := Link.of_standing_eq (State.standing_startElection (s.linkGone c) (chainLink c))
    rw [Link.carries, st]
    exact idle
  · rw [State.startElection_fab]
    exact empty

end

theorem chainLink_injective {c d : ChainId} (h : chainLink c = chainLink d) : c = d := by
  have same := congrArg Fin.val h
  exact Fin.ext same

/-- Every link but the TAP port's is a chain port's. -/
theorem chainOf_chain {l : LinkId} (chain : l ≠ tapLink) : ∃ c, chainOf l = some c ∧ chainLink c = l := by
  have below : l.val < 3 := by
    have bound := l.isLt
    have not3 : l.val ≠ 3 := fun h => chain (Fin.ext h)
    omega
  exact ⟨⟨l.val, below⟩, dif_pos below, rfl⟩

section

variable {s : State}

theorem linkDown_breaks {l : LinkId} (chain : l ≠ tapLink) (up : s.links[l].st = .up) :
    s.gives (.linkDown l) fun u => u.links[l].st = .down ∧ u.links[l].los = true ∧ u.fab.elect = true ∧
      (∀ p ∈ u.fab.out, chainLink p.link ≠ l) ∧ (s.links[l].ring = false → u.fab.split = true) ∧
      (s.links[l].ring = true → u.links[l].ring = false ∧
        (∀ m : LinkId, m ≠ l → u.links[m].ring = s.links[m].ring) ∧
        ((∀ m : LinkId, m ≠ l → s.links[m].ring = false) → u.fab.split = true)) := by
  obtain ⟨c, port, rfl⟩ := chainOf_chain chain
  have breaks : exec (.linkDown (chainLink c)) s = whenDo (decide (s.links[chainLink c].st ≠ .down)) s (s.loseLink c) := by
    show execLinkDown _ s = _
    simp only [execLinkDown, port]
  obtain ⟨st, ring, los, -⟩ := Link.of_standing (s.loseLink_drops c)
  have carries : s.links[chainLink c].carries = true := by
    simp only [Link.carries, up]
    rfl
  have splits : s.links[chainLink c].ring = false ∨ s.ringOther c = none → (s.loseLink c).fab.split = true := fun opened => by
    rw [s.loseLink_split c, s.breakAt_splits c carries opened]
  refine State.gives_of_whenDo breaks (by rw [up]; rfl) ⟨st, ?_, s.loseLink_elect c, ?_, ?_, ?_⟩
  · rw [los, up]
    exact Bool.or_true _
  · exact fun p queued on => s.loseLink_empties c p queued (chainLink_injective on)
  · exact fun off => splits (.inl off)
  · refine fun _ => ⟨ring, fun m other => (Link.of_standing_eq (s.loseLink_others c other)).2.1, ?_⟩
    refine fun off => splits (.inr ?_)
    refine List.find?_eq_none.mpr fun m _ found => ?_
    simp only [Bool.and_eq_true, decide_eq_true_eq] at found
    obtain ⟨⟨other, ring⟩, -⟩ := found
    rw [off (chainLink m) fun e => other (chainLink_injective e)] at ring
    exact Bool.false_ne_true ring

end

section

variable {s : State} {c : ChainId}

/-! LULL (R200, R436, R437). -/

theorem linkLullEnter_lulls (up : s.links[chainLink c].st = .up) (allowed : s.pwr.llen = true) (dozes : s.dozing = true)
    (noIn : s.links[chainLink c].lanesIn = []) (noOut : s.links[chainLink c].lanesOut = []) (empty : ∀ p ∈ s.fab.out, p.link ≠ c) :
    s.gives (.linkLullEnter c) fun u => u.links[chainLink c].st = .lull := by
  have quiet : (s.fab.out.any fun p => decide (p.link = c)) = false :=
    List.any_eq_false.mpr fun p hp on => empty p hp (of_decide_eq_true on)
  refine State.gives_of_whenDo rfl ?_ ?_
  · simp only [up, allowed, dozes, noIn, noOut, quiet]
    rfl
  · rw [State.link_mapLink]

theorem State.startElection_pwr (s : State) : s.startElection.pwr = s.pwr := by
  simp [State.startElection]

theorem linkLullExit_rises (lull : s.links[chainLink c].st = .lull) :
    s.gives (.linkLullExit c) fun u => u.links[chainLink c].st = .up ∧ u.fab.elect = true ∧
      (s.pwr.mode = .hibernate → u.pwr.unann = true) := by
  refine State.gives_of_whenDo rfl (decide_eq_true lull) ⟨?_, ?_, fun hibernates => ?_⟩
  · obtain ⟨st, -⟩ := Link.of_standing_eq (State.standing_startElection
      (s.mapLink (chainLink c) fun x => { x with st := .up, askUp := false }) (chainLink c))
    show (s.endLull c).links[chainLink c].st = .up
    rw [State.endLull, st, State.link_mapLink]
  · show (s.endLull c).fab.elect = true
    rw [State.endLull, State.startElection_fab]
  · show ((s.endLull c).pwr.unann || decide ((s.endLull c).pwr.mode = .hibernate)) = true
    rw [State.endLull, State.startElection_pwr, State.mapLink_pwr, decide_eq_true hibernates]
    exact Bool.or_true _

/-! Frame headers (R196, R197, R200, R221). -/

theorem State.badFrame_link (s : State) (c : ChainId) :
    (s.badFrame c).links[chainLink c] = { s.links[chainLink c] with err := true } := by
  simp only [State.badFrame, State.linePulse_links]
  exact s.link_mapLink _ _

section

variable (st1 : s.links[chainLink c].st ≠ .down) (st2 : s.links[chainLink c].st ≠ .train) {h : BitVec 64}

include st1 st2

theorem execFrameHeaderRx_locked (start : FrameStart) : execFrameHeaderRx c start s = .next
    (if !start.sync then
       if 1 ≤ s.links[chainLink c].miss then (s.badFrame c).loseLink c
       else (s.badFrame c).mapLink (chainLink c) fun x => { x with miss := x.miss + 1 }
     else if BitVec.ofNat 8 (start.hdr.toNat / 2 ^ 56) = headerCrc start.hdr then
       s.mapLink (chainLink c) fun x => x.takeHeader start.hdr
     else (((s.badFrame c).mapLink (chainLink c) fun x => { x with miss := 0 }).count (128 + c.val)).log 0x1800 c.val 0 0) := by
  rw [execFrameHeaderRx, whenDo, if_pos (by rw [decide_eq_true st1, decide_eq_true st2]; rfl)]

theorem frameHeaderRx_takes (good : BitVec.ofNat 8 (h.toNat / 2 ^ 56) = headerCrc h) :
    s.gives (.frameHeaderRx c ⟨h, true⟩) fun u => u.links[chainLink c].frame.toNat = h.toNat % 2 ^ 16 ∧
      u.links[chainLink c].peerNode.toNat = h.toNat / 2 ^ 36 % 2 ^ 11 ∧
      u.links[chainLink c].peerState.toNat = h.toNat / 2 ^ 47 % 8 := by
  refine ⟨_, (execFrameHeaderRx_locked st1 st2 ⟨h, true⟩).trans (congrArg _ (if_pos good)), ?_⟩
  dsimp only
  rw [State.link_mapLink]
  refine ⟨?_, ?_, ?_⟩
  · simp [Link.takeHeader, fieldN]
  · simp [Link.takeHeader, fieldN]
  · simp [Link.takeHeader, fieldN]

theorem frameHeaderRx_ignores (bad : BitVec.ofNat 8 (h.toNat / 2 ^ 56) ≠ headerCrc h) :
    s.gives (.frameHeaderRx c ⟨h, true⟩) fun u => u.links[chainLink c] = { s.links[chainLink c] with err := true, miss := 0 } := by
  refine ⟨_, (execFrameHeaderRx_locked st1 st2 ⟨h, true⟩).trans (congrArg _ (if_neg bad)), ?_⟩
  simp only [State.log_links, State.count_links]
  rw [State.link_mapLink, State.badFrame_link]

theorem frameHeaderRx_misses (first : s.links[chainLink c].miss = 0) :
    s.gives (.frameHeaderRx c ⟨h, false⟩) fun u => u.links[chainLink c] = { s.links[chainLink c] with err := true, miss := 1 } := by
  have none : ¬1 ≤ s.links[chainLink c].miss := by omega
  refine ⟨_, (execFrameHeaderRx_locked st1 st2 ⟨h, false⟩).trans (congrArg _ (if_neg none)), ?_⟩
  dsimp only
  rw [State.link_mapLink, State.badFrame_link, first]

theorem frameHeaderRx_loses (again : s.links[chainLink c].miss ≠ 0) :
    s.gives (.frameHeaderRx c ⟨h, false⟩) fun u => u.links[chainLink c].st = .down ∧ u.links[chainLink c].err = true ∧
      u.links[chainLink c].los = true ∧ u.fab.elect = true := by
  have second : 1 ≤ s.links[chainLink c].miss := Nat.one_le_iff_ne_zero.mpr again
  refine ⟨_, (execFrameHeaderRx_locked st1 st2 ⟨h, false⟩).trans (congrArg _ (if_pos second)), ?_⟩
  obtain ⟨st, -, los, err⟩ := Link.of_standing ((s.badFrame c).loseLink_drops c)
  rw [State.badFrame_link] at los err
  refine ⟨st, err, los.trans ?_, State.loseLink_elect _ c⟩
  rw [decide_eq_true st1, decide_eq_true st2]
  exact Bool.or_true _

end

/-! A new map comes into force (R198). -/

theorem laneMapChange_maps (out : Bool) (v : Byte) (m : List Lane) (carries : s.links[chainLink c].carries = true) :
    s.gives (.laneMapChange c out v m) fun u =>
      if out then u.links[chainLink c].lanesOut = s.mapFor c out m ∧ u.links[chainLink c].mapvOut = v
      else u.links[chainLink c].lanesIn = m ∧ u.links[chainLink c].mapvIn = v := by
  refine State.gives_of_whenDo rfl carries ?_
  rw [State.link_mapLink]
  cases out
  · exact ⟨rfl, rfl⟩
  · exact ⟨rfl, rfl⟩

end

/-! The head's lane maps (R198, R224, R229, R230, R234). -/

theorem tblGet_tblMap_nil {α : Type} (f : Nat → List α → List α) (hf : ∀ d, f d [] = []) (d : Nat) (t : List (Nat × List α)) :
    tblGet [] d (tblMap f t) = f d (tblGet [] d t) := by
  simp only [tblGet, tblFind_tblMap]
  cases tblFind d t with
  | none => exact (hf d).symm
  | some a => rfl

section

variable (s : State)

theorem State.lanesOn_of_net {s u : State} (h : u.net = s.net) (d : Nat) : u.lanesOn d = s.lanesOn d := by
  have maps : u.fab.headMap = s.fab.headMap := congrArg (fun n : Fab × Vector Link 4 => n.1.headMap) h
  simp only [State.lanesOn, maps]

theorem State.lanesOn_unmapLane (key d : Nat) :
    (s.unmapLane key).lanesOn d = (s.lanesOn d).filter fun x => decide (laneKey x.node x.chan ≠ key) := by
  unfold State.lanesOn State.unmapLane
  exact tblGet_tblMap_nil _ (fun _ => List.filter_nil) d s.fab.headMap

theorem State.lanesOn_mapLane (m : Nat) (a : Lane) (d : Nat) :
    (s.mapLane [m] a).lanesOn d = if d = m then s.lanesOn m ++ [a] else s.lanesOn d :=
  tblGet_tblPut [] d m (s.lanesOn m ++ [a]) s.fab.headMap

/-! A lane's place in every direction (R198, R230). -/

/-- The first lane of a direction takes its lowest slot. -/
theorem State.laneSlotFree_empty {d : Nat} (empty : s.lanesOn d = []) : s.laneSlotFree d = some 0 := by
  have first : List.range 96 = 0 :: (List.range 95).map Nat.succ := List.range_succ_eq_map
  simp [State.laneSlotFree, empty, first]

theorem State.laneSlotFree_congr {u : State} {d : Nat} (h : u.lanesOn d = s.lanesOn d) : u.laneSlotFree d = s.laneSlotFree d := by
  simp only [State.laneSlotFree, h]

/-- In directions that carry no lane the lane finds its place. -/
theorem State.placeIn_empty (a : Lane) {ds : List Nat} (distinct : ds.Nodup) {s : State} (empty : ∀ d ∈ ds, s.lanesOn d = []) :
    ∃ u, s.placeIn a ds = some u ∧ (∀ d ∈ ds, u.lanesOn d = [{ a with slot := 0 }]) ∧ ∀ d, d ∉ ds → u.lanesOn d = s.lanesOn d := by
  induction ds generalizing s with
  | nil => exact ⟨s, rfl, fun _ h => absurd h List.not_mem_nil, fun _ _ => rfl⟩
  | cons m ds ih =>
    obtain ⟨fresh, distinct'⟩ := List.nodup_cons.mp distinct
    obtain ⟨none, rest⟩ := List.forall_mem_cons.mp empty
    have others : ∀ d, d ≠ m → (s.mapLane [m] { a with slot := 0 }).lanesOn d = s.lanesOn d := fun d other => by
      rw [State.lanesOn_mapLane, if_neg other]
    obtain ⟨u, placed, on, off⟩ := ih distinct' (s := s.mapLane [m] { a with slot := 0 })
      fun d hd => (others d fun e => fresh (e ▸ hd)).trans (rest d hd)
    refine ⟨u, ?_, List.forall_mem_cons.mpr ⟨?_, on⟩, fun d hd => ?_⟩
    · simp only [State.placeIn, s.laneSlotFree_empty none, placed]
    · rw [off m fresh, State.lanesOn_mapLane, if_pos rfl, none, List.nil_append]
    · obtain ⟨other, out⟩ := List.ne_and_not_mem_of_not_mem_cons hd
      exact (off d out).trans (others d other)

/-- Where a direction has no slot left the lane is not placed at all. -/
theorem State.placeIn_full (a : Lane) {ds : List Nat} (distinct : ds.Nodup) {s : State}
    (full : ∃ d ∈ ds, s.laneSlotFree d = none) : s.placeIn a ds = none := by
  induction ds generalizing s with
  | nil =>
    obtain ⟨d, hd, -⟩ := full
    exact absurd hd List.not_mem_nil
  | cons m ds ih =>
    obtain ⟨fresh, distinct'⟩ := List.nodup_cons.mp distinct
    obtain ⟨d, hd, none⟩ := full
    unfold State.placeIn
    split
    · rename_i i found
      rcases List.mem_cons.mp hd with rfl | hd
      · exact absurd (none.symm.trans found) (by simp)
      · refine ih distinct' ⟨d, hd, (State.laneSlotFree_congr _ ?_).trans none⟩
        rw [State.lanesOn_mapLane, if_neg fun (e : d = m) => fresh (e ▸ hd)]
    · rfl

theorem State.posFree_empty {ds : List Nat} (empty : ∀ d ∈ ds, s.lanesOn d = []) (p ph k : Nat) : s.posFree ds p ph k = true := by
  refine List.all_eq_true.mpr fun d hd => ?_
  rw [empty d hd]
  rfl

/-- A lane that finds phase and positions finds as many as it needs (R229). -/
theorem State.findLane_length {ds : List Nat} {p n ph : Nat} {pos : List Nat} (h : s.findLane ds p n = some (ph, pos)) :
    pos.length = n := by
  obtain ⟨i, -, found⟩ := List.exists_of_findSome?_eq_some h
  dsimp only at found
  split at found
  · rename_i enough
    rw [← (Prod.mk.inj (Option.some.inj found)).2]
    exact enough
  · exact absurd found (by simp)

/-- Directions that carry no lane have all positions free. -/
theorem State.findLane_empty {ds : List Nat} {p n : Nat} (empty : ∀ d ∈ ds, s.lanesOn d = []) (phases : 1 ≤ p) (fits : n ≤ 102) :
    ∃ ph pos, s.findLane ds p n = some (ph, pos) := by
  have found : (s.findLane ds p n).isSome = true := by
    refine List.findSome?_isSome_iff.mpr ⟨0, List.mem_range.mpr phases, ?_⟩
    dsimp only
    rw [if_pos ?_]
    · rfl
    · rw [List.filter_eq_self.mpr fun k _ => s.posFree_empty empty _ _ k]
      simpa using fits
  obtain ⟨⟨ph, pos⟩, h⟩ := Option.isSome_iff_exists.mp found
  exact ⟨ph, pos, h⟩

end

/-- Every profile's lane fits a frame's 102 positions, with a divisor of at least 1 (R229). -/
theorem lane_fits (p : BitVec 4) : 1 ≤ laneDivisor (profileOf p.toNat).rate ∧ laneCount (profileOf p.toNat).rate ≤ 102 := by
  revert p
  decide

/-! LANE_MAP_REQUEST_RX at the head. -/

section

variable {s : State} {q : LaneRequest}

/-- A lane that its anchor leaves is mapped in no direction any more (R224). -/
theorem laneMapRequestRx_ends (head : s.fab.isHead = true) (leaves : q.leave = true) (own : fromAnchor q = true) :
    s.gives (.laneMapRequestRx q) fun u => ∀ d, ∀ a ∈ u.lanesOn d, laneKey a.node a.chan ≠ requestKey q := by
  refine State.gives_of_whenDo rfl head ?_
  have anchor : q.node = q.anchorNode ∧ q.slot = q.anchorSlot := by
    simpa only [fromAnchor, Bool.and_eq_true, decide_eq_true_eq] using own
  simp only [leaves, if_true, State.leaveAtHead, anchor, and_self]
  intro d a mapped
  rw [State.lanesOn_unmapLane] at mapped
  exact of_decide_eq_true (List.mem_filter.mp mapped).2

/-- The profile in which a lane is mapped: its anchor's (R225). -/
def State.laneProfile (s : State) (q : LaneRequest) : BitVec 4 :=
  if fromAnchor q = true ∨ (s.laneRec (requestKey q)).profile = 15 then q.profile else (s.laneRec (requestKey q)).profile

/-- The place of a contributor exceeds CEIL (R239). -/
def State.beyondCeil (s : State) (q : LaneRequest) : Bool :=
  q.uplink && !fromAnchor q &&
    decide (((s.laneRec (requestKey q)).note q).ceil < (profileOf (s.laneProfile q).toNat).uplinkDelay q.path)

/-- The anchor's profile has changed: the lane is mapped anew (R225). -/
def State.laneAnew (s : State) (q : LaneRequest) : Bool :=
  fromAnchor q && decide ((s.laneRec (requestKey q)).profile ≠ 15) && decide ((s.laneRec (requestKey q)).profile ≠ q.profile)

/-- The head's map without a lane that is mapped anew. -/
def State.cleared (s : State) (q : LaneRequest) : State :=
  if s.laneAnew q then { s with fab := { s.fab with headMap := (s.unmapLane (requestKey q)).fab.headMap } } else s

/-- What the head does with a request of a channel that stays, where its directions carry nothing of the lane yet. -/
theorem execLaneMapRequestRx_first (head : s.fab.isHead = true) (stays : q.leave = false) (alone : q.kept = [])
    (first : s.dirsOf (requestKey q) = []) : execLaneMapRequestRx q s = .next (if s.beyondCeil q then s.answerLane q true else
      ((s.cleared q).placeLane q q.dirs (s.laneProfile q)).elim (s.answerLane q false) fun u =>
        ((u.noteLane q).answerLane q true).spreadLane (requestKey q) (laneKey q.node q.slot)) := by
  have profile : (if (fromAnchor q || decide ((s.laneRec (requestKey q)).profile = 15)) = true then q.profile
      else (s.laneRec (requestKey q)).profile) = s.laneProfile q := by
    simp only [State.laneProfile, Bool.or_eq_true, decide_eq_true_eq]
  have dirs : (q.dirs.filter fun d => !([] : List Nat).contains d) = q.dirs := List.filter_eq_self.mpr fun _ _ => rfl
  have anew : (fromAnchor q && decide ((s.laneRec (requestKey q)).profile ≠ 15) &&
      decide ((s.laneRec (requestKey q)).profile ≠ q.profile)) = s.laneAnew q := rfl
  rw [execLaneMapRequestRx, whenDo, if_pos head]
  simp only [alone, List.foldl_nil, stays, Bool.false_eq_true, if_false, first, profile, anew, dirs, List.nil_append, ite_self]
  refine congrArg _ (congrArg _ ?_)
  show (match (s.cleared q).placeLane q q.dirs (s.laneProfile q) with
    | some u => ((u.noteLane q).answerLane q true).spreadLane (requestKey q) (laneKey q.node q.slot)
    | none => s.answerLane q false) = _
  cases (s.cleared q).placeLane q q.dirs (s.laneProfile q) <;> rfl

/-- A contributor whose place exceeds CEIL is answered, and nothing is mapped (R239). -/
theorem execLaneMapRequestRx_beyond (head : s.fab.isHead = true) (stays : q.leave = false) (alone : q.kept = [])
    (beyond : s.beyondCeil q = true) : execLaneMapRequestRx q s = .next (s.answerLane q true) := by
  have profile : (if (fromAnchor q || decide ((s.laneRec (requestKey q)).profile = 15)) = true then q.profile
      else (s.laneRec (requestKey q)).profile) = s.laneProfile q := by
    simp only [State.laneProfile, Bool.or_eq_true, decide_eq_true_eq]
  rw [execLaneMapRequestRx, whenDo, if_pos head]
  simp only [alone, List.foldl_nil, stays, Bool.false_eq_true, if_false, profile]
  exact congrArg _ (if_pos beyond)

theorem State.beyondCeil_of_over (ul : q.uplink = true) (member : fromAnchor q = false)
    (above : ((s.laneRec (requestKey q)).note q).ceil < (profileOf (s.laneProfile q).toNat).uplinkDelay q.path) :
    s.beyondCeil q = true := by
  rw [State.beyondCeil, ul, member, decide_eq_true above]
  rfl

theorem State.beyondCeil_of_within (within : q.uplink = false ∨ fromAnchor q = true ∨
    (profileOf (s.laneProfile q).toNat).uplinkDelay q.path ≤ ((s.laneRec (requestKey q)).note q).ceil) : s.beyondCeil q = false := by
  rcases within with dl | own | fits
  · rw [State.beyondCeil, dl]
    rfl
  · rw [State.beyondCeil, own, Bool.not_true, Bool.and_false]
    rfl
  · rw [State.beyondCeil, decide_eq_false (Nat.not_lt.mpr fits), Bool.and_false]

theorem State.lanesOn_cleared {d : Nat} (empty : s.lanesOn d = []) : (s.cleared q).lanesOn d = [] := by
  unfold State.cleared
  split
  · exact (s.lanesOn_unmapLane (requestKey q) d).trans (by rw [empty]; rfl)
  · exact empty

/-- In directions that carry no lane the lane of a request finds its place (R198, R229, R230). -/
theorem State.placeLane_empty (named : q.dirs ≠ []) (distinct : q.dirs.Nodup) (profile : BitVec 4)
    (empty : ∀ d ∈ q.dirs, s.lanesOn d = []) : ∃ (a : Lane) (u : State), s.placeLane q q.dirs profile = some u ∧
      (∀ d ∈ q.dirs, u.lanesOn d = [a]) ∧ a.node = q.anchorNode ∧ a.chan = q.anchorSlot.val ∧ a.uplink = q.uplink ∧
      a.p = laneDivisor (profileOf profile.toNat).rate ∧ a.pos.length = laneCount (profileOf profile.toNat).rate := by
  obtain ⟨phases, fits⟩ := lane_fits profile
  obtain ⟨ph, pos, found⟩ := s.findLane_empty empty phases fits
  have some' : q.dirs.isEmpty = false := by rwa [List.isEmpty_eq_false_iff]
  simp only [State.placeLane, some', Bool.false_eq_true, if_false, found]
  obtain ⟨u, placed, on, -⟩ := State.placeIn_empty
    { slot := 0, node := q.anchorNode, chan := q.anchorSlot.val, uplink := q.uplink, p := laneDivisor (profileOf profile.toNat).rate,
      phase := ph, pos := pos, returned := false, profile := profile, ta0 := ((s.laneRec (requestKey q)).note q).ta0,
      join := ((s.laneRec (requestKey q)).note q).join } distinct (s := s.useFree 1) empty
  exact ⟨_, u, placed, on, rfl, rfl, rfl, rfl, s.findLane_length found⟩

/-- Where a direction has no lane slot left the lane of a request has no place (R198). -/
theorem State.placeLane_full (named : q.dirs ≠ []) (distinct : q.dirs.Nodup) (profile : BitVec 4)
    (full : ∃ d ∈ q.dirs, s.laneSlotFree d = none) : s.placeLane q q.dirs profile = none := by
  have some' : q.dirs.isEmpty = false := by rwa [List.isEmpty_eq_false_iff]
  simp only [State.placeLane, some', Bool.false_eq_true, if_false]
  split
  · exact State.placeIn_full _ distinct full
  · rfl

/-- What goes to the lane's other channels leaves each direction's lanes where they are (R225, R239). -/
theorem State.lanesOn_spreadLane (s : State) (key but d : Nat) : (s.spreadLane key but).lanesOn d = (s.lanesOn d).map fun a =>
    if laneKey a.node a.chan = key then
      { a with profile := (s.laneRec key).profile, ta0 := (s.laneRec key).ta0, join := (s.laneRec key).join } else a := by
  unfold State.spreadLane
  refine (State.lanesOn_of_net (State.net_foldl (fun u m => ?_) _ _) d).trans ?_
  · split
    · rfl
    · exact u.laneAgain_net _ _
  · exact tblGet_tblMap_nil _ (fun _ => List.map_nil) d s.fab.headMap

theorem laneMapRequestRx_places (head : s.fab.isHead = true) (stays : q.leave = false) (alone : q.kept = [])
    (within : s.beyondCeil q = false) (named : q.dirs ≠ []) (distinct : q.dirs.Nodup) (first : s.dirsOf (requestKey q) = [])
    (empty : ∀ d ∈ q.dirs, s.lanesOn d = []) : s.gives (.laneMapRequestRx q) fun u => ∀ d ∈ q.dirs, ∃ a ∈ u.lanesOn d,
      a.node = q.anchorNode ∧ a.chan = q.anchorSlot.val ∧ a.uplink = q.uplink ∧
        a.p = laneDivisor (profileOf (s.laneProfile q).toNat).rate ∧
        a.pos.length = laneCount (profileOf (s.laneProfile q).toNat).rate := by
  obtain ⟨a, u, placed, on, node, chan, uplink, p, pos⟩ := State.placeLane_empty (s := s.cleared q) named distinct (s.laneProfile q)
    fun d hd => State.lanesOn_cleared (empty d hd)
  have runs := execLaneMapRequestRx_first head stays alone first
  rw [within, if_neg Bool.false_ne_true, placed] at runs
  refine ⟨_, runs, fun d hd => ?_⟩
  have there : ((u.noteLane q).answerLane q true).lanesOn d = [a] := on d hd
  simp only [Option.elim_some, State.lanesOn_spreadLane, there, List.map_cons, List.map_nil, List.mem_singleton, exists_eq_left]
  split
  · exact ⟨node, chan, uplink, p, pos⟩
  · exact ⟨node, chan, uplink, p, pos⟩

theorem laneMapRequestRx_refuses (head : s.fab.isHead = true) (stays : q.leave = false) (alone : q.kept = [])
    (within : s.beyondCeil q = false) (named : q.dirs ≠ []) (distinct : q.dirs.Nodup) (first : s.dirsOf (requestKey q) = [])
    (full : ∃ d ∈ q.dirs, s.laneSlotFree d = none) (new : (s.laneRec (requestKey q)).profile = 15) :
    s.gives (.laneMapRequestRx q) fun u => u.fab.headMap = s.fab.headMap ∧
      ∃ x, tblFind (laneKey q.node q.slot) u.fab.answers = some x ∧ x.granted = false := by
  have stands : s.cleared q = s := by
    have notAnew : s.laneAnew q = false := by
      rw [State.laneAnew, new]
      simp
    rw [State.cleared, notAnew]
    rfl
  have runs := execLaneMapRequestRx_first head stays alone first
  rw [within, if_neg Bool.false_ne_true, stands, State.placeLane_full named distinct _ full] at runs
  exact ⟨_, runs, rfl, _, tblFind_tblPut_same _ _ _, rfl⟩

end

/-- Settles O39: the links' states are read off their records, which a break leaves to the other links; the head's maps off the place
that a request finds. -/
theorem linksAndLaneMaps : Obligations.LinksAndLaneMaps := by
  intro s l
  refine ⟨linkLightDetected_trains, linkUp_rises, linkUp_tap, linkDown_breaks, fun c => ?_, fun q head => ?_⟩
  · exact ⟨linkLullEnter_lulls, linkLullExit_rises,
      fun h st1 st2 => ⟨frameHeaderRx_takes st1 st2, frameHeaderRx_ignores st1 st2, frameHeaderRx_misses st1 st2,
        frameHeaderRx_loses st1 st2⟩,
      laneMapChange_maps⟩
  · refine ⟨laneMapRequestRx_ends head, fun stays alone => ⟨fun ul member above => ?_, fun within named distinct first => ?_⟩⟩
    · exact ⟨_, execLaneMapRequestRx_beyond head stays alone (State.beyondCeil_of_over ul member above), rfl⟩
    · have fits := State.beyondCeil_of_within within
      exact ⟨laneMapRequestRx_places head stays alone fits named distinct first,
        laneMapRequestRx_refuses head stays alone fits named distinct first⟩

end Sys2Proof.Machine

namespace Sys2Proof.Machine

/-! A task whose wait ends leaves the channels alone, where its next instruction may be fetched (R353). -/

section

variable {s : State} {t : Nat} {k : Task} {w : Wait} (h : s.task? t = some k) (waits : k.st = .waiting w) (hn : s.nextOk k)

include h waits hn

theorem State.wakeRaw_rad (gd gb : Reg) (a b : Word) : (s.wakeRaw t gd gb a b).rad = s.rad := by
  have regs : (s.putReg t gd a).putReg t gb b = s.setTask t ((k.put gd a).put gb b) := by
    rw [State.putReg_eq h, State.putReg_eq (State.task?_setTask s t _), State.setTask_setTask]
  have fetch : (s.setTask t ((k.put gd a).put gb b)).goto0 t (k.pc + 4) = s.setTask t (k.step2 gd gb a b) := by
    rw [State.goto0_eq (State.task?_setTask s t _) (by simpa [State.nextOk] using hn), State.setTask_setTask]
    rfl
  have st : (k.step2 gd gb a b).st = .waiting w := by simp [Task.step2, waits]
  simp only [State.wakeRaw, h, regs, fetch, State.task?_setTask, st]
  exact State.makeReady_rad _ _

/-- A wait that ends with two values, counted or not, changes no channel. -/
theorem State.wakeWith_woken (gd gb : Reg) (a b : Word) :
    (s.wakeWith t gd gb a b).woken t k gd gb a b ∧ (s.wakeWith t gd gb a b).rad = s.rad := by
  have raw := State.wakeRaw_resumes h waits hn gd gb a b
  rw [State.wakeWith, State.afterEnd, raw.serveJoins, ← State.resumes_step2, State.place_rad]
  exact ⟨State.place_resumes raw, State.wakeRaw_rad h waits hn gd gb a b⟩

end

/-! A change of one channel's trunk side (R108, R110, R235, R236). -/

/-- What the slot shows apart from what a task has staged. -/
def Slot.unstaged (x : Slot) : Slot := { x with pend := none }

theorem State.OnlyWakes.unstaged {s u : State} (h : s.OnlyWakes u) (n : Nat) : (u.slot n).unstaged = (s.slot n).unstaged := h.slot n

theorem Slot.of_unstaged {x y : Slot} (h : x.unstaged = y.unstaged) :
    x.trunk = y.trunk ∧ x.mutes = y.mutes ∧ x.muteReq = y.muteReq ∧ x.set = y.set ∧ x.req = y.req := by
  have at' : ∀ {α : Type} (π : Slot → α), π x.unstaged = π y.unstaged := fun π => congrArg π h
  exact ⟨at' Slot.trunk, at' Slot.mutes, at' Slot.muteReq, at' Slot.set, at' Slot.req⟩

/-- TRK's mute stands, or is to stand from the next round boundary on. -/
def Slot.trkSilent (x : Slot) : Prop := x.mutes.trk = true ∨ x.muteReq.trk = true

/-- A channel's TRK mute follows its causes; its lane stays as it is. -/
theorem State.trkMute_slot (s : State) (k : Nat) :
    ((s.trkMute k).slot k).trunk = (s.slot k).trunk ∧ ((s.trkMute k).slot k).set = (s.slot k).set ∧
      ((s.slot k).trunk.holds = true → ((s.trkMute k).slot k).trkSilent) ∧
      ((s.slot k).trunk.holds = false → ((s.trkMute k).slot k).mutes.trk = false) ∧
      ∀ i, i ≠ k → ((s.trkMute k).slot i).unstaged = (s.slot i).unstaged := by
  unfold State.trkMute
  extract_lets x
  by_cases holds : x.trunk.holds = true
  · rw [if_pos holds]
    by_cases muted : x.mutes.trk = true
    · rw [if_pos muted]
      exact ⟨rfl, rfl, fun _ => .inl muted, fun free => absurd (holds.symm.trans free) (by decide), fun _ _ => rfl⟩
    · rw [if_neg muted, State.slot_mapSlot]
      exact ⟨rfl, rfl, fun _ => .inr rfl, fun free => absurd (holds.symm.trans free) (by decide),
        fun i hi => by rw [State.slot_mapSlot_ne _ hi]⟩
  · rw [if_neg holds]
    by_cases muted : (x.mutes.trk || x.muteReq.trk) = true
    · rw [if_pos muted]
      set v := s.mapSlot k fun x =>
        { x with mutes := { x.mutes with trk := false }, muteReq := { x.muteReq with trk := false } }
      have wakes := v.chEvent_onlyWakes k
      obtain ⟨trunk, mutes, -, set', -⟩ := Slot.of_unstaged (wakes.unstaged k)
      have own : v.slot k = { x with mutes := { x.mutes with trk := false }, muteReq := { x.muteReq with trk := false } } :=
        s.slot_mapSlot k _
      rw [trunk, mutes, set', own]
      exact ⟨rfl, rfl, fun h => absurd h holds, fun _ => rfl, fun i hi => by rw [wakes.unstaged i, s.slot_mapSlot_ne hi]⟩
    · rw [if_neg muted]
      refine ⟨rfl, rfl, fun h => absurd h holds, fun _ => ?_, fun _ _ => rfl⟩
      simp only [Bool.or_eq_true, not_or, Bool.not_eq_true] at muted
      exact muted.1

/-- A trunk side without the cause for which R235 holds it. -/
def Trunk.uncaused (x : Trunk) : Trunk := { x with cause := 0 }

/-- R235 is examined: of the channel's lane only the cause changes. -/
theorem State.memberCheck_slot (s : State) (k : Nat) :
    ((s.memberCheck k).slot k).trunk.uncaused = (s.slot k).trunk.uncaused ∧ ((s.memberCheck k).slot k).set = (s.slot k).set ∧
      ∀ i, i ≠ k → ((s.memberCheck k).slot i).unstaged = (s.slot i).unstaged := by
  unfold State.memberCheck
  extract_lets x c s1
  split
  · exact ⟨rfl, rfl, fun _ _ => rfl⟩
  · have checked : (s1.slot k).trunk.uncaused = x.trunk.uncaused ∧ (s1.slot k).set = x.set ∧
        ∀ i, i ≠ k → (s1.slot i).unstaged = (s.slot i).unstaged := by
      obtain ⟨trunk, set', -, -, others⟩ := (s.mapSlot k fun x => { x with trunk := { x.trunk with cause := c } }).trkMute_slot k
      rw [State.slot_mapSlot] at trunk set'
      have uncaused := congrArg Trunk.uncaused trunk
      exact ⟨uncaused, set', fun i hi => (others i hi).trans (by rw [State.slot_mapSlot_ne _ hi])⟩
    split
    · exact checked
    · have logged : ∀ v : State, v.rad.slots = s1.rad.slots → (v.slot k).trunk.uncaused = x.trunk.uncaused ∧
          (v.slot k).set = x.set ∧ ∀ i, i ≠ k → (v.slot i).unstaged = (s.slot i).unstaged := fun v same => by
        have slots : v.slot = s1.slot := by
          funext n
          rw [State.slot, same]
          rfl
        rw [slots]
        exact checked
      exact logged _ (by rw [State.log_rad, State.linePulse_rad])

/-! Two of the trunks' flags last while tasks wake or end: that a lane has been lost, and that the lanes' timing is free (R523, case 9 of
R301). -/

/-- That a lane has been lost, and that the timing of trunk channels is undefined. -/
def Radio.lanesFlagged (r : Radio) : Bool × Bool := (r.tLost, r.laneTimingFree)

theorem State.lanesFlagged_foldl {α : Type} {f : State → α → State}
    (hf : ∀ (s : State) (a : α), (f s a).rad.lanesFlagged = s.rad.lanesFlagged) (l : List α) (s : State) : (l.foldl f s).rad.lanesFlagged = s.rad.lanesFlagged := by
  induction l generalizing s with
  | nil => rfl
  | cons a l ih => exact (ih (f s a)).trans (hf s a)

@[simp] theorem State.dropPend_lanesFlagged (s : State) (t : Nat) : (s.dropPend t).rad.lanesFlagged = s.rad.lanesFlagged := rfl

@[simp] theorem State.dropWait_lanesFlagged (s : State) (t : Nat) : (s.dropWait t).rad.lanesFlagged = s.rad.lanesFlagged := by
  unfold State.dropWait
  split
  · split <;> rfl
  · rfl

@[simp] theorem State.endTask0_lanesFlagged (s : State) (t : Nat) (v : Word) :
    (s.endTask0 t v).rad.lanesFlagged = s.rad.lanesFlagged := by
  unfold State.endTask0
  split
  · rfl
  · exact s.dropWait_lanesFlagged t

@[simp] theorem State.exceptionEnd_lanesFlagged (s : State) (t : Nat) (cause : Byte) (pc addr : Word) (n : Nat) :
    (s.exceptionEnd t cause pc addr n).rad.lanesFlagged = s.rad.lanesFlagged := by
  unfold State.exceptionEnd
  split
  · rfl
  · simp

@[simp] theorem State.exception0_lanesFlagged (s : State) (t : Nat) (cause : Byte) (pc addr : Word) (n : Nat) :
    (s.exception0 t cause pc addr n).rad.lanesFlagged = s.rad.lanesFlagged := by
  unfold State.exception0
  split
  · rfl
  · split
    · dsimp only
      split_ifs <;> simp
    · simp

@[simp] theorem State.goto0_lanesFlagged (s : State) (t : Nat) (target : Word) :
    (s.goto0 t target).rad.lanesFlagged = s.rad.lanesFlagged := by
  unfold State.goto0
  split
  · rfl
  · split_ifs <;> simp

@[simp] theorem State.wakeRaw_lanesFlagged (s : State) (t : Nat) (gd gb : Reg) (v w : Word) :
    (s.wakeRaw t gd gb v w).rad.lanesFlagged = s.rad.lanesFlagged := by
  unfold State.wakeRaw
  split
  · rfl
  · extract_lets s1
    have went : s1.rad.lanesFlagged = s.rad.lanesFlagged := by simp [s1]
    split
    · split
      · rw [State.makeReady_rad, went]
      · exact went
    · exact went

@[simp] theorem State.serveJoins_lanesFlagged (fuel : Nat) (s : State) (t : Nat) :
    (s.serveJoins t fuel).rad.lanesFlagged = s.rad.lanesFlagged := by
  induction fuel generalizing s t with
  | zero => rfl
  | succ fuel ih =>
    unfold State.serveJoins
    split
    · rfl
    · split
      · split
        · rfl
        · rw [State.lanesFlagged_foldl fun u x => by simp [ih], ih]
          simp
      · rfl

@[simp] theorem State.wakeWith_lanesFlagged (s : State) (t : Nat) (gd gb : Reg) (v w : Word) :
    (s.wakeWith t gd gb v w).rad.lanesFlagged = s.rad.lanesFlagged := by
  simp [State.wakeWith, State.afterEnd]

@[simp] theorem State.event_lanesFlagged (s : State) (p : PartId) (bit : Nat) :
    (s.event p bit).rad.lanesFlagged = s.rad.lanesFlagged := by
  have wakes : ∀ u : State, (u.wakeEvents p).rad.lanesFlagged = u.rad.lanesFlagged := fun u => by
    unfold State.wakeEvents
    dsimp only
    rw [State.lanesFlagged_foldl fun v x => by simp [State.wake]]
    simp
  rw [State.event, wakes]
  simp

theorem State.chEvent_lanesFlagged (s : State) (k : Nat) : (s.chEvent k).rad.lanesFlagged = s.rad.lanesFlagged := by
  unfold State.chEvent
  dsimp only
  split
  · exact s.event_lanesFlagged _ _
  · rfl

theorem State.trkMute_lanesFlagged (s : State) (k : Nat) : (s.trkMute k).rad.lanesFlagged = s.rad.lanesFlagged := by
  unfold State.trkMute
  dsimp only
  split_ifs
  · rfl
  · rfl
  · exact State.chEvent_lanesFlagged _ k
  · rfl

theorem State.memberCheck_lanesFlagged (s : State) (k : Nat) : (s.memberCheck k).rad.lanesFlagged = s.rad.lanesFlagged := by
  unfold State.memberCheck
  extract_lets x c s1
  have checked : s1.rad.lanesFlagged = s.rad.lanesFlagged := State.trkMute_lanesFlagged _ k
  split
  · rfl
  · split
    · exact checked
    · rw [State.log_rad, State.linePulse_rad]
      exact checked


/-! A lane that the head issues again (R212, R225, R234). -/

section

variable {s : State} {n : Nat} {a : LaneAnswer}

/-- The member's trunk side takes no part in following its anchor's profile. -/
theorem State.followProfile_trunk (s : State) (n : Nat) (p : BitVec 4) :
    ((s.followProfile n p).slot n).trunk = (s.slot n).trunk := by
  unfold State.followProfile
  extract_lets x c r s1 src
  split
  · have own := congrArg Slot.trunk (s.slot_mapSlot n fun x => { x with req := some r })
    exact own
  · rfl

theorem Trunk.of_uncaused {x y : Trunk} (h : x.uncaused = y.uncaused) :
    x.dL = y.dL ∧ x.ceil = y.ceil ∧ x.ta0 = y.ta0 ∧ x.align = y.align ∧ x.rel = y.rel ∧ x.desc = y.desc ∧
      x.stamped = y.stamped ∧ x.stampAt = y.stampAt ∧ x.snum = y.snum ∧ x.via = y.via ∧ x.next = y.next := by
  have at' : ∀ {α : Type} (π : Trunk → α), π x.uncaused = π y.uncaused := fun π => congrArg π h
  exact ⟨at' Trunk.dL, at' Trunk.ceil, at' Trunk.ta0, at' Trunk.align, at' Trunk.rel, at' Trunk.desc, at' Trunk.stamped,
    at' Trunk.stampAt, at' Trunk.snum, at' Trunk.via, at' Trunk.next⟩

section

variable (live : (s.slot n).live = true) (uses : (s.slot n).set.member = true ∨ (s.slot n).set.anchor = true)

include live uses

/-- A live member or anchor takes the answer with its settings or the anchor's profile, or is silenced. -/
theorem State.laneAgain_eq (a : LaneAnswer) : ∃ c : Settings, s.laneAgain n a =
    if a.granted then ((s.setSlot n ((s.slot n).answered c a)).followProfile n a.profile).memberCheck n else s.laneGone n := by
  have stays : ¬(!((s.slot n).live && ((s.slot n).set.member || (s.slot n).set.anchor))) = true := by
    rw [live]
    rcases uses with h | h <;> rw [h] <;> simp
  exact ⟨_, if_neg stays⟩

theorem State.laneAgain_granted (granted : a.granted = true) : ((s.laneAgain n a).slot n).trunk.dL = a.dL ∧
    ((s.laneAgain n a).slot n).trunk.ceil = a.ceil ∧ ((s.laneAgain n a).slot n).trunk.ta0 = a.ta0 := by
  obtain ⟨c, takes⟩ := State.laneAgain_eq live uses a
  rw [takes, if_pos granted]
  set v := s.setSlot n ((s.slot n).answered c a)
  obtain ⟨checked, -⟩ := (v.followProfile n a.profile).memberCheck_slot n
  obtain ⟨dL, ceil, ta0, -⟩ := Trunk.of_uncaused checked
  rw [dL, ceil, ta0, State.followProfile_trunk, State.slot_setSlot]
  exact ⟨rfl, rfl, rfl⟩

theorem State.laneAgain_refused (refused : a.granted = false) :
    ((s.laneAgain n a).slot n).trunk.lost = true ∧ ((s.laneAgain n a).slot n).trkSilent := by
  obtain ⟨c, takes⟩ := State.laneAgain_eq live uses a
  rw [takes, refused, if_neg Bool.false_ne_true, State.laneGone]
  set v := s.mapSlot n fun x => { x with trunk := { x.trunk with lost := true, stamped := false, desc := 0 } }
  have own : v.slot n = { s.slot n with trunk := { (s.slot n).trunk with lost := true, stamped := false, desc := 0 } } :=
    s.slot_mapSlot n _
  have holds : (v.slot n).trunk.holds = true := by
    rw [own]
    rfl
  obtain ⟨trunk, -, silent, -⟩ := v.trkMute_slot n
  have logged : ∀ c p0 p1 p2, (((v.trkMute n).log c p0 p1 p2).slot n) = (v.trkMute n).slot n := fun c p0 p1 p2 =>
    State.slot_of_rad (State.log_rad _ c p0 p1 p2) n
  simp only [logged]
  exact ⟨by rw [trunk, own], silent holds⟩

end

end

/-! The head's answer (R19, R21, R198, R207, R212, R225, R234, R340). -/

section

variable {s : State} {n : SlotId} (a0 : LaneAnswer)

/-- The answer as it takes effect: a refusal for a commit that has timed out (R340). -/
def State.timely (s : State) (n : SlotId) (a0 : LaneAnswer) : LaneAnswer :=
  if s.answerLate n then { a0 with granted := false } else a0

theorem commitLaneResult_held (holds : s.holdsAnswers n = true) : exec (.commitLaneResult n a0) s =
    .next { s with rad := { s.rad with laneAns := s.rad.laneAns ++ [(n.val, s.timely n a0)] } } := by
  show execCommitLaneResult n a0 s = _
  rw [execCommitLaneResult]
  exact congrArg _ (if_pos holds)

section

variable (free : s.holdsAnswers n = false)

include free

theorem execCommitLaneResult_free : exec (.commitLaneResult n a0) s = .next (s.laneResult n (s.timely n a0)) := by
  show execCommitLaneResult n a0 s = _
  rw [execCommitLaneResult]
  exact congrArg _ (if_neg (by rw [free]; exact Bool.false_ne_true))

/-- The answer of a commit that was discarded with its task is no answer (R19). -/
theorem commitLaneResult_dropped (drops : s.dropsAnswer n = true) :
    s.gives (.commitLaneResult n a0) fun u => u.rad.slots = s.rad.slots ∧ u.cpu = s.cpu := by
  refine ⟨_, execCommitLaneResult_free a0 free, ?_⟩
  have dropped : ∀ u : State, (u.dropped n).rad.slots = u.rad.slots ∧ (u.dropped n).cpu = u.cpu := fun u => by
    unfold State.dropped
    split <;> exact ⟨rfl, rfl⟩
  have runs : s.laneResult n (s.timely n a0) = (s.answerDone n).dropped n := if_pos drops
  rw [runs]
  exact dropped _

section

variable (kept : s.dropsAnswer n = false)

include kept

theorem laneResult_kept : exec (.commitLaneResult n a0) s = .next (match commitWaiter n s.cpu.tasks with
    | none => (s.answerDone n).laneAgain n (s.answerFor n (s.timely n a0))
    | some (t, gd, fade) => (s.answerDone n).commitAnswered n (s.answerFor n (s.timely n a0)) t gd fade) := by
  rw [execCommitLaneResult_free a0 free]
  refine congrArg _ ((if_neg ?_).trans rfl)
  exact fun drops => Bool.false_ne_true (kept.symm.trans drops)

/-- A lane that the head issues again reaches its channel with no commit that waits (R212). -/
theorem commitLaneResult_again (alone : commitWaiter n s.cpu.tasks = none) (live : (s.slot n).live = true)
    (uses : (s.slot n).set.member = true ∨ (s.slot n).set.anchor = true) :
    s.gives (.commitLaneResult n a0) fun u =>
      if (s.answerFor n (s.timely n a0)).granted then
        (u.slot n).trunk.dL = (s.answerFor n (s.timely n a0)).dL ∧ (u.slot n).trunk.ceil = (s.answerFor n (s.timely n a0)).ceil ∧
          (u.slot n).trunk.ta0 = (s.answerFor n (s.timely n a0)).ta0
      else (u.slot n).trunk.lost = true ∧ (u.slot n).trkSilent := by
  have runs := laneResult_kept a0 free kept
  simp only [alone] at runs
  refine ⟨_, runs, ?_⟩
  generalize s.answerFor n (s.timely n a0) = a
  split
  · rename_i granted
    exact State.laneAgain_granted (s := s.answerDone n) live uses granted
  · rename_i refused
    exact State.laneAgain_refused (s := s.answerDone n) live uses (Bool.not_eq_true _ ▸ refused)

end

end

end

/-! A commit that waits for the head's answer (R198, R225, R234, R340). -/

theorem answeredRequest_eq (s : State) (n : SlotId) (t : Nat) (f : Bool) (a : LaneAnswer) : AnsweredRequest s n t f a =
    (if ((s.slot n).request t f).set.member && decide (a.profile.toNat < 14) then
      { (s.slot n).request t f with set := ((s.slot n).request t f).set.withProfile a.profile } else (s.slot n).request t f) := by
  unfold AnsweredRequest
  simp only [Bool.and_eq_true, decide_eq_true_eq]
  rfl

section

variable (v : State) (n : SlotId) (a : LaneAnswer) (t : Nat) (f : Bool) (gd : Reg)

theorem State.commitAnswered_noLane (refused : a.granted = false)
    (code : v.commitCode n (AnsweredRequest v n t f a) = 1 ∨ v.commitCode n (AnsweredRequest v n t f a) = 3) :
    v.commitAnswered n a t gd f = (v.count 197).wakeRefuse t gd 3 := by
  unfold State.commitAnswered
  extract_lets r0 known r code'
  have same : code' = v.commitCode n (AnsweredRequest v n t f a) := congrArg (v.commitCode n) (answeredRequest_eq v n t f a).symm
  rw [same, refused]
  rcases code with h | h <;> rw [h] <;> rfl

theorem State.commitAnswered_uncovered (code : v.commitCode n (AnsweredRequest v n t f a) = 4) :
    v.commitAnswered n a t gd f = (v.commitRefused n (AnsweredRequest v n t f a) 4).wakeRefuse t gd 4 := by
  unfold State.commitAnswered
  extract_lets r0 known r code'
  have request : r = AnsweredRequest v n t f a := (answeredRequest_eq v n t f a).symm
  have same : code' = 4 := (congrArg (v.commitCode n) request).trans code
  rw [same, request]
  rfl

theorem State.commitAnswered_admitted (granted : a.granted = true) (code : v.commitCode n (AnsweredRequest v n t f a) = 1) :
    v.commitAnswered n a t gd f = ((v.commitAdmit t n (AnsweredRequest v n t f a)).mapSlot n fun x =>
      x.answered (AnsweredRequest v n t f a).set a).wake t gd 1 := by
  unfold State.commitAnswered
  extract_lets r0 known r code'
  have request : r = AnsweredRequest v n t f a := (answeredRequest_eq v n t f a).symm
  have same : code' = 1 := (congrArg (v.commitCode n) request).trans code
  rw [same, request, granted]
  rfl

end

section

variable {v : State} {n : SlotId} {a : LaneAnswer} {t : Nat} {f : Bool} {gd : Reg} {k : Task} {w : Wait} (h : v.task? t = some k)
  (waits : k.st = .waiting w) (hn : v.nextOk k)

include h waits hn

/-- The head maps no lane: the commit returns NO_BUDGET and its channel stays as it is. -/
theorem State.commitAnswered_noLane_woken (refused : a.granted = false)
    (code : v.commitCode n (AnsweredRequest v n t f a) = 1 ∨ v.commitCode n (AnsweredRequest v n t f a) = 3) :
    (v.commitAnswered n a t gd f).woken t k gd 0 3 0 ∧ (v.commitAnswered n a t gd f).rad.slots = v.rad.slots := by
  rw [v.commitAnswered_noLane n a t f gd refused code]
  have counted : (v.count 197).nextOk k := by rw [State.nextOk, State.fetchClean_count]; exact hn
  obtain ⟨woken, rad⟩ := State.wakeWith_woken (congrFun (State.task?_count v 197) t |>.trans h) waits counted gd 0 3 0
  exact ⟨woken, congrArg Radio.slots (rad.trans (State.count_rad v 197))⟩

/-- The charter does not cover the commit any more. -/
theorem State.commitAnswered_uncovered_woken (code : v.commitCode n (AnsweredRequest v n t f a) = 4) :
    (v.commitAnswered n a t gd f).woken t k gd 0 4 0 ∧ (v.commitAnswered n a t gd f).rad.slots = v.rad.slots ∧
      (v.commitAnswered n a t gd f).rad.refuse = true := by
  rw [v.commitAnswered_uncovered n a t f gd code]
  generalize AnsweredRequest v n t f a = r
  obtain ⟨cpu, ms, slots, -, -⟩ := v.commitRefused_leaves n r 4
  have refuse : (v.commitRefused n r 4).rad.refuse = true := by
    rw [State.commitRefused, if_pos rfl, State.count_rad]
  have clean : (v.commitRefused n r 4).nextOk k := by rw [State.nextOk, State.fetchClean_congr ms]; exact hn
  obtain ⟨woken, rad⟩ := State.wakeWith_woken ((State.task?_of_cpu cpu t).trans h) waits clean gd 0 4 0
  exact ⟨woken, (congrArg Radio.slots rad).trans slots, (congrArg Radio.refuse rad).trans refuse⟩

/-- The commit is admitted with the delays of its lane. -/
theorem State.commitAnswered_admitted_woken (granted : a.granted = true) (code : v.commitCode n (AnsweredRequest v n t f a) = 1) :
    let u := v.commitAnswered n a t gd f
    let r := AnsweredRequest v n t f a
    u.woken t k gd 0 1 0 ∧ (∃ m, (u.slot n).req = some m ∧ v.commitCode n m = 1 ∧ (v.unordered t n = false → m.set = r.set)) ∧
      u.rad.roundQ = v.rad.roundQ ++ [RoundOp.commit n] ∧ (u.slot n).trunk = (((v.slot n).answered r.set a)).trunk := by
  intro u r
  have runs : u = ((v.commitAdmit t n r).mapSlot n fun x => x.answered r.set a).wake t gd 1 :=
    v.commitAnswered_admitted n a t f gd granted code
  rw [runs]
  set m := (v.slot n).settledFade (v.settleReq t n r) with hm
  set y := (v.commitAdmit t n r).mapSlot n fun x => x.answered r.set a with hy
  have admitted : (v.commitAdmit t n r).rad = (v.admits t n m).rad := by
    rw [State.commitAdmit_eq, State.count_rad]
    rfl
  have task : y.task? t = some k := by
    have same : (v.commitAdmit t n r).task? t = v.task? t := by
      rw [State.commitAdmit_eq, State.task?_count]
      rfl
    exact same.trans h
  have clean : y.nextOk k := by
    have same : y.ms = v.ms := by
      have admitting : (v.commitAdmit t n r).ms = v.ms := by
        rw [State.commitAdmit_eq, State.count_ms]
        rfl
      exact admitting
    rw [State.nextOk, State.fetchClean_congr same]
    exact hn
  have own : y.slot n = ((v.slot n).admitting t m).answered r.set a := by
    rw [hy, State.slot_mapSlot, State.slot_of_rad admitted]
    exact congrArg (fun x : Slot => x.answered r.set a) (State.slot_setSlot v n _)
  have queue : y.rad.roundQ = v.rad.roundQ ++ [RoundOp.commit n] := congrArg Radio.roundQ admitted
  have wakes := y.wake_onlyWakes t gd 1
  obtain ⟨trunk, -, -, -, req⟩ := Slot.of_unstaged (wakes.unstaged n)
  obtain ⟨passes, -⟩ := State.settleReq_passes code t
  refine ⟨State.wake2_woken task waits clean gd 0 1 0, ⟨m, ?_, ?_, fun ordered => ?_⟩, wakes.roundQ.trans queue, ?_⟩
  · rw [req, own]
    rfl
  · exact (v.commitCode_settledFade n _).trans passes
  · rw [hm, State.settleReq_ordered ordered]
    rfl
  · rw [trunk, own]
    rfl

end

theorem commitLaneResult_waits {s : State} {n : SlotId} (a0 : LaneAnswer) (free : s.holdsAnswers n = false) (kept : s.dropsAnswer n = false)
    {t : Nat} {k : Task} {gd : Reg} {f : Bool} {due : Nat} (waiter : commitWaiter n s.cpu.tasks = some (t, gd, f))
    (h : s.task? t = some k) (waits : k.st = .waiting (.commit gd n f due)) (hn : s.nextOk k) :
    let a := s.answerFor n (s.timely n a0)
    let r := AnsweredRequest s n t f a
    (a.granted = false → s.commitCode n r = 1 ∨ s.commitCode n r = 3 →
      s.gives (.commitLaneResult n a0) fun u => u.woken t k gd 0 3 0 ∧ u.rad.slots = s.rad.slots) ∧
    (s.commitCode n r = 4 →
      s.gives (.commitLaneResult n a0) fun u => u.woken t k gd 0 4 0 ∧ u.rad.slots = s.rad.slots ∧ u.rad.refuse = true) ∧
    (a.granted = true → s.commitCode n r = 1 →
      s.gives (.commitLaneResult n a0) fun u => u.woken t k gd 0 1 0 ∧
        (∃ m, (u.slot n).req = some m ∧ s.commitCode n m = 1 ∧ (s.unordered t n = false → m.set = r.set)) ∧
        u.rad.roundQ = s.rad.roundQ ++ [RoundOp.commit n] ∧
        (u.slot n).trunk.dL = a.dL ∧ (u.slot n).trunk.ceil = a.ceil ∧ (u.slot n).trunk.ta0 = a.ta0 ∧
        ((u.slot n).trunk.dU = if r.set.contributor then r.set.prof.uplinkDelay a.path else 0) ∧
        (u.slot n).trunk.dReq = if r.set.sink then r.set.prof.uplinkDelay a.path else r.set.prof.required a.path) := by
  intro a r
  have runs := laneResult_kept a0 free kept
  simp only [waiter] at runs
  have codes : (s.answerDone n).commitCode = s.commitCode := State.commitCode_congr rfl rfl rfl
  have orders : (s.answerDone n).unordered = s.unordered := State.unordered_congr rfl rfl
  have clean : (s.answerDone n).nextOk k := by rw [State.nextOk, State.fetchClean_congr (s := s) (u := s.answerDone n) rfl]; exact hn
  refine ⟨fun refused code => ⟨_, runs, ?_⟩, fun code => ⟨_, runs, ?_⟩, fun granted code => ⟨_, runs, ?_⟩⟩
  · rw [← codes] at code
    exact State.commitAnswered_noLane_woken (v := s.answerDone n) h waits clean refused code
  · rw [← codes] at code
    exact State.commitAnswered_uncovered_woken (v := s.answerDone n) h waits clean code
  · rw [← codes] at code
    obtain ⟨woken, request, queue, trunk⟩ :=
      State.commitAnswered_admitted_woken (v := s.answerDone n) (gd := gd) h waits clean granted code
    rw [codes, orders] at request
    rw [trunk]
    exact ⟨woken, request, queue, rfl, rfl, rfl, rfl, rfl⟩

/-- The head's answers take effect (R19, R21, R198, R207, R212, R225, R234, R340). -/
theorem laneAnswers : LaneAnswers := by
  intro s n a0
  refine ⟨commitLaneResult_held a0, commitLaneResult_dropped a0, fun kept alone live uses => ?_,
    fun t k gd f due free kept waiter h waits hn => commitLaneResult_waits a0 free kept waiter h waits hn⟩
  have free : s.holdsAnswers n = false := by simp [State.holdsAnswers, alone]
  exact commitLaneResult_again a0 free kept alone live uses

/-! A lane that is lost and comes again (R236). -/

/-- No copy of its lane reaches the member any more: stamp and descriptor must come again. -/
def Trunk.losing (x : Trunk) : Trunk := { x with lost := true, stamped := false, desc := 0, next := none, via := none }

/-- The channel in slot `n` loses its lane: TRK is to hold it, and the loss is flagged. -/
def State.losesLane (s : State) (n : Nat) : State :=
  let s1 := s.mapSlot n fun x => { x with trunk := x.trunk.losing }
  (({ s1 with rad := { s1.rad with tLost := true } }).trkMute n).linePulse 9 0x58

theorem State.losesLane_silent (s : State) (n : Nat) : ((s.losesLane n).slot n).trunk.lost = true ∧
    ((s.losesLane n).slot n).trunk.stamped = false ∧ (s.losesLane n).rad.tLost = true ∧ ((s.losesLane n).slot n).trkSilent := by
  unfold State.losesLane
  extract_lets s1 src
  set v : State := { s1 with rad := { s1.rad with tLost := true } }
  have own : (v.slot n).trunk = (s.slot n).trunk.losing := by
    have put := congrArg Slot.trunk (s.slot_mapSlot n fun x => { x with trunk := x.trunk.losing })
    exact put
  have holds : (v.slot n).trunk.holds = true := by
    rw [own]
    rfl
  obtain ⟨trunk, -, silent, -⟩ := v.trkMute_slot n
  have flags : (v.trkMute n).rad.tLost = true := congrArg Prod.fst (v.trkMute_lanesFlagged n)
  rw [State.slot_of_rad (State.linePulse_rad _ 9 0x58) n, State.linePulse_rad, trunk, own]
  exact ⟨rfl, rfl, flags, silent holds⟩

section

variable {s : State} {n : SlotId}

theorem laneLost_silences (live : (s.slot n).live = true) (member : (s.slot n).set.dlMember = true)
    (heard : (s.slot n).trunk.lost = false) (runs : s.engineHeld = false) :
    s.gives (.laneLost n) fun u => (u.slot n).trunk.lost = true ∧ (u.slot n).trunk.stamped = false ∧ u.rad.tLost = true ∧
      (u.slot n).trkSilent := by
  exact State.gives_of_whenDo (v := (s.dropDesc (s.laneOf n (s.slot n).set)).losesLane n) (show _ = execLaneLost n s from rfl)
    (by rw [live, member, heard, runs]; rfl) (State.losesLane_silent _ n)

theorem laneRestore_unmutes (live : (s.slot n).live = true) (lost : (s.slot n).trunk.lost = true) (runs : s.engineHeld = false)
    (stamped : (s.slot n).trunk.stamped = true) (long : (s.slot n).trunk.stampAt + 983040 ≤ s.clk.ed)
    (valid : (s.slot n).trunk.desc = 1 ∨ (s.slot n).trunk.desc = 2) :
    s.gives (.laneRestore n) fun u => (u.slot n).trunk.lost = false ∧
      ((s.slot n).trunk.cause = 0 → (s.slot n).trunk.donorLost = false → (u.slot n).mutes.trk = false) := by
  have passed : (s.slot n).trunk.stampAt + edMs 1 ≤ s.clk.ed := long
  refine State.gives_of_whenDo (show _ = execLaneRestore n s from rfl) ?_ ?_
  · rw [live, lost, runs, stamped, decide_eq_true passed]
    rcases valid with h | h <;> rw [h] <;> rfl
  · set v := s.mapSlot n fun x => { x with trunk := { x.trunk with lost := false } }
    have own : (v.slot n).trunk = { (s.slot n).trunk with lost := false } := congrArg Slot.trunk (s.slot_mapSlot n _)
    obtain ⟨trunk, -, -, freed, -⟩ := v.trkMute_slot n
    rw [trunk]
    refine ⟨by rw [own], fun cause donor => freed ?_⟩
    rw [own]
    simp [Trunk.holds, cause, donor]

end

/-! The noise-funnel gate (R242, R243). -/

section

variable {s : State} {n : SlotId} {power : Level} {p : PortId}

theorem Trunk.gateStep_high (x : Trunk) (hang : Nat) : (x.gateStep true hang).gateOpen = true := by
  by_cases isOpen : x.gateOpen = true
  · simp [Trunk.gateStep, isOpen]
  · simp [Trunk.gateStep, isOpen]

theorem Trunk.gateStep_low {x : Trunk} {hang : Nat} (past : hang ≤ x.below + 1) : (x.gateStep false hang).gateOpen = false := by
  by_cases isOpen : x.gateOpen = true
  · simp [Trunk.gateStep, isOpen, past]
  · simp [Trunk.gateStep, isOpen]

variable (live : (s.slot n).live = true) (contributes : (s.slot n).set.contributor = true) (runs : s.engineHeld = false)
  (gated : (s.slot n).set.trunk.gate = true)

include live contributes runs gated

theorem gateWindow_held (held : s.gateHeld (s.slot n) = true) :
    s.gives (.gateWindow n power) fun u => (u.slot n).trunk.gateOpen = false := by
  refine State.gives_of_whenDo (show _ = execGateWindow n power s from rfl) (by rw [live, contributes, gated, runs]; rfl) ?_
  rw [if_pos held]
  have own := congrArg Slot.trunk (s.slot_mapSlot n fun x => { x with trunk := x.trunk.gateShut })
  rw [own]
  rfl

/-- Away from what holds it, the gate steps by the window's power against its threshold above the port's noise. -/
theorem gateWindow_steps (free : s.gateHeld (s.slot n) = false) (port : (s.slot n).set.rxPort = some p) :
    s.gives (.gateWindow n power) fun u => (u.slot n).trunk = (s.slot n).trunk.gateStep
      (decide (noiseRx p (s.slot n).set + 128 * (s.slot n).set.trunk.gth ≤ power)) (s.slot n).set.trunk.ghang := by
  refine State.gives_of_whenDo (show _ = execGateWindow n power s from rfl) (by rw [live, contributes, gated, runs]; rfl) ?_
  rw [if_neg (by rw [free]; exact Bool.false_ne_true), port]
  extract_lets nrx high s1
  have own : (s1.slot n).trunk = (s.slot n).trunk.gateStep high (s.slot n).set.trunk.ghang := congrArg Slot.trunk (s.slot_mapSlot n _)
  have same : high = decide (noiseRx p (s.slot n).set + 128 * (s.slot n).set.trunk.gth ≤ power) := rfl
  rw [← same, ← own]
  split
  · rw [State.slot_of_rad (State.count_rad s1 206) n]
  · rfl

end

end Sys2Proof.Machine

namespace Sys2Proof.Machine

/-! One of the entries over which an operation goes. -/

/-- An operation that goes over the entries of a list keeps `R`, and leaves `E` where entry `k` brings it about and no other undoes it. -/
theorem foldl_at {σ : Type} {f : σ → Nat → σ} {R E : σ → Prop} {k : Nat}
    (other : ∀ u j, j ≠ k → R u → R (f u j) ∧ (E u → E (f u j))) (own : ∀ u, R u → R (f u k) ∧ E (f u k)) (l : List Nat) {s : σ}
    (hs : R s) : R (l.foldl f s) ∧ (k ∈ l ∨ E s → E (l.foldl f s)) := by
  induction l generalizing s with
  | nil => exact ⟨hs, fun h => h.resolve_left List.not_mem_nil⟩
  | cons j l ih =>
    by_cases hj : j = k
    · subst hj
      obtain ⟨stays, holds⟩ := own s hs
      obtain ⟨rest, ends⟩ := ih stays
      exact ⟨rest, fun _ => ends (.inr holds)⟩
    · obtain ⟨stays, keeps⟩ := other s j hj hs
      obtain ⟨rest, ends⟩ := ih stays
      refine ⟨rest, fun h => ends (h.imp (fun mem => ?_) keeps)⟩
      exact (List.mem_cons.mp mem).resolve_left (Ne.symm hj)

/-! What goes on by the links (R208, R227, R232). -/

/-- Only the links differ. -/
def State.withLinks (s : State) (ls : Vector Link 4) : State := { s with links := ls }

section

variable (s : State) (key : Nat) (pick : ChainId → Lane → Bool) (f : Link → Lane → Link)

/-- One link direction of those by which a lane may go on. -/
def State.sendOn (s : State) (m : ChainId) : State :=
  match s.links[chainLink m].laneTo key with
  | some a => if pick m a then s.mapLink (chainLink m) fun x => f x a else s
  | none => s

/-- What a link does with a lane of those that it sends. -/
def Link.sends (x : Link) (m : ChainId) : Link :=
  match x.laneTo key with
  | some a => if pick m a then f x a else x
  | none => x

theorem State.sendOn_link (m : ChainId) : (s.sendOn key pick f m).links[chainLink m] = s.links[chainLink m].sends key pick f m := by
  unfold State.sendOn Link.sends
  cases s.links[chainLink m].laneTo key with
  | none => rfl
  | some a =>
    by_cases picked : pick m a = true
    · simp only [picked, if_true, State.link_mapLink]
    · simp only [picked]
      rfl

theorem State.sendOn_others (m : ChainId) : s.sendOn key pick f m = s.withLinks (s.sendOn key pick f m).links ∧
    ∀ i : ChainId, i ≠ m → (s.sendOn key pick f m).links[chainLink i] = s.links[chainLink i] := by
  unfold State.sendOn
  split
  · split
    · exact ⟨rfl, fun i hi => s.link_mapLink_ne (fun e => hi (chainLink_injective e)) _⟩
    · exact ⟨rfl, fun _ _ => rfl⟩
  · exact ⟨rfl, fun _ _ => rfl⟩

theorem State.sendOns (l : List ChainId) (once : l.Nodup) (s : State) : l.foldl (fun u m => u.sendOn key pick f m) s =
      s.withLinks (l.foldl (fun u m => u.sendOn key pick f m) s).links ∧
    ∀ i : ChainId, (l.foldl (fun u m => u.sendOn key pick f m) s).links[chainLink i] =
      if i ∈ l then s.links[chainLink i].sends key pick f i else s.links[chainLink i] := by
  induction l generalizing s with
  | nil => exact ⟨rfl, fun i => (if_neg List.not_mem_nil).symm⟩
  | cons m l ih =>
    obtain ⟨fresh, rest⟩ := List.nodup_cons.mp once
    obtain ⟨only, links⟩ := ih rest (s.sendOn key pick f m)
    obtain ⟨first, others⟩ := s.sendOn_others key pick f m
    have same : ∀ ls, (s.sendOn key pick f m).withLinks ls = s.withLinks ls := fun ls => by
      have again := congrArg (fun u : State => u.withLinks ls) first
      exact again
    refine ⟨only.trans (same _), fun i => (links i).trans ?_⟩
    · by_cases hi : i = m
      · subst hi
        rw [if_neg fresh, if_pos List.mem_cons_self, State.sendOn_link]
      · rw [others i hi]
        simp only [List.mem_cons, hi, false_or]

theorem State.sendLane_onlyLinks : s.sendLane key pick f = s.withLinks (s.sendLane key pick f).links :=
  (State.sendOns key pick f (List.finRange 3) (List.nodup_finRange 3) s).1

theorem State.sendLane_link (m : ChainId) :
    (s.sendLane key pick f).links[chainLink m] = s.links[chainLink m].sends key pick f m :=
  ((State.sendOns key pick f (List.finRange 3) (List.nodup_finRange 3) s).2 m).trans (if_pos (List.mem_finRange m))

end

/-- A block that leaves by a lane slot is the last that is kept of it. -/
theorem Link.sendBlock_kept (x : Link) (a : Lane) (now : Nat) (b : BitVec 64) :
    ((x.sendBlock a now b).outOf a.slot).kept.head? = some (now, b) := by
  unfold Link.sendBlock
  extract_lets o stamp span sent
  have put : ({ x with outs := tblPut a.slot sent x.outs } : Link).outOf a.slot = sent := tblGet_tblPut_same LaneOut.initial a.slot sent x.outs
  rw [put]
  rfl

/-- A link that is picked sends the block. -/
theorem Link.sends_block {x : Link} {key : Nat} {pick : ChainId → Lane → Bool} {m : ChainId} {a : Lane} (carried : x.laneTo key = some a)
    (picked : pick m a = true) (now : Nat) (b : BitVec 64) :
    ((x.sends key pick (fun x a => x.sendBlock a now b) m).outOf a.slot).kept.head? = some (now, b) := by
  unfold Link.sends
  simp only [carried, picked, if_true]
  exact x.sendBlock_kept a now b

/-- A link that is not picked stays. -/
theorem Link.sends_none {x : Link} {key : Nat} {pick : ChainId → Lane → Bool} {m : ChainId} (f : Link → Lane → Link)
    (unpicked : ∀ a, pick m a = false) : x.sends key pick f m = x := by
  unfold Link.sends
  split
  · rw [unpicked, if_neg Bool.false_ne_true]
  · rfl

/-! A lane's copy and the channels that take it (R224, R227). -/

theorem Link.copy_putCopy (x : Link) (i : Nat) (c : LaneCopy) : (x.putCopy i c).copy i = c :=
  tblGet_tblPut_same _ i c x.copies

/-- The copy that arrives by lane slot `i` is among what a link holds beside its traffic. -/
theorem State.copy_of_net {s u : State} (h : u.net = s.net) (l : LinkId) (i : Nat) : u.links[l].copy i = s.links[l].copy i := by
  have same := congrArg (fun x : Link => x.copy i) (State.beside_of_net h l)
  exact same

theorem State.takers_withLinks (s : State) (ls : Vector Link 4) : (s.withLinks ls).takers = s.takers := rfl

theorem State.members_withLinks (s : State) (ls : Vector Link 4) : (s.withLinks ls).members = s.members := rfl

theorem State.mem_takers {s : State} {key k : Nat} (h : k ∈ s.members key) : k ∈ s.takers key ∧ (s.slot k).set.dlMember = true :=
  List.mem_filter.mp h

/-! A lane's descriptor (R231, R236). -/

/-- The channel follows descriptor `code`. -/
def Slot.followed (x : Slot) (code : BitVec 4) : Prop :=
  x.trunk.desc = code ∧ (code = 3 → x.trkSilent) ∧ (code = 1 → x.trunk.donorLost = false)

theorem Slot.followed_of_unstaged {x y : Slot} {code : BitVec 4} (h : x.unstaged = y.unstaged) (hy : y.followed code) : x.followed code := by
  obtain ⟨trunk, mutes, muteReq, -, -⟩ := Slot.of_unstaged h
  unfold Slot.followed Slot.trkSilent at *
  rw [trunk, mutes, muteReq]
  exact hy

theorem State.followOn_slot (s : State) (k : Nat) (code : BitVec 4) : ((s.followOn k code).slot k).followed code ∧
    ∀ i, i ≠ k → ((s.followOn k code).slot i).unstaged = (s.slot i).unstaged := by
  unfold State.followOn
  set v := s.mapSlot k fun x => { x with trunk := x.trunk.follow code s.clk.ed }
  have own : (v.slot k).trunk = (s.slot k).trunk.follow code s.clk.ed := by
    have put := congrArg Slot.trunk (s.slot_mapSlot k fun x => { x with trunk := x.trunk.follow code s.clk.ed })
    exact put
  obtain ⟨trunk, -, silent, -, others⟩ := v.trkMute_slot k
  refine ⟨⟨by rw [trunk, own]; rfl, fun h3 => silent ?_, fun h1 => ?_⟩, fun i hi => (others i hi).trans ?_⟩
  · rw [own, h3]
    simp [Trunk.follow, Trunk.holds]
  · rw [trunk, own, h1]
    rfl
  · rw [s.slot_mapSlot_ne hi]

theorem State.followOn_net (s : State) (k : Nat) (code : BitVec 4) : (s.followOn k code).net = s.net := by
  rw [State.followOn, State.trkMute_net]
  rfl

/-- Every member of the lane follows its descriptor. -/
theorem State.followDesc_members (s : State) (a : Lane) (code : BitVec 4) {k : Nat} (hk : k ∈ s.members (laneKey a.node a.chan)) :
    ((s.followDesc a code).slot k).followed code := by
  refine (foldl_at (R := fun _ => True) (E := fun u : State => (u.slot k).followed code) (fun u j hj _ => ?_) (fun u _ => ?_) _ trivial).2 (.inl hk)
  · exact ⟨trivial, Slot.followed_of_unstaged ((u.followOn_slot j code).2 k (Ne.symm hj))⟩
  · exact ⟨trivial, (u.followOn_slot k code).1⟩

theorem laneDescriptorChange_follows {s : State} {l : ChainId} {i : Fin 96} {a : Lane} (carries : s.links[chainLink l].carries = true)
    (runs : s.engineHeld = false) (comes : s.laneIn l i = some a) (code : BitVec 4) :
    s.gives (.laneDescriptorChange ⟨l, i⟩ code) fun u => (u.links[chainLink l].copy i).desc = code ∧
      ∀ k ∈ s.members (laneKey a.node a.chan), (u.slot k).followed code := by
  set s1 := s.mapLink (chainLink l) fun x => x.putCopy i { x.copy i with desc := code } with hs1
  refine State.gives_of_whenDo (v := s1.followDesc a code) ?_ carries ⟨?_, fun k hk => s1.followDesc_members a code hk⟩
  · show execLaneDescriptorChange ⟨l, i⟩ code s = _
    simp only [execLaneDescriptorChange, comes, runs]
    rfl
  · have net : (s1.followDesc a code).net = s1.net := State.net_foldl (fun u k => u.followOn_net k code) _ s1
    rw [State.copy_of_net net, hs1, State.link_mapLink, Link.copy_putCopy]

/-! A stamp (R228, R233). -/

/-- What of the channel in slot `k` a stamp rests on is as in `s`, whose stamp dates from no other instant than the present. -/
structure State.Stamping (s : State) (k : Nat) (u : State) : Prop where
  clk : u.clk = s.clk
  timed : s.rad.laneTimingFree = false → u.rad.laneTimingFree = false
  set : (u.slot k).set = (s.slot k).set
  via : (u.slot k).trunk.via = (s.slot k).trunk.via
  dL : (u.slot k).trunk.dL = (s.slot k).trunk.dL
  fresh : (s.slot k).trunk.stamped = false → (u.slot k).trunk.stamped = true → (u.slot k).trunk.stampAt = s.clk.ed

/-- The channel in slot `k` of `u` has been stamped with number `num` over a path of `path` ps by link `l`. -/
structure State.Stamped (s : State) (k : Nat) (l : ChainId) (num path : Nat) (u : State) : Prop where
  stamped : (u.slot k).trunk.stamped = true
  snum : (u.slot k).trunk.snum = num
  aligned : s.rad.laneTimingFree = false → (s.slot k).trunk.via = none ∨ (s.slot k).trunk.via = some l →
    (u.slot k).trunk.rel = (u.slot k).trunk.align + (s.slot k).set.prof.arrival path ∧
      (u.slot k).trunk.align = ((s.slot k).trunk.dL : Int) - (s.slot k).set.prof.arrival path - synthDelay k (s.slot k).set

section

variable (s : State) (k : Nat)

theorem State.realign_slot (path : Nat) : ((s.realign k path).slot k).set = (s.slot k).set ∧
    ((s.realign k path).slot k).trunk.via = (s.slot k).trunk.via ∧ ((s.realign k path).slot k).trunk.dL = (s.slot k).trunk.dL ∧
    ((s.realign k path).slot k).trunk.stamped = (s.slot k).trunk.stamped ∧
    ((s.realign k path).slot k).trunk.stampAt = (s.slot k).trunk.stampAt ∧
    ((s.realign k path).slot k).trunk.desc = (s.slot k).trunk.desc ∧
    ((s.realign k path).slot k).trunk.next = (s.slot k).trunk.next ∧
    ((s.realign k path).slot k).trunk.rel = ((s.realign k path).slot k).trunk.align + (s.slot k).set.prof.arrival path ∧
    (s.rad.laneTimingFree = false → ((s.realign k path).slot k).trunk.align =
      ((s.slot k).trunk.dL : Int) - (s.slot k).set.prof.arrival path - synthDelay k (s.slot k).set) := by
  unfold State.realign
  extract_lets x a rel
  rw [State.slot_setSlot]
  refine ⟨rfl, rfl, rfl, rfl, rfl, rfl, rfl, rfl, fun timed => ?_⟩
  show a = _
  unfold a
  rw [timed, if_neg Bool.false_ne_true]
  rfl

theorem State.realign_others (path : Nat) : (s.realign k path).links = s.links ∧ (s.realign k path).clk = s.clk ∧
    (s.realign k path).rad.laneTimingFree = s.rad.laneTimingFree ∧ ∀ i, i ≠ k → (s.realign k path).slot i = s.slot i := by
  unfold State.realign
  extract_lets x a rel
  split
  · exact ⟨rfl, rfl, rfl, fun i hi => State.slot_setSlot_ne _ hi _⟩
  · exact ⟨rfl, rfl, rfl, fun i hi => State.slot_setSlot_ne _ hi _⟩

end

section

variable (s : State) (k : Nat) (l : ChainId) (path : Nat)

/-- A member that takes its lane by link `l`, or has none yet, is aligned for a copy by that link (R233). -/
def State.alignTo : State :=
  if (s.slot k).set.dlMember && ((s.slot k).trunk.via.isNone || decide ((s.slot k).trunk.via = some l)) then s.realign k path else s

theorem State.alignTo_others : (s.alignTo k l path).links = s.links ∧ (s.alignTo k l path).clk = s.clk ∧
    (s.alignTo k l path).rad.laneTimingFree = s.rad.laneTimingFree ∧ ∀ i, i ≠ k → (s.alignTo k l path).slot i = s.slot i := by
  unfold State.alignTo
  split
  · exact s.realign_others k path
  · exact ⟨rfl, rfl, rfl, fun _ _ => rfl⟩

theorem State.alignTo_slot : ((s.alignTo k l path).slot k).set = (s.slot k).set ∧
    ((s.alignTo k l path).slot k).trunk.via = (s.slot k).trunk.via ∧ ((s.alignTo k l path).slot k).trunk.dL = (s.slot k).trunk.dL ∧
    ((s.alignTo k l path).slot k).trunk.stamped = (s.slot k).trunk.stamped ∧
    ((s.alignTo k l path).slot k).trunk.stampAt = (s.slot k).trunk.stampAt := by
  unfold State.alignTo
  split
  · obtain ⟨set', via, dL, stamped, stampAt, -⟩ := s.realign_slot k path
    exact ⟨set', via, dL, stamped, stampAt⟩
  · exact ⟨rfl, rfl, rfl, rfl, rfl⟩

theorem State.alignTo_aligned (member : (s.slot k).set.dlMember = true) (timed : s.rad.laneTimingFree = false)
    (near : (s.slot k).trunk.via = none ∨ (s.slot k).trunk.via = some l) :
    ((s.alignTo k l path).slot k).trunk.rel = ((s.alignTo k l path).slot k).trunk.align + (s.slot k).set.prof.arrival path ∧
      ((s.alignTo k l path).slot k).trunk.align =
        ((s.slot k).trunk.dL : Int) - (s.slot k).set.prof.arrival path - synthDelay k (s.slot k).set := by
  have aligns : s.alignTo k l path = s.realign k path := by
    refine if_pos ?_
    rcases near with h | h <;> simp [member, h]
  obtain ⟨-, -, -, -, -, -, -, rel, align⟩ := s.realign_slot k path
  rw [aligns]
  exact ⟨rel, align timed⟩

/-- The channel knows a stamp block's number and its time from the instant `now` on. -/
def Slot.stampedBy (block : BitVec 64) (now : Nat) (x : Slot) : Slot :=
  { x with trunk := x.trunk.stamp (fieldN block.toNat 23 0) (fieldN block.toNat 59 24) now }

/-- Timing is defined again once every live member has been stamped (case 9 of R301). -/
def State.timedAgain (s : State) : State :=
  { s with rad := { s.rad with laneTimingFree := s.rad.laneTimingFree && (!s.allStamped || s.tsu.set.isSome) } }

theorem State.stampSlot_eq (block : BitVec 64) :
    s.stampSlot k l block path = ((s.alignTo k l path).mapSlot k (Slot.stampedBy block s.clk.ed)).timedAgain.memberCheck k := rfl

/-- Of a channel that is stamped and examined all but the stamp and the cause that holds it stays. -/
theorem State.stampSlot_slot (block : BitVec 64) :
    ((s.stampSlot k l block path).slot k).trunk.uncaused =
      (((s.alignTo k l path).slot k).stampedBy block s.clk.ed).trunk.uncaused ∧
    ((s.stampSlot k l block path).slot k).set = (s.slot k).set ∧
    (s.stampSlot k l block path).clk = s.clk ∧
    (s.rad.laneTimingFree = false → (s.stampSlot k l block path).rad.laneTimingFree = false) ∧
    ∀ i, i ≠ k → ((s.stampSlot k l block path).slot i).unstaged = (s.slot i).unstaged := by
  rw [s.stampSlot_eq k l path block]
  obtain ⟨-, clk, free, others⟩ := s.alignTo_others k l path
  obtain ⟨set', -⟩ := s.alignTo_slot k l path
  generalize s.alignTo k l path = v at clk free others set' ⊢
  set w := v.mapSlot k (Slot.stampedBy block s.clk.ed)
  have own := v.slot_mapSlot k (Slot.stampedBy block s.clk.ed)
  obtain ⟨checked, set2, rest⟩ := w.timedAgain.memberCheck_slot k
  refine ⟨checked.trans ?_, set2.trans ?_, (State.memberCheck_calm _ k).clk.trans clk, fun timed => ?_, fun i hi => ?_⟩
  · have trunk := congrArg (fun x : Slot => x.trunk.uncaused) own
    exact trunk
  · have set3 := congrArg Slot.set own
    exact Eq.trans set3 set'
  · have flags := congrArg Prod.snd (w.timedAgain.memberCheck_lanesFlagged k)
    have still : w.timedAgain.rad.laneTimingFree = false := by
      show (v.rad.laneTimingFree && _) = false
      rw [free, timed]
      rfl
    exact Eq.trans flags still
  · refine (rest i hi).trans ?_
    have put := congrArg Slot.unstaged (v.slot_mapSlot_ne hi (Slot.stampedBy block s.clk.ed))
    exact Eq.trans put (congrArg Slot.unstaged (others i hi))

end

section

variable {s u : State} {k : Nat} {l : ChainId} {path : Nat} {block : BitVec 64} (h : s.Stamping k u)

include h

theorem State.Stamping.other {j : Nat} (hj : j ≠ k) : s.Stamping k (u.stampSlot j l block path) ∧
    (s.Stamped k l (fieldN block.toNat 23 0) path u →
      s.Stamped k l (fieldN block.toNat 23 0) path (u.stampSlot j l block path)) := by
  obtain ⟨-, -, clk, free, others⟩ := u.stampSlot_slot j l path block
  obtain ⟨trunk, -, -, set', -⟩ := Slot.of_unstaged (others k (Ne.symm hj))
  refine ⟨⟨clk.trans h.clk, free ∘ h.timed, set'.trans h.set, ?_, ?_, ?_⟩, fun e => ⟨?_, ?_, ?_⟩⟩
  · exact (congrArg Trunk.via trunk).trans h.via
  · exact (congrArg Trunk.dL trunk).trans h.dL
  · rw [trunk]
    exact h.fresh
  · exact (congrArg Trunk.stamped trunk).trans e.stamped
  · exact (congrArg Trunk.snum trunk).trans e.snum
  · rw [trunk]
    exact e.aligned

theorem State.Stamping.own (member : (s.slot k).set.dlMember = true) : s.Stamping k (u.stampSlot k l block path) ∧
    s.Stamped k l (fieldN block.toNat 23 0) path (u.stampSlot k l block path) := by
  obtain ⟨trunk, set', clk, free, -⟩ := u.stampSlot_slot k l path block
  obtain ⟨dL, -, -, align, rel, -, stamped, stampAt, snum, via, -⟩ := Trunk.of_uncaused trunk
  obtain ⟨-, via1, dL1, stamped1, stampAt1⟩ := u.alignTo_slot k l path
  refine ⟨⟨clk.trans h.clk, free ∘ h.timed, set'.trans h.set, via.trans (via1.trans h.via), dL.trans (dL1.trans h.dL), fun old _ => ?_⟩,
    ⟨stamped, snum, fun timed near => ?_⟩⟩
  · have at' : ((u.stampSlot k l block path).slot k).trunk.stampAt =
        if (u.slot k).trunk.stamped then (u.slot k).trunk.stampAt else u.clk.ed := by
      rw [stampAt, ← stamped1, ← stampAt1]
      rfl
    rw [at']
    split
    · exact h.fresh old ‹_›
    · rw [h.clk]
  · rw [← h.via] at near
    obtain ⟨rel1, align1⟩ := u.alignTo_aligned k l path (by rw [h.set]; exact member) (h.timed timed) near
    rw [h.set, h.dL] at align1
    rw [h.set] at rel1
    rw [rel, align]
    exact ⟨rel1, align1⟩

end

theorem State.alignTo_net (s : State) (k : Nat) (l : ChainId) (path : Nat) : (s.alignTo k l path).net = s.net := by
  unfold State.alignTo State.realign
  dsimp only
  split_ifs <;> rfl

theorem State.stampSlot_net (s : State) (k : Nat) (l : ChainId) (block : BitVec 64) (path : Nat) :
    (s.stampSlot k l block path).net = s.net := by
  rw [State.stampSlot_eq, State.memberCheck_net, ← s.alignTo_net k l path]
  rfl

theorem State.passDl_onlyLinks (s : State) (l : ChainId) (key : Nat) (n : Option Nat) (block : BitVec 64) :
    s.passDl l key n block = s.withLinks (s.passDl l key n block).links := State.sendLane_onlyLinks s key _ _

/-- A DL block does not go back by the link that it came by. -/
theorem State.passDl_here (s : State) (l : ChainId) (key : Nat) (n : Option Nat) (block : BitVec 64) :
    (s.passDl l key n block).links[chainLink l] = s.links[chainLink l] := by
  refine (State.sendLane_link s key _ _ l).trans (Link.sends_none _ fun a => ?_)
  simp

/-- Where the block is not behind what a link has sent of the lane, the link sends it (R232). -/
theorem State.passDl_sends {s : State} {l m : ChainId} {key n : Nat} {c : Lane} (hm : m ≠ l)
    (carried : s.links[chainLink m].laneTo key = some c) (first : notBehind n (s.links[chainLink m].outOf c.slot).next = true)
    (block : BitVec 64) :
    ((s.passDl l key (some n) block).links[chainLink m].outOf c.slot).kept.head? = some (s.clk.ed, block) := by
  have sent := State.sendLane_link s key (fun m a => decide (m ≠ l) && ((s.links[chainLink l].ring && s.links[chainLink m].ring) ||
    (notBehind n (s.links[chainLink m].outOf a.slot).next || (s.links[chainLink m].outOf a.slot).count.isNone)))
    (fun x a => x.sendBlock a s.clk.ed block) m
  rw [State.passDl]
  dsimp only
  rw [sent]
  exact Link.sends_block carried (by rw [decide_eq_true hm, first]; simp) s.clk.ed block

theorem stampBlockRx_stamps {s : State} {l : ChainId} {i : Fin 96} {a : Lane} {b : BitVec 64}
    (carries : s.links[chainLink l].carries = true) (runs : s.engineHeld = false) (comes : s.laneIn l i = some a) (path : Nat)
    (stamp : b.toNat / 2 ^ 60 = 14) :
    s.gives (.stampBlockRx ⟨l, i⟩ b path) fun u =>
      (u.links[chainLink l].copy i).next = some (b.toNat % 2 ^ 24) ∧
      (u.links[chainLink l].copy i).path = path + s.links[chainLink l].fibre ∧
      ∀ k ∈ s.members (laneKey a.node a.chan), s.Stamping k u ∧
        s.Stamped k l (b.toNat % 2 ^ 24) (path + s.links[chainLink l].fibre) u := by
  have number : fieldN b.toNat 23 0 = b.toNat % 2 ^ 24 := by simp [fieldN]
  have kind : fieldN b.toNat 63 60 = 14 := by
    rw [fieldN, stamp]
    rfl
  set key := laneKey a.node a.chan with hkey
  set all := path + s.links[chainLink l].fibre with hall
  set s1 := s.mapLink (chainLink l) fun x => x.putCopy i { x.copy i with next := some (fieldN b.toNat 23 0), path := all } with hs1
  set s2 := s1.passDl l key (some (fieldN b.toNat 23 0)) b with hs2
  refine State.gives_of_whenDo (v := (s2.takers key).foldl (fun s k => s.stampSlot k l b all) s2)
    (b := s.links[chainLink l].carries && !s.engineHeld && decide (fieldN b.toNat 63 60 = 14)) ?_ (by rw [carries, runs, kind]; rfl) ?_
  · show execStampBlockRx ⟨l, i⟩ b path s = _
    simp only [execStampBlockRx, comes]
    rfl
  have links : s2.links[chainLink l].copy i = { s.links[chainLink l].copy i with next := some (fieldN b.toNat 23 0), path := all } := by
    rw [hs2, State.passDl_here, hs1, State.link_mapLink, Link.copy_putCopy]
  have net : ((s2.takers key).foldl (fun s k => s.stampSlot k l b all) s2).net = s2.net :=
    State.net_foldl (fun u k => u.stampSlot_net k l b all) _ s2
  rw [State.copy_of_net net, links, number]
  refine ⟨rfl, rfl, fun k hk => ?_⟩
  obtain ⟨takes, member⟩ := State.mem_takers hk
  have only : s2 = s1.withLinks s2.links := s1.passDl_onlyLinks l key _ b
  clear_value s2
  have same : s2 = s.withLinks s2.links := only
  have start : s.Stamping k s2 := by
    rw [same]
    exact ⟨rfl, id, rfl, rfl, rfl, fun old new => absurd (old.symm.trans new) Bool.false_ne_true⟩
  have among : k ∈ s2.takers key := by
    rw [same, State.takers_withLinks]
    exact takes
  obtain ⟨stays, stamped⟩ := foldl_at (f := fun s k => s.stampSlot k l b all) (R := s.Stamping k)
    (E := s.Stamped k l (fieldN b.toNat 23 0) all) (fun u j hj h => h.other hj) (fun u h => h.own member) (s2.takers key) start
  rw [number] at stamped
  exact ⟨stays, stamped (.inl among)⟩

end Sys2Proof.Machine

namespace Sys2Proof.Machine

/-! A sample block as it arrives (R227, R232, R233, R236). -/

theorem block_type (b : BitVec 64) : (b.extractLsb' 60 4).toNat = b.toNat / 2 ^ 60 := by
  have small : b.toNat / 2 ^ 60 < 2 ^ 4 := by omega
  rw [BitVec.extractLsb'_toNat, Nat.shiftRight_eq_div_pow, Nat.mod_eq_of_lt small]

/-- A block is its type and its data (R227). -/
theorem block_split (b : BitVec 64) : (b.extractLsb' 60 4 ++ b.setWidth 60 : BitVec 64) = b := by
  have low : (b.setWidth 60).toNat < 2 ^ 60 := BitVec.isLt _
  refine BitVec.eq_of_toNat_eq ((BitVec.toNat_append (b.extractLsb' 60 4) (b.setWidth 60)).trans ?_)
  rw [← Nat.shiftLeft_add_eq_or_of_lt low, block_type, BitVec.toNat_setWidth, Nat.shiftLeft_eq]
  omega

/-- The block after a block is behind it: it has been taken. -/
theorem notBehind_nextBlock (n : Nat) : notBehind n (nextBlock n) = false := by
  unfold notBehind nextBlock
  simp only [decide_eq_false_iff_not, Nat.not_lt]
  omega

/-- The trunk side has taken block `b` of number `n` by link `l`, as zeros under descriptor 0x2. -/
def Trunk.took (l : ChainId) (n : Nat) (b : BitVec 64) (desc : BitVec 4) (x : Trunk) : Prop :=
  x.next = some (nextBlock n) ∧ x.via = some l ∧
    x.last = if desc = 2 then (decodeBlock b).map fun _ => { i := 0, q := 0 } else decodeBlock b

section

variable (s : State) (k : Nat) (l : ChainId) (c : LaneCopy) (n : Nat) (b : BitVec 64)

theorem State.takeBlock_others : (s.takeBlock k l c n b).links = s.links ∧ ∀ i, i ≠ k → (s.takeBlock k l c n b).slot i = s.slot i := by
  unfold State.takeBlock
  extract_lets x new s1
  split
  · have aligned : s1.links = s.links ∧ ∀ i, i ≠ k → s1.slot i = s.slot i := by
      unfold s1
      split
      · exact ⟨rfl, fun _ _ => rfl⟩
      · obtain ⟨links, -, -, others⟩ := s.realign_others k c.path
        exact ⟨links, others⟩
    exact ⟨aligned.1, fun i hi => (State.slot_setSlot_ne s1 hi _).trans (aligned.2 i hi)⟩
  · exact ⟨rfl, fun _ _ => rfl⟩

theorem State.takeBlock_old {m : Nat} (next : (s.slot k).trunk.next = some m) (old : notBehind n m = false) :
    s.takeBlock k l c n b = s := by
  unfold State.takeBlock
  simp [next, old]

theorem State.takeBlock_new {m : Nat} (next : (s.slot k).trunk.next = some m) (new : notBehind n m = true) :
    ((s.takeBlock k l c n b).slot k).trunk.desc = (s.slot k).trunk.desc ∧
      ((s.takeBlock k l c n b).slot k).trunk.took l n b (s.slot k).trunk.desc := by
  have takes : s.takeBlock k l c n b =
      (if (s.slot k).trunk.via = some l then s else s.realign k c.path).takeDl k (some l) n (decodeBlock b) := by
    unfold State.takeBlock
    simp [next, new]
  have desc : ((if (s.slot k).trunk.via = some l then s else s.realign k c.path).slot k).trunk.desc = (s.slot k).trunk.desc := by
    split
    · rfl
    · obtain ⟨-, -, -, -, -, desc, -⟩ := s.realign_slot k c.path
      exact desc
  rw [takes, State.takeDl]
  generalize (if (s.slot k).trunk.via = some l then s else s.realign k c.path) = v at desc ⊢
  dsimp only
  rw [State.slot_setSlot, ← desc]
  exact ⟨rfl, rfl, rfl, rfl⟩

end

/-- Each member to which a block is new takes it once. -/
theorem State.takeBlocks {s : State} {k m : Nat} {l : ChainId} {c : LaneCopy} {n : Nat} {b : BitVec 64}
    (next : (s.slot k).trunk.next = some m) (new : notBehind n m = true) {ks : List Nat} (hk : k ∈ ks) :
    ((ks.foldl (fun u j => u.takeBlock j l c n b) s).slot k).trunk.took l n b (s.slot k).trunk.desc := by
  refine (foldl_at (f := fun u j => u.takeBlock j l c n b)
    (R := fun u : State => (u.slot k).trunk.desc = (s.slot k).trunk.desc ∧
      ((u.slot k).trunk.next = some m ∨ (u.slot k).trunk.took l n b (s.slot k).trunk.desc))
    (E := fun u : State => (u.slot k).trunk.took l n b (s.slot k).trunk.desc) (fun u j hj h => ?_) (fun u h => ?_) ks
    ⟨rfl, .inl next⟩).2 (.inl hk)
  · have same := (u.takeBlock_others j l c n b).2 k (Ne.symm hj)
    rw [same]
    exact ⟨h, id⟩
  · obtain ⟨desc, first | done⟩ := h
    · obtain ⟨desc', took⟩ := u.takeBlock_new k l c n b first new
      rw [desc] at desc' took
      exact ⟨⟨desc', .inr took⟩, took⟩
    · rw [u.takeBlock_old k l c n b done.1 (notBehind_nextBlock n)]
      exact ⟨⟨desc, .inr done⟩, done⟩

theorem State.takeBlocks_links (l : ChainId) (c : LaneCopy) (n : Nat) (b : BitVec 64) (ks : List Nat) (s : State) :
    (ks.foldl (fun u j => u.takeBlock j l c n b) s).links = s.links := by
  induction ks generalizing s with
  | nil => rfl
  | cons k ks ih => exact (ih _).trans (s.takeBlock_others k l c n b).1

section

variable {s : State} {l : ChainId} {i : Fin 96} {a : Lane} {b : BitVec 64} {n : Nat}

/-- The lane slot's next block is due. -/
def State.passed (s : State) (l : ChainId) (i : Nat) : State :=
  let c := s.links[chainLink l].copy i
  s.mapLink (chainLink l) fun x => x.putCopy i { c with next := c.next.map nextBlock }

theorem State.passed_link_ne (s : State) {l m : ChainId} (hm : m ≠ l) (i : Nat) :
    (s.passed l i).links[chainLink m] = s.links[chainLink m] := s.link_mapLink_ne (fun e => hm (chainLink_injective e)) _

variable (carries : s.links[chainLink l].carries = true) (runs : s.engineHeld = false) (comes : s.laneIn l i = some a)
  (sample : b.toNat / 2 ^ 60 ≤ 10) (numbered : (s.links[chainLink l].copy i).next = some n)

include carries runs comes sample numbered

theorem laneBlockRx_eq : exec (.laneBlockRx l i (b.extractLsb' 60 4) (b.setWidth 60)) s = .next (
    let key := laneKey a.node a.chan
    let c := s.links[chainLink l].copy i
    let s2 := (s.passed l i).passDl l key (some n) b
    if a.uplink then (s.passed l i).ulBlock key n l b (a.returned || decide (c.desc = 10))
    else (s2.members key).foldl (fun u k => u.takeBlock k l c n b) s2) := by
  have cond : (s.links[chainLink l].carries && !s.engineHeld && (decide ((b.extractLsb' 60 4).toNat ≤ 10) ||
      decide ((b.extractLsb' 60 4).toNat = 15))) = true := by
    rw [carries, runs, block_type, decide_eq_true sample]
    rfl
  show execLaneBlockRx l i (b.extractLsb' 60 4) (b.setWidth 60) s = _
  unfold execLaneBlockRx
  dsimp only
  rw [whenDo, if_pos cond]
  simp only [comes, numbered, block_split, State.passed]

theorem laneBlockRx_down (down : a.uplink = false) : exec (.laneBlockRx l i (b.extractLsb' 60 4) (b.setWidth 60)) s =
    .next (((((s.passed l i).passDl l (laneKey a.node a.chan) (some n) b).members (laneKey a.node a.chan))).foldl
      (fun u k => u.takeBlock k l (s.links[chainLink l].copy i) n b) ((s.passed l i).passDl l (laneKey a.node a.chan) (some n) b)) := by
  rw [laneBlockRx_eq carries runs comes sample numbered, down]
  rfl

theorem laneBlockRx_up (up : a.uplink = true) (whole : a.returned = false) (goes : (s.links[chainLink l].copy i).desc ≠ 10)
    (line : s.links[chainLink l].ring = false) : exec (.laneBlockRx l i (b.extractLsb' 60 4) (b.setWidth 60)) s =
    .next ((s.passed l i).passUl (laneKey a.node a.chan) n l b) := by
  have straight : (s.passed l i).links[chainLink l].ring = false := by
    rw [State.passed, State.link_mapLink]
    exact line
  rw [laneBlockRx_eq carries runs comes sample numbered, up, if_pos rfl, whole, decide_eq_false goes, State.ulBlock, straight]
  rfl

end

/-! A DL block goes on and is taken (R232, R233). -/

section

variable {s : State} {l : ChainId} {i : Fin 96} {a : Lane} {b : BitVec 64} {n : Nat}

theorem laneBlockRx_taken (carries : s.links[chainLink l].carries = true) (runs : s.engineHeld = false) (comes : s.laneIn l i = some a)
    (sample : b.toNat / 2 ^ 60 ≤ 10) (numbered : (s.links[chainLink l].copy i).next = some n) (down : a.uplink = false) :
    s.gives (.laneBlockRx l i (b.extractLsb' 60 4) (b.setWidth 60)) fun u =>
      (∀ k ∈ s.members (laneKey a.node a.chan), ∀ m, (s.slot k).trunk.next = some m → notBehind n m = true →
        (u.slot k).trunk.took l n b (s.slot k).trunk.desc) ∧
      ∀ m c, m ≠ l → s.links[chainLink m].laneTo (laneKey a.node a.chan) = some c →
        notBehind n (s.links[chainLink m].outOf c.slot).next = true →
          (u.links[chainLink m].outOf c.slot).kept.head? = some (s.clk.ed, b) := by
  refine ⟨_, laneBlockRx_down carries runs comes sample numbered down, fun k hk m next new => ?_, fun m c hm carried first => ?_⟩
  · have only := (s.passed l i).passDl_onlyLinks l (laneKey a.node a.chan) (some n) b
    generalize (s.passed l i).passDl l (laneKey a.node a.chan) (some n) b = v at only ⊢
    have same : v = s.withLinks v.links := only
    have slots : v.slot k = s.slot k := by
      rw [same]
      rfl
    rw [← slots] at next
    rw [← slots]
    refine State.takeBlocks next new ?_
    rw [same, State.members_withLinks]
    exact hk
  · rw [State.takeBlocks_links]
    have here := s.passed_link_ne hm i
    exact State.passDl_sends (s := s.passed l i) hm (by rw [here]; exact carried) (by rw [here]; exact first) b

end

/-! An UL block passes, or is summed (R238, R241). -/

theorem State.sinkTakes_others (n : Nat) (xs : List LaneSample) (ks : List Nat) (s : State) :
    (ks.foldl (fun u k => u.sinkTake k n xs) s).links = s.links ∧ (ks.foldl (fun u k => u.sinkTake k n xs) s).clk = s.clk ∧
      (ks.foldl (fun u k => u.sinkTake k n xs) s).rad.tSat = s.rad.tSat := by
  induction ks generalizing s with
  | nil => exact ⟨rfl, rfl, rfl⟩
  | cons k ks ih =>
    obtain ⟨links, clk, sat⟩ := ih (s.sinkTake k n xs)
    exact ⟨links, clk, sat⟩

theorem State.laneSat_others (s : State) (full : Bool) : (s.laneSat full).links = s.links ∧ (s.laneSat full).clk = s.clk ∧
    (full = true → (s.laneSat full).rad.tSat = true) := by
  unfold State.laneSat
  split
  · refine ⟨State.linePulse_links _ _ _, (State.linePulse_keeps _ _ _).clk, fun _ => ?_⟩
    rw [State.linePulse_rad]
  · exact ⟨rfl, rfl, fun h => absurd h ‹_›⟩

/-- A complete block leaves by every link off a ring that carries its lane, saturated, which is flagged (R238, R241). -/
theorem State.deliverUl_sends {s : State} {key : Nat} {m : ChainId} {c : Lane} (line : s.links[chainLink m].ring = false)
    (carried : s.links[chainLink m].laneTo key = some c) (n : Nat) (xs : List LaneSample) :
    ((s.deliverUl key n xs).links[chainLink m].outOf c.slot).kept.head? = some (s.clk.ed, encodeBlock (satSamples xs)) ∧
      (overScale xs = true → (s.deliverUl key n xs).rad.tSat = true) := by
  unfold State.deliverUl
  extract_lets s1 ys s2
  obtain ⟨links1, clk1, sat1⟩ := s.laneSat_others (overScale xs)
  obtain ⟨links2, clk2, sat2⟩ := State.sinkTakes_others n ys ((s1.takers key).filter fun k => (s1.slot k).set.sink) s1
  have links : s2.links = s.links := links2.trans links1
  have clk : s2.clk = s.clk := clk2.trans clk1
  have sat : overScale xs = true → s2.rad.tSat = true := fun full => sat2.trans (sat1 full)
  clear_value s2
  constructor
  · rw [State.sendLane_link, clk]
    refine Link.sends_block (by rw [links]; exact carried) ?_ _ _
    rw [links, line]
    rfl
  · intro full
    rw [State.sendLane_onlyLinks]
    exact sat full

section

variable (s : State) (l : ChainId) (i : Nat) (key : Nat)

theorem State.passed_ring (m : ChainId) : (s.passed l i).links[chainLink m].ring = s.links[chainLink m].ring ∧
    (s.passed l i).links[chainLink m].laneFrom = s.links[chainLink m].laneFrom ∧
    (s.passed l i).links[chainLink m].laneTo = s.links[chainLink m].laneTo := by
  by_cases hm : m = l
  · subst hm
    rw [State.passed, State.link_mapLink]
    exact ⟨rfl, rfl, rfl⟩
  · rw [s.passed_link_ne hm i]
    exact ⟨rfl, rfl, rfl⟩

theorem State.passed_branches : (s.passed l i).branches key = s.branches key := by
  unfold State.branches
  congr 2
  funext m
  obtain ⟨ring, from', -⟩ := s.passed_ring l i m
  rw [ring, from']

theorem State.passed_onRing : (s.passed l i).onRing key = s.onRing key := by
  unfold State.onRing
  congr 1
  funext m
  obtain ⟨ring, -, to'⟩ := s.passed_ring l i m
  rw [ring, to']

theorem State.passed_adders (n : Nat) : (s.passed l i).adders key n = s.adders key n := rfl

end

theorem addSamples_nil (xs : List LaneSample) : addSamples [] xs = xs := by cases xs <;> rfl

section

variable {s : State} {key n : Nat} {l m : ChainId} {c : Lane} (b : BitVec 64) (alone : s.branches key = [l.val])
  (line : s.onRing key = false)

include alone line

/-- Where nobody adds, the block passes bit for bit (R241). -/
theorem State.passUl_passes (hm : m ≠ l) (carried : s.links[chainLink m].laneTo key = some c)
    (quiet : s.adders key n = []) :
    ((s.passUl key n l b).links[chainLink m].outOf c.slot).kept.head? = some (s.clk.ed, b) := by
  unfold State.passUl
  have passes : ((s.adders key n).isEmpty && decide (s.branches key = [l.val]) && !s.onRing key) = true := by
    rw [quiet, line, decide_eq_true alone]
    rfl
  rw [if_pos passes]
  dsimp only
  obtain ⟨links, clk, -⟩ := State.sinkTakes_others n (decodeBlock b) ((s.takers key).filter fun k => (s.slot k).set.sink) s
  rw [State.sendLane_link, clk]
  refine Link.sends_block (by rw [links]; exact carried) (decide_eq_true hm) _ _

/-- The only branch's block is complete with what this node adds (R238). -/
theorem State.passUl_sums (adds : s.adders key n ≠ []) (empty : s.fab.sums = []) : ∃ fab : Fab, s.passUl key n l b =
    ({ s with fab := fab }).deliverUl key n
      (((s.adders key n).map fun x : Slot => x.ownBlock n).foldl addSamples (decodeBlock b)) := by
  have gathers : ¬((s.adders key n).isEmpty && decide (s.branches key = [l.val]) && !s.onRing key) = true := by
    simp [adds]
  have sums : tblGet [] key s.fab.sums = [] := by
    rw [empty]
    rfl
  unfold State.passUl
  rw [if_neg gathers]
  unfold State.gather
  simp only [sums, List.find?_nil, Option.getD_none, List.contains_nil, line, alone, addSamples_nil, Bool.false_eq_true, if_false,
    List.filter_nil, List.all_cons, List.all_nil, List.contains_cons, beq_self_eq_true, Bool.true_or, Bool.and_true, if_true]
  refine ⟨_, congrArg (State.deliverUl _ key n) ?_⟩
  unfold State.additions State.branchSum
  simp only [tblGet_tblPut_same, List.find?_cons, decide_true]
  rfl

end

section

variable {s : State} {l : ChainId} {i : Fin 96} {a : Lane} {b : BitVec 64} {n : Nat}

theorem laneBlockRx_sent (carries : s.links[chainLink l].carries = true) (runs : s.engineHeld = false) (comes : s.laneIn l i = some a)
    (sample : b.toNat / 2 ^ 60 ≤ 10) (numbered : (s.links[chainLink l].copy i).next = some n) (up : a.uplink = true)
    (whole : a.returned = false) (goes : (s.links[chainLink l].copy i).desc ≠ 10) (straight : s.links[chainLink l].ring = false)
    (alone : s.branches (laneKey a.node a.chan) = [l.val]) (line : s.onRing (laneKey a.node a.chan) = false)
    (empty : s.fab.sums = []) {m : ChainId} {c : Lane} (hm : m ≠ l) (off : s.links[chainLink m].ring = false)
    (carried : s.links[chainLink m].laneTo (laneKey a.node a.chan) = some c) :
    (s.adders (laneKey a.node a.chan) n = [] →
      s.gives (.laneBlockRx l i (b.extractLsb' 60 4) (b.setWidth 60)) fun u =>
        (u.links[chainLink m].outOf c.slot).kept.head? = some (s.clk.ed, b)) ∧
    (s.adders (laneKey a.node a.chan) n ≠ [] →
      let sum := ((s.adders (laneKey a.node a.chan) n).map fun x => x.ownBlock n).foldl addSamples (decodeBlock b)
      s.gives (.laneBlockRx l i (b.extractLsb' 60 4) (b.setWidth 60)) fun u =>
        (u.links[chainLink m].outOf c.slot).kept.head? = some (s.clk.ed, encodeBlock (satSamples sum)) ∧
        (overScale sum = true → u.rad.tSat = true)) := by
  have runs' := laneBlockRx_up carries runs comes sample numbered up whole goes straight
  have alone' : (s.passed l i).branches (laneKey a.node a.chan) = [l.val] := (s.passed_branches l i _).trans alone
  have line' : (s.passed l i).onRing (laneKey a.node a.chan) = false := (s.passed_onRing l i _).trans line
  obtain ⟨ring', -, to'⟩ := s.passed_ring l i m
  have off' := ring'.trans off
  have carried' := (congrFun to' (laneKey a.node a.chan)).trans carried
  have empty' : (s.passed l i).fab.sums = [] := empty
  rw [← s.passed_adders l i, show s.clk = (s.passed l i).clk from rfl]
  generalize s.passed l i = v at *
  refine ⟨fun quiet => ⟨_, runs', State.passUl_passes b alone' line' hm carried' quiet⟩, fun adds => ⟨_, runs', ?_⟩⟩
  obtain ⟨fab, sums⟩ := State.passUl_sums b alone' line' adds empty'
  rw [sums]
  exact State.deliverUl_sends (s := { v with fab := fab }) off' carried' n _

end

/-! O38: trunk lanes (R21, R207, R210, R225, R227, R228, R231 to R236, R238, R241, R242, R340). -/

/-- A lane's blocks, stamps and descriptors as they arrive (R227, R228, R231 to R233, R236, R238, R241). -/
theorem laneArrives : LaneArrives := by
  intro s l i a b carries runs comes key
  refine ⟨fun path stamp => ?_, fun n sample numbered => ⟨fun down => ?_, fun up whole goes straight alone line empty m c hm off carried => ?_⟩,
    fun code => ?_⟩
  · obtain ⟨u, run, next, path', members⟩ := stampBlockRx_stamps carries runs comes path stamp
    refine ⟨u, run, next, path', fun k hk => ?_⟩
    obtain ⟨stays, stamped⟩ := members k hk
    exact ⟨stamped.stamped, stamped.snum, fun fresh => stays.fresh fresh stamped.stamped, stamped.aligned⟩
  · obtain ⟨u, run, members, links⟩ := laneBlockRx_taken carries runs comes sample numbered down
    exact ⟨u, run, members, links⟩
  · exact laneBlockRx_sent carries runs comes sample numbered up whole goes straight alone line empty hm off carried
  · exact laneDescriptorChange_follows carries runs comes code

/-- Settles O38: what the head's answers, arriving lanes, a lane's loss and its return, and the gate's windows come to. -/
theorem trunkLanes : Obligations.TrunkLanes := by
  refine ⟨laneAnswers, laneArrives, fun s n =>
    ⟨fun live member => ⟨?_, ?_⟩, fun power p live contributes runs gated port => ⟨?_, ?_, ?_⟩⟩⟩
  · exact fun heard runs => laneLost_silences live member heard runs
  · exact fun lost runs stamped long valid => laneRestore_unmutes live lost runs stamped long valid
  · exact fun held => gateWindow_held live contributes runs gated held
  · intro free loud
    obtain ⟨u, run, steps⟩ := gateWindow_steps (power := power) live contributes runs gated free port
    refine ⟨u, run, ?_⟩
    show (u.slot n).trunk.gateOpen = true
    rw [steps, decide_eq_true loud]
    exact Trunk.gateStep_high _ _
  · intro free soft hangs
    obtain ⟨u, run, steps⟩ := gateWindow_steps (power := power) live contributes runs gated free port
    refine ⟨u, run, ?_⟩
    show (u.slot n).trunk.gateOpen = false
    rw [steps, decide_eq_false (Int.not_le.mpr soft)]
    exact Trunk.gateStep_low hangs

end Sys2Proof.Machine

namespace Sys2Proof.Machine

/-! What a read of the host window does (R272, R406 to R408, R411). -/

section

variable {s : State} {a b n v : Nat}

theorem State.hostRead_low (on : s.pwr.mode ≠ .off) (low : s.pwr.rst = false) (a : Nat) :
    s.hostRead a = { s with hpi := { s.hpi with hd := 0 } } := by
  have closed : s.busOpen = false := by simp only [State.busOpen, low, Bool.and_false]
  simp only [State.hostRead, closed, State.busClosed, if_neg on, Bool.not_false, if_true]

variable (opens : s.busOpen = true) (beyond : inBuffers a = false)

include opens beyond

/-- A 16-bit register: its value, and what reading it does besides. -/
theorem State.hostRead_reg (found : s.reg a = some v) : s.hostRead a = (s.drive16 v).readEffect a := by
  simp only [State.hostRead, opens, beyond, found, Bool.not_true, Bool.false_eq_true, if_false]

/-- The lowest word of a wide register captures the register. -/
theorem State.hostRead_lowest (unlisted : s.reg a = none) (wide : wideOf a = some (a, n)) :
    s.hostRead a = ({ s with hpi := { s.hpi with snaps := tblPut a (s.regWide a) s.hpi.snaps } }).drive16 (s.regWide a) := by
  simp only [State.hostRead, opens, beyond, unlisted, wide, Bool.not_true, Bool.false_eq_true, if_false, if_true, Nat.sub_self,
    Nat.mul_zero, Nat.pow_zero, Nat.div_one, tblGet_tblPut_same]

/-- A higher word comes from what the lowest captured. -/
theorem State.hostRead_higher (unlisted : s.reg a = none) (wide : wideOf a = some (b, n)) (above : a ≠ b) :
    s.hostRead a = s.drive16 (tblGet 0 b s.hpi.snaps / 2 ^ (8 * (a - b))) := by
  simp only [State.hostRead, opens, beyond, unlisted, wide, Bool.not_true, Bool.false_eq_true, if_false, if_neg above]

omit beyond

theorem State.hostRead_unmapped (nothing : s.mapped a = false) : s.hostRead a = (s.drive16 0).hostViolation := by
  obtain ⟨⟨beyond, reg⟩, wide⟩ : (inBuffers a = false ∧ s.reg a = none) ∧ wideOf a = none := by
    simpa only [State.mapped, Bool.or_eq_false_iff, Option.isSome_eq_false_iff, Option.isNone_iff_eq_none] using nothing
  simp only [State.hostRead, opens, beyond, reg, wide, Bool.not_true, Bool.false_eq_true, if_false]

end

/-! Cuffs (R464, R468). -/

/-- The cuff of a subsystem lies at 0x00A0 + 2n and nothing else does (R520). -/
theorem State.reg_cuff (s : State) (n : SubId) : s.reg (0x00A0 + 2 * n.val) = some (s.cuff n).reg := by
  fin_cases n <;> rfl

theorem State.readEffect_cuff (s : State) (n : SubId) : s.readEffect (0x00A0 + 2 * n.val) =
    { s with obs := { s.obs with cuffs := tblPut n { s.cuff n with seen := true } s.obs.cuffs } } := by
  fin_cases n <;> rfl

/-- The register holds the kind in its low byte. -/
theorem Cuff.reg_kind (c : Cuff) : c.reg % 2 ^ 16 % 256 = c.kind.toNat := by
  have kind := c.kind.isLt
  have flag : ∀ b k, flagN b k = 0 ∨ flagN b k = 2 ^ k := by intro b k; cases b <;> simp [flagN]
  have more := flag c.more 8
  have seen := flag c.seen 9
  unfold Cuff.reg
  omega

theorem cuffRead_sees {s : State} (opens : s.busOpen = true) (n : SubId) : s.gives (.cuffRead n) fun u =>
    u.hpi.hd.toNat % 256 = (s.cuff n).kind.toNat ∧ u.cuff n = { s.cuff n with seen := true } ∧ u.obs.sticky = s.obs.sticky := by
  have beyond : inBuffers (0x00A0 + 2 * n.val) = false := by fin_cases n <;> rfl
  refine ⟨_, show execCuffRead n s = .next _ from rfl, ?_⟩
  rw [State.hostRead_reg opens beyond (s.reg_cuff n), State.readEffect_cuff]
  refine ⟨?_, tblGet_tblPut_same _ _ _ _, rfl⟩
  show (BitVec.ofNat 16 (s.cuff n).reg).toNat % 256 = _
  rw [BitVec.toNat_ofNat, Cuff.reg_kind]

/-! Reads of the wide registers and of HPI_VIOL (R272, R408, R424). -/

theorem hostSnapshotRead_epoch {s : State} (opens : s.busOpen = true) : s.gives (.hostSnapshotRead 0x0054) fun u =>
    u.hpi.hd.toNat = s.fab.epoch.toNat % 2 ^ 16 ∧ tblFind 0x0054 u.hpi.snaps = some s.fab.epoch.toNat := by
  refine ⟨_, show execHostSnapshotRead 0x0054 s = .next _ from rfl, ?_⟩
  rw [show (0x0054 : BitVec 14).toNat = 0x0054 from rfl,
    State.hostRead_lowest (n := 2) opens (by decide) (show s.reg 0x0054 = none from rfl) (by decide)]
  exact ⟨BitVec.toNat_ofNat _ _, tblFind_tblPut_same _ _ _⟩

theorem hostSnapshotRead_epochHigh {s : State} (opens : s.busOpen = true) {v : Nat} (held : tblFind 0x0054 s.hpi.snaps = some v) :
    exec (.hostSnapshotRead 0x0056) s = .next { s with hpi := { s.hpi with hd := BitVec.ofNat 16 (v / 2 ^ 16) } } := by
  show execHostSnapshotRead 0x0056 s = _
  rw [execHostSnapshotRead, show (0x0056 : BitVec 14).toNat = 0x0056 from rfl,
    State.hostRead_higher (b := 0x0054) (n := 2) opens (by decide) (show s.reg 0x0056 = none from rfl) (by decide) (by decide),
    tblGet, held]
  rfl

theorem hostSnapshotRead_identity {s : State} (opens : s.busOpen = true) :
    s.gives (.hostSnapshotRead 0x0FFC) fun u => u.hpi.hd = 0x6192 := by
  refine ⟨_, show execHostSnapshotRead 0x0FFC s = .next _ from rfl, ?_⟩
  rw [show (0x0FFC : BitVec 14).toNat = 0x0FFC from rfl,
    State.hostRead_lowest (n := 2) opens (by decide) (show s.reg 0x0FFC = none from rfl) (by decide)]
  show BitVec.ofNat 16 0x00A06192 = _
  decide

theorem hpiViolRead_clears {s : State} (opens : s.busOpen = true) :
    exec .hpiViolRead s = .next { s with hpi := { s.hpi with hd := s.hpi.viol, viol := 0 } } := by
  show execHpiViolRead s = _
  rw [execHpiViolRead, State.hostRead_reg opens (by decide) (show s.reg 0x0106 = some s.hpi.viol.toNat from rfl)]
  rw [State.drive16, BitVec.ofNat_toNat, BitVec.setWidth_eq]
  rfl

/-- Nothing is there: the access counts, and a read finds zero (R411). -/
theorem hostUnmappedAccess_counts {s : State} (opens : s.busOpen = true) {a : BitVec 14} (nothing : s.mapped a.toNat = false)
    (w : Bool) : exec (.hostUnmappedAccess a w) s = .next { s with hpi := { s.hpi with
      viol := if s.hpi.viol = 0xFFFF then 0xFFFF else s.hpi.viol + 1, hd := if w then s.hpi.hd else 0 } } := by
  show execHostUnmappedAccess a w s = _
  rw [execHostUnmappedAccess, nothing]
  cases w
  · rw [State.hostRead_unmapped opens nothing]
    rfl
  · rw [opens]
    rfl

/-! Posted writes enter the queue (R276, R410). -/

/-- What a pulse of a line leaves of the host port: all but the interrupt flags. -/
theorem State.linePulse_hpi (s : State) (n : SubId) (kind : Byte) :
    (s.linePulse n kind).hpi = { s.hpi with int := (s.linePulse n kind).hpi.int } := (s.linePulse_keeps n kind).hpi

section

variable {s : State} (opens : s.busOpen = true) {a : BitVec 14} (there : s.mapped a.toNat = true) (d : BitVec 16)

include opens there

theorem hostWrite_queued (room : s.hpi.wq.length < 32) :
    exec (.hostWrite a d) s = .next { s with hpi := { s.hpi with wq := s.hpi.wq ++ [(a, d)] } } := by
  show execHostWrite a d s = _
  rw [execHostWrite, opens, there, if_neg (Nat.not_le.mpr room)]
  rfl

theorem hostWrite_discarded (full : 32 ≤ s.hpi.wq.length) :
    s.gives (.hostWrite a d) fun u => u.hpi.wq = s.hpi.wq ∧ u.hpi.xing.getLsbD 9 = true := by
  refine State.gives_of_whenDo (show _ = execHostWrite a d s from rfl) opens ?_
  rw [there, if_pos full, if_neg (by decide), State.linePulse_hpi]
  refine ⟨rfl, ?_⟩
  show (s.hpi.xing ||| 0x200).getLsbD 9 = true
  rw [BitVec.getLsbD_or, show (0x200 : BitVec 10).getLsbD 9 = true from rfl, Bool.or_true]

end

/-! GO (R420). -/

theorem bootGo_eq {s : State} (opens : s.busOpen = true) : exec .bootGo s = .next s.goBoot := by
  show execBootGo s = _
  rw [execBootGo, whenDo, if_pos opens]

/-! Posted writes take effect (R8, R406, R410, R415, R419). -/

/-- A 16-bit register alone at its address takes the word as its own rule says. -/
theorem State.applyWrite_reg (s : State) {a : Nat} (beyond : inBuffers a = false) (alone : wideOf a = none) (d : BitVec 16) :
    s.applyWrite a d = s.writeHpi a d := by
  simp only [State.applyWrite, beyond, alone, Bool.false_eq_true, if_false]

theorem inBuffers_of {a : Nat} (start : 0x1000 ≤ a) (below : a < 0x4000) (even : a % 2 = 0) : inBuffers a = true := by
  simp only [inBuffers, decide_eq_true start, decide_eq_true below, decide_eq_true even, Bool.and_self]

/-- A word into the inbound slot while the host owns it. -/
theorem State.applyWrite_inbound {s : State} {a : Nat} (start : 0x1000 ≤ a) (below : a < 0x1800) (even : a % 2 = 0)
    (own : s.hpi.iown = false) (d : BitVec 16) : s.applyWrite a d =
      { s with hpi := { s.hpi with inbuf := memPutBytes (a - 0x1000) (natToBytes d.toNat 2) s.hpi.inbuf } } := by
  have slot : a < 0x2000 := by omega
  simp only [State.applyWrite, inBuffers_of start (by omega) even, if_true, if_pos slot, State.writeSlot, if_pos below, own,
    Bool.false_eq_true, if_false]

/-- A word into the aperture, which a command in progress refuses. -/
theorem State.applyWrite_aperture {s : State} {a : Nat} (start : 0x2000 ≤ a) (below : a < 0x4000) (even : a % 2 = 0)
    (d : BitVec 16) : s.applyWrite a d = if s.hpi.busy then { s with hpi := { s.hpi with wbusy := true } }
      else { s with hpi := { s.hpi with aper := memPutBytes (a - 0x2000) (natToBytes d.toNat 2) s.hpi.aper } } := by
  have above : ¬ a < 0x2000 := by omega
  simp only [State.applyWrite, inBuffers_of (by omega) below even, if_true, if_neg above]

/-- Two bytes put into a buffer stand there, and no other byte changes. -/
theorem memPutBytes_word {m : Mem} (canonical : memWf m = true) (a : Nat) (d : BitVec 16) :
    memBytes (memPutBytes a (natToBytes d.toNat 2) m) a 2 = natToBytes d.toNat 2 ∧
      ∀ b, b < a ∨ a + 2 ≤ b → memRead b (memPutBytes a (natToBytes d.toNat 2) m) = memRead b m := by
  refine ⟨?_, fun b apart => ?_⟩
  · simpa only [natToBytes_length] using memBytes_memPutBytes a (natToBytes d.toNat 2) canonical
  · rw [memRead_memPutBytes b a _ canonical, natToBytes_length, if_neg (by omega)]

section

variable {s : State} {a : BitVec 14} {d : BitVec 16} {rest : List (BitVec 14 × BitVec 16)} (first : s.hpi.wq = (a, d) :: rest)

include first

/-- The oldest write leaves the queue and takes effect. -/
theorem execHostWriteApply_first : exec .hostWriteApply s =
    .next (({ s with hpi := { s.hpi with wq := rest } }).applyWrite a.toNat d) := by
  show execHostWriteApply s = _
  rw [execHostWriteApply, first]

theorem hostWriteApply_reg (beyond : inBuffers a.toNat = false) (alone : wideOf a.toNat = none) : exec .hostWriteApply s =
    .next (({ s with hpi := { s.hpi with wq := rest } }).writeHpi a.toNat d) := by
  rw [execHostWriteApply_first first, State.applyWrite_reg _ beyond alone]

theorem hostWriteApply_inbound (start : 0x1000 ≤ a.toNat) (below : a.toNat < 0x1800) (even : a.toNat % 2 = 0)
    (own : s.hpi.iown = false) (canonical : memWf s.hpi.inbuf = true) : s.gives .hostWriteApply fun u => u.hpi.wq = rest ∧
      memBytes u.hpi.inbuf (a.toNat - 0x1000) 2 = natToBytes d.toNat 2 ∧
      ∀ b, b < a.toNat - 0x1000 ∨ a.toNat - 0x1000 + 2 ≤ b → memRead b u.hpi.inbuf = memRead b s.hpi.inbuf := by
  refine ⟨_, execHostWriteApply_first first, ?_⟩
  rw [State.applyWrite_inbound start below even (by exact own)]
  exact ⟨rfl, memPutBytes_word canonical _ d⟩

theorem hostWriteApply_aperture (start : 0x2000 ≤ a.toNat) (below : a.toNat < 0x4000) (even : a.toNat % 2 = 0) :
    (s.hpi.busy = false → memWf s.hpi.aper = true → s.gives .hostWriteApply fun u => u.hpi.wq = rest ∧
      memBytes u.hpi.aper (a.toNat - 0x2000) 2 = natToBytes d.toNat 2) ∧
    (s.hpi.busy = true → exec .hostWriteApply s = .next { s with hpi := { s.hpi with wq := rest, wbusy := true } }) := by
  have applied := execHostWriteApply_first first
  rw [State.applyWrite_aperture start below even] at applied
  refine ⟨fun idle canonical => ⟨_, applied, ?_⟩, fun busy => ?_⟩
  · rw [if_neg (by rw [idle]; decide)]
    exact ⟨rfl, (memPutBytes_word canonical _ d).1⟩
  · rw [applied, busy]
    rfl

end

/-! O44: the host's registers (R272, R273, R407 to R411, R420, R423, R424, R464, R465). -/

/-- Settles O44: each read comes from the register, the snapshot or the absence of both at its address, and each write takes
effect as the oldest of the queue. -/
theorem hostRegisters : Obligations.HostRegisters := by
  refine fun s => ⟨fun on low a => ?_, fun opens =>
    ⟨hostSnapshotRead_epoch opens, fun v held => hostSnapshotRead_epochHigh opens held,
    hostSnapshotRead_identity opens, fun a w nothing => hostUnmappedAccess_counts opens nothing w, hpiViolRead_clears opens,
    fun a d there => ⟨hostWrite_queued opens there d, hostWrite_discarded opens there d⟩, fun ready => ?_, fun busy => ?_,
    cuffRead_sees opens⟩, fun a d rest first => ⟨?_, ?_, ?_, hostWriteApply_inbound first, hostWriteApply_aperture first⟩,
    fun mask => ⟨_, rfl, rfl, rfl, rfl⟩⟩
  · show execHostSnapshotRead a s = _
    rw [execHostSnapshotRead, State.hostRead_low on low]
  · rw [bootGo_eq opens, State.goBoot, if_pos ready]
  · rw [bootGo_eq opens, State.goBoot, if_neg (by rw [busy]; decide)]
  · rintro rfl
    exact hostWriteApply_reg first (by decide) (by decide)
  · rintro rfl
    exact hostWriteApply_reg first (by decide) (by decide)
  · rintro rfl
    exact ⟨_, hostWriteApply_reg first (by decide) (by decide), rfl, rfl, rfl, rfl⟩

end Sys2Proof.Machine

namespace Sys2Proof.Machine

/-! What the shared operations and the work of a round boundary leave of the time unit's registers (R110, R247): all of them. The
fold of any of these keeps them too. -/

theorem State.tsu_foldl {α : Type} {f : State → α → State} (hf : ∀ (s : State) (a : α), (f s a).tsu = s.tsu) (l : List α)
    (s : State) : (l.foldl f s).tsu = s.tsu := by
  induction l generalizing s with
  | nil => rfl
  | cons a l ih => exact (ih _).trans (hf s a)

section

variable (s : State)

/-! Records, lines and events. -/

@[simp] theorem State.lineRise_tsu (n : SubId) (kind : Byte) : (s.lineRise n kind).tsu = s.tsu := (s.lineRise_keeps n kind).tsu

@[simp] theorem State.lineFall_tsu (n : SubId) : (s.lineFall n).tsu = s.tsu := (s.lineFall_keeps n).tsu

@[simp] theorem State.linePulse_tsu (n : SubId) (kind : Byte) : (s.linePulse n kind).tsu = s.tsu := (s.linePulse_keeps n kind).tsu

@[simp] theorem State.lineLevel_tsu (n : SubId) (kind : Byte) (c : Bool) : (s.lineLevel n kind c).tsu = s.tsu := by
  unfold State.lineLevel
  split <;> simp

@[simp] theorem State.log_tsu (code p0 p1 p2 : Nat) : (s.log code p0 p1 p2).tsu = s.tsu := (s.log_keeps code p0 p1 p2).tsu

@[simp] theorem State.countSource_tsu (k : Nat) : (s.countSource k).tsu = s.tsu := rfl

@[simp] theorem State.event_tsu (p : PartId) (bit : Nat) : (s.event p bit).tsu = s.tsu := (s.event_keeps p bit).tsu

@[simp] theorem State.eventAll_tsu (bit : Nat) : (s.eventAll bit).tsu = s.tsu := (s.eventAll_keeps bit).tsu

@[simp] theorem State.unannounced_tsu : s.unannounced.tsu = s.tsu := rfl

@[simp] theorem State.chEvent_tsu (k : Nat) : (s.chEvent k).tsu = s.tsu := by
  unfold State.chEvent
  dsimp only
  split <;> simp

@[simp] theorem State.ngdFlag_tsu (b : Nat) : (s.ngdFlag b).tsu = s.tsu := rfl

/-! Tasks whose instructions end, wait or are held. -/

@[simp] theorem State.finish_tsu (t : Nat) (gd : Reg) (v : Word) : (s.finish t gd v).tsu = s.tsu := (s.finish_keeps t gd v).tsu

@[simp] theorem State.refuse_tsu (t : Nat) (gd : Reg) (v : Word) : (s.refuse t gd v).tsu = s.tsu := (s.refuse_keeps t gd v).tsu

@[simp] theorem State.violation_tsu (p : PartId) (kind : Byte) : (s.violation p kind).tsu = s.tsu := (s.violation_keeps p kind).tsu

@[simp] theorem State.violate_tsu (t : Nat) (kind : Byte) (gd : Reg) : (s.violate t kind gd).tsu = s.tsu :=
  (s.violate_keeps t kind gd).tsu

@[simp] theorem State.exception_tsu (t : Nat) (cause : Byte) (pc addr : Word) : (s.exception t cause pc addr).tsu = s.tsu :=
  (s.exception_keeps t cause pc addr).tsu

@[simp] theorem State.wake_tsu (t : Nat) (gd : Reg) (v : Word) : (s.wake t gd v).tsu = s.tsu := (s.wake_keeps t gd v).tsu

@[simp] theorem State.wakeRefuse_tsu (t : Nat) (gd : Reg) (v : Word) : (s.wakeRefuse t gd v).tsu = s.tsu :=
  (s.wakeRefuse_keeps t gd v).tsu

@[simp] theorem State.makeWait_tsu (t : Nat) (w : Wait) : (s.makeWait t w).tsu = s.tsu := (s.makeWait_keeps t w).tsu

@[simp] theorem State.makeReady_tsu (t : Nat) : (s.makeReady t).tsu = s.tsu := (s.makeReady_keeps t).tsu

@[simp] theorem State.hold_tsu (t : Nat) (i : Instr) : (s.hold t i).tsu = s.tsu := (s.hold_keeps t i).tsu

@[simp] theorem State.readErrors_tsu (p : PartId) (va n : Nat) : (s.readErrors p va n).tsu = s.tsu :=
  (s.readErrors_keeps p va n).tsu

@[simp] theorem State.wakePower_tsu : s.wakePower.tsu = s.tsu := by
  unfold State.wakePower
  split <;> rfl

/-! Samples and lanes (R14, R224 to R240). -/

@[simp] theorem State.trackFreeze_tsu : s.trackFreeze.tsu = s.tsu := rfl

@[simp] theorem State.trkMute_tsu (k : Nat) : (s.trkMute k).tsu = s.tsu := by
  simp only [State.trkMute]
  split_ifs <;> simp

@[simp] theorem State.memberCheck_tsu (k : Nat) : (s.memberCheck k).tsu = s.tsu := by
  simp only [State.memberCheck]
  split_ifs <;> simp

@[simp] theorem State.followOn_tsu (k : Nat) (code : BitVec 4) : (s.followOn k code).tsu = s.tsu := by
  simp [State.followOn]

@[simp] theorem State.startGrid_tsu (k n : Nat) : (s.startGrid k n).tsu = s.tsu := by
  simp only [State.startGrid]
  split <;> simp

@[simp] theorem State.carryCut_tsu (c : ChannelCut) : (s.carryCut c).tsu = s.tsu := by
  simp only [State.carryCut]
  split_ifs <;> simp

@[simp] theorem State.feedLane_tsu (k n : Nat) : (s.feedLane k n).tsu = s.tsu := by
  simp only [State.feedLane]
  split <;> simp

@[simp] theorem State.carryCuts_tsu (cs : List ChannelCut) : (s.carryCuts cs).tsu = s.tsu :=
  State.tsu_foldl (fun u c => by simp) cs s

@[simp] theorem State.releaseLanes_tsu : s.releaseLanes.tsu = s.tsu := rfl

@[simp] theorem State.laneSat_tsu (full : Bool) : (s.laneSat full).tsu = s.tsu := by
  unfold State.laneSat
  split <;> simp

@[simp] theorem State.sendLane_tsu (key : Nat) (pick : ChainId → Lane → Bool) (f : Link → Lane → Link) :
    (s.sendLane key pick f).tsu = s.tsu := by
  rw [State.sendLane_onlyLinks]
  rfl

@[simp] theorem State.realign_tsu (k path : Nat) : (s.realign k path).tsu = s.tsu := by
  simp only [State.realign]
  split <;> rfl

@[simp] theorem State.takeDl_tsu (k : Nat) (via : Option ChainId) (n : Nat) (xs : List LaneSample) :
    (s.takeDl k via n xs).tsu = s.tsu := rfl

@[simp] theorem State.sinkTake_tsu (k n : Nat) (xs : List LaneSample) : (s.sinkTake k n xs).tsu = s.tsu := rfl

@[simp] theorem State.takeHere_tsu (key num tref : Nat) (xs : List LaneSample) : (s.takeHere key num tref xs).tsu = s.tsu := by
  refine State.tsu_foldl (fun u k => ?_) _ s
  dsimp only
  split_ifs <;> simp

@[simp] theorem State.sourceLane_tsu (k : Nat) : (s.sourceLane k).tsu = s.tsu := by
  unfold State.sourceLane
  extract_lets x key n s0 s1
  have followed : s0.tsu = s.tsu := by
    refine State.tsu_foldl (fun u m => ?_) _ s
    split <;> simp
  have sent : s1.tsu = s0.tsu := State.tsu_foldl (fun u j => by simp) _ s0
  split
  · exact sent.trans followed
  · rfl

theorem startLane_tsu (a : Lane) (l : ChainId) (fuel : Nat) (s : State) : (startLane a l fuel s).tsu = s.tsu := by
  induction fuel generalizing s with
  | zero => rfl
  | succ fuel ih =>
    simp only [startLane]
    split
    · rw [ih]
      simp
    · rfl

@[simp] theorem State.startLanes_tsu : s.startLanes.tsu = s.tsu := by
  refine State.tsu_foldl (fun u l => ?_) _ s
  split
  · refine State.tsu_foldl (fun v a => ?_) _ u
    split
    · exact startLane_tsu a l 64 v
    · rfl
  · rfl

@[simp] theorem State.deliverUl_tsu (key n : Nat) (xs : List LaneSample) : (s.deliverUl key n xs).tsu = s.tsu := by
  unfold State.deliverUl
  extract_lets s1 ys s2
  have taken : s2.tsu = s1.tsu := State.tsu_foldl (fun u k => u.sinkTake_tsu k n ys) _ s1
  rw [State.sendLane_tsu, taken]
  exact s.laneSat_tsu _

theorem startHome_tsu (k key fuel : Nat) (s : State) : (startHome k key fuel s).tsu = s.tsu := by
  induction fuel generalizing s with
  | zero => rfl
  | succ fuel ih =>
    simp only [startHome]
    split
    · rw [ih, State.deliverUl_tsu]
    · rfl

@[simp] theorem State.startHomes_tsu : s.startHomes.tsu = s.tsu := by
  refine State.tsu_foldl (fun u x => ?_) _ s
  dsimp only
  split
  · exact startHome_tsu _ _ 64 u
  · rfl

@[simp] theorem State.laneRound_tsu : s.laneRound.tsu = s.tsu := by
  simp only [State.laneRound, State.startHomes_tsu, State.startLanes_tsu]
  exact State.tsu_foldl (fun u k => u.sourceLane_tsu k) _ s.releaseLanes

@[simp] theorem State.foldRounds_tsu : s.foldRounds.tsu = s.tsu := rfl

@[simp] theorem State.releaseFades_tsu : s.releaseFades.tsu = s.tsu := rfl

/-! Ports and probes (R31 to R45). -/

@[simp] theorem State.drive_tsu (p : PortId) : (s.drive p).tsu = s.tsu := by
  simp only [State.drive]
  split
  · rfl
  · exact s.mapPort_tsu p _

@[simp] theorem State.driveAll_tsu : s.driveAll.tsu = s.tsu := State.tsu_foldl (fun u p => u.drive_tsu p) _ s

@[simp] theorem State.freeOutputs_tsu (p : PortId) (part : PartId) : (s.freeOutputs p part).tsu = s.tsu := rfl

@[simp] theorem State.deriveOffsets_tsu : s.deriveOffsets.tsu = s.tsu := rfl

@[simp] theorem State.startRetune_tsu (p : PortId) : (s.startRetune p).tsu = s.tsu := rfl

@[simp] theorem State.beginBank_tsu (p : PortId) : (s.beginBank p).tsu = s.tsu := by
  simp only [State.beginBank]
  split
  · rfl
  · split_ifs <;> rfl

@[simp] theorem State.applyTune_tsu (p : PortId) (r : TuneRec) : (s.applyTune p r).tsu = s.tsu := by
  have before : ∀ r', (s.beforeTune p r').tsu = s.tsu := fun r' => by
    simp only [State.beforeTune]
    split_ifs <;> rfl
  rw [State.applyTune_eq]
  simp [State.rfeLine, before]

@[simp] theorem State.leaveProbe_tsu (p : PortId) : (s.leaveProbe p).tsu = s.tsu := by
  simp only [State.leaveProbe]
  split <;> simp

@[simp] theorem State.dropBursts_tsu (k : Nat) : (s.dropBursts k).tsu = s.tsu := rfl

@[simp] theorem State.probeInvalid_tsu (k : Nat) : (s.probeInvalid k).tsu = s.tsu := by
  simp only [State.probeInvalid]
  split <;> simp

@[simp] theorem State.abortBurst_tsu (p : PortId) : (s.abortBurst p).tsu = s.tsu := by
  unfold State.abortBurst
  split <;> simp

@[simp] theorem State.abortProbes_tsu : s.abortProbes.tsu = s.tsu :=
  (State.tsu_foldl (fun u (x : Nat × Slot) => u.probeInvalid_tsu x.1) _ _).trans
    (State.tsu_foldl (fun u p => u.abortBurst_tsu p) _ s)

/-! Modes and SILENCED (R20, R178). -/

@[simp] theorem State.enterMode_tsu (m : Mode) : (s.enterMode m).tsu = s.tsu := by
  simp only [State.enterMode, State.eventAll_tsu, State.driveAll_tsu]
  split <;> simp

@[simp] theorem State.enterWatch_tsu : s.enterWatch.tsu = s.tsu := by
  unfold State.enterWatch
  split
  case h_1 | h_2 | h_3 | h_4 => exact State.enterMode_tsu _ _
  case h_5 | h_6 | h_7 => rfl

@[simp] theorem State.changeMode_tsu (m : Mode) : (s.changeMode m).tsu = s.tsu := by
  simp only [State.changeMode]
  split <;> simp

@[simp] theorem State.markSevere_tsu (src : Nat) : (s.markSevere src).tsu = s.tsu := by
  unfold State.markSevere
  split <;> simp

@[simp] theorem State.enterSilenced_tsu (ks : List Nat) : (s.enterSilenced ks).tsu = s.tsu := by
  unfold State.enterSilenced
  split
  · simp only [State.log_tsu, State.linePulse_tsu, State.changeMode_tsu]
    exact State.tsu_foldl (fun u k => by simp) ks s
  · rfl

/-! Fences, mutes and the Gauntlet (R108, R171, R172, R186). -/

@[simp] theorem State.countFence_tsu (src : Nat) : (s.countFence src).tsu = s.tsu := by
  simp only [State.countFence]
  split <;> simp

@[simp] theorem State.joinSilenced_tsu : s.joinSilenced.tsu = s.tsu := by
  unfold State.joinSilenced
  split <;> rfl

@[simp] theorem State.fenceSlot_tsu (k : Nat) : (s.fenceSlot k).tsu = s.tsu := by
  unfold State.fenceSlot
  extract_lets x req x0 guard s1 s2 n osc charter s3
  have counted : s2.tsu = s.tsu := by
    unfold s2
    split
    · rfl
    · exact s1.countFence_tsu _
  have noted : s3.tsu = s2.tsu := by
    unfold s3
    split
    · split <;> rfl
    · rfl
  split_ifs
  · rfl
  · rfl
  · rfl
  · simp [noted, counted]

@[simp] theorem State.muteSlot_tsu (k : Nat) : (s.muteSlot k).tsu = s.tsu := by
  simp only [State.muteSlot]
  split_ifs <;> simp

@[simp] theorem State.silencedCheck_tsu : s.silencedCheck.tsu = s.tsu := by
  simp only [State.silencedCheck]
  split <;> simp

@[simp] theorem State.hardwareRound_tsu : s.hardwareRound.tsu = s.tsu := by
  unfold State.hardwareRound
  extract_lets ks ps s1 s2 s3
  have fences : s1.tsu = s.tsu := (State.tsu_foldl (fun u k => u.fenceSlot_tsu k) ks _).trans s.joinSilenced_tsu
  have counts : s2.tsu = s1.tsu := State.tsu_foldl (fun u (p : PortId) => u.countFence_tsu (srcPort p.val)) ps s1
  have mutes : s3.tsu = s2.tsu := State.tsu_foldl (fun u k => u.muteSlot_tsu k) ks s2
  exact (State.silencedCheck_tsu _).trans ((mutes.trans counts).trans fences)

@[simp] theorem State.clamp_tsu (p : PortId) (ks : List Nat) : (s.clamp p ks).tsu = s.tsu := by
  simp only [State.clamp]
  split <;> simp

@[simp] theorem State.gntRound_tsu (k : Nat) : (s.gntRound k).tsu = s.tsu := by
  simp only [State.gntRound]
  split
  · split <;> simp [State.askFence]
  · rfl

/-! The gain of the round that begins (R126, R129, R131). -/

@[simp] theorem State.glcFlags_tsu (k : Nat) (ungated : Bool) (old new : Slot) : (s.glcFlags k ungated old new).tsu = s.tsu := by
  simp only [State.glcFlags]
  split_ifs <;> simp

@[simp] theorem State.glcRound_tsu (k : Nat) : (s.glcRound k).tsu = s.tsu := by
  simp only [State.glcRound]
  split_ifs <;> simp

@[simp] theorem State.gainDisagree_tsu (k : Nat) : (s.gainDisagree k).tsu = s.tsu := by
  simp only [State.gainDisagree]
  split <;> simp

@[simp] theorem State.gainRound_tsu (disagree : List SlotId) : (s.gainRound disagree).tsu = s.tsu := by
  unfold State.gainRound
  extract_lets ks s2 s3
  have gains : s2.tsu = s.tsu := State.tsu_foldl (fun u k => u.glcRound_tsu k) ks s
  have checks : s3.tsu = s2.tsu := State.tsu_foldl (fun u (k : SlotId) => u.gainDisagree_tsu k.val) disagree s2
  exact (State.tsu_foldl (fun u k => u.gntRound_tsu k) ks s3).trans (checks.trans gains)

/-! Instructions at the boundary, and the head's answers (R103, R110, R212, R340). -/

@[simp] theorem State.askHead_tsu (q : LaneRequest) : (s.askHead q).tsu = s.tsu := rfl

@[simp] theorem State.leaveLane_tsu (k : Nat) (c : Settings) : (s.leaveLane k c).tsu = s.tsu := by
  have emptied : ∀ key, (s.emptyLane key).tsu = s.tsu := fun _ => rfl
  have told : ∀ (u : State) q, (u.leaveAtHead q).tsu = u.tsu := fun u q => by
    simp only [State.leaveAtHead]
    split <;> rfl
  simp only [State.leaveLane]
  split_ifs <;> simp [told, emptied]

@[simp] theorem State.effectCommit_tsu (k : Nat) : (s.effectCommit k).tsu = s.tsu := by
  simp only [State.effectCommit]
  split
  · rfl
  · split_ifs <;> simp

@[simp] theorem State.doRearm_tsu (k : Nat) : (s.doRearm k).tsu = s.tsu := by
  unfold State.doRearm
  split_ifs <;> simp

@[simp] theorem State.runRoundOp_tsu (o : RoundOp) : (s.runRoundOp o).tsu = s.tsu := by
  cases o with
  | commit k => exact s.effectCommit_tsu k
  | mute k => rfl
  | unmute k =>
    simp only [State.runRoundOp]
    split <;> rfl
  | rearm k =>
    simp only [State.runRoundOp]
    split
    · rfl
    · exact s.doRearm_tsu k

@[simp] theorem State.runRoundOps_tsu : s.runRoundOps.tsu = s.tsu := State.tsu_foldl (fun u o => u.runRoundOp_tsu o) _ _

@[simp] theorem State.commitRefused_tsu (k : Nat) (r : CommitReq) (code : Word) : (s.commitRefused k r code).tsu = s.tsu := by
  unfold State.commitRefused
  split_ifs <;> simp

@[simp] theorem State.commitAdmit_tsu (t k : Nat) (r : CommitReq) : (s.commitAdmit t k r).tsu = s.tsu := by
  have known : ∀ u : State, (u.knowCommit t k).tsu = u.tsu := fun _ => rfl
  simp only [State.commitAdmit, State.count_tsu, State.useFree_tsu, known]
  rfl

@[simp] theorem State.followProfile_tsu (k : Nat) (p : BitVec 4) : (s.followProfile k p).tsu = s.tsu := by
  unfold State.followProfile
  extract_lets x c r s1
  split <;> rfl

@[simp] theorem State.laneAgain_tsu (k : Nat) (a : LaneAnswer) : (s.laneAgain k a).tsu = s.tsu := by
  simp only [State.laneAgain, State.laneGone]
  split_ifs <;> simp

@[simp] theorem State.commitAnswered_tsu (k : Nat) (a : LaneAnswer) (t : Nat) (gd : Reg) (fade : Bool) :
    (s.commitAnswered k a t gd fade).tsu = s.tsu := by
  simp only [State.commitAnswered]
  split_ifs <;> simp

@[simp] theorem State.laneResult_tsu (k : Nat) (a : LaneAnswer) : (s.laneResult k a).tsu = s.tsu := by
  have done : (s.answerDone k).tsu = s.tsu := rfl
  simp only [State.laneResult]
  split
  · unfold State.dropped
    split <;> exact done
  · split <;> simp [done]

@[simp] theorem State.releaseAnswers_tsu : s.releaseAnswers.tsu = s.tsu := by
  unfold State.releaseAnswers
  split
  · rfl
  · exact State.tsu_foldl (fun u (e : Nat × LaneAnswer) => u.laneResult_tsu e.1 e.2) _ _

end

/-! What WATCH held (R339 to R342, R347, R348). -/

theorem onRunning_tsu {t : TaskId} {s u : State} {f : Task → State → State} (hf : ∀ k v, (f k v).tsu = v.tsu)
    (h : onRunning t s f = .next u) : u.tsu = s.tsu := by
  unfold onRunning at h
  split at h
  · split at h
    · cases h
      rw [hf]
      split <;> simp
    · cases h
      rfl
  · cases h
    rfl

theorem onEngine_tsu {t : TaskId} {kind : Byte} {s u : State} {f : Task → State → State} (hf : ∀ k v, (f k v).tsu = v.tsu)
    (h : onEngine t kind s f = .next u) : u.tsu = s.tsu := by
  unfold onEngine at h
  split at h
  · cases h
    exact s.violation_tsu _ kind
  · exact onRunning_tsu hf h

theorem onChannelHeld_tsu {t : TaskId} {gd ga : Reg} {i : Instr} {s u : State} {f : Task → Nat → State → State}
    (hf : ∀ k n v, (f k n v).tsu = v.tsu) (h : onChannelHeld t gd ga i s f = .next u) : u.tsu = s.tsu := by
  refine onEngine_tsu (fun k v => ?_) h
  split
  · exact v.hold_tsu t i
  · split
    · exact hf _ _ _
    · exact v.violate_tsu t 3 gd

theorem State.withRecord_tsu (s : State) (t : Nat) (gd : Reg) (k : Task) (ea : Word) (n : Nat) {f : List Byte → State → State}
    (hf : ∀ bs v, (f bs v).tsu = v.tsu) : (s.withRecord t gd k ea n f).tsu = s.tsu := by
  simp only [State.withRecord]
  split_ifs
  · simp
  · rw [hf, State.readErrors_tsu]
  · simp

theorem commitOn_tsu (t : TaskId) (gd : Reg) (fade : Bool) (k : Nat) (s : State) : (commitOn t gd fade k s).tsu = s.tsu := by
  simp only [commitOn]
  split_ifs <;> simp

theorem commitInstr_tsu {t : TaskId} {gd ga : Reg} {fade : Bool} {i : Instr} {s u : State}
    (h : commitInstr t gd ga fade i s = .next u) : u.tsu = s.tsu := by
  refine onChannelHeld_tsu (fun k n v => ?_) h
  split
  · simp
  · exact commitOn_tsu t gd fade n v

theorem execChAlloc_tsu {t : TaskId} {gd ga gb : Reg} {s u : State} (h : execChAlloc t gd ga gb s = .next u) : u.tsu = s.tsu := by
  refine onEngine_tsu (fun k v => ?_) h
  split_ifs
  · simp
  · simp
  · split <;> simp

theorem execChFree_tsu {t : TaskId} {gd ga : Reg} {s u : State} (h : execChFree t gd ga s = .next u) : u.tsu = s.tsu := by
  refine onChannelHeld_tsu (fun _ n v => ?_) h
  simp only [State.freeChannel, State.finish_tsu, State.dropBursts_tsu, State.mapSlot_tsu]
  split <;> simp

theorem execChProbe_tsu {t : TaskId} {gd ga : Reg} {k : Fin 16} {s u : State} (h : execChProbe t gd ga k s = .next u) :
    u.tsu = s.tsu := by
  have undefined : ∀ (v : State) n, (v.probeUndefined n).tsu = v.tsu := fun _ _ => rfl
  refine onChannelHeld_tsu (fun _ n v => ?_) h
  dsimp only
  split
  · simp [undefined]
  · split
    · simp
    · split
      · simp
      · split
        · simp
        · split <;> simp

theorem execPortTune_tsu {t : TaskId} {gd ga gb : Reg} {s u : State} (h : execPortTune t gd ga gb s = .next u) : u.tsu = s.tsu := by
  refine onEngine_tsu (fun k v => ?_) h
  split
  · exact v.hold_tsu t _
  · refine v.withRecord_tsu t gd k _ 32 fun bs w => ?_
    dsimp only
    split_ifs <;> simp

theorem execPortSched_tsu {t : TaskId} {gd ga gb : Reg} {s u : State} (h : execPortSched t gd ga gb s = .next u) :
    u.tsu = s.tsu := by
  refine onEngine_tsu (fun k v => ?_) h
  split
  · exact v.hold_tsu t _
  · refine v.withRecord_tsu t gd k _ 16 fun hd w => w.withRecord_tsu t gd k _ _ fun bs y => ?_
    rw [← y.wakePower_tsu]
    dsimp only
    split
    · simp
    · split
      · simp
      · split <;> simp

theorem heldExec_tsu {i : Instr} {s u : State} (h : heldExec i s = .next u) : u.tsu = s.tsu := by
  unfold heldExec at h
  split at h
  · exact execChAlloc_tsu h
  · exact execChFree_tsu h
  · exact commitInstr_tsu h
  · exact commitInstr_tsu h
  · exact execChProbe_tsu h
  · exact execPortTune_tsu h
  · exact execPortSched_tsu h
  · cases h
    rfl

section

variable (s : State)

theorem State.runHeldOne_tsu (t : Nat) (i : Instr) : (s.runHeldOne t i).tsu = s.tsu := by
  unfold State.runHeldOne
  split
  · rfl
  · split
    · split
      · rename_i s1 h
        have ran : s1.tsu = s.tsu := (heldExec_tsu h).trans (State.setTask_tsu _ _ _)
        split
        · split
          · exact (s1.makeReady_tsu t).trans ran
          · exact ran
        · exact ran
      · rfl
    · rfl

@[simp] theorem State.releaseHeld_tsu : s.releaseHeld.tsu = s.tsu := by
  unfold State.releaseHeld
  split
  · rfl
  · exact State.tsu_foldl (fun u (x : Nat × Instr) => u.runHeldOne_tsu x.1 x.2) _ _

/-! The whole round, and the time that passes (R82, log 53). -/

@[simp] theorem State.advance_tsu (n : Nat) : (s.advance n).tsu = s.tsu := by
  unfold State.advance
  split <;> rfl

@[simp] theorem State.roundEnded_tsu (cuts : List ChannelCut) : (s.roundEnded cuts).tsu = s.tsu := by
  simp [State.roundEnded, State.toBoundary]

@[simp] theorem State.round_tsu (disagree : List SlotId) (cuts : List ChannelCut) : (s.round disagree cuts).tsu = s.tsu := by
  rw [State.round_eq, State.partRound_biasRound]
  simp

@[simp] theorem State.passTime_tsu (n : Nat) : (s.passTime n).tsu = s.tsu := by
  simp only [State.passTime]
  split <;> simp

/-- Time does not run back. -/
theorem State.advance_ed_le (n : Nat) : s.clk.ed ≤ (s.advance n).clk.ed := by
  unfold State.advance
  split
  · exact le_rfl
  · exact Nat.le_add_right _ _

theorem State.passTime_ed_le (on : s.pwr.mode ≠ .off) (n : Nat) : s.clk.ed ≤ (s.passTime n).clk.ed := by
  simp only [State.passTime]
  split
  · refine le_trans ?_ (State.advance_ed_le _ _)
    rw [State.round_ed on]
    exact Nat.le_add_right _ _
  · exact s.advance_ed_le n

end

end Sys2Proof.Machine

namespace Sys2Proof.Machine

/-! A step of fabric time (R255, R392). -/

/-- A RUNNING task taken off its context is the only thing that changes, besides the queue of READY tasks (R394). -/
theorem State.takeOff_keeps (s : State) (t : Nat) : s.Keeps (s.takeOff t) := by
  unfold State.takeOff
  split
  · split
    · exact State.keeps_of_update s _ _ _ _ _ _ _ _
    · exact s.keeps_refl
  · exact s.keeps_refl

theorem State.takeOff_net (s : State) (t : Nat) : (s.takeOff t).net = s.net := by
  unfold State.takeOff
  split
  · split <;> rfl
  · rfl

theorem State.startWindow_keeps (s : State) (len : Nat) : s.Keeps (s.startWindow len) := by
  unfold State.startWindow
  extract_lets parts demand cpu s1
  refine State.Keeps.trans ?_ (State.place_keeps _)
  have takesOff := State.keeps_foldl _ (fun u (x : Nat × Task) => u.takeOff_keeps x.1) (s1.cpu.tasks.filter fun x => s1.misplaced x.2) s1
  exact State.Keeps.trans (State.keeps_of_update s _ _ _ _ _ _ _ _) takesOff

theorem State.startWindow_net (s : State) (len : Nat) : (s.startWindow len).net = s.net := by
  unfold State.startWindow
  extract_lets parts demand cpu s1
  rw [State.place_net]
  exact State.net_foldl (fun u (x : Nat × Task) => u.takeOff_net x.1) _ s1

theorem State.shortWindow_keeps (s : State) : s.Keeps s.shortWindow :=
  State.Keeps.trans (State.keeps_of_update s _ _ _ _ _ _ _ _) (State.startWindow_keeps _ _)

theorem State.shortWindow_net (s : State) : s.shortWindow.net = s.net := State.startWindow_net _ _

theorem Link.delays_of_beside {x y : Link} (h : x.beside = y.beside) : x.delays = y.delays := by
  have delays := congrArg Link.delays h
  exact delays

/-- What a step writes itself: the time, STEP, and the end of the exchanges in progress (R255). -/
def State.steppedTo (s : State) (fab : Nat) : State :=
  { s with
    clk := { s.clk with fab := fab % 2 ^ 80 }
    tsu := { s.tsu with step := true }
    links := Vector.ofFn fun i =>
      let x := s.links[i]
      { x with synced := false, departed := [] } }

section

variable (s : State) (fab : Nat)

/-- The line, the record and the short window leave the clock, the time unit and the links. -/
theorem State.stepTime_keeps : (s.steppedTo fab).Keeps (s.stepTime fab) :=
  (State.linePulse_keeps _ 10 0x60).trans <| (State.log_keeps _ _ _ _ _).trans (State.shortWindow_keeps _)

theorem State.stepTime_net : (s.stepTime fab).net = (s.steppedTo fab).net :=
  (State.shortWindow_net _).trans <| (State.log_net _ _ _ _ _).trans (State.linePulse_net _ 10 0x60)

@[simp] theorem State.stepTime_clk : (s.stepTime fab).clk = { s.clk with fab := fab % 2 ^ 80 } := (s.stepTime_keeps fab).clk

@[simp] theorem State.stepTime_tsu : (s.stepTime fab).tsu = { s.tsu with step := true } := (s.stepTime_keeps fab).tsu

@[simp] theorem State.stepTime_delays (l : LinkId) : (s.stepTime fab).links[l].delays = s.links[l].delays := by
  rw [Link.delays_of_beside (State.beside_of_net (s.stepTime_net fab) l)]
  simp [State.steppedTo]

end

/-! Time follows an offset (R250, R251, R255). -/

section

variable (s : State)

/-- TRACE is all that the head's state of traceability changes. -/
theorem State.headTrace_eq : s.headTrace = { s with tsu := { s.tsu with trace := s.headTrace.tsu.trace } } := by
  unfold State.headTrace
  split <;> rfl

theorem State.follow_srcPresent (num den : Int) : (s.follow num den).tsu.srcPresent = s.tsu.srcPresent := by
  simp only [State.follow]
  split
  · rw [State.stepTime_tsu]
  · rfl

theorem State.follow_delays (num den : Int) (l : LinkId) : (s.follow num den).links[l].delays = s.links[l].delays := by
  simp only [State.follow]
  split
  · rw [State.stepTime_delays]
  · rfl

theorem State.offsetSeen_srcPresent (num den : Int) : (s.offsetSeen num den).tsu.srcPresent = true := by
  rw [State.offsetSeen, State.follow_srcPresent, State.headTrace_eq]
  rfl

theorem State.offsetSeen_delays (num den : Int) (l : LinkId) : (s.offsetSeen num den).links[l].delays = s.links[l].delays := by
  rw [State.offsetSeen, State.follow_delays, State.headTrace_eq]

end

/-! SYNC, ECHO and INFO (R252, R253). -/

/-- The type of a block is its upper four bits. -/
theorem fieldN_type (b : BitVec 64) : fieldN b.toNat 63 60 = b.toNat / 2 ^ 60 := by
  have top := b.isLt
  exact Nat.mod_eq_of_lt (by omega)

section

variable {s : State} {l : ChainId} {b : BitVec 64} (hears : s.links[chainLink l].controls = true)

include hears

theorem timeSyncRx_stamps (frame : BitVec 16) (arrival : Nat) (kind : b.toNat / 2 ^ 60 = 1) :
    s.gives (.timeSyncRx l frame b arrival) fun u => u.links[chainLink l].synced = true ∧
      u.links[chainLink l].syncT3 = b.toNat % 2 ^ 60 ∧ u.links[chainLink l].syncT4 = arrival := by
  refine State.gives_of_whenDo (show _ = execTimeSyncRx l frame b arrival s from rfl)
    (by rw [hears, fieldN_type, kind]; rfl) ?_
  rw [State.link_mapLink]
  exact ⟨rfl, by rw [fieldN, Nat.pow_zero, Nat.div_one], rfl⟩

theorem timeInfoRx_parent (kind : b.toNat / 2 ^ 60 = 3) (parent : s.isParent l = true) : s.gives (.timeInfoRx l b) fun u =>
    u.tsu.peerState.toNat = b.toNat / 2 ^ 8 % 8 ∧ u.tsu.trace = b.getLsbD 11 ∧
      u.tsu.hops = BitVec.ofNat 12 (b.toNat / 2 ^ 12 % 2 ^ 12 + 1) := by
  refine State.gives_of_whenDo (show _ = execTimeInfoRx l b s from rfl) (by rw [hears, fieldN_type, kind]; rfl) ?_
  rw [if_pos parent]
  refine ⟨?_, bitN_toNat b 11, rfl⟩
  show (BitVec.ofNat 3 (fieldN b.toNat 10 8)).toNat = _
  rw [BitVec.toNat_ofNat]
  exact Nat.mod_mod _ 8

/-- The exchange enters the mean of the link; on the parent port the time follows it, else time and time unit stay (R253, R255). -/
theorem timeEchoRx_completes {t1 : Nat} (kind : b.toNat / 2 ^ 60 = 2) (synced : s.links[chainLink l].synced = true) :
    s.gives (.timeEchoRx l b t1) fun u =>
      u.links[chainLink l].delays = (quotient (s.links[chainLink l].roundTrip (b.toNat / 2 ^ 16 % 2 ^ 44)
        (s.links[chainLink l].departure b t1)) 2 :: s.links[chainLink l].delays).take 1024 ∧
      (s.isParent l = false → u.clk = s.clk ∧ u.tsu = s.tsu) ∧
      (s.isParent l = true → s.tsu.peerState ≠ 3 → u.tsu.srcPresent = true) := by
  refine State.gives_of_whenDo (show _ = execTimeEchoRx l b t1 s from rfl)
    (by rw [hears, synced, fieldN_type, kind]; rfl) ?_
  split
  · rename_i follows
    obtain ⟨parent, -⟩ := Bool.and_eq_true_iff.mp follows
    refine ⟨?_, fun other => absurd (parent.symm.trans other) (by decide), fun _ _ => State.offsetSeen_srcPresent _ _ _⟩
    rw [State.offsetSeen_delays, State.link_mapLink]
    rfl
  · rename_i stays
    refine ⟨?_, fun _ => ⟨rfl, rfl⟩, fun parent state => absurd ?_ stays⟩
    · rw [State.link_mapLink]
      rfl
    · rw [parent, decide_eq_true state]
      rfl

omit hears

/-- The departure instant is one that was kept for the frame the ECHO names, if any was (R252). -/
theorem Link.departure_kept {x : Link} {t1 : Nat} {e : BitVec 16 × Nat} (kept : e ∈ x.departed) (named : e.1 = b.setWidth 16) :
    ∃ e' ∈ x.departed, e'.1 = e.1 ∧ x.departure b t1 = e'.2 := by
  unfold Link.departure
  cases found : x.departed.find? fun e => decide (e.1 = b.setWidth 16) with
  | none => exact absurd (decide_eq_true named) (List.find?_eq_none.mp found e kept)
  | some e' =>
    have names := List.find?_some found
    exact ⟨e', List.mem_of_find?_eq_some found, (of_decide_eq_true names).trans named.symm, rfl⟩

end

/-! SW.TSU_SET (R249). -/

theorem State.timeBaseChanged_eq (s : State) : s.timeBaseChanged = { s with rad := s.timeBaseChanged.rad } := by
  simp only [State.timeBaseChanged]
  split <;> rfl

@[simp] theorem State.timeBaseChanged_clk (s : State) : s.timeBaseChanged.clk = s.clk := by rw [State.timeBaseChanged_eq]

@[simp] theorem State.timeBaseChanged_tsu (s : State) : s.timeBaseChanged.tsu = s.tsu := by rw [State.timeBaseChanged_eq]

section

variable {s : State} {t : TaskId} {k : Task} {c : Nat} (runs : s.runs t k c) (onward : s.nextOk k) (warden : k.part = 0) (v : Word)

include runs onward warden

theorem tsuSet_head (head : s.fab.isHead = true) : s.gives (.tsuSet t v) fun u =>
    u.tsu.set = some (v, s.setDue) ∧ u.task? t = some { k with pc := k.pc + 4 } := by
  refine State.gives_of_wardenWrite runs onward warden (show _ = execTsuSet t v s from rfl) fun x y => ⟨_, if_pos head, ?_⟩
  rw [State.timeBaseChanged_eq]
  exact ⟨rfl, rfl, fun u shows => ⟨congrArg (fun u => u.tsu.set) shows, State.task?_becomes shows⟩⟩

theorem tsuSet_elsewhere (other : s.fab.isHead = false) :
    s.gives (.tsuSet t v) fun u => s.becomes u t { k with pc := k.pc + 4 } :=
  State.gives_of_wardenWrite runs onward warden (show _ = execTsuSet t v s from rfl) fun x y =>
    ⟨s.counted x y, if_neg (ne_true_of_eq_false other), rfl, rfl, fun _ shows => shows⟩

end

theorem tsuSetApply_steps {s : State} {v : Word} {due : Nat} (set : s.tsu.set = some (v, due)) :
    s.gives .tsuSetApply fun u => u.clk.fab = v.toNat * 65536 ∧ u.tsu.set = none ∧ u.tsu.step = true := by
  have fits : v.toNat * 65536 % 2 ^ 80 = v.toNat * 65536 := Nat.mod_eq_of_lt (by have := v.isLt; omega)
  refine ⟨_, show execTsuSetApply s = .next _ from rfl, ?_⟩
  rw [set]
  dsimp only
  generalize s.passTime (s.cyclesTo due) = w
  simp only [apply_ite State.clk, apply_ite State.tsu, State.timeBaseChanged_clk, State.timeBaseChanged_tsu, ite_self,
    State.stepTime_clk, State.stepTime_tsu]
  exact ⟨fits, trivial, trivial⟩

/-! The states of the time unit (R250, R251, R259). -/

theorem tsuLocked_locks {s : State} {e : Nat} (acquires : s.tsu.st = 1) (present : s.tsu.srcPresent = true)
    (within : s.tsu.inSince = some e) (long : e + 9830400000 ≤ s.clk.ed) :
    s.gives .tsuLocked fun u => u.tsu.st = 2 ∧ u.tsu.everLocked = true := by
  refine State.gives_of_whenDo (show _ = execTsuLocked s from rfl) ?_ ?_
  · have span : e + edMs 10000 ≤ s.clk.ed := by unfold edMs; omega
    simp only [acquires, present, within, span, decide_true, Bool.and_self]
  · rw [State.headTrace_eq]
    exact ⟨rfl, rfl⟩

theorem tsuUnlock_acquires {s : State} {e : Nat} (locked : s.tsu.st = 2) (beyond : s.tsu.outSince = some e)
    (long : e + 983040000 ≤ s.clk.ed) : s.gives .tsuUnlock fun u => u.tsu.st = 1 := by
  refine State.gives_of_whenDo (show _ = execTsuUnlock s from rfl) ?_ ?_
  · have span : e + edMs 1000 ≤ s.clk.ed := by unfold edMs; omega
    simp only [locked, beyond, span, decide_true, Bool.and_self]
  · rw [State.headTrace_eq]

/-- The time unit without its source (R259). -/
def Tsu.sourceless (x : Tsu) : Tsu :=
  { x with st := x.noSource, srcPresent := false, trace := false, inSince := none, outSince := none }

/-- Its line apart, the loss of the source reaches the time unit and the reference only (R60, R259). -/
theorem State.loseSource_keeps (s : State) :
    ({ s with tsu := s.tsu.sourceless, syn := s.syn.loseSource } : State).Keeps s.loseSource := by
  simp only [State.loseSource]
  split
  · exact State.linePulse_keeps _ 10 0x61
  · exact State.keeps_refl _

@[simp] theorem State.loseSource_tsu (s : State) : s.loseSource.tsu = s.tsu.sourceless := s.loseSource_keeps.tsu

theorem State.loseSource_syn (s : State) : s.loseSource.syn = s.syn.loseSource := s.loseSource_keeps.syn

theorem tsuSourceLost_loses {s : State} (present : s.tsu.srcPresent = true) (gone : s.sourceGone = true) :
    s.gives .tsuSourceLost fun u => u.tsu.srcPresent = false ∧ u.tsu.st = (if s.tsu.everLocked then 3 else 0) ∧
      (s.syn.ref = 2 → u.syn.ref = 3) := by
  refine State.gives_of_whenDo (show _ = execTsuSourceLost s from rfl) (by rw [present, gone]; rfl) ?_
  rw [State.loseSource_tsu, State.loseSource_syn]
  exact ⟨rfl, rfl, fun syntonised => if_pos syntonised⟩

/-- The time unit's transfer and states (R247, R249 to R253, R255, R259). -/
theorem timeTransferAndStates : TimeTransferAndStates := by
  refine fun s => ⟨fun l b hears => ⟨fun frame arr kind => timeSyncRx_stamps hears frame arr kind, fun t1 kind synced =>
    ⟨fun e kept named => Link.departure_kept kept named, timeEchoRx_completes hears kind synced⟩,
    fun kind parent => timeInfoRx_parent hears kind parent⟩, fun t k c v runs onward warden =>
    ⟨tsuSet_head runs onward warden v, tsuSet_elsewhere runs onward warden v⟩, fun v due set => tsuSetApply_steps set,
    fun e acquires present within long => tsuLocked_locks acquires present within long,
    fun e locked beyond long => tsuUnlock_acquires locked beyond long, tsuSourceLost_loses⟩

end Sys2Proof.Machine

namespace Sys2Proof.Machine

/-! PTP messages (R262, R264). -/

section

variable {s : State}

theorem pdelayReqRx_answers (up : s.tapUp = true) (seq : BitVec 16) (d : Nat) : exec (.pdelayReqRx seq d) s =
    .next { s with tsu := { s.tsu with pdelay := d, pdelayOut := s.tsu.pdelayOut ++ [seq.toNat] } } := by
  show execPdelayReqRx seq d s = _
  rw [execPdelayReqRx, whenDo, if_pos up]

variable {m : PtpEvent} (foreign : s.ptpSlave m = false)

include foreign

/-- A message that is not the head's own grandmaster's leaves, or nothing happens. -/
theorem execPtpEventRx_foreign : exec (.ptpEventRx m) s = .next (if s.ptpEgress m.here m.sync then
    { s with tsu := { s.tsu with ptpOut := s.tsu.ptpOut ++ [ptpLeaves m] } } else s) := by
  show execPtpEventRx m s = _
  simp only [execPtpEventRx, foreign, Bool.false_and, Bool.false_eq_true, if_false]

theorem ptpEventRx_leaves (up : s.tapUp = true) (away : m.here = false) (free : s.tsu.ptpm = false ∨ m.sync = false)
    (oneStep : m.twoStep = false) : exec (.ptpEventRx m) s = .next { s with tsu := { s.tsu with ptpOut := s.tsu.ptpOut ++
      [{ m with correction := m.correction + 65536 * (m.egress - m.ingress + m.linkDelay) }] } } := by
  have goes : s.ptpEgress m.here m.sync = true := by
    have open' : (s.tsu.ptpm && m.sync) = false := Bool.and_eq_false_iff.mpr free
    rw [State.ptpEgress, up, away, open']
    rfl
  have leaves : ptpLeaves m = { m with correction := m.correction + 65536 * (m.egress - m.ingress + m.linkDelay) } := by
    simp only [ptpLeaves, oneStep, Bool.false_and, Bool.false_eq_true, if_false, Int.mul_comm]
  rw [execPtpEventRx_foreign foreign, if_pos goes, leaves]

theorem ptpEventRx_ownTap (here : m.here = true) : exec (.ptpEventRx m) s = .next s := by
  rw [execPtpEventRx_foreign foreign, if_neg (by simp [State.ptpEgress, here])]

theorem ptpEventRx_keptBack (master : s.tsu.ptpm = true) (sync : m.sync = true) : exec (.ptpEventRx m) s = .next s := by
  rw [execPtpEventRx_foreign foreign, if_neg (by simp [State.ptpEgress, master, sync])]

end

/-- The state once an Announce has left by the TAP port, or been kept back (R264). -/
def State.announceLeaves (s : State) (a : PtpAnnounce) : State :=
  if s.ptpEgress a.here true then { s with tsu := { s.tsu with annOut := s.tsu.annOut ++ [a] } } else s

theorem State.announceLeaves_announcing (s : State) (a : PtpAnnounce) : (s.announceLeaves a).announcing = s.announcing := by
  unfold State.announceLeaves
  split <;> rfl

theorem execPtpAnnounceRx_eq (s : State) (a : PtpAnnounce) : exec (.ptpAnnounceRx a) s =
    whenDo (s.fab.isHead && decide (s.tsu.src = 1) && decide (a.domain = s.tsu.domain)) (s.announceLeaves a)
      ((s.announceLeaves a).selectMaster
        ((a, s.clk.ed) :: (s.announceLeaves a).announcing.filter fun e => decide (e.1.identity ≠ a.identity))) := rfl

theorem ptpAnnounceRx_elsewhere {s : State} (other : s.fab.isHead = false) (a : PtpAnnounce) : exec (.ptpAnnounceRx a) s =
    .next (if s.tapUp = true ∧ a.here = false ∧ s.tsu.ptpm = false then
      { s with tsu := { s.tsu with annOut := s.tsu.annOut ++ [a] } } else s) := by
  have leaves : s.ptpEgress a.here true = true ↔ s.tapUp = true ∧ a.here = false ∧ s.tsu.ptpm = false := by
    simp [State.ptpEgress, and_assoc]
  simp only [execPtpAnnounceRx_eq, other, Bool.false_and, whenDo, Bool.false_eq_true, if_false, State.announceLeaves, leaves]

/-! The best grandmaster (R263). -/

/-- The best master is one of the list, and none of the list stands before it. -/
theorem bestMaster_least : ∀ {l : List (PtpAnnounce × Nat)}, l ≠ [] →
    ∃ e ∈ l, bestMaster l = some e.1 ∧ ∀ o ∈ l, announceKey e.1 ≤ announceKey o.1
  | [e], _ => ⟨e, List.mem_singleton_self e, rfl, fun o ho => by rw [List.mem_singleton.mp ho]⟩
  | e :: x :: r, _ => by
    obtain ⟨g, hg, best, least⟩ := bestMaster_least (List.cons_ne_nil x r)
    by_cases before : announceKey g.1 < announceKey e.1
    · refine ⟨g, List.mem_cons_of_mem e hg, ?_, fun o ho => ?_⟩
      · rw [bestMaster, best]
        exact if_pos before
      · rcases List.mem_cons.mp ho with rfl | ho
        · exact before.le
        · exact least o ho
    · refine ⟨e, List.mem_cons_self, ?_, fun o ho => ?_⟩
      · rw [bestMaster, best]
        exact if_neg before
      · rcases List.mem_cons.mp ho with rfl | ho
        · exact le_rfl
        · exact (Nat.not_lt.mp before).trans (least o ho)

/-- The head's choice among the grandmasters of `l`, with the offset of TAI that comes with it (R252, R263). -/
theorem State.selectMaster_least (s : State) {l : List (PtpAnnounce × Nat)} (listed : l ≠ []) :
    ∃ e ∈ l, (s.selectMaster l).tsu.gm = some e.1 ∧ (s.selectMaster l).tsu.tai = e.1.utcOffset ∧
      ∀ o ∈ l, announceKey e.1 ≤ announceKey o.1 := by
  obtain ⟨e, he, best, least⟩ := bestMaster_least listed
  refine ⟨e, he, best, ?_, least⟩
  simp only [State.selectMaster, best]

section

variable {s : State} (head : s.fab.isHead = true) (slave : s.tsu.src = 1)

include head slave

theorem ptpAnnounceRx_selects {a : PtpAnnounce} (domain : a.domain = s.tsu.domain) :
    let l := (a, s.clk.ed) :: s.announcing.filter fun e => decide (e.1.identity ≠ a.identity)
    s.gives (.ptpAnnounceRx a) fun u => u.tsu.gms = l ∧
      ∃ e ∈ l, u.tsu.gm = some e.1 ∧ u.tsu.tai = e.1.utcOffset ∧ ∀ o ∈ l, announceKey e.1 ≤ announceKey o.1 := by
  intro l
  have selects : exec (.ptpAnnounceRx a) s = .next ((s.announceLeaves a).selectMaster l) := by
    rw [execPtpAnnounceRx_eq, whenDo, if_pos (by rw [head, slave, domain]; simp), State.announceLeaves_announcing]
  exact ⟨_, selects, rfl, State.selectMaster_least _ (List.cons_ne_nil _ _)⟩

theorem grandmasterLoss_last (had : s.tsu.gm.isSome = true) (silent : s.announcing = []) :
    s.gives .grandmasterLoss fun u => u.tsu.gm = none ∧ u.tsu.srcPresent = false := by
  refine State.gives_of_whenDo (show _ = execGrandmasterLoss s from rfl) (by rw [head, slave, had]; rfl) ?_
  dsimp only
  rw [silent, if_pos (show (s.selectMaster []).tsu.gm.isNone = true from rfl), State.loseSource_tsu]
  exact ⟨rfl, rfl⟩

theorem grandmasterLoss_others (had : s.tsu.gm.isSome = true) (others : s.announcing ≠ []) :
    s.gives .grandmasterLoss fun u => u.tsu.gms = s.announcing ∧ u.tsu.srcPresent = s.tsu.srcPresent ∧
      ∃ e ∈ s.announcing, u.tsu.gm = some e.1 ∧ ∀ o ∈ s.announcing, announceKey e.1 ≤ announceKey o.1 := by
  obtain ⟨e, he, best, -, least⟩ := s.selectMaster_least others
  refine State.gives_of_whenDo (show _ = execGrandmasterLoss s from rfl) (by rw [head, slave, had]; rfl) ?_
  dsimp only
  rw [if_neg (by rw [best]; exact Bool.false_ne_true)]
  exact ⟨rfl, rfl, e, he, best, least⟩

end

/-! PPS_IN and PPS_OUT (R265, R266). -/

/-- The edge's phase is in force, at once below 1 µs too (log 37). -/
theorem State.setPhase_sets (s : State) (o : Int) : (s.setPhase o).clk.fab = (((s.clk.fab : Int) - o * 65536) % 2 ^ 80).toNat ∧
    (s.setPhase o).tsu.ppsOff = s.tsu.ppsOff ∧ (s.setPhase o).tsu.ppsBad = s.tsu.ppsBad ∧
    (s.setPhase o).tsu.srcPresent = true ∧ (s.setPhase o).tsu.offs = -16 * o := by
  have whole : quotient (-16 * o) 1 = -16 * o := by rw [quotient, if_pos (Int.emod_one _), Int.ediv_one]
  have fits : (((s.clk.fab : Int) - o * 65536) % 2 ^ 80).toNat % 2 ^ 80 = (((s.clk.fab : Int) - o * 65536) % 2 ^ 80).toNat :=
    Nat.mod_eq_of_lt (by omega)
  simp only [State.setPhase]
  rw [State.headTrace_eq]
  split
  · rw [State.stepTime_clk, State.stepTime_tsu]
    exact ⟨fits, rfl, rfl, rfl, whole⟩
  · exact ⟨rfl, rfl, rfl, rfl, whole⟩

/-- Of the time unit, an edge ignored or missing counts; the third in a row is loss of the source (R265). -/
theorem State.ppsFail_tsu (s : State) : s.ppsFail.tsu =
    let x := { s.tsu with ppsBad := s.tsu.ppsBad + 1 }
    if x.ppsBad = 3 then x.sourceless else x := by
  simp only [State.ppsFail]
  split
  · rw [State.loseSource_tsu]
  · rfl

theorem State.ppsFail_counts (s : State) : s.ppsFail.tsu.ppsBad = s.tsu.ppsBad + 1 ∧ s.ppsFail.tsu.ppsin = s.tsu.ppsin ∧
    (s.tsu.ppsBad = 2 → s.ppsFail.tsu.srcPresent = false) := by
  rw [State.ppsFail_tsu]
  dsimp only
  split
  · exact ⟨rfl, rfl, fun _ => rfl⟩
  · rename_i fewer
    exact ⟨rfl, rfl, fun two => absurd (congrArg (· + 1) two) fewer⟩

section

variable {s : State}

theorem ppsInEdge_elsewhere (other : s.ppsHead = false) (i : Nat) : exec (.ppsInEdge i) s =
    .next { s with tsu := { s.tsu with ppsOff := secondOffset ((i : Int) - s.tsu.ppsd) } } := by
  show execPpsInEdge i s = _
  simp only [execPpsInEdge, other, Bool.not_false, if_true]

variable (head : s.ppsHead = true)

include head

theorem ppsInEdge_sets {i : Nat} (near : (secondOffset ((i : Int) - s.tsu.ppsd)).natAbs ≤ 1000000) :
    let o := secondOffset ((i : Int) - s.tsu.ppsd)
    s.gives (.ppsInEdge i) fun u => u.tsu.ppsOff = o ∧ u.tsu.ppsBad = 0 ∧ u.tsu.srcPresent = true ∧
      u.tsu.offs = -16 * o ∧ u.clk.fab = (((s.clk.fab : Int) - o * 65536) % 2 ^ 80).toNat := by
  intro o
  refine ⟨_, show execPpsInEdge i s = .next _ from rfl, ?_⟩
  rw [if_neg (by rw [head]; decide), if_neg (Nat.not_lt.mpr near)]
  obtain ⟨fab, off, bad, present, offs⟩ := State.setPhase_sets { s with tsu := { s.tsu with ppsOff := o, ppsBad := 0 } } o
  exact ⟨off, bad, present, offs, fab⟩

theorem ppsInEdge_ignored {i : Nat} (far : 1000000 < (secondOffset ((i : Int) - s.tsu.ppsd)).natAbs) :
    s.gives (.ppsInEdge i) fun u => u.tsu.ppsin = true ∧ u.tsu.ppsBad = s.tsu.ppsBad + 1 := by
  refine ⟨_, show execPpsInEdge i s = .next _ from rfl, ?_⟩
  rw [if_neg (by rw [head]; decide), if_pos far]
  obtain ⟨bad, seen, -⟩ := State.ppsFail_counts
    (({ s with tsu := { s.tsu with ppsOff := secondOffset ((i : Int) - s.tsu.ppsd), ppsin := true } } : State).linePulse 10 0x62)
  rw [State.linePulse_tsu] at bad seen
  exact ⟨seen, bad⟩

theorem ppsInMissing_counts : s.gives .ppsInMissing fun u => u.tsu.ppsBad = s.tsu.ppsBad + 1 ∧
    (s.tsu.ppsBad = 2 → u.tsu.srcPresent = false) := by
  obtain ⟨bad, -, lost⟩ := s.ppsFail_counts
  exact State.gives_of_whenDo (show _ = execPpsInMissing s from rfl) head ⟨bad, lost⟩

omit head

/-- The way to the second, over a round boundary or not, changes neither PPSOE nor the mode. -/
theorem ppsOutSecond_rises (on : s.pwr.mode ≠ .off) (runs : s.pwr.mode ≠ .reset) : s.gives .ppsOutSecond fun u =>
    u.tsu.ppsOut = (s.tsu.ppsoe && decide (s.pwr.mode ≠ .boot)) ∧ u.tsu.ppsRise = u.clk.ed ∧ s.clk.ed ≤ u.clk.ed := by
  have tsu := s.passTime_tsu (s.cyclesTo s.nextSecond)
  have later := s.passTime_ed_le on (s.cyclesTo s.nextSecond)
  refine State.gives_of_whenDo (show _ = execPpsOutSecond s from rfl) (by rw [decide_eq_true on, decide_eq_true runs]; rfl) ?_
  generalize s.passTime (s.cyclesTo s.nextSecond) = w at tsu later ⊢
  dsimp only
  rw [tsu]
  exact ⟨rfl, rfl, later⟩

theorem ppsOutFall_falls (high : s.tsu.ppsOut = true) (long : s.tsu.ppsRise + 983040 * max s.tsu.ppsw.toNat 1 ≤ s.clk.ed) :
    exec .ppsOutFall s = .next { s with tsu := { s.tsu with ppsOut := false } } := by
  show execPpsOutFall s = _
  rw [execPpsOutFall, whenDo, if_pos]
  rw [high]
  exact decide_eq_true long

/-- The master's own Announce, and its Sync with the Follow_Up (R261, R264). -/
theorem ptpMasterSend_sends (master : s.tsu.ptpm = true) (up : s.tapUp = true) : s.gives .ptpMasterSend fun u =>
    u.tsu = { s.tsu with
      adv := some s.tsu.clockClass
      annOut := s.tsu.annOut ++ [s.ownAnnounce]
      ptpOut := s.tsu.ptpOut ++ [s.ownSync false, s.ownSync true] } :=
  State.gives_of_whenDo (show _ = execPtpMasterSend s from rfl) (by rw [master, up]; rfl) rfl

theorem Tsu.clockClass_eq (x : Tsu) : x.clockClass =
    if x.st = 2 ∧ x.trace = true then 6 else if x.st = 3 then 7 else if x.st = 0 then 248 else 52 := by
  simp only [Tsu.clockClass, Bool.and_eq_true, decide_eq_true_eq]

end

/-! O42: time transfer, the states of the time unit, PTP and the PPS pins (R247 to R266). -/

theorem ptpAndPps : PtpAndPps := by
  refine fun s => ⟨fun seq d up => pdelayReqRx_answers up seq d,
    fun m up away foreign free oneStep => ptpEventRx_leaves foreign up away free oneStep,
    fun m foreign here => ptpEventRx_ownTap foreign here, fun m foreign master sync => ptpEventRx_keptBack foreign master sync,
    fun a other => ptpAnnounceRx_elsewhere other a, fun a head slave domain => ptpAnnounceRx_selects head slave domain,
    fun head slave had => ⟨grandmasterLoss_last head slave had, grandmasterLoss_others head slave had⟩, fun master up => ?_,
    fun i => ⟨fun other => ppsInEdge_elsewhere other i, fun head near => ppsInEdge_sets head near,
      fun head far => ppsInEdge_ignored head far⟩, ppsInMissing_counts, ppsOutSecond_rises, ppsOutFall_falls⟩
  obtain ⟨u, run, tsu⟩ := ptpMasterSend_sends master up
  refine ⟨u, run, ?_⟩
  dsimp only
  rw [tsu, ← Tsu.clockClass_eq]
  exact ⟨rfl, ⟨_, rfl, rfl, rfl, rfl⟩, _, _, rfl, rfl, rfl, rfl, rfl, rfl, rfl, rfl⟩

/-- Settles O42: an exchange completes by the step or the servo, which leave the link's mean and the source; of the grandmasters the
least key wins; the way to a second keeps the time unit. -/
theorem timeUnit : Obligations.TimeUnit := ⟨timeTransferAndStates, ptpAndPps⟩

end Sys2Proof.Machine

namespace Sys2Proof.Machine

/-! Records in tables: what is put, deleted or changed. -/

theorem mem_of_tblFind {α : Type} {k : Nat} {a : α} {l : List (Nat × α)} (h : tblFind k l = some a) : (k, a) ∈ l := by
  induction l with
  | nil => simp [tblFind] at h
  | cons x l ih =>
    obtain ⟨j, b⟩ := x
    by_cases e : j = k
    · obtain rfl : b = a := by simpa [tblFind, e] using h
      exact e ▸ List.mem_cons_self
    · exact List.mem_cons_of_mem _ (ih (by simpa [tblFind, e] using h))

theorem mem_tblPut {α : Type} {k : Nat} {a : α} {x : Nat × α} {l : List (Nat × α)} (h : x ∈ tblPut k a l) : x = (k, a) ∨ x ∈ l := by
  induction l with
  | nil => exact .inl (List.mem_singleton.mp h)
  | cons y l ih =>
    obtain ⟨j, b⟩ := y
    unfold tblPut at h
    split_ifs at h
    · exact (List.mem_cons.mp h).imp_right (List.mem_cons_of_mem _)
    · exact List.mem_cons.mp h
    · rcases List.mem_cons.mp h with rfl | h
      · exact .inr List.mem_cons_self
      · exact (ih h).imp_right (List.mem_cons_of_mem _)

theorem mem_tblMap {α : Type} {f : Nat → α → α} {x : Nat × α} {l : List (Nat × α)} (h : x ∈ tblMap f l) :
    ∃ y ∈ l, x = (y.1, f y.1 y.2) := by
  induction l with
  | nil => exact absurd h List.not_mem_nil
  | cons y l ih =>
    rcases List.mem_cons.mp h with rfl | h
    · exact ⟨y, List.mem_cons_self, rfl⟩
    · obtain ⟨z, hz, e⟩ := ih h
      exact ⟨z, List.mem_cons_of_mem _ hz, e⟩

/-! Addresses of instructions are multiples of 4 (R290, R305, R314, R315). -/

theorem word_mask_aligned (a : Word) : (a &&& ~~~3#64).toNat % 4 = 0 := by
  have none : a &&& ~~~3#64 &&& 3#64 = 0#64 := by rw [BitVec.and_assoc, show ~~~3#64 &&& 3#64 = 0#64 by decide, BitVec.and_zero]
  exact (Nat.and_two_pow_sub_one_eq_mod _ 2).symm.trans (congrArg BitVec.toNat none)

theorem word_next_aligned {a : Word} (h : a.toNat % 4 = 0) : (a + 4).toNat % 4 = 0 := by
  rw [BitVec.toNat_add]
  simp
  omega

theorem word_branch_aligned {a : Word} (h : a.toNat % 4 = 0) (b : Word) : (a + b * 4).toNat % 4 = 0 := by
  rw [BitVec.toNat_add, BitVec.toNat_mul]
  simp
  omega

/-! Sound tasks. For every operation `f` of the model that a step can reach, `State.tasksOk.f` says that it keeps them sound; the
lemma of an operation that is made of others is made of theirs, in the same order. -/

theorem Task.ok.put {k : Task} (h : k.ok) (r : Reg) (v : Word) : (k.put r v).ok := by
  unfold Task.put
  split
  · exact h
  · rename_i hr
    exact ⟨(Vector.getElem_set_ne r.isLt (by decide) fun e => hr (Fin.ext e)).trans h.1, h.2⟩

theorem Task.fresh_ok {p : PartId} {pc evec : Word} (hpc : pc.toNat % 4 = 0) (hev : evec.toNat % 4 = 0) : (Task.fresh p pc evec).ok :=
  ⟨Vector.getElem_replicate _, hpc, hev⟩

theorem Task.ok.pc {k : Task} (h : k.ok) : k.pc.toNat % 4 = 0 := h.2.1

theorem Task.ok.evec {k : Task} (h : k.ok) : k.evec.toNat % 4 = 0 := h.2.2

namespace State.tasksOk

variable {s : State}

/-- A state with the same tasks and the same entry is as sound. -/
theorem same {u : State} (h : s.tasksOk) (tasks : u.cpu.tasks = s.cpu.tasks) (entry : u.pw.entry = s.pw.entry) : u.tasksOk := by
  rw [State.tasksOk, tasks, entry]
  exact h

/-- A change of the other parts of the state. -/
theorem update {pending : List Instr} {free : Nat} {clk : Clock} {cpu : Cpu} {parts : Vector Part 8} {mail : List (Nat × List Msg)}
    {ms : MemSys} {rad : Radio} {cht : Charter} {ports : Vector Port 4} {syn : Syn} {links : Vector Link 4} {fab : Fab} {tsu : Tsu}
    {hpi : Hpi} {pwr : Pwr} {thm : Thm} {obs : Obs} {svc : Svc} {tap : Tap} (h : s.tasksOk) (tasks : cpu.tasks = s.cpu.tasks) :
    State.tasksOk { s with pending, free, clk, cpu, parts, mail, ms, rad, cht, ports, syn, links, fab, tsu, hpi, pwr, thm, obs, svc, tap } :=
  h.same tasks rfl

/-- What leaves the tasks and the shared parts as they are (`State.Keeps`) keeps the tasks sound. -/
theorem kept {u : State} (h : s.tasksOk) (keeps : s.Keeps u) (cpu : u.cpu = s.cpu) : u.tasksOk :=
  h.same (congrArg Cpu.tasks cpu) (congrArg PartWords.entry keeps.pw)

theorem task (h : s.tasksOk) {t : Nat} {k : Task} (found : s.task? t = some k) : k.ok := h.1 _ (mem_of_tblFind found)

theorem ite {c : Prop} [Decidable c] {a b : State} (ha : a.tasksOk) (hb : b.tasksOk) : (if c then a else b).tasksOk := by
  split
  · exact ha
  · exact hb

theorem foldl {α : Type} {f : State → α → State} {l : List α} (hf : ∀ u x, u.tasksOk → (f u x).tasksOk) (h : s.tasksOk) :
    (l.foldl f s).tasksOk := by
  induction l generalizing s with
  | nil => exact h
  | cons x l ih => exact ih (hf s x h)

theorem foldl_mem {α : Type} {f : State → α → State} {l : List α} (hf : ∀ u, ∀ x ∈ l, u.tasksOk → (f u x).tasksOk) (h : s.tasksOk) :
    (l.foldl f s).tasksOk := List.foldlRecOn l f h fun u hu x hx => hf u x hx hu

/-- The record of one task is put. -/
theorem put {u : State} {t : Nat} {k : Task} (h : s.tasksOk) (tasks : u.cpu.tasks = tblPut t k s.cpu.tasks)
    (entry : u.pw.entry = s.pw.entry) (hk : k.ok) : u.tasksOk := by
  refine ⟨fun x hx => ?_, entry ▸ h.2⟩
  rw [tasks] at hx
  rcases mem_tblPut hx with rfl | hx
  · exact hk
  · exact h.1 x hx

/-- Every record is changed in place. -/
theorem mapped {u : State} {f : Nat → Task → Task} (h : s.tasksOk) (hf : ∀ x ∈ s.cpu.tasks, (f x.1 x.2).ok)
    (tasks : u.cpu.tasks = tblMap f s.cpu.tasks) (entry : u.pw.entry = s.pw.entry) : u.tasksOk := by
  refine ⟨fun x hx => ?_, entry ▸ h.2⟩
  obtain ⟨y, hy, rfl⟩ := mem_tblMap (tasks ▸ hx)
  exact hf y hy

/-- Tasks are left out, and none is changed. -/
theorem fewer {u : State} (h : s.tasksOk) (tasks : ∀ x ∈ u.cpu.tasks, x ∈ s.cpu.tasks) (entry : u.pw.entry = s.pw.entry) : u.tasksOk :=
  ⟨fun x hx => h.1 x (tasks x hx), entry ▸ h.2⟩

theorem setTask {t : Nat} {k : Task} (h : s.tasksOk) (hk : k.ok) : (s.setTask t k).tasksOk :=
  h.put rfl rfl hk

end State.tasksOk

/-- A command leaves the tasks sound. -/
def Out.Sound (o : Out) : Prop := ∀ u, o = .next u → u.tasksOk

namespace Out.Sound

variable {s : State}

theorem next (h : s.tasksOk) : Out.Sound (.next s) := fun _ e => Host.Outcome.next.inj e ▸ h

theorem ite {c : Prop} [Decidable c] {a b : Out} (ha : a.Sound) (hb : b.Sound) : (if c then a else b).Sound := by
  split
  · exact ha
  · exact hb

end Out.Sound

section

variable {s : State}

/-! Counters, error lines, records, packets, memory and the task operations that instructions share. -/

theorem State.tasksOk.lockMain (h : s.tasksOk) : s.lockMain.tasksOk := .update h rfl

theorem State.tasksOk.setSlot {k : Nat} {x : Slot} (h : s.tasksOk) : (s.setSlot k x).tasksOk := .update h rfl

theorem State.tasksOk.mapSlot {k : Nat} {f : Slot → Slot} (h : s.tasksOk) : (s.mapSlot k f).tasksOk := .setSlot h

theorem State.tasksOk.mapPort {p : PortId} {f : Port → Port} (h : s.tasksOk) : (s.mapPort p f).tasksOk := .update h rfl

theorem State.tasksOk.mapPorts {f : Port → Port} (h : s.tasksOk) : (s.mapPorts f).tasksOk := .update h rfl

theorem State.tasksOk.mapLink {l : LinkId} {f : Link → Link} (h : s.tasksOk) : (s.mapLink l f).tasksOk := .update h rfl

theorem State.tasksOk.mapPart {p : PartId} {f : Part → Part} (h : s.tasksOk) : (s.mapPart p f).tasksOk := .update h rfl

theorem State.tasksOk.useFree {n : Nat} (h : s.tasksOk) : (s.useFree n).tasksOk := .update h rfl

theorem State.tasksOk.countBy {c n : Nat} (h : s.tasksOk) : (s.countBy c n).tasksOk :=
  h.kept (s.countBy_keeps _ _) (s.countBy_cpu _ _)

theorem State.tasksOk.count {c : Nat} (h : s.tasksOk) : (s.count c).tasksOk :=
  h.kept (s.count_keeps _) (s.count_cpu _)

theorem State.tasksOk.countFor {p : PartId} {c : Nat} (h : s.tasksOk) : (s.countFor p c).tasksOk :=
  h.kept (s.countFor_keeps _ _) (s.countFor_cpu _ _)

theorem State.tasksOk.advance {n : Nat} (h : s.tasksOk) : (s.advance n).tasksOk := .ite h (.update h rfl)

theorem State.tasksOk.countSource {k : Nat} (h : s.tasksOk) : (s.countSource k).tasksOk := .update h rfl

theorem State.tasksOk.lineRise {n : SubId} {kind : Byte} (h : s.tasksOk) : (s.lineRise n kind).tasksOk :=
  h.kept (s.lineRise_keeps _ _) (s.lineRise_cpu _ _)

theorem State.tasksOk.lineFall {n : SubId} (h : s.tasksOk) : (s.lineFall n).tasksOk :=
  h.kept (s.lineFall_keeps _) (s.lineFall_cpu _)

theorem State.tasksOk.linePulse {n : SubId} {kind : Byte} (h : s.tasksOk) : (s.linePulse n kind).tasksOk :=
  h.kept (s.linePulse_keeps _ _) (s.linePulse_cpu _ _)

theorem State.tasksOk.stickyClear {mask : BitVec 20} (h : s.tasksOk) : (s.stickyClear mask).tasksOk := .update h rfl

theorem State.tasksOk.logFull {code : Nat} {fl : RecFlags} {node : NodeId} {part : Nat} {p0 p1 p2 p3 : Nat} (h : s.tasksOk) : (s.logFull
    code fl node part p0 p1 p2 p3).tasksOk :=
  .ite (.update h rfl) (.ite (.linePulse (.update h rfl)) (.update h rfl))

theorem State.tasksOk.log {code p0 p1 p2 : Nat} (h : s.tasksOk) : (s.log code p0 p1 p2).tasksOk :=
  h.kept (s.log_keeps _ _ _ _) (s.log_cpu _ _ _ _)

theorem State.tasksOk.setBox {k : Nat} {l : List Msg} (h : s.tasksOk) : (s.setBox k l).tasksOk := .update h rfl

theorem State.tasksOk.logFault {m : BitVec 128} {nestKind : Byte} (h : s.tasksOk) : (s.logFault m nestKind).tasksOk := .logFull h

theorem State.tasksOk.placeFault {m : BitVec 128} {nestKind : Byte} (h : s.tasksOk) : (s.placeFault m nestKind).tasksOk :=
  .logFault (.ite (.linePulse (.update h rfl)) (.setBox h))

theorem State.tasksOk.holdFault {m : BitVec 128} {via : Option ChainId} (h : s.tasksOk) : (s.holdFault m via).tasksOk :=
  .ite (.count (.update h rfl)) (.update h rfl)

theorem State.tasksOk.codedFaultN {sub kind part : Nat} {addr : Word} {n : Nat} {exc : Option Nat} (h : s.tasksOk) :
    (s.codedFaultN sub kind part addr n exc).tasksOk := by
  unfold State.codedFaultN
  extract_lets here s0 sev m link nest
  have counted : s0.tasksOk := .countSource h
  split
  · exact .logFault (.update counted rfl)
  · split
    · exact .logFault (.update counted rfl)
    · rename_i s1 _ s2 _ _ _
      have placed : s1.tasksOk := .placeFault counted
      have handled : s2.tasksOk := by
        unfold s2
        split
        · exact .update placed rfl
        · exact placed
      exact .ite handled (.holdFault handled)

theorem State.tasksOk.codedFault {sub kind part : Nat} {addr : Word} (h : s.tasksOk) : (s.codedFault sub kind part addr).tasksOk :=
  .codedFaultN h

theorem State.tasksOk.violation {p : PartId} {kind : Byte} (h : s.tasksOk) : (s.violation p kind).tasksOk := .countFor (.mapPart h)

theorem State.tasksOk.makeRoom {g : Nat} (h : s.tasksOk) : (s.makeRoom g).tasksOk :=
  h.kept (s.makeRoom_keeps _) (s.makeRoom_cpu _)

theorem State.tasksOk.mapPage {p : Page} {f : Page → Page} (h : s.tasksOk) : (s.mapPage p f).tasksOk := .update h rfl

theorem State.tasksOk.frameGone {t g : Nat} (h : s.tasksOk) : (s.frameGone t g).tasksOk := .log (.linePulse (.count (.update h rfl)))

theorem State.tasksOk.leaveFrame {t g : Nat} {ce : List Nat} (h : s.tasksOk) : (s.leaveFrame t g ce).tasksOk :=
  h.kept (s.leaveFrame_keeps _ _ _) (s.leaveFrame_cpu _ _ _)

theorem State.tasksOk.takeFrame {t g : Nat} (h : s.tasksOk) : (s.takeFrame t g).1.tasksOk :=
  h.kept (s.takeFrame_keeps t g) (s.takeFrame_cpu t g)

theorem State.tasksOk.uncorrected {part : PartId} {va : Nat} (h : s.tasksOk) : (s.uncorrected part va).tasksOk :=
  .codedFault (.linePulse (.count (.update h rfl)))

theorem State.tasksOk.poisonBlock {part : PartId} {va : Nat} (h : s.tasksOk) : (s.poisonBlock part va).tasksOk :=
  .uncorrected (.mapPart (.update h rfl))

theorem State.tasksOk.corrected (h : s.tasksOk) : s.corrected.tasksOk := .count (.update h rfl)

theorem State.tasksOk.dropFlaw {f : Flaw} (h : s.tasksOk) : (s.dropFlaw f).tasksOk := .update h rfl

theorem State.tasksOk.carryFlaw {part : PartId} {t : Nat} {f : Flaw} (h : s.tasksOk) : (s.carryFlaw part t f).tasksOk :=
  .ite (.corrected (.dropFlaw h)) (.poisonBlock (.dropFlaw h))

theorem State.tasksOk.carryFlaws {p : Page} {copy : Bool} (h : s.tasksOk) : (s.carryFlaws p copy).1.tasksOk :=
  .foldl (fun _ _ h1 => .carryFlaw h1) h

theorem State.tasksOk.releaseCopy {p : Page} (h : s.tasksOk) : (s.releaseCopy p).tasksOk :=
  .update (.foldl (fun _ _ h1 => .uncorrected (.dropFlaw h1)) h) rfl

theorem State.tasksOk.reframe {p : Page} {tier : BitVec 2} {gone : Bool} (h : s.tasksOk) : (s.reframe p tier gone).tasksOk :=
  .ite (.ite (.frameGone (.mapPage (.releaseCopy h))) (.leaveFrame (.mapPage (.releaseCopy h)))) (.ite (.mapPage (.takeFrame
    (.carryFlaws h))) (.ite (.frameGone (.mapPage (.takeFrame (.carryFlaws h)))) (.leaveFrame (.mapPage (.takeFrame (.carryFlaws h))))))

theorem State.tasksOk.freeFrames {p : Page} (h : s.tasksOk) : (s.freeFrames p).tasksOk :=
  .ite (.leaveFrame (.leaveFrame h)) (.leaveFrame h)

theorem State.tasksOk.movePage {p : Page} {tier : BitVec 2} (h : s.tasksOk) : (s.movePage p tier).tasksOk :=
  .count (.mapPage (.reframe (.ite (.makeRoom h) h)))

theorem State.tasksOk.retireFrame {p : Page} {copy : Bool} (h : s.tasksOk) : (s.retireFrame p copy).tasksOk := by
  unfold State.retireFrame
  split
  · exact .ite (.frameGone (.mapPage (.takeFrame (.carryFlaws h)))) h
  · split
    · exact .count (.reframe (.ite (.makeRoom h) h))
    · exact h

theorem State.tasksOk.correctedError {p : Page} {copy : Bool} (h : s.tasksOk) : (s.correctedError p copy).tasksOk :=
  .ite (.retireFrame (.mapPage (.corrected h))) (.mapPage (.corrected h))

theorem State.tasksOk.meetFlaw {part : PartId} {f : Flaw} (h : s.tasksOk) : (s.meetFlaw part f).tasksOk := by
  unfold State.meetFlaw
  split
  · exact h
  · exact .ite (.correctedError (.dropFlaw h)) (.ite (.dropFlaw (.uncorrected h)) (.uncorrected h))

theorem State.tasksOk.readErrors {part : PartId} {va n : Nat} (h : s.tasksOk) : (s.readErrors part va n).tasksOk :=
  .foldl (fun _ _ h1 => .meetFlaw h1) h

theorem State.tasksOk.overwrite {copies : Bool} {a n : Nat} (h : s.tasksOk) : (s.overwrite copies a n).tasksOk := .update h rfl

theorem State.tasksOk.touch {part : PartId} {va : Nat} (h : s.tasksOk) : (s.touch part va).tasksOk :=
  h.kept (s.touch_keeps _ _) (s.touch_keepsTasks _ _).cpu

theorem State.tasksOk.touchRange {part : PartId} {va n : Nat} (h : s.tasksOk) : (s.touchRange part va n).tasksOk :=
  .foldl (fun _ _ h1 => .touch h1) h

theorem State.tasksOk.storeBytes {part : PartId} {va : Nat} {bs : List Byte} (h : s.tasksOk) : (s.storeBytes part va bs).tasksOk :=
  h.kept (s.storeBytes_keeps _ _ _) (s.storeBytes_keepsTasks _ _ _).cpu

theorem State.tasksOk.queueOn {p : TxPacket} (h : s.tasksOk) : (s.queueOn p).tasksOk :=
  h.kept (s.queueOn_keeps _) (s.queueOn_keepsTasks _).cpu

theorem State.tasksOk.deadEnd {dst : NodeId} {cells : Nat} {first : Bool} (h : s.tasksOk) : (s.deadEnd dst cells first).tasksOk :=
  h.kept (s.deadEnd_keeps _ _ _) (s.deadEnd_keepsTasks _ _ _).cpu

theorem State.tasksOk.sendOnPorts {ports : List ChainId} {dst : NodeId} {pri : BitVec 3} {typ : BitVec 4} {part : PartId} {body :
    PktBody} (h : s.tasksOk) : (s.sendOnPorts ports dst pri typ part body).tasksOk :=
  .ite h (.ite (.deadEnd h) (.foldl (fun _ _ h1 => .queueOn h1) (.update h rfl)))

theorem State.tasksOk.sendPacket {dst : NodeId} {pri : BitVec 3} {typ : BitVec 4} {part : PartId} {body : PktBody} (h : s.tasksOk) :
    (s.sendPacket dst pri typ part body).tasksOk :=
  h.kept (s.sendPacket_keeps _ _ _ _ _) (s.sendPacket_keepsTasks _ _ _ _ _).cpu

theorem State.tasksOk.askDiscard {key : Nat} (h : s.tasksOk) : (s.askDiscard key).tasksOk :=
  h.kept (s.askDiscard_keeps _) (s.askDiscard_keepsTasks _).cpu

theorem State.tasksOk.drainList {part : PartId} {l : List StoreEntry} {n : Nat} {held : List StoreEntry} (h : s.tasksOk) :
    (drainList part n held l s).1.tasksOk :=
  h.kept (drainList_keeps part l n held s) (drainList_keepsTasks part l n held s).cpu

theorem State.tasksOk.drainSome {t n : Nat} (h : s.tasksOk) : (s.drainSome t n).tasksOk := by
  unfold State.drainSome
  split
  · exact h
  next k found => exact .setTask (.drainList h) (h.task found : k.ok)

theorem State.tasksOk.drain {t : Nat} (h : s.tasksOk) : (s.drain t).tasksOk := by
  unfold State.drain
  split
  · exact h
  · exact .drainSome h

theorem State.tasksOk.drainLate (h : s.tasksOk) : s.drainLate.tasksOk := .foldl (fun _ _ h1 => .update (.drainList h1) rfl) h

theorem State.tasksOk.placeOn {t c : Nat} (h : s.tasksOk) : (s.placeOn t c).tasksOk := by
  dsimp only [State.placeOn]
  split
  · exact h
  next k found =>
    split
    · exact h.put rfl rfl (h.task found : k.ok)
    · have drained : (s.drain t).tasksOk := .drain h
      split
      · exact drained
      next k1 found1 => exact .ite (.countFor (drained.put rfl rfl (drained.task found1 : k1.ok))) drained

theorem State.tasksOk.placeList {l : List Nat} (h : s.tasksOk) : (placeList l s).tasksOk := by
  induction l generalizing s with
  | nil => exact h
  | cons t l ih =>
    unfold Machine.placeList
    split
    · split
      · exact ih (.placeOn h)
      · exact ih h
    · exact ih (.update h rfl)

theorem State.tasksOk.place (h : s.tasksOk) : s.place.tasksOk := .ite (.placeList h) h

theorem State.tasksOk.makeReady {t : Nat} (h : s.tasksOk) : (s.makeReady t).tasksOk := by
  unfold State.makeReady
  split
  · exact h
  next k found => exact .place (h.put rfl rfl (h.task found : k.ok))

theorem State.tasksOk.makeWait {t : Nat} {w : Wait} (h : s.tasksOk) : (s.makeWait t w).tasksOk := by
  unfold State.makeWait
  split
  · exact h
  next k found => exact .place (.setTask h (h.task found : k.ok))

theorem State.tasksOk.setKnow {t : Nat} {k : Know} (h : s.tasksOk) : (s.setKnow t k).tasksOk := .update h rfl

theorem State.tasksOk.taught {t : Nat} {l : List (Nat × Nat)} (h : s.tasksOk) : (s.taught t l).tasksOk := .ite h (.setKnow h)

theorem State.tasksOk.taughtAt {t a n : Nat} (h : s.tasksOk) : (s.taughtAt t a n).tasksOk := .foldl (fun _ _ h1 => .taught h1) h

theorem State.tasksOk.noteStore {t a n : Nat} (h : s.tasksOk) : (s.noteStore t a n).tasksOk := .setKnow h

theorem State.tasksOk.publish {t : Nat} (h : s.tasksOk) : (s.publish t).tasksOk := .ite h (.update (.setKnow h) rfl)

theorem State.tasksOk.dropPend {t : Nat} (h : s.tasksOk) : (s.dropPend t).tasksOk := .update h rfl

theorem State.tasksOk.dropAsk {k : Nat} (h : s.tasksOk) : (s.dropAsk k).tasksOk := .update h rfl

theorem State.tasksOk.dropWait {t : Nat} (h : s.tasksOk) : (s.dropWait t).tasksOk :=
  h.kept (s.dropWait_keeps _) (s.dropWait_cpu _)

theorem State.tasksOk.freeIndex {t : Nat} (h : s.tasksOk) : (s.freeIndex t).tasksOk := by
  refine h.fewer (fun x hx => ?_) rfl
  change x ∈ tblDel t s.cpu.tasks at hx
  rw [tblDel_eq_filter] at hx
  exact List.mem_of_mem_filter hx

theorem State.tasksOk.newIndex {t : Nat} (h : s.tasksOk) : (s.newIndex t).tasksOk := .update h rfl

theorem State.tasksOk.countInstr {k : Task} (h : s.tasksOk) : (s.countInstr k).tasksOk :=
  h.kept (s.countInstr_keeps _) (s.countInstr_cpu _)

theorem State.tasksOk.endTask0 {t : Nat} {value : Word} (h : s.tasksOk) : (s.endTask0 t value).tasksOk := by
  unfold State.endTask0
  split
  · exact h
  next k found => exact .dropPend (h.put rfl (congrArg PartWords.entry (s.dropWait_keeps t).pw) (h.task found : k.ok))

theorem State.tasksOk.exceptionEnd {t : Nat} {cause : Byte} {pc addr : Word} {n : Nat} (h : s.tasksOk) (hp : pc.toNat % 4 = 0) :
    (s.exceptionEnd t cause pc addr n).tasksOk := by
  unfold State.exceptionEnd
  split
  · exact h
  next k found => exact .endTask0 (.setTask (.countFor (.codedFaultN h)) ⟨(h.task found).1, hp, (h.task found).evec⟩)

theorem State.tasksOk.exception0 {t : Nat} {cause : Byte} {pc addr : Word} {n : Nat} (h : s.tasksOk) (hp : pc.toNat % 4 = 0) :
    (s.exception0 t cause pc addr n).tasksOk := by
  unfold State.exception0
  split
  · exact h
  next k found => exact .ite (.ite (.readErrors (.setTask (.dropPend (.countFor (.codedFaultN h))) ⟨(h.task found).1, (h.task
    found).evec, (h.task found).evec⟩)) (.ite (.exceptionEnd (.setTask (.dropPend (.countFor (.codedFaultN h))) ⟨(h.task found).1,
    (h.task found).evec, (h.task found).evec⟩) ((h.task found).evec)) (.exceptionEnd (.violation (.setTask (.dropPend (.countFor
    (.codedFaultN h))) ⟨(h.task found).1, (h.task found).evec, (h.task found).evec⟩)) ((h.task found).evec)))) (.exceptionEnd h hp)

theorem State.tasksOk.goto0 {t : Nat} {target : Word} (h : s.tasksOk) (ht : target.toNat % 4 = 0) : (s.goto0 t target).tasksOk := by
  unfold State.goto0
  split
  · exact h
  next k found => exact .ite (.readErrors (.setTask h ⟨(h.task found).1, ht, (h.task found).evec⟩)) (.ite (.exception0 (.readErrors h)
    ht) (.exception0 (.violation h) ht))

theorem State.tasksOk.putReg {t : Nat} {r : Reg} {v : Word} (h : s.tasksOk) : (s.putReg t r v).tasksOk := by
  unfold State.putReg
  split
  · exact h
  next k found => exact .setTask h (((h.task found).put _ _))

theorem State.tasksOk.wakeRaw {t : Nat} {gd gb : Reg} {v w : Word} (h : s.tasksOk) : (s.wakeRaw t gd gb v w).tasksOk := by
  dsimp only [State.wakeRaw]
  split
  · exact h
  next k found =>
    split
    · split
      · exact .makeReady (.goto0 (.putReg (.putReg h)) ((word_next_aligned (h.task found).pc)))
      · exact .goto0 (.putReg (.putReg h)) ((word_next_aligned (h.task found).pc))
    · exact .goto0 (.putReg (.putReg h)) ((word_next_aligned (h.task found).pc))

theorem State.tasksOk.serveJoins {t fuel : Nat} (h : s.tasksOk) : (s.serveJoins t fuel).tasksOk := by
  induction fuel generalizing s t with
  | zero => exact h
  | succ fuel ih =>
    unfold State.serveJoins
    split
    · exact h
    · split
      · split
        · exact h
        · exact .foldl (fun _ _ h1 => ih (.wakeRaw (.violation h1))) (ih (.wakeRaw (.countFor (.taught (.freeIndex h)))))
      · exact h

theorem State.tasksOk.afterEnd {t : Nat} (h : s.tasksOk) : (s.afterEnd t).tasksOk := .place (.serveJoins h)

theorem State.tasksOk.endTask {t : Nat} {value : Word} (h : s.tasksOk) : (s.endTask t value).tasksOk := .afterEnd (.endTask0 h)

theorem State.tasksOk.exceptionN {t : Nat} {cause : Byte} {pc addr : Word} {n : Nat} (h : s.tasksOk) (hp : pc.toNat % 4 = 0) :
    (s.exceptionN t cause pc addr n).tasksOk :=
  .afterEnd (.exception0 h hp)

theorem State.tasksOk.exception {t : Nat} {cause : Byte} {pc addr : Word} (h : s.tasksOk) (hp : pc.toNat % 4 = 0) : (s.exception t cause
    pc addr).tasksOk :=
  .exceptionN h hp

theorem State.tasksOk.goto {t : Nat} {target : Word} (h : s.tasksOk) (ht : target.toNat % 4 = 0) : (s.goto t target).tasksOk := by
  unfold State.goto
  split
  · exact h
  next k found => exact .ite (.readErrors (.setTask h ⟨(h.task found).1, ht, (h.task found).evec⟩)) (.afterEnd (.goto0 h ht))

theorem State.tasksOk.next {t : Nat} (h : s.tasksOk) : (s.next t).tasksOk := by
  unfold State.next
  split
  · exact h
  next k found => exact .goto (.countInstr h) ((word_next_aligned (h.task found).pc))

theorem State.tasksOk.finish {t : Nat} {gd : Reg} {v : Word} (h : s.tasksOk) : (s.finish t gd v).tasksOk := .next (.putReg h)

theorem State.tasksOk.finish2 {t : Nat} {gd gb : Reg} {v w : Word} (h : s.tasksOk) : (s.finish2 t gd gb v w).tasksOk :=
  .next (.putReg (.putReg h))

theorem State.tasksOk.pass {t : Nat} (h : s.tasksOk) : (s.pass t).tasksOk := by
  unfold State.pass
  split
  · exact h
  next k found => exact .goto h ((word_next_aligned (h.task found).pc))

theorem State.tasksOk.refuse {t : Nat} {gd : Reg} {code : Word} (h : s.tasksOk) : (s.refuse t gd code).tasksOk := .pass (.putReg h)

theorem State.tasksOk.violate {t : Nat} {kind : Byte} {gd : Reg} (h : s.tasksOk) : (s.violate t kind gd).tasksOk := by
  unfold State.violate
  split
  · exact h
  · exact .pass (.putReg (.violation h))

theorem State.tasksOk.violate2 {t : Nat} {kind : Byte} {gd gb : Reg} (h : s.tasksOk) : (s.violate2 t kind gd gb).tasksOk := by
  unfold State.violate2
  split
  · exact h
  · exact .pass (.putReg (.putReg (.violation h)))

theorem State.tasksOk.wakeWith {t : Nat} {gd gb : Reg} {v w : Word} (h : s.tasksOk) : (s.wakeWith t gd gb v w).tasksOk :=
  .afterEnd (.wakeRaw h)

theorem State.tasksOk.countDone {t : Nat} (h : s.tasksOk) : (s.countDone t).tasksOk := by
  unfold State.countDone
  split
  · exact .countInstr h
  · exact h

theorem State.tasksOk.wake {t : Nat} {gd : Reg} {v : Word} (h : s.tasksOk) : (s.wake t gd v).tasksOk := .wakeWith (.countDone h)

theorem State.tasksOk.wake2 {t : Nat} {gd gb : Reg} {v w : Word} (h : s.tasksOk) : (s.wake2 t gd gb v w).tasksOk :=
  .wakeWith (.countDone h)

theorem State.tasksOk.wakeRefuse {t : Nat} {gd : Reg} {code : Word} (h : s.tasksOk) : (s.wakeRefuse t gd code).tasksOk := .wakeWith h

theorem State.tasksOk.wakeException {t : Nat} {cause : Byte} {addr : Word} {n : Nat} (h : s.tasksOk) : (s.wakeException t cause addr
    n).tasksOk := by
  dsimp only [State.wakeException]
  split
  · exact h
  next k found =>
    split
    · split
      · exact .makeReady (.exceptionN h ((h.task found).pc))
      · exact .exceptionN h ((h.task found).pc)
    · exact .exceptionN h ((h.task found).pc)

theorem State.tasksOk.wakeEvents {p : PartId} (h : s.tasksOk) : (s.wakeEvents p).tasksOk := .foldl (fun _ _ h1 => .wake h1) (.mapPart h)

theorem State.tasksOk.event {p : PartId} {bit : Nat} (h : s.tasksOk) : (s.event p bit).tasksOk := .wakeEvents (.mapPart h)

theorem State.tasksOk.eventAll {bit : Nat} (h : s.tasksOk) : (s.eventAll bit).tasksOk := .foldl (fun _ _ h1 => .ite (.event h1) h1) h

theorem Out.Sound.onRunning {t : TaskId} {f : Task → State → State} (hf : ∀ k u, k.ok → u.tasksOk → (f k u).tasksOk) (h : s.tasksOk) :
    (onRunning t s f).Sound := by
  unfold Machine.onRunning
  split
  next k found =>
    split
    · exact .next (hf k _ (h.task found) (.ite h (.countFor h)))
    · exact .next h
  · exact .next h

theorem Out.Sound.onEngine {t : TaskId} {kind : Byte} {f : Task → State → State} (hf : ∀ k u, k.ok → u.tasksOk → (f k u).tasksOk)
    (h : s.tasksOk) : (onEngine t kind s f).Sound := by
  unfold Machine.onEngine
  split
  · exact .next (.violation h)
  · exact .onRunning hf h

theorem State.tasksOk.hold {t : Nat} {i : Instr} (h : s.tasksOk) : (s.hold t i).tasksOk := .makeWait (.update h rfl)

theorem State.tasksOk.unannounced (h : s.tasksOk) : s.unannounced.tasksOk := .update h rfl

theorem State.tasksOk.wakePower (h : s.tasksOk) : s.wakePower.tasksOk := .ite (.update h rfl) h

theorem Out.Sound.whenDo {c : Bool} {f : State} (h : s.tasksOk) (hf : f.tasksOk) : (whenDo c s f).Sound := .next (.ite hf h)

/-! Operand forms and undefined effects (R301, R309 to R318). -/

theorem Out.Sound.regReg {t : TaskId} {gd ga gb : Reg} {f : Word → Word → Word} (h : s.tasksOk) : (regReg t gd ga gb f s).Sound :=
  .onRunning (fun _ _ _ h1 => .finish h1) h

theorem Out.Sound.regImm {t : TaskId} {gd ga : Reg} {f : Word → Word} (h : s.tasksOk) : (regImm t gd ga f s).Sound :=
  .onRunning (fun _ _ _ h1 => .finish h1) h

theorem Out.Sound.branch {t : TaskId} {ga gb : Reg} {off : BitVec 16} {c : Word → Word → Bool} (h : s.tasksOk) : (branch t ga gb off c
    s).Sound :=
  .onRunning (fun _ _ hk h1 => .ite (.goto (.countFor (.countInstr h1)) (word_branch_aligned hk.pc _)) (.next h1)) h

theorem State.tasksOk.undefTask {t : Nat} (h : s.tasksOk) : (s.undefTask t).tasksOk := by
  unfold State.undefTask
  split
  · exact h
  next k found =>
    exact .useFree (.setTask h ⟨(Vector.getElem_ofFn _).trans (if_pos rfl), word_mask_aligned _, (h.task found).evec⟩)

/-! Tags, posted errors, fences and the home (R214, R320 to R327, R371 to R375). -/

theorem State.tasksOk.setTag {i : Nat} {x : Tag} (h : s.tasksOk) : (s.setTag i x).tasksOk := .update h rfl

theorem State.tasksOk.wakeRetries (h : s.tasksOk) : s.wakeRetries.tasksOk := .foldl (fun _ _ h1 => .makeReady h1) h

theorem State.tasksOk.firstCopy {src : NodeId} {n : Nat} (h : s.tasksOk) : (s.firstCopy src n).2.tasksOk := by
  dsimp only [State.firstCopy]
  split
  · exact .count (.update h rfl)
  · exact .update h rfl

theorem State.tasksOk.serveHome {q : MemRequest} (h : s.tasksOk) : (s.serveHome q).1.tasksOk := by
  dsimp only [State.serveHome]
  split_ifs
  · exact h
  · exact .storeBytes h
  · exact .readErrors h
  · exact .touch (.readErrors h)
  · exact .storeBytes (.readErrors h)

theorem State.tasksOk.homePark {q : MemRequest} (h : s.tasksOk) : (s.homePark q).tasksOk := .update (.askDiscard h) rfl

theorem State.tasksOk.storeError {t seq : Nat} {cause : Byte} {addr : Word} (h : s.tasksOk) : (s.storeError t seq cause addr).tasksOk :=
    by
  unfold State.storeError
  split
  · exact h
  next k found => exact .setTask h (h.task found : k.ok)

theorem State.tasksOk.clearError {t : Nat} (h : s.tasksOk) : (s.clearError t).tasksOk := by
  unfold State.clearError
  split
  next k found => exact .setTask h (h.task found : k.ok)
  · exact h

theorem State.tasksOk.fenceStep {t : Nat} (h : s.tasksOk) : (s.fenceStep t).tasksOk := by
  dsimp only [State.fenceStep]
  have drained : (s.drain t).tasksOk := .drain h
  split
  · exact h
  · split
    · exact .ite (.wake (.publish drained)) drained
    · exact .ite (.wake drained) drained
    · split
      · split
        · exact .wakeException (.clearError drained)
        · exact .wake (.publish drained)
      · exact drained
    · split
      · split
        · exact .wakeException (.clearError drained)
        · exact .endTask (.countDone drained)
      · exact drained
    · exact h

theorem State.tasksOk.fences (h : s.tasksOk) : s.fences.tasksOk := .foldl (fun _ _ h1 => .fenceStep h1) h

theorem State.tasksOk.deliver {g : Tag} {r : HomeReply} (h : s.tasksOk) : (s.deliver g r).tasksOk := by
  unfold State.deliver
  split
  · exact h
  · split
    · exact h
    · split
      · exact .ite h (.ite (.violation h) (.storeError h))
      · split
        · exact .ite (.wake h) (.ite (.wakeWith (.violation h)) (.wakeException h))
        · exact h

theorem State.tasksOk.completeTag {i : Nat} {r : HomeReply} (h : s.tasksOk) : (s.completeTag i r).tasksOk :=
  .wakeRetries (.fences (.deliver (.setTag h)))

theorem State.tasksOk.respond {q : MemRequest} {r : HomeReply} (h : s.tasksOk) : (s.respond q r).tasksOk :=
  .ite (.count (.count h)) (.sendPacket (.count h))

theorem State.tasksOk.homeDrain {l : List HomeWait} (h : s.tasksOk) : (homeDrain l s).tasksOk := by
  induction l generalizing s with
  | nil => exact h
  | cons w l ih =>
    unfold Machine.homeDrain
    split
    · exact ih (.update h rfl)
    · dsimp only
      split
      · exact ih (.ite (.completeTag (.serveHome h)) (.serveHome h))
      · exact ih (.respond (.serveHome h))

theorem State.tasksOk.homeRetry (h : s.tasksOk) : s.homeRetry.tasksOk := .fences (.homeDrain (.update h rfl))

theorem State.tasksOk.openTag {t : Nat} {k : Task} {i : Nat} {ref : Word} {store : Bool} (h : s.tasksOk) : (s.openTag t k i ref
    store).tasksOk :=
  .setTag h

/-! Channels, lanes at the head and what a commit waits for. -/

theorem State.tasksOk.askHead {q : LaneRequest} (h : s.tasksOk) : (s.askHead q).tasksOk := .update h rfl

theorem State.tasksOk.chEvent {k : Nat} (h : s.tasksOk) : (s.chEvent k).tasksOk := .ite (.unannounced (.event h)) (.unannounced h)

theorem State.tasksOk.trim {k : Nat} {det : Nat} (h : s.tasksOk) : (s.trim k det).tasksOk := .chEvent (.count (.mapSlot h))

theorem State.tasksOk.ngdFlag {b : Nat} (h : s.tasksOk) : (s.ngdFlag b).tasksOk := .update h rfl

theorem State.tasksOk.askFence {k c : Nat} (h : s.tasksOk) : (s.askFence k c).tasksOk := .mapSlot h

theorem State.tasksOk.askAclrFence {k : Nat} {p : PortId} (h : s.tasksOk) : (s.askAclrFence k p).tasksOk := .askFence (.mapSlot h)

theorem State.tasksOk.lineLevel {n : SubId} {kind : Byte} {c : Bool} (h : s.tasksOk) : (s.lineLevel n kind c).tasksOk :=
  .ite (.lineRise h) (.lineFall h)

/-! Channel instructions and their completions (R335 to R345). -/

theorem Out.Sound.onChannel {t : TaskId} {gd ga : Reg} {f : Task → Nat → State → State}
    (hf : ∀ k c u, k.ok → u.tasksOk → (f k c u).tasksOk) (h : s.tasksOk) : (onChannel t gd ga s f).Sound := by
  refine .onEngine (fun k _ hk h1 => ?_) h
  split
  · exact hf k _ _ hk h1
  · exact .violate h1

theorem Out.Sound.chAlloc {t : TaskId} {gd ga gb : Reg} (h : s.tasksOk) : (execChAlloc t gd ga gb s).Sound := by
  unfold Machine.execChAlloc
  refine .onEngine (fun _ _ _ h1 => ?_) h
  split
  · exact .hold h1
  · split
    · exact .refuse h1
    · split
      · exact .refuse h1
      · exact .makeWait (.setSlot h1)

theorem Out.Sound.chAllocReturn {slot : SlotId} (h : s.tasksOk) : (execChAllocReturn slot s).Sound := by
  refine .whenDo h ?_
  dsimp only
  split
  · exact .wake2 (.mapSlot h)
  · exact .mapSlot h

theorem State.tasksOk.unmapLane {key : Nat} (h : s.tasksOk) : (s.unmapLane key).tasksOk := .update h rfl

theorem State.tasksOk.emptyLane {key : Nat} (h : s.tasksOk) : (s.emptyLane key).tasksOk := .update h rfl

theorem State.tasksOk.leaveAtHead {q : LaneRequest} (h : s.tasksOk) : (s.leaveAtHead q).tasksOk := .ite (.unmapLane h) (.update h rfl)

theorem State.tasksOk.leaveLane {k : Nat} {c : Settings} (h : s.tasksOk) : (s.leaveLane k c).tasksOk :=
  .ite (.ite (.leaveAtHead (.ite (.emptyLane h) h)) (.askHead (.ite (.emptyLane h) h))) h

theorem State.tasksOk.dropBursts {k : Nat} (h : s.tasksOk) : (s.dropBursts k).tasksOk := .mapPorts h

theorem State.tasksOk.freeChannel {k : Nat} (h : s.tasksOk) : (s.freeChannel k).tasksOk := .dropBursts (.mapSlot (.ite (.leaveLane h)
    h))

theorem Out.Sound.onChannelHeld {t : TaskId} {gd ga : Reg} {i : Instr} {f : Task → Nat → State → State}
    (hf : ∀ k c u, k.ok → u.tasksOk → (f k c u).tasksOk) (h : s.tasksOk) : (onChannelHeld t gd ga i s f).Sound := by
  refine .onEngine (fun k _ hk h1 => .ite (.hold h1) ?_) h
  split
  · exact hf k _ _ hk h1
  · exact .violate h1

theorem Out.Sound.chFree {t : TaskId} {gd ga : Reg} (h : s.tasksOk) : (execChFree t gd ga s).Sound :=
  .onChannelHeld (fun _ _ _ _ h1 => .finish (.freeChannel h1)) h

theorem State.tasksOk.setUndefined {t k : Nat} (h : s.tasksOk) : (s.setUndefined t k).tasksOk := .useFree (.setSlot h)

theorem Out.Sound.chGet {t : TaskId} {gd ga gb : Reg} {n : BitVec 6} (h : s.tasksOk) : (execChGet t gd ga gb n s).Sound := by
  unfold Machine.execChGet
  refine .onEngine (fun _ _ _ h1 => ?_) h
  split
  · exact .violate2 h1
  · exact .ite (.finish2 h1) (.ite (.finish2 h1) (.undefTask h1))

theorem State.tasksOk.commitRefused {k : Nat} {r : CommitReq} {code : Word} (h : s.tasksOk) : (s.commitRefused k r code).tasksOk :=
  .ite (.count (.update h rfl)) (.ite (.count (.update h rfl)) h)

theorem State.tasksOk.knowCommit {t k : Nat} (h : s.tasksOk) : (s.knowCommit t k).tasksOk := .setKnow h

theorem State.tasksOk.commitAdmit {t k : Nat} {r0 : CommitReq} (h : s.tasksOk) : (s.commitAdmit t k r0).tasksOk :=
  .count (.useFree (.knowCommit (.update (.mapSlot h) rfl)))

theorem State.tasksOk.commitOn {t : TaskId} {gd : Reg} {fade : Bool} {k : Nat} (h : s.tasksOk) : (commitOn t gd fade k s).tasksOk :=
  .ite (.refuse (.commitRefused h)) (.ite (.ite (.refuse (.count h)) (.makeWait (.askHead h))) (.finish (.commitAdmit (.ite (.askHead h)
    h))))

theorem Out.Sound.commitInstr {t : TaskId} {gd ga : Reg} {fade : Bool} {i : Instr} (h : s.tasksOk) : (commitInstr t gd ga fade i
    s).Sound :=
  .onChannelHeld (fun _ _ _ _ h1 => .ite (.wakePower (.hold h1)) (.commitOn h1)) h

theorem Out.Sound.chCommitCut {t : TaskId} {gd ga : Reg} (h : s.tasksOk) : (execChCommitCut t gd ga s).Sound := .commitInstr h

theorem Out.Sound.chCommitFade {t : TaskId} {gd ga : Reg} (h : s.tasksOk) : (execChCommitFade t gd ga s).Sound := .commitInstr h

theorem State.tasksOk.queueRound {o : RoundOp} (h : s.tasksOk) : (s.queueRound o).tasksOk := .update h rfl

theorem State.tasksOk.askArm {k : Nat} {who : HeldArm} (h : s.tasksOk) : (s.askArm k who).tasksOk :=
  .ite h (.ite (.queueRound (.mapSlot h)) (.mapSlot h))

theorem State.tasksOk.trackFreeze (h : s.tasksOk) : s.trackFreeze.tasksOk := .update h rfl

theorem Out.Sound.chMeas {t : TaskId} {gd ga gb : Reg} (h : s.tasksOk) : (execChMeas t gd ga gb s).Sound := by
  unfold Machine.execChMeas
  refine .onEngine (fun _ _ _ h1 => ?_) h
  split
  · exact .violate2 h1
  · exact .finish2 h1

theorem State.tasksOk.probeUndefined {k : Nat} (h : s.tasksOk) : (s.probeUndefined k).tasksOk := .useFree (.mapSlot h)

theorem Out.Sound.chProbe {t : TaskId} {gd ga : Reg} {k : Fin 16} (h : s.tasksOk) : (execChProbe t gd ga k s).Sound := by
  refine .onChannelHeld (fun _ _ _ _ h1 => ?_) h
  dsimp only
  refine .ite (.finish (.wakePower (.probeUndefined h1))) (.ite (.finish (.mapSlot h1)) (.ite (.refuse (.update h1 rfl)) ?_))
  split
  · exact .finish h1
  · exact .ite (.finish h1) (.finish (.mapPort (.mapSlot h1)))

/-! RF ports: transmit start and stop, retunes, banks and roles (R25 to R54). -/

theorem State.tasksOk.drive {p : PortId} (h : s.tasksOk) : (s.drive p).tasksOk := .ite h (.mapPort h)

theorem State.tasksOk.driveAll (h : s.tasksOk) : s.driveAll.tasksOk := .foldl (fun _ _ h1 => .drive h1) h

theorem State.tasksOk.rfeLine (h : s.tasksOk) : s.rfeLine.tasksOk := .lineLevel h

theorem State.tasksOk.faultBooster {p : PortId} (h : s.tasksOk) : (s.faultBooster p).tasksOk :=
  .log (.rfeLine (.trackFreeze (.mapPort h)))

theorem State.tasksOk.enterInterval {p : PortId} {fltHigh : Bool} (h : s.tasksOk) : (s.enterInterval p fltHigh).tasksOk :=
  .ite (.mapPort h) (.ite (.faultBooster (.mapPort h)) (.ite (.mapPort h) (.mapPort h)))

theorem State.tasksOk.withRecord {t : Nat} {gd : Reg} {k : Task} {ea : Word} {n : Nat} {f : List Byte → State → State}
    (hf : ∀ l u, u.tasksOk → (f l u).tasksOk) (h : s.tasksOk) (hk : k.ok) : (s.withRecord t gd k ea n f).tasksOk :=
  .ite (.ite (.exception (.readErrors h) hk.pc) (hf _ _ (.readErrors h))) (.violate h)

theorem State.tasksOk.freeOutputs {p : PortId} {part : PartId} (h : s.tasksOk) : (s.freeOutputs p part).tasksOk := .update h rfl

theorem State.tasksOk.fixOutputs {p : PortId} (h : s.tasksOk) : (s.fixOutputs p).tasksOk := .update h rfl

theorem State.tasksOk.clearIso {p : PortId} (h : s.tasksOk) : (s.clearIso p).tasksOk := .update h rfl

theorem State.tasksOk.deriveOffsets (h : s.tasksOk) : s.deriveOffsets.tasksOk := .update h rfl

theorem State.tasksOk.startRetune {p : PortId} (h : s.tasksOk) : (s.startRetune p).tasksOk := .trackFreeze (.mapPort (.freeOutputs h))

theorem State.tasksOk.beginBank {p : PortId} (h : s.tasksOk) : (s.beginBank p).tasksOk := by
  dsimp only [State.beginBank]
  split
  · exact h
  · exact .ite (.mapPort h) (.ite h (.ite (.deriveOffsets (.startRetune (.mapPort h))) (.mapPort h)))

theorem State.tasksOk.applyTune {p : PortId} {r0 : TuneRec} (h : s.tasksOk) : (s.applyTune p r0).tasksOk :=
  .beginBank (.drive (.deriveOffsets (.rfeLine (.mapPort (.ite (.freeOutputs (.ite (.startRetune h) h)) (.ite (.startRetune h) h))))))

theorem State.tasksOk.leaveProbe {p : PortId} (h : s.tasksOk) : (s.leaveProbe p).tasksOk := by
  dsimp only [State.leaveProbe]
  split
  · exact .applyTune (.mapPort h)
  · exact .drive (.mapPort (.mapPort h))

theorem State.tasksOk.probeInvalid {k : Nat} (h : s.tasksOk) : (s.probeInvalid k).tasksOk :=
  .ite (.event (.dropBursts (.mapSlot h))) (.dropBursts (.mapSlot h))

theorem State.tasksOk.abortBurst {p : PortId} (h : s.tasksOk) : (s.abortBurst p).tasksOk := by
  unfold State.abortBurst
  split
  · exact .probeInvalid (.leaveProbe h)
  · exact h

theorem State.tasksOk.abortProbes (h : s.tasksOk) : s.abortProbes.tasksOk :=
  .foldl (fun _ _ h2 => .probeInvalid h2) (.foldl (fun _ _ h1 => .abortBurst h1) h)

/-! Port instructions and port events (R25 to R54, R346 to R348). -/

theorem Out.Sound.portTune {t : TaskId} {gd ga gb : Reg} (h : s.tasksOk) : (execPortTune t gd ga gb s).Sound :=
  .onEngine (fun _ _ hk h1 => .ite (.hold h1) (.withRecord (fun _ _ h2 => .ite (.refuse h2) (.ite (.finish (.mapPort (.mapPort h2)))
    (.finish (.applyTune (.mapPort h2))))) h1 hk)) h

theorem Out.Sound.portSched {t : TaskId} {gd ga gb : Reg} (h : s.tasksOk) : (execPortSched t gd ga gb s).Sound := by
  refine .onEngine (fun _ _ hk h1 => .ite (.hold h1) (.withRecord (fun _ _ h2 => .withRecord (fun _ _ h3 => ?_) h2 hk) h1 hk)) h
  dsimp only
  split
  · exact .refuse (.wakePower h3)
  · split
    · exact .finish (.mapPort (.wakePower h3))
    · exact .ite (.refuse (.update (.wakePower h3) rfl)) (.finish (.useFree (.mapPort (.wakePower h3))))

theorem State.tasksOk.applyRole {p : PortId} (h : s.tasksOk) : (s.applyRole p).tasksOk := by
  unfold State.applyRole
  split
  · exact .ite (.drive (.deriveOffsets (.mapPort h))) h
  · exact h

theorem Out.Sound.portTransitionComplete {port : PortId} (h : s.tasksOk) : (execPortTransitionComplete port s).Sound := by
  unfold Machine.execPortTransitionComplete
  refine .next ?_
  split
  · exact h
  · exact .ite h (.ite (.beginBank (.drive (.applyRole (.mapPort h)))) (.beginBank (.applyRole (.mapPort h))))

theorem Out.Sound.bankChangeComplete {port : PortId} (h : s.tasksOk) : (execBankChangeComplete port s).Sound := by
  unfold Machine.execBankChangeComplete
  refine .next ?_
  split
  · exact .ite (.drive (.fixOutputs (.clearIso (.deriveOffsets (.mapPort h))))) h
  · exact h

theorem State.tasksOk.portFault {p : PortId} (h : s.tasksOk) : (s.portFault p).tasksOk := .faultBooster (.abortBurst h)

theorem State.tasksOk.leaveSched {p : PortId} (h : s.tasksOk) : (s.leaveSched p).tasksOk := .drive (.mapPort h)

theorem Out.Sound.tddSwitchPoint {pin : PortFlt} (h : s.tasksOk) : (execTddSwitchPoint pin s).Sound := by
  unfold Machine.execTddSwitchPoint
  refine .next ?_
  split
  · exact h
  · exact .ite h (.ite (.leaveSched h) (.ite (.enterInterval (.mapPort h)) (.mapPort h)))

theorem Out.Sound.tddPeriodStart {pin : PortFlt} (h : s.tasksOk) : (execTddPeriodStart pin s).Sound := by
  unfold Machine.execTddPeriodStart
  refine .whenDo h ?_
  split
  · exact h
  · exact .drive (.mapPort h)
  · exact .ite (.ite (.enterInterval (.mapPort h)) (.mapPort h)) (.drive (.mapPort h))

/-! Modes, held instructions, the stop of the Warden pair and P0's first task (R20 to R24, R284, R429 to R432). -/

theorem State.tasksOk.dropHeld (h : s.tasksOk) : s.dropHeld.tasksOk := .ite (.update h rfl) h

theorem State.tasksOk.endAllTasks (h : s.tasksOk) : s.endAllTasks.tasksOk :=
  .update (.foldl (fun _ _ h1 => .freeIndex (.dropWait h1)) (.dropHeld h)) rfl

theorem Out.Sound.heldExec {i : Instr} (h : s.tasksOk) : (heldExec i s).Sound := by
  unfold Machine.heldExec
  split
  · exact .chAlloc h
  · exact .chFree h
  · exact .chCommitCut h
  · exact .chCommitFade h
  · exact .chProbe h
  · exact .portTune h
  · exact .portSched h
  · exact .next h

theorem State.tasksOk.runHeldOne {t : Nat} {i : Instr} (h : s.tasksOk) : (s.runHeldOne t i).tasksOk := by
  unfold State.runHeldOne
  split
  · exact h
  next k found =>
    split
    · have run := Out.Sound.heldExec (i := i) (State.tasksOk.setTask (t := t) (k := { k with st := .running heldCtx }) h (h.task found :
      k.ok))
      split
      next u hu =>
        split
        · exact .ite (.makeReady (run u hu)) (run u hu)
        · exact run u hu
      · exact h
    · exact h

theorem State.tasksOk.runHeld (h : s.tasksOk) : s.runHeld.tasksOk := .foldl (fun _ _ h1 => .runHeldOne h1) (.update h rfl)

theorem State.tasksOk.enterMode {m : Mode} (h : s.tasksOk) : (s.enterMode m).tasksOk :=
  .eventAll (.driveAll (.update (.ite (.abortProbes h) h) rfl))

theorem State.tasksOk.dropArms (h : s.tasksOk) : s.dropArms.tasksOk := .update h rfl

theorem State.tasksOk.enterWatch (h : s.tasksOk) : s.enterWatch.tasksOk := by
  unfold State.enterWatch
  split
  · exact .enterMode (.dropArms (.update h rfl))
  · exact .enterMode (.dropArms (.update h rfl))
  · exact .enterMode (.dropArms (.update h rfl))
  · exact .enterMode (.dropArms (.update h rfl))
  · exact .update h rfl
  · exact .update h rfl
  · exact h

theorem State.tasksOk.changeMode {m : Mode} (h : s.tasksOk) : (s.changeMode m).tasksOk := .ite (.enterWatch (.enterMode h)) (.enterMode
    h)

theorem State.tasksOk.pairStopped (h : s.tasksOk) : s.pairStopped.tasksOk := by
  unfold State.pairStopped
  extract_lets cpu cht pwr s1 still rest
  have stills : ∀ x ∈ s.cpu.tasks, (still x.1 x.2).ok := fun x hx => by
    unfold still
    split
    · split
      · exact h.1 x hx
      · exact h.1 x hx
    · exact h.1 x hx
  split
  · exact .enterWatch (h.mapped stills rfl rfl)
  · exact .enterWatch (h.mapped stills rfl rfl)
  · exact .enterWatch (.endAllTasks (.update h rfl))

theorem State.tasksOk.markSevere {src : Nat} (h : s.tasksOk) : (s.markSevere src).tasksOk :=
  .ite h (.linePulse (.ngdFlag (.update h rfl)))

theorem State.tasksOk.enterSilenced {ks : List Nat} (h : s.tasksOk) : (s.enterSilenced ks).tasksOk :=
  .ite (.log (.linePulse (.changeMode (.update (.foldl (fun _ _ h1 => .markSevere (.mapSlot h1)) h) rfl)))) h

theorem State.tasksOk.addTask {k : Task} (h : s.tasksOk) (hk : k.ok) : (s.addTask k).tasksOk := by
  unfold State.addTask
  split
  · exact h
  · exact .makeReady (.newIndex (.setTask h hk))

theorem State.tasksOk.startWarden (h : s.tasksOk) : s.startWarden.tasksOk :=
  .addTask (.update h rfl) (((Task.fresh_ok (word_mask_aligned _) rfl).put _ _))

/-! Fences, clamps and re-arms (R166 to R186). -/

theorem State.tasksOk.countFence {src : Nat} (h : s.tasksOk) : (s.countFence src).tasksOk :=
  .ite (.linePulse (.ngdFlag (.countSource h))) (.countSource h)

theorem State.tasksOk.trkMute {k : Nat} (h : s.tasksOk) : (s.trkMute k).tasksOk :=
  .ite (.ite h (.mapSlot h)) (.ite (.chEvent (.mapSlot h)) h)

theorem State.tasksOk.memberCheck {k : Nat} (h : s.tasksOk) : (s.memberCheck k).tasksOk :=
  .ite h (.ite (.trkMute (.mapSlot h)) (.log (.linePulse (.update (.trkMute (.mapSlot h)) rfl))))

theorem State.tasksOk.doRearm {k : Nat} (h : s.tasksOk) : (s.doRearm k).tasksOk := .ite h (.ite (.chEvent (.mapSlot h)) (.mapSlot h))

theorem State.tasksOk.clamp {p : PortId} {ks : List Nat} (h : s.tasksOk) : (s.clamp p ks).tasksOk :=
  .ite (.enterSilenced (.linePulse (.count (.update h rfl)))) (.linePulse (.count (.update h rfl)))

theorem State.tasksOk.clampFails (h : s.tasksOk) : s.clampFails.tasksOk := .enterSilenced (.linePulse (.update h rfl))

/-! Gain control (R119 to R136). -/

theorem State.tasksOk.glcFlags {k : Nat} {ungated : Bool} {old new : Slot} (h : s.tasksOk) : (s.glcFlags k ungated old new).tasksOk :=
  .ite (.chEvent (.ite (.count (.update h rfl)) (.update h rfl))) (.ite (.count (.update h rfl)) (.update h rfl))

theorem State.tasksOk.foldRounds (h : s.tasksOk) : s.foldRounds.tasksOk := .update h rfl

theorem State.tasksOk.glcRound {k : Nat} (h : s.tasksOk) : (s.glcRound k).tasksOk := .ite (.ite (.setSlot h) (.glcFlags (.setSlot h))) h

theorem State.tasksOk.gainDisagree {k : Nat} (h : s.tasksOk) : (s.gainDisagree k).tasksOk :=
  .ite (.log (.linePulse (.update (.glcFlags (.setSlot h)) rfl))) h

theorem State.tasksOk.ovrCheck {k : Nat} {m : ControlSample} {skip : Bool} (h : s.tasksOk) : (s.ovrCheck k m skip).tasksOk :=
  .ite h (.ite (.ite (.ite (.ngdFlag (.askFence (.mapSlot h))) (.ngdFlag (.trim (.mapSlot h)))) (.mapSlot h)) (.mapSlot h))

/-! The sample path (R98 to R101). -/

theorem State.tasksOk.carryCut {c : ChannelCut} (h : s.tasksOk) : (s.carryCut c).tasksOk :=
  .ite (.ite (.update (.useFree (.setSlot h)) rfl) (.useFree (.setSlot h))) h

/-! Trunk lanes inside the node (R234 to R245). -/

theorem State.tasksOk.laneSat {full : Bool} (h : s.tasksOk) : (s.laneSat full).tasksOk := .ite (.linePulse (.update h rfl)) h

theorem State.tasksOk.sendLane {key : Nat} {pick : ChainId → Lane → Bool} {f : Link → Lane → Link} (h : s.tasksOk) : (s.sendLane key
    pick f).tasksOk := by
  unfold State.sendLane
  refine .foldl (fun _ _ h1 => ?_) h
  split
  · exact .ite (.mapLink h1) h1
  · exact h1

theorem State.tasksOk.releaseLanes (h : s.tasksOk) : s.releaseLanes.tasksOk := .update h rfl

theorem State.tasksOk.takeDl {k : Nat} {via : Option ChainId} {n : Nat} {xs : List LaneSample} (h : s.tasksOk) : (s.takeDl k via n
    xs).tasksOk :=
  .setSlot h

theorem State.tasksOk.realign {k path : Nat} (h : s.tasksOk) : (s.realign k path).tasksOk := .setSlot (.ite (.useFree h) h)

theorem State.tasksOk.followOn {k : Nat} {code : BitVec 4} (h : s.tasksOk) : (s.followOn k code).tasksOk := .trkMute (.mapSlot h)

theorem State.tasksOk.takeHere {key num tref : Nat} {xs : List LaneSample} (h : s.tasksOk) : (s.takeHere key num tref xs).tasksOk :=
  .foldl (fun _ _ h1 => .takeDl (.memberCheck (.ite (.mapSlot (.ite (.realign h1) h1)) (.ite (.realign h1) h1)))) h

theorem State.tasksOk.startGrid {k n : Nat} (h : s.tasksOk) : (s.startGrid k n).tasksOk := .ite (.setSlot h) h

theorem State.tasksOk.feedLane {k n : Nat} (h : s.tasksOk) : (s.feedLane k n).tasksOk := .ite (.setSlot h) h

theorem State.tasksOk.carryCuts {cs : List ChannelCut} (h : s.tasksOk) : (s.carryCuts cs).tasksOk :=
  .foldl (fun _ _ h1 => .feedLane (.carryCut (.startGrid h1))) h

theorem State.tasksOk.sourceLane {k : Nat} (h : s.tasksOk) : (s.sourceLane k).tasksOk :=
  .ite (.mapSlot (.foldl (fun _ _ h2 => .sendLane (.takeHere h2)) (.foldl (fun _ _ h1 => .ite h1 (.followOn h1)) h))) h

theorem State.tasksOk.startLane {a : Lane} {l : ChainId} {fuel : Nat} (h : s.tasksOk) : (startLane a l fuel s).tasksOk := by
  induction fuel generalizing s with
  | zero => exact h
  | succ fuel ih =>
    unfold Machine.startLane
    exact .ite (ih (.laneSat (.mapLink h))) h

theorem State.tasksOk.startLanes (h : s.tasksOk) : s.startLanes.tasksOk :=
  .foldl (fun _ _ h1 => .ite (.foldl (fun _ _ h2 => .ite (.startLane h2) h2) h1) h1) h

theorem State.tasksOk.sinkTake {k n : Nat} {xs : List LaneSample} (h : s.tasksOk) : (s.sinkTake k n xs).tasksOk := .setSlot h

theorem State.tasksOk.deliverUl {key n : Nat} {xs : List LaneSample} (h : s.tasksOk) : (s.deliverUl key n xs).tasksOk :=
  .sendLane (.foldl (fun _ _ h1 => .sinkTake h1) (.laneSat h))

theorem State.tasksOk.startHome {k key fuel : Nat} (h : s.tasksOk) : (startHome k key fuel s).tasksOk := by
  induction fuel generalizing s with
  | zero => exact h
  | succ fuel ih =>
    unfold Machine.startHome
    exact .ite (ih (.deliverUl (.update h rfl))) h

theorem State.tasksOk.startHomes (h : s.tasksOk) : s.startHomes.tasksOk := .foldl (fun _ _ h1 => .ite (.startHome h1) h1) h

theorem State.tasksOk.laneRound (h : s.tasksOk) : s.laneRound.tasksOk :=
  .startHomes (.startLanes (.foldl (fun _ _ h1 => .sourceLane h1) (.releaseLanes h)))

theorem State.tasksOk.answerDone {k : Nat} (h : s.tasksOk) : (s.answerDone k).tasksOk := .update h rfl

theorem State.tasksOk.laneGone {k : Nat} (h : s.tasksOk) : (s.laneGone k).tasksOk := .log (.trkMute (.mapSlot h))

theorem State.tasksOk.followProfile {k : Nat} {p : BitVec 4} (h : s.tasksOk) : (s.followProfile k p).tasksOk :=
  .ite (.update (.mapSlot h) rfl) h

theorem State.tasksOk.laneAgain {k : Nat} {a : LaneAnswer} (h : s.tasksOk) : (s.laneAgain k a).tasksOk :=
  .ite h (.ite (.memberCheck (.followProfile (.setSlot h))) (.laneGone h))

theorem State.tasksOk.commitAnswered {k : Nat} {a : LaneAnswer} {t : Nat} {gd : Reg} {fade : Bool} (h : s.tasksOk) : (s.commitAnswered k
    a t gd fade).tasksOk :=
  .ite (.wake (.mapSlot (.commitAdmit h))) (.ite (.wakeRefuse (.count h)) (.wakeRefuse (.commitRefused h)))

theorem State.tasksOk.dropped {k : Nat} (h : s.tasksOk) : (s.dropped k).tasksOk := by
  unfold State.dropped
  split
  · exact .update h rfl
  · exact h

theorem State.tasksOk.laneResult {k : Nat} {a0 : LaneAnswer} (h : s.tasksOk) : (s.laneResult k a0).tasksOk := by
  dsimp only [State.laneResult]
  split
  · exact .dropped (.answerDone h)
  · split
    · exact .laneAgain (.answerDone h)
    · exact .commitAnswered (.answerDone h)

theorem State.tasksOk.releaseAnswers (h : s.tasksOk) : s.releaseAnswers.tasksOk :=
  .ite h (.foldl (fun _ _ h1 => .laneResult h1) (.update h rfl))

theorem State.tasksOk.timeCommits (h : s.tasksOk) : s.timeCommits.tasksOk := by
  unfold State.timeCommits
  split
  · exact h
  · refine .foldl (fun _ _ h1 => ?_) h
    split
    · exact .ite (.commitAnswered (.dropAsk h1)) h1
    · exact h1

/-! The round boundary (R82, R103, R110). -/

theorem State.tasksOk.effectCommit {k : Nat} (h : s.tasksOk) : (s.effectCommit k).tasksOk := by
  dsimp only [State.effectCommit]
  split
  · exact h
  · exact .ite (.memberCheck (.update (.setSlot (.ite (.leaveLane h) h)) rfl)) (.setSlot h)

theorem State.tasksOk.fenceSlot {k : Nat} (h : s.tasksOk) : (s.fenceSlot k).tasksOk := by
  dsimp only [State.fenceSlot]
  split
  · exact h
  · split
    · exact .mapSlot h
    · split
      · exact .setSlot h
      · refine .chEvent ?_
        refine .log ?_
        refine .linePulse ?_
        refine .count ?_
        split
        · exact .ite (.update (.ite (.setSlot h) (.countFence (.setSlot h))) rfl) (.ite (.setSlot h) (.countFence (.setSlot h)))
        · exact .ite (.setSlot h) (.countFence (.setSlot h))

theorem State.tasksOk.muteSlot {k : Nat} (h : s.tasksOk) : (s.muteSlot k).tasksOk := .ite h (.ite (.mapSlot h) (.chEvent (.setSlot h)))

theorem State.tasksOk.resetMutes (h : s.tasksOk) : s.resetMutes.tasksOk := .update h rfl

theorem State.tasksOk.silencedCheck (h : s.tasksOk) : s.silencedCheck.tasksOk := .ite (.enterSilenced (.update h rfl)) (.update h rfl)

theorem State.tasksOk.joinSilenced (h : s.tasksOk) : s.joinSilenced.tasksOk := .ite (.update h rfl) h

theorem State.tasksOk.hardwareRound (h : s.tasksOk) : s.hardwareRound.tasksOk :=
  .silencedCheck (.resetMutes (.foldl (fun _ _ h3 => .muteSlot h3) (.foldl (fun _ _ h2 => .countFence h2) (.foldl (fun _ _ h1 =>
    .fenceSlot h1) (.joinSilenced h)))))

theorem State.tasksOk.runRoundOp {o : RoundOp} (h : s.tasksOk) : (s.runRoundOp o).tasksOk := by
  unfold State.runRoundOp
  split
  · exact .effectCommit h
  · exact .mapSlot h
  · exact .ite (.queueRound h) (.mapSlot h)
  · exact .ite (.queueRound h) (.doRearm h)

theorem State.tasksOk.runRoundOps (h : s.tasksOk) : s.runRoundOps.tasksOk := .foldl (fun _ _ h1 => .runRoundOp h1) (.update h rfl)

theorem State.tasksOk.partRound (h : s.tasksOk) : s.partRound.tasksOk := .update h rfl

theorem State.tasksOk.releaseFades (h : s.tasksOk) : s.releaseFades.tasksOk := .update h rfl

theorem State.tasksOk.gntRound {k : Nat} (h : s.tasksOk) : (s.gntRound k).tasksOk := by
  dsimp only [State.gntRound]
  split
  · exact .ite (.clamp (.askFence h)) h
  · exact h

theorem State.tasksOk.toBoundary (h : s.tasksOk) : s.toBoundary.tasksOk := .advance h

theorem State.tasksOk.biasRound (h : s.tasksOk) : s.biasRound.tasksOk := .mapPorts h

theorem State.tasksOk.releaseHeld (h : s.tasksOk) : s.releaseHeld.tasksOk := .ite h (.runHeld h)

theorem State.tasksOk.round {disagree : List SlotId} {cuts : List ChannelCut} (h : s.tasksOk) : (s.round disagree cuts).tasksOk :=
  .releaseHeld (.releaseAnswers (.trackFreeze (.foldl (fun _ _ h3 => .gntRound h3) (.foldl (fun _ _ h2 => .gainDisagree h2) (.foldl (fun
    _ _ h1 => .glcRound h1) (.runRoundOps (.hardwareRound (.biasRound (.partRound (.releaseFades (.foldRounds (.laneRound (.carryCuts
    (.toBoundary h))))))))))))))

theorem State.tasksOk.nextBoundary (h : s.tasksOk) : s.nextBoundary.tasksOk := .ite (.round h) (.toBoundary h)

theorem State.tasksOk.passTime {n : Nat} (h : s.tasksOk) : (s.passTime n).tasksOk := .ite (.advance (.round h)) (.advance h)

/-! The feedback canceller (R141 to R162). -/

theorem State.tasksOk.invalidate {k : Nat} (h : s.tasksOk) : (s.invalidate k).tasksOk := .ite (.update (.mapSlot h) rfl) h

theorem Out.Sound.isolationRefresh {slot : SlotId} {gains : Level} (h : s.tasksOk) : (execIsolationRefresh slot gains s).Sound := by
  unfold Machine.execIsolationRefresh
  refine .next ?_
  split
  · exact .ite (.ite (.ite (.log (.update (.mapSlot h) rfl)) (.mapSlot h)) (.mapSlot h)) h
  · exact h

theorem Out.Sound.probeBurstStart {port : PortId} (h : s.tasksOk) : (execProbeBurstStart port s).Sound := by
  unfold Machine.execProbeBurstStart
  refine .next ?_
  split
  · exact h
  · exact .ite h (.ite (.probeInvalid h) (.ite h (.count (.trackFreeze (.mapPort (.mapSlot h))))))

theorem Out.Sound.probeBurstEnd {port : PortId} (h : s.tasksOk) : (execProbeBurstEnd port s).Sound := by
  unfold Machine.execProbeBurstEnd
  refine .next ?_
  split
  · exact h
  · exact .ite (.trackFreeze (.mapSlot (.leaveProbe h))) h

/-! The guard's detectors and the Gauntlet's checks (R166 to R186). -/

theorem Out.Sound.nriseEstimate {slot : SlotId} {noise : Level} (h : s.tasksOk) : (execNriseEstimate slot noise s).Sound := by
  unfold Machine.execNriseEstimate
  refine .next ?_
  split
  · exact .ite h (.ite (.mapSlot h) (.ite (.chEvent (.mapSlot (.mapSlot h))) (.ite (.ngdFlag (.mapSlot (.mapSlot h))) (.ngdFlag (.trim
    (.mapSlot h))))))
  · exact h

theorem State.tasksOk.aclrAct {p : PortId} {k : Nat} (h : s.tasksOk) : (s.aclrAct p k).tasksOk := .ite (.askAclrFence h) (.trim h)

theorem State.tasksOk.wardenArm {k : Nat} (h : s.tasksOk) : (s.wardenArm k).tasksOk := .askArm (.mapSlot h)

theorem State.tasksOk.writeSarm {v : Word} (h : s.tasksOk) : (s.writeSarm v).tasksOk :=
  .ite (.update h rfl) (.ite (.wakePower (.foldl (fun _ _ h1 => .wardenArm h1) (.ite (.update h rfl) (.update (.update h rfl) rfl))))
    (.foldl (fun _ _ h2 => .wardenArm h2) (.ite (.update h rfl) (.update (.update h rfl) rfl))))

theorem Out.Sound.wardenWrite {t : TaskId} {f : State → State} (hf : ∀ u, u.tasksOk → (f u).tasksOk) (h : s.tasksOk) :
    (wardenWrite t f s).Sound := .onRunning (fun _ _ _ h1 => .ite (.next (hf _ h1)) (.violate h1)) h

theorem Out.Sound.silencedHoldoffEnd (h : s.tasksOk) : (execSilencedHoldoffEnd s).Sound := by
  unfold Machine.execSilencedHoldoffEnd
  refine .next ?_
  split
  · exact .ite (.ite (.changeMode (.update (.nextBoundary h) rfl)) (.nextBoundary h)) h
  · exact h

theorem Out.Sound.gntPowerCheck {slot : SlotId} {power : Level} {clampOk : Bool} (h : s.tasksOk) : (execGntPowerCheck slot power clampOk
    s).Sound := by
  unfold Machine.execGntPowerCheck
  refine .next ?_
  split
  · exact .ite (.ite (.clamp (.askFence h)) h) (.clampFails (.ite (.clamp (.askFence h)) h))
  · exact .ite h (.clampFails h)

theorem Out.Sound.gntDutyCheck {port : PortId} {txNs : Nat} {clampOk : Bool} (h : s.tasksOk) : (execGntDutyCheck port txNs clampOk
    s).Sound := by
  unfold Machine.execGntDutyCheck
  refine .next ?_
  split
  · exact .ite (.ite (.clamp (.foldl (fun _ _ h1 => .askFence h1) h)) h) (.clampFails (.ite (.clamp (.foldl (fun _ _ h2 => .askFence h2)
    h)) h))
  · exact .ite h (.clampFails h)

/-! Mailboxes (R354 to R356). -/

theorem State.tasksOk.takeMsg {t key : Nat} {p : PartId} {buf : Word} {run viol wait : State → State} {done : Msg → State → State}
    (hrun : ∀ u, u.tasksOk → (run u).tasksOk) (hviol : ∀ u, u.tasksOk → (viol u).tasksOk) (hwait : ∀ u, u.tasksOk → (wait u).tasksOk)
    (hdone : ∀ m u, u.tasksOk → (done m u).tasksOk) (h : s.tasksOk) : (s.takeMsg t key p buf run viol wait done).tasksOk := by
  unfold State.takeMsg
  split
  · exact hrun _ h
  · exact .ite (hviol _ h) (.ite (hwait _ (.drain h)) (hdone _ _ (.setBox (.storeBytes (.drain h)))))

theorem State.tasksOk.serveRecvOne {t key : Nat} {gd gb : Reg} {buf : Word} (h : s.tasksOk) : (s.serveRecvOne t key gd gb buf).tasksOk
    := by
  unfold State.serveRecvOne
  split
  · exact h
  · exact .takeMsg (fun _ h1 => h1) (fun _ h1 => .wakeWith (.violation h1)) (fun _ h1 => h1) (fun _ _ h1 => .wake2 (.taught h1)) h

theorem State.tasksOk.serveRecv {key fuel : Nat} (h : s.tasksOk) : (s.serveRecv key fuel).tasksOk := by
  induction fuel generalizing s with
  | zero => exact h
  | succ fuel ih =>
    unfold State.serveRecv
    split
    · exact h
    · split
      · exact h
      · exact ih (.serveRecvOne h)

theorem State.tasksOk.deliverMsg {p : PartId} {m : Fin 8} {x : Msg} (h : s.tasksOk) : (s.deliverMsg p m x).tasksOk :=
  .wakeEvents (.ite (.setBox h) (.serveRecv (.setBox h)))

theorem State.tasksOk.serveBoxes (h : s.tasksOk) : s.serveBoxes.tasksOk :=
  .foldl (fun _ _ h2 => .wakeEvents h2) (.foldl (fun _ _ h1 => .ite h1 (.ite h1 (.serveRecv h1))) h)

theorem State.tasksOk.arriveMsg {p : PartId} {m : Fin 8} {x : Msg} (h : s.tasksOk) : (s.arriveMsg p m x).tasksOk :=
  .ite h (.ite (.count h) (.deliverMsg h))

theorem State.tasksOk.releaseOne {e : Nat × Msg} (h : s.tasksOk) : (s.releaseOne e).tasksOk := .ite h (.arriveMsg (.update h rfl))

theorem State.tasksOk.releaseLate (h : s.tasksOk) : s.releaseLate.tasksOk := .foldl (fun _ _ h1 => .releaseOne h1) h

theorem State.tasksOk.messageRx {p : PartId} {m : Fin 8} {x : Msg} (h : s.tasksOk) : (s.messageRx p m x).tasksOk :=
  .ite (.update h rfl) (.releaseLate (.arriveMsg h))

theorem State.tasksOk.dropArriving {l : ChainId} (h : s.tasksOk) : (s.dropArriving l).tasksOk := .releaseLate (.update h rfl)

/-! Pages and frames (R358 to R368). -/

theorem State.tasksOk.addPage {part : PartId} {va : Nat} {peck keep : Bool} (h : s.tasksOk) : (s.addPage part va peck keep).tasksOk :=
    by
  unfold State.addPage
  extract_lets g s1 tier r c page
  have room : s1.tasksOk := .makeRoom h
  have framed : c.1.tasksOk := by
    unfold c
    split
    · exact .takeFrame (.takeFrame room)
    · exact .takeFrame room
  exact .ite (.update framed rfl) room

theorem State.tasksOk.zeroRange {part : PartId} {va n : Nat} (h : s.tasksOk) : (s.zeroRange part va n).tasksOk := .update h rfl

theorem State.tasksOk.addPages {p : PartId} {va : Nat} {peck keep : Bool} {n : Nat} (h : s.tasksOk) : (s.addPages p va peck keep
    n).tasksOk :=
  .zeroRange (.foldl (fun _ _ h1 => .addPage h1) h)

theorem State.tasksOk.allocFor {p : PartId} {len : Nat} {peck keep : Bool} (h : s.tasksOk) : (s.allocFor p len peck keep).1.tasksOk :=
    by
  dsimp only [State.allocFor]
  split
  · exact .addPages h
  · exact .mapPart h

theorem State.tasksOk.voidStores {part : PartId} {va n : Nat} (h : s.tasksOk) : (s.voidStores part va n).tasksOk :=
  h.mapped (fun x hx => by
    dsimp only
    split
    · exact h.1 x hx
    · exact h.1 x hx) rfl rfl

theorem State.tasksOk.releasePage {q : Page} (h : s.tasksOk) : (s.releasePage q).tasksOk :=
  .zeroRange (.ite (.update (.update (.voidStores (.askDiscard h)) rfl) rfl) (.freeFrames (.update (.voidStores (.askDiscard h)) rfl)))

theorem State.tasksOk.freeReleased (h : s.tasksOk) : s.freeReleased.tasksOk := .foldl (fun _ _ h1 => .freeFrames h1) (.update h rfl)

theorem State.tasksOk.setKeep {q : Page} (h : s.tasksOk) : (s.setKeep q).tasksOk := by
  dsimp only [State.setKeep]
  refine .update (.mapPage ?_) rfl
  split
  · exact h
  · exact .takeFrame (.carryFlaws h)

theorem State.tasksOk.clearKeep {q : Page} (h : s.tasksOk) : (s.clearKeep q).tasksOk :=
  .update (.ite (.mapPage h) (.leaveFrame (.mapPage h))) rfl

/-! Charters, images and slot operations (R181 to R185, R491 to R495). -/

theorem State.tasksOk.chartInForce {b : Bool} (h : s.tasksOk) : (s.chartInForce b).tasksOk := .update h rfl

theorem State.tasksOk.bootCharter (h : s.tasksOk) : s.bootCharter.tasksOk :=
  .ite (.chartInForce (.ite (.linePulse (.update h rfl)) (.update h rfl))) (.ite (.chartInForce (.ite (.linePulse (.update h rfl))
    (.update h rfl))) (.ite (.chartInForce (.ite (.linePulse (.update h rfl)) (.update h rfl))) (.ite (.linePulse (.update h rfl))
    (.update h rfl))))

theorem State.tasksOk.recover (h : s.tasksOk) : s.recover.tasksOk := .update h rfl

theorem State.tasksOk.fenceUncovered {k : Nat} (h : s.tasksOk) : (s.fenceUncovered k).tasksOk := .ite (.fenceSlot (.askFence h)) h

theorem State.tasksOk.stopOverDuty {p : PortId} (h : s.tasksOk) : (s.stopOverDuty p).tasksOk := by
  dsimp only [State.stopOverDuty]
  split
  · exact .ite (.drive (.mapPort h)) h
  · exact h

theorem State.tasksOk.ensureGill {va : Nat} (h : s.tasksOk) : (s.ensureGill va).tasksOk := by
  unfold State.ensureGill
  split
  · exact .addPage h
  · exact .ite (.ite (.clearKeep h) h) (.addPage (.releasePage h))

theorem State.tasksOk.placeImage (h : s.tasksOk) : s.placeImage.tasksOk :=
  .overwrite (.update (.foldl (fun _ _ h1 => .ensureGill h1) h) rfl)

theorem State.tasksOk.setRes {r : BitVec 3} (h : s.tasksOk) : (s.setRes r).tasksOk := .update h rfl

theorem State.tasksOk.doWrimg (h : s.tasksOk) : s.doWrimg.tasksOk := by
  unfold State.doWrimg
  split
  · exact .setRes h
  · exact .ite (.setRes (.update h rfl)) (.setRes h)

theorem State.tasksOk.doWrcht (h : s.tasksOk) : s.doWrcht.tasksOk := by
  unfold State.doWrcht
  split
  · exact .setRes h
  · exact .setRes (.update h rfl)

theorem State.tasksOk.doFuse (h : s.tasksOk) : s.doFuse.tasksOk := by
  unfold State.doFuse
  split
  · exact .setRes h
  · split
    · split
      · exact .setRes h
      · exact .ite (.setRes h) (.setRes (.update h rfl))
    · split
      · split
        · exact .setRes h
        · exact .ite (.setRes h) (.setRes (.update h rfl))
      · exact .setRes h

theorem State.tasksOk.doConfirm (h : s.tasksOk) : s.doConfirm.tasksOk := .setRes (.update h rfl)

theorem State.tasksOk.doRestart (h : s.tasksOk) : s.doRestart.tasksOk :=
  .ite (.setRes (.placeImage (.update (.pairStopped h) rfl))) (.setRes h)

theorem Out.Sound.slotOpComplete (h : s.tasksOk) : (execSlotOpComplete s).Sound := by
  unfold Machine.execSlotOpComplete
  refine .next ?_
  split
  · exact h
  · exact h
  · exact .doWrimg h
  · exact .doWrcht h
  · exact .doFuse h
  · exact .doConfirm h
  · exact .doRestart h

theorem State.tasksOk.startOp {o : SlotOp} (h : s.tasksOk) : (s.startOp o).tasksOk := .ite h (.update h rfl)

/-! The pager, replicas and tags (R366 to R376). -/

theorem State.tasksOk.memWake (h : s.tasksOk) : s.memWake.tasksOk := .wakeRetries (.homeRetry h)

theorem Out.Sound.keepBufferWrite (h : s.tasksOk) : (execKeepBufferWrite s).Sound := by
  unfold Machine.execKeepBufferWrite
  refine .next ?_
  split
  · exact h
  · exact .memWake (.update h rfl)

theorem State.tasksOk.moveNear {p : Page} (h : s.tasksOk) : (s.moveNear p).tasksOk := by
  unfold State.moveNear
  split
  · exact h
  · split
    · exact .movePage h
    · split
      · exact .ite (.movePage (.movePage h)) h
      · exact h

theorem Out.Sound.pageMigrate {part : PartId} {va : BitVec 48} {tier : BitVec 2} (h : s.tasksOk) : (execPageMigrate part va tier
    s).Sound := by
  unfold Machine.execPageMigrate
  refine .next ?_
  split
  · exact h
  · exact .ite h (.ite (.moveNear h) (.ite (.ite (.movePage h) h) (.ite (.ite (.movePage h) h) h)))

theorem Out.Sound.band4Evict (h : s.tasksOk) : (execBand4Evict s).Sound := by
  unfold Machine.execBand4Evict
  refine .next ?_
  split
  · exact .update h rfl
  · split
    · exact .update h rfl
    · exact .count (.mapPage (.movePage (.update h rfl)))

theorem Out.Sound.replicaRequest {node : NodeId} {ref : Word} {data : PageImage} (h : s.tasksOk) : (execReplicaRequest node ref data
    s).Sound := by
  dsimp only [Machine.execReplicaRequest]
  refine .next ?_
  split
  · split
    · exact h
    · exact .ite h (.sendPacket (.update h rfl))
  · exact .ite (.ite (.count (.update (.sendPacket (.makeRoom h)) rfl)) h) h

theorem Out.Sound.replicaAckRx {node : NodeId} {ref : Word} (h : s.tasksOk) : (execReplicaAckRx node ref s).Sound := by
  dsimp only [Machine.execReplicaAckRx]
  refine .next ?_
  split
  · exact h
  · exact .memWake (.freeReleased (.update h rfl))

theorem State.tasksOk.scrubPage {p : Page} {va : Nat} {copy : Bool} {n : Nat} (h : s.tasksOk) : (s.scrubPage p va copy n).tasksOk :=
  .ite (.foldl (fun _ _ h1 => .dropFlaw h1) h) (.ite (.correctedError (.foldl (fun _ _ h2 => .dropFlaw h2) h)) (.poisonBlock (.foldl
    (fun _ _ h3 => .dropFlaw h3) h)))

theorem State.tasksOk.scrubFree {tier : Fin 3} {nth wrong : Nat} (h : s.tasksOk) : (s.scrubFree tier nth wrong).tasksOk := by
  dsimp only [State.scrubFree]
  split
  · exact h
  · split
    · split
      · exact .leaveFrame (.corrected (.update h rfl))
      · exact .leaveFrame (.corrected h)
    · exact .uncorrected h

theorem Out.Sound.patrolScrub {part : PartId} {va : BitVec 48} {read : ScrubRead} (h : s.tasksOk) : (execPatrolScrub part va read
    s).Sound := by
  unfold Machine.execPatrolScrub
  refine .whenDo h ?_
  split
  · exact .scrubFree (.update h rfl)
  · exact .update h rfl
  · exact .scrubPage (.update h rfl)
  · exact .scrubPage (.update h rfl)

theorem State.tasksOk.failTag {i : Nat} {err : Fin 5} (h : s.tasksOk) : (s.failTag i err).tasksOk :=
  .completeTag (.update (.setTag h) rfl)

theorem State.tasksOk.failUnreachable (h : s.tasksOk) : s.failUnreachable.tasksOk := .foldl (fun _ _ h1 => .failTag h1) h

theorem Out.Sound.responseRx {pkt : ResponsePacket} (h : s.tasksOk) : (execResponseRx pkt s).Sound :=
  have fresh := State.tasksOk.firstCopy h
  .next (.ite fresh (.ite (.count fresh) (.ite (.count (.update fresh rfl)) (.completeTag fresh))))

theorem Out.Sound.homeRequestRx {pkt : RequestPacket} (h : s.tasksOk) : (execHomeRequestRx pkt s).Sound :=
  have fresh := State.tasksOk.firstCopy h
  .next (.ite h (.ite fresh (.ite (.count fresh) (.ite (.homePark fresh) (.respond (.serveHome fresh))))))

/-! Task, message and fence instructions (R326 to R328, R350 to R356). -/

theorem State.tasksOk.fenceDone {t : TaskId} {k : Task} {w : Wait} {f : State → State} (hf : ∀ u, u.tasksOk → (f u).tasksOk)
    (h : s.tasksOk) (hk : k.ok) : (fenceDone t k w f s).tasksOk := by
  dsimp only [Machine.fenceDone]
  split
  · split
    · exact .exceptionN (.clearError (.drain h)) hk.pc
    · exact hf _ (.drain h)
  · exact .makeWait (.drain h)

theorem State.tasksOk.startTask {i : Nat} {k : Task} (h : s.tasksOk) (hk : k.ok) : (s.startTask i k).tasksOk := by
  dsimp only [State.startTask]
  split
  · split
    · exact .makeReady (.ite (.readErrors (.newIndex (.setTask h hk))) (.afterEnd (.goto0 (.newIndex (.setTask h hk)) hk.pc)))
    · exact .ite (.readErrors (.newIndex (.setTask h hk))) (.afterEnd (.goto0 (.newIndex (.setTask h hk)) hk.pc))
  · exact .ite (.readErrors (.newIndex (.setTask h hk))) (.afterEnd (.goto0 (.newIndex (.setTask h hk)) hk.pc))

theorem Out.Sound.spawnT {t : TaskId} {gd ga gb : Reg} (h : s.tasksOk) : (execSpawnT t gd ga gb s).Sound := by
  unfold Machine.execSpawnT
  refine .onRunning (fun _ _ hk h1 => ?_) h
  split
  · exact .refuse h1
  · split
    · exact .refuse h1
    · exact .finish2 (.startTask (.countFor h1) (((Task.fresh_ok (word_mask_aligned _) hk.evec).put _ _)))

theorem Out.Sound.yieldT {t : TaskId} (h : s.tasksOk) : (execYieldT t s).Sound := by
  dsimp only [Machine.execYieldT]
  refine .onRunning (fun _ _ _ h1 => ?_) h
  split
  · split
    · exact .makeReady (.next h1)
    · exact .next h1
  · exact .next h1

theorem Out.Sound.joinT {t : TaskId} {gd ga gb : Reg} (h : s.tasksOk) : (execJoinT t gd ga gb s).Sound := by
  unfold Machine.execJoinT
  refine .onRunning (fun _ _ _ h1 => ?_) h
  split
  · exact .violate2 h1
  · split
    · exact .finish2 (.taught (.freeIndex h1))
    · exact .makeWait h1

theorem Out.Sound.waitDeadlineExpire {t : TaskId} (h : s.tasksOk) : (execWaitDeadlineExpire t s).Sound := by
  unfold Machine.execWaitDeadlineExpire
  refine .next ?_
  split
  · exact h
  · split
    · exact .ite (.wake h) h
    · exact .ite (.wake h) h
    · exact h

theorem State.tasksOk.sendBody {p : PartId} {d : Word} {body : List Byte} {seen : List (Nat × Nat)} (h : s.tasksOk) : (s.sendBody p d
    body seen).tasksOk :=
  .ite (.deliverMsg (.ite h (.sendPacket h))) (.ite h (.sendPacket h))

theorem State.tasksOk.requestMode {m : Mode} (h : s.tasksOk) : (s.requestMode m).tasksOk :=
  .ite h (.ite (.update h rfl) (.ite (.update h rfl) (.update h rfl)))

theorem Out.Sound.modeReq {t : TaskId} {gd ga : Reg} (h : s.tasksOk) : (execModeReq t gd ga s).Sound := by
  unfold Machine.execModeReq
  refine .onRunning (fun _ _ _ h1 => ?_) h
  split
  · exact .violate h1
  · split
    · exact .refuse h1
    · exact .finish (.requestMode h1)

/-! Partitions (R385 to R391). -/

theorem State.tasksOk.writeGrant {w : Nat} {v : Word} (h : s.tasksOk) : (s.writeGrant w v).tasksOk :=
  .ite h (.ite (.mapPart h) (.same h rfl rfl))

theorem State.tasksOk.loadCopy {q : Page} (h : s.tasksOk) : (s.loadCopy q).tasksOk := .update h rfl

theorem State.tasksOk.returnKept {p : PartId} (h : s.tasksOk) : (s.returnKept p).tasksOk :=
  .foldl (fun _ _ h1 => .loadCopy h1) (.update h rfl)

theorem State.tasksOk.flushKeep (h : s.tasksOk) : s.flushKeep.tasksOk := .update h rfl

theorem State.tasksOk.stowKept {p : PartId} (h : s.tasksOk) : (s.stowKept p).tasksOk :=
  .foldl (fun _ _ h2 => .update h2 rfl) (.update (.foldl (fun _ _ h1 => .reframe h1) (.flushKeep h)) rfl)

theorem State.tasksOk.createPart {p : PartId} (h : s.tasksOk) : (s.createPart p).tasksOk :=
  .ite h (.ite (.returnKept (.mapPart h)) (.same h rfl rfl))

theorem State.tasksOk.startPart {p : PartId} (h : s.tasksOk) : (s.startPart p).tasksOk := by
  unfold State.startPart
  split
  · exact h
  · split
    · exact h
    · exact .startTask (.count h) (((Task.fresh_ok (word_mask_aligned _) rfl).put _ _))

theorem State.tasksOk.stopTask {t : Nat} (h : s.tasksOk) : (s.stopTask t).tasksOk := .update (.endTask0 h) rfl

theorem State.tasksOk.beginReset {p : PartId} {destroy : Bool} (h : s.tasksOk) : (s.beginReset p destroy).tasksOk :=
  .ite h (.mapPart (.foldl (fun _ _ h1 => .stopTask h1) h))

theorem State.tasksOk.clearViol {p : PartId} (h : s.tasksOk) : (s.clearViol p).tasksOk := .mapPart h

theorem State.tasksOk.releaseKept {p : PartId} (h : s.tasksOk) : (s.releaseKept p).tasksOk :=
  .ite h (.foldl (fun _ _ h1 => .update h1 rfl) (.update h rfl))

theorem State.tasksOk.partOp {p : PartId} {op : Nat} (h : s.tasksOk) : (s.partOp p op).tasksOk :=
  .ite (.same h rfl rfl) (.ite (.clearViol (.same h rfl rfl)) (.ite (.same h rfl rfl) (.ite (.createPart (.same h rfl rfl)) (.ite
    (.startPart (.same h rfl rfl)) (.ite (.beginReset (.same h rfl rfl)) (.ite (.beginReset (.same h rfl rfl)) (.ite (.releaseKept
    (.same h rfl rfl)) (.same h rfl rfl))))))))

theorem State.tasksOk.writePartSel {v : Word} (h : s.tasksOk) : (s.writePartSel v).tasksOk := .partOp (.ite (.same h rfl rfl) h)

theorem State.tasksOk.writePartAlloc {v : Word} (h : s.tasksOk) : (s.writePartAlloc v).tasksOk :=
  .ite (.same (.allocFor h) rfl rfl) (.same h rfl rfl)

theorem State.tasksOk.cancelRequests {p : PartId} (h : s.tasksOk) : (s.cancelRequests p).tasksOk := .mapPorts (.update h rfl)

theorem State.tasksOk.resetChannel {k : Nat} (h : s.tasksOk) : (s.resetChannel k).tasksOk :=
  .update (.dropBursts (.mapSlot (.ite (.leaveLane h) h))) rfl

theorem State.tasksOk.dropInbound {p : PartId} (h : s.tasksOk) : (s.dropInbound p).tasksOk := .ite (.linePulse (.update h rfl)) h

theorem State.tasksOk.resetIndex {t : Nat} {p : PartId} (h : s.tasksOk) : (s.resetIndex t p).tasksOk := .update (.freeIndex h) rfl

theorem Out.Sound.partResetComplete {part : PartId} (h : s.tasksOk) : (execPartResetComplete part s).Sound := by
  unfold Machine.execPartResetComplete
  refine .next ?_
  split
  · exact .ite h (.memWake (.ite (.stowKept (.update (.clearViol (.mapPart (.foldl (fun _ _ h3 => .releasePage h3) (.dropInbound
    (.update (.foldl (fun _ _ h2 => .resetChannel h2) (.foldl (fun _ _ h1 => .resetIndex h1) (.sendPacket (.mapPart (.cancelRequests
    h))))) rfl))))) rfl)) (.update (.clearViol (.mapPart (.foldl (fun _ _ h6 => .releasePage h6) (.dropInbound (.update (.foldl (fun _ _
    h5 => .resetChannel h5) (.foldl (fun _ _ h4 => .resetIndex h4) (.sendPacket (.mapPart (.cancelRequests h))))) rfl))))) rfl)))
  · exact h

/-! Records on their way to MRAM (R476, R477). -/

theorem State.tasksOk.commitRecord (h : s.tasksOk) : s.commitRecord.tasksOk := by
  unfold State.commitRecord
  split
  · exact h
  · exact .update h rfl

/-! Chain links and lane maps (R193 to R200, R229, R230). -/

theorem State.tasksOk.startElection (h : s.tasksOk) : s.startElection.tasksOk := .count (.countBy (.update h rfl))

theorem State.tasksOk.returnCopies {l : ChainId} (h : s.tasksOk) : (s.returnCopies l).tasksOk := by
  unfold State.returnCopies
  split
  · exact h
  · refine .foldl (fun _ _ h1 => ?_) h
    split
    · exact h1
    · exact .mapLink h1

theorem State.tasksOk.breakAt {l : ChainId} (h : s.tasksOk) : (s.breakAt l).tasksOk :=
  .ite (.ite (.returnCopies h) (.linePulse (.update h rfl))) h

theorem State.tasksOk.dropLink {l : LinkId} (h : s.tasksOk) : (s.dropLink l).tasksOk := .ite (.linePulse (.mapLink h)) (.mapLink h)

theorem State.tasksOk.dropQueue {l : ChainId} (h : s.tasksOk) : (s.dropQueue l).tasksOk := .countBy (.update h rfl)

theorem State.tasksOk.loseLink {l : ChainId} (h : s.tasksOk) : (s.loseLink l).tasksOk :=
  .failUnreachable (.startElection (.dropArriving (.dropQueue (.dropLink (.breakAt h)))))

theorem State.tasksOk.endLull {l : ChainId} (h : s.tasksOk) : (s.endLull l).tasksOk := .startElection (.mapLink h)

theorem Out.Sound.linkDown {l : LinkId} (h : s.tasksOk) : (execLinkDown l s).Sound := by
  unfold Machine.execLinkDown
  refine .whenDo h ?_
  split
  · exact .dropLink h
  · exact .loseLink h

theorem State.tasksOk.badFrame {l : ChainId} (h : s.tasksOk) : (s.badFrame l).tasksOk := .linePulse (.mapLink h)

theorem State.tasksOk.noteLane {q : LaneRequest} (h : s.tasksOk) : (s.noteLane q).tasksOk := .update h rfl

theorem State.tasksOk.launchDelays (h : s.tasksOk) : s.launchDelays.tasksOk := .update h rfl

theorem State.tasksOk.answerLane {q : LaneRequest} {granted : Bool} (h : s.tasksOk) : (s.answerLane q granted).tasksOk := .update h rfl

theorem State.tasksOk.spreadLane {key but : Nat} (h : s.tasksOk) : (s.spreadLane key but).tasksOk :=
  .foldl (fun _ _ h1 => .ite h1 (.laneAgain h1)) (.update h rfl)

theorem State.tasksOk.mapLane {ds : List Nat} {a : Lane} (h : s.tasksOk) : (s.mapLane ds a).tasksOk :=
  .foldl (fun _ _ h1 => .update h1 rfl) h

theorem State.tasksOk.keepLane {e : Nat × Lane} (h : s.tasksOk) : (s.keepLane e).tasksOk := .ite h (.mapLane h)

theorem State.tasksOk.placeIn {a : Lane} {ds : List Nat} {u : State} (h : s.tasksOk) (placed : s.placeIn a ds = some u) : u.tasksOk :=
    by
  induction ds generalizing s with
  | nil => exact Option.some.inj placed ▸ h
  | cons d ds ih =>
    unfold State.placeIn at placed
    split at placed
    · exact ih (.mapLane h) placed
    · cases placed

theorem State.tasksOk.placeLane {q : LaneRequest} {ds : List Nat} {profile : BitVec 4} {u : State} (h : s.tasksOk)
    (placed : s.placeLane q ds profile = some u) : u.tasksOk := by
  dsimp only [State.placeLane] at placed
  split at placed
  · exact Option.some.inj placed ▸ h
  · split at placed
    · exact .placeIn (.useFree h) placed
    · cases placed

theorem Out.Sound.laneMapRequestRx {q : LaneRequest} (h : s.tasksOk) : (execLaneMapRequestRx q s).Sound := by
  refine .whenDo h ?_
  extract_lets s0 r profile anew old fab s1 ds
  have kept : s0.tasksOk := .foldl (fun _ _ h1 => .keepLane h1) h
  have unmapped : s1.tasksOk := .ite (.update kept rfl) kept
  refine .ite (.leaveAtHead kept) (.ite (.answerLane kept) ?_)
  split
  next s2 placed => exact .spreadLane (.answerLane (.noteLane (unmapped.placeLane placed)))
  · exact .answerLane kept

/-! Elections and epochs (R201 to R212). -/

theorem State.tasksOk.adopt {l : ChainId} {p : Proposal} (h : s.tasksOk) : (s.adopt l p).tasksOk := .update h rfl

theorem State.tasksOk.hear {l : ChainId} {p : Proposal} (h : s.tasksOk) : (s.hear l p).tasksOk := .ite (.mapLink h) h

theorem Out.Sound.proposalRx {l : ChainId} {p : Proposal} (h : s.tasksOk) : (execProposalRx l p s).Sound := by
  unfold Machine.execProposalRx
  refine .whenDo h ?_
  refine .hear ?_
  split
  · exact .adopt (.update (.ite h (.startElection h)) rfl)
  · exact .ite (.adopt (.update (.ite h (.startElection h)) rfl)) (.update (.ite h (.startElection h)) rfl)

theorem State.tasksOk.epochFab {a : EpochAnnounce} (h : s.tasksOk) : (s.epochFab a).tasksOk := .update h rfl

theorem State.tasksOk.recheckMembers (h : s.tasksOk) : s.recheckMembers.tasksOk :=
  .foldl (fun _ _ h2 => .memberCheck h2) (.ite (.foldl (fun _ _ h1 => .spreadLane h1) (.launchDelays h)) h)

theorem State.tasksOk.headMaps {wasHead : Bool} (h : s.tasksOk) : (s.headMaps wasHead).tasksOk :=
  .ite (.ite h (.foldl (fun _ _ h1 => .mapLane h1) (.update h rfl))) (.update h rfl)

theorem State.tasksOk.askAgain {oldHead : NodeId} (h : s.tasksOk) : (s.askAgain oldHead).tasksOk :=
  .ite h (.foldl (fun _ _ h1 => .askHead h1) h)

theorem State.tasksOk.loseSource (h : s.tasksOk) : s.loseSource.tasksOk := .ite (.linePulse (.update h rfl)) (.update h rfl)

theorem State.tasksOk.timeEpoch {wasHead : Bool} (h : s.tasksOk) : (s.timeEpoch wasHead).tasksOk :=
  .ite (.update (.ite (.loseSource h) h) rfl) (.ite (.update (.ite (.loseSource h) h) rfl) (.update (.ite (.loseSource h) h) rfl))

theorem State.tasksOk.epochLinks {ring blocked : ChainId → Bool} {beyond : ChainId → BitVec 2048} (h : s.tasksOk) : (s.epochLinks ring
    blocked beyond).tasksOk :=
  .update h rfl

theorem State.tasksOk.takeEpoch {a : EpochAnnounce} {ring shared : BitVec 3} (h : s.tasksOk) : (s.takeEpoch a ring shared).tasksOk :=
  .ite (.startElection (.eventAll (.askAgain (.recheckMembers (.freeReleased (.memWake (.failUnreachable (.log (.ite (.update (.headMaps
    (.timeEpoch (.epochLinks (.epochFab h)))) rfl) (.linePulse (.update (.headMaps (.timeEpoch (.epochLinks (.epochFab h))))
    rfl))))))))))) (.eventAll (.askAgain (.recheckMembers (.freeReleased (.memWake (.failUnreachable (.log (.ite (.update (.headMaps
    (.timeEpoch (.epochLinks (.epochFab h)))) rfl) (.linePulse (.update (.headMaps (.timeEpoch (.epochLinks (.epochFab h))))
    rfl))))))))))

theorem Out.Sound.epochTake {ring shared : BitVec 3} (h : s.tasksOk) : (execEpochTake ring shared s).Sound := by
  unfold Machine.execEpochTake
  refine .next ?_
  split
  · exact .takeEpoch (.nextBoundary h)
  · exact h

/-! Trunk lanes as they arrive (R231 to R245). -/

theorem State.tasksOk.stampSlot {k : Nat} {l : ChainId} {block : BitVec 64} {path : Nat} (h : s.tasksOk) : (s.stampSlot k l block
    path).tasksOk :=
  .memberCheck (.update (.mapSlot (.ite (.realign h) h)) rfl)

theorem State.tasksOk.passDl {l : ChainId} {key : Nat} {n : Option Nat} {block : BitVec 64} (h : s.tasksOk) : (s.passDl l key n
    block).tasksOk :=
  .sendLane h

theorem Out.Sound.stampBlockRx {place : LanePlace} {block : BitVec 64} {path : Nat} (h : s.tasksOk) : (execStampBlockRx place block path
    s).Sound := by
  unfold Machine.execStampBlockRx
  refine .whenDo h ?_
  split
  · exact h
  · exact .foldl (fun _ _ h1 => .stampSlot h1) (.passDl (.mapLink h))

theorem State.tasksOk.timeBaseChanged (h : s.tasksOk) : s.timeBaseChanged.tasksOk := .ite (.update h rfl) h

theorem State.tasksOk.takeBlock {k : Nat} {l : ChainId} {c : LaneCopy} {n : Nat} {block : BitVec 64} (h : s.tasksOk) : (s.takeBlock k l
    c n block).tasksOk :=
  .ite (.takeDl (.ite h (.realign h))) h

theorem State.tasksOk.copyHome {key n : Nat} {xs : List LaneSample} {returned : Bool} (h : s.tasksOk) : (s.copyHome key n xs
    returned).tasksOk := by
  dsimp only [State.copyHome]
  split_ifs
  · exact h
  · exact .deliverUl (.update h rfl)
  · split
    · exact .deliverUl (.update h rfl)
    · exact .update h rfl

theorem State.tasksOk.gather {key n : Nat} {l : ChainId} {xs : List LaneSample} (h : s.tasksOk) : (s.gather key n l xs).tasksOk :=
  .ite (.update h rfl) (.ite (.deliverUl (.update (.update h rfl) rfl)) (.update h rfl))

theorem State.tasksOk.passUl {key n : Nat} {l : ChainId} {block : BitVec 64} (h : s.tasksOk) : (s.passUl key n l block).tasksOk :=
  .ite (.sendLane (.foldl (fun _ _ h1 => .sinkTake h1) h)) (.gather h)

theorem State.tasksOk.passRing {key n : Nat} {l : ChainId} {block : BitVec 64} {returned : Bool} (h : s.tasksOk) : (s.passRing key n l
    block returned).tasksOk := by
  unfold State.passRing
  split
  · exact .sendLane (.ite h (.laneSat h))
  · exact .ite h (.sendLane (.ite h (.laneSat h)))

theorem State.tasksOk.ulBlock {key n : Nat} {l : ChainId} {block : BitVec 64} {returned : Bool} (h : s.tasksOk) : (s.ulBlock key n l
    block returned).tasksOk :=
  .ite (.ite (.copyHome h) (.passRing h)) (.passUl h)

theorem Out.Sound.laneBlockRx {l : ChainId} {lane : Fin 96} {typ : BitVec 4} {data : BitVec 60} (h : s.tasksOk) : (execLaneBlockRx l
    lane typ data s).Sound := by
  dsimp only [Machine.execLaneBlockRx]
  refine .whenDo h ?_
  split
  · exact h
  · split
    · split
      · exact .ulBlock (.mapLink h)
      · exact .mapLink h
    · split
      · exact .foldl (fun _ _ h1 => .takeBlock h1) (.passDl (.mapLink h))
      · exact .passDl (.mapLink h)

theorem State.tasksOk.followDesc {a : Lane} {code : BitVec 4} (h : s.tasksOk) : (s.followDesc a code).tasksOk :=
  .foldl (fun _ _ h1 => .followOn h1) h

theorem Out.Sound.laneDescriptorChange {place : LanePlace} {code : BitVec 4} (h : s.tasksOk) : (execLaneDescriptorChange place code
    s).Sound := by
  unfold Machine.execLaneDescriptorChange
  refine .whenDo h ?_
  split
  · exact .mapLink h
  · exact .ite (.mapLink h) (.followDesc (.mapLink h))

theorem State.tasksOk.followAll (h : s.tasksOk) : s.followAll.tasksOk := .foldl (fun _ _ h1 => .foldl (fun _ _ h2 => .followDesc h2) h1)
    h

theorem State.tasksOk.dropDesc {key : Nat} (h : s.tasksOk) : (s.dropDesc key).tasksOk :=
  .foldl (fun _ _ h1 => .foldl (fun _ _ h2 => .mapLink h2) h1) h

/-! Synthesisers (R57 to R80). -/

theorem State.tasksOk.txCal {p : PortId} {leak image : Level} (h : s.tasksOk) : (s.txCal p leak image).tasksOk :=
  .ite (.linePulse (.mapPort h)) (.mapPort h)

theorem State.tasksOk.synLine {kind : Byte} (h : s.tasksOk) : (s.synLine kind).tasksOk := .lineLevel h

theorem State.tasksOk.portUnlock {p : PortId} (h : s.tasksOk) : (s.portUnlock p).tasksOk := .abortBurst (.trackFreeze (.mapPort h))

theorem State.tasksOk.coreFreq {f : BitVec 2} (h : s.tasksOk) : (s.coreFreq f).tasksOk := .ite h (.update h rfl)

/-! Windows, contexts and worker cores (R392 to R396). -/

theorem State.tasksOk.takeOff {t : Nat} (h : s.tasksOk) : (s.takeOff t).tasksOk := by
  unfold State.takeOff
  split
  next k found =>
    split
    · exact h.put rfl rfl (h.task found : k.ok)
    · exact h
  · exact h

theorem State.tasksOk.startWindow {len : Nat} (h : s.tasksOk) : (s.startWindow len).tasksOk :=
  .place (.foldl (fun _ _ h1 => .takeOff h1) (.update h rfl))

theorem State.tasksOk.shortWindow (h : s.tasksOk) : s.shortWindow.tasksOk := .startWindow (.update h rfl)

theorem Out.Sound.taskTimeslice {t : TaskId} (h : s.tasksOk) : (execTaskTimeslice t s).Sound := by
  unfold Machine.execTaskTimeslice
  refine .next ?_
  split
  · split
    · exact .ite (.place (.takeOff h)) h
    · exact h
  · exact h

theorem State.tasksOk.moveCtx {b : Nat × Nat} (h : s.tasksOk) : (s.moveCtx b).tasksOk := by
  dsimp only [State.moveCtx]
  split
  · exact .update (.update h rfl) rfl
  · exact .mapPart (.update h rfl)

theorem Out.Sound.workerCoreFault {core : CoreId} (h : s.tasksOk) : (execWorkerCoreFault core s).Sound := by
  refine .whenDo h ?_
  extract_lets on s1 cpu s2 s3 s4 s5
  have moved : s3.tasksOk := .foldl (fun _ _ h1 => .moveCtx h1) (.update (.codedFault (.linePulse h)) rfl)
  have ended : s4.tasksOk := .foldl_mem (fun _ x hx h1 => .exception h1 (h.1 x (List.mem_of_mem_filter hx)).pc) moved
  have placed : s5.tasksOk := .place (.linePulse ended)
  exact .ite (.enterWatch placed) placed

theorem State.tasksOk.takeMode {m : Mode} (h : s.tasksOk) : (s.takeMode m).tasksOk :=
  .ite (.changeMode (.nextBoundary h)) (.nextBoundary h)

theorem Out.Sound.modeTransition (h : s.tasksOk) : (execModeTransition s).Sound := by
  unfold Machine.execModeTransition
  refine .next ?_
  split
  · exact .ite (.takeMode h) h
  · exact h

/-! The time unit (R246 to R266). -/

theorem State.tasksOk.stepTime {fab : Nat} (h : s.tasksOk) : (s.stepTime fab).tasksOk := .shortWindow (.log (.linePulse (.update h
    rfl)))

theorem State.tasksOk.follow {num den : Int} (h : s.tasksOk) : (s.follow num den).tasksOk := .ite (.stepTime h) (.update (.useFree h)
    rfl)

theorem State.tasksOk.headTrace (h : s.tasksOk) : s.headTrace.tasksOk := .ite (.update h rfl) h

theorem State.tasksOk.offsetSeen {num den : Int} (h : s.tasksOk) : (s.offsetSeen num den).tasksOk := .follow (.headTrace (.update h
    rfl))

theorem Out.Sound.tsuSetApply (h : s.tasksOk) : (execTsuSetApply s).Sound := by
  unfold Machine.execTsuSetApply
  refine .next ?_
  split
  · exact .ite (.timeBaseChanged (.stepTime (.update (.passTime h) rfl))) (.stepTime (.update (.passTime h) rfl))
  · exact h

theorem State.tasksOk.selectMaster {l : List (PtpAnnounce × Nat)} (h : s.tasksOk) : (s.selectMaster l).tasksOk := .update h rfl

theorem State.tasksOk.ppsFail (h : s.tasksOk) : s.ppsFail.tasksOk := .ite (.loseSource (.update h rfl)) (.update h rfl)

theorem State.tasksOk.setPhase {o : Int} (h : s.tasksOk) : (s.setPhase o).tasksOk :=
  .ite (.stepTime (.headTrace (.update h rfl))) (.update (.headTrace (.update h rfl)) rfl)

/-! Power, HALT and reset (R429 to R444). -/

theorem State.tasksOk.setDepth {core : CoreId} {d : BitVec 2} (h : s.tasksOk) : (s.setDepth core d).tasksOk :=
  .ite (.count (.update h rfl)) (.update h rfl)

theorem State.tasksOk.powerStep {f : State → State} (hf : ∀ u, u.tasksOk → (f u).tasksOk) (h : s.tasksOk) :
    (s.powerStep f).tasksOk := .ite (hf _ (.nextBoundary h)) (.nextBoundary h)

theorem State.tasksOk.pwrLine {kind : Byte} (h : s.tasksOk) : (s.pwrLine kind).tasksOk := .lineLevel h

theorem State.tasksOk.loseFeed {b : Bool} (h : s.tasksOk) : (s.loseFeed b).tasksOk := .log (.pwrLine (.update h rfl))

theorem State.tasksOk.gainFeed {b : Bool} (h : s.tasksOk) : (s.gainFeed b).tasksOk := .pwrLine (.update h rfl)

theorem State.tasksOk.commitRecords (h : s.tasksOk) : s.commitRecords.tasksOk := .foldl (fun _ _ h1 => .commitRecord h1) h

/-- A reset leaves no task, and the entry of `State.reset` (R387). -/
theorem State.tasksOk.toReset : s.toReset.tasksOk := State.reset_tasksOk.same rfl rfl

theorem Out.Sound.rstAssert (h : s.tasksOk) : (execRstAssert s).Sound := .next (.ite (.update h rfl) .toReset)

theorem State.tasksOk.beginBoot {sel : BitVec 2} (h : s.tasksOk) : (s.beginBoot sel).tasksOk :=
  .startElection (.returnKept (.bootCharter (.update h rfl)))

theorem Out.Sound.powerLossComplete (h : s.tasksOk) : (execPowerLossComplete s).Sound :=
  .whenDo h (.ite (.update (.flushKeep (.commitRecords h)) rfl) .toReset)

theorem Out.Sound.holdupExhausted (h : s.tasksOk) : (execHoldupExhausted s).Sound := .whenDo h (.update .toReset rfl)

/-! The thermal manager (R445 to R455). -/

theorem State.tasksOk.replaceBroken (h : s.tasksOk) : s.replaceBroken.tasksOk := .useFree (.update h rfl)

theorem State.tasksOk.markBroken {k : Fin 12} (h : s.tasksOk) : (s.markBroken k).tasksOk := .log (.linePulse (.update h rfl))

theorem State.tasksOk.checkDiodes (h : s.tasksOk) : s.checkDiodes.tasksOk :=
  .pwrLine (.replaceBroken (.foldl (fun _ _ h1 => .markBroken h1) (.update h rfl)))

theorem State.tasksOk.checkWarn {t : Int} (h : s.tasksOk) : (s.checkWarn t).tasksOk :=
  .ite (.ite h (.log (.pwrLine (.update h rfl)))) (.ite (.pwrLine (.update h rfl)) h)

theorem State.tasksOk.throttleUp (h : s.tasksOk) : s.throttleUp.tasksOk := .ite (.coreFreq (.update h rfl)) (.update h rfl)

theorem State.tasksOk.throttleDown (h : s.tasksOk) : s.throttleDown.tasksOk :=
  .ite (.update (.ite (.coreFreq (.update h rfl)) (.update h rfl)) rfl) h

theorem State.tasksOk.checkThrottle {t : Int} (h : s.tasksOk) : (s.checkThrottle t).tasksOk :=
  .ite (.throttleUp h) (.ite (.throttleDown h) h)

theorem State.tasksOk.enterHalt {t : Int} (h : s.tasksOk) : (s.enterHalt t).tasksOk :=
  .log (.linePulse (.enterMode (.foldl (fun _ _ h1 => .dropLink h1) (.update (.endAllTasks (.mapPorts h)) rfl))))

theorem State.tasksOk.checkShut {t : Int} (h : s.tasksOk) : (s.checkShut t).tasksOk :=
  .ite (.ite (.update h rfl) (.enterHalt (.update h rfl))) (.ite (.update h rfl) h)

theorem State.tasksOk.checkRemote (h : s.tasksOk) : s.checkRemote.tasksOk :=
  .ite (.ite (.update h rfl) h) (.ite h (.foldl (fun _ _ h1 => .log h1) (.update h rfl)))

theorem State.tasksOk.checkBand {t : Int} (h : s.tasksOk) : (s.checkBand t).tasksOk :=
  .ite (.update h rfl) (.ite (.ite (.update h rfl) (.update h rfl)) (.update h rfl))

theorem State.tasksOk.endRound (h : s.tasksOk) : s.endRound.tasksOk := by
  dsimp only [State.endRound]
  split
  · exact .checkRemote (.update (.checkDiodes h) rfl)
  · exact .checkShut (.checkBand (.checkRemote (.checkThrottle (.checkWarn (.update (.checkDiodes h) rfl)))))

theorem State.tasksOk.triggerScan {isRound : Bool} (h : s.tasksOk) : (s.triggerScan isRound).tasksOk := by
  dsimp only [State.triggerScan]
  split
  · exact .update h rfl
  · exact .update h rfl
  · exact .linePulse (.update h rfl)

/-! The host port (R405 to R426). -/

theorem State.tasksOk.busClosed (h : s.tasksOk) : s.busClosed.tasksOk := .ite h (.update h rfl)

theorem State.tasksOk.drive16 {v : Nat} (h : s.tasksOk) : (s.drive16 v).tasksOk := .update h rfl

theorem State.tasksOk.hostViolation (h : s.tasksOk) : s.hostViolation.tasksOk := .update h rfl

theorem State.tasksOk.putLine {k : Nat} {bs : List Byte} (h : s.tasksOk) : (s.putLine k bs).tasksOk := .update h rfl

theorem State.tasksOk.lineSeen {k : Nat} (h : s.tasksOk) : (s.lineSeen k).tasksOk := by
  unfold State.lineSeen
  split
  · split
    · split
      · exact .ite (.putLine (.useFree h)) (.useFree h)
      · exact h
    · exact h
  · exact h

theorem State.tasksOk.readBuffer {a : Nat} (h : s.tasksOk) : (s.readBuffer a).tasksOk :=
  .ite (.drive16 h) (.ite (.drive16 h) (.drive16 (.lineSeen h)))

theorem State.tasksOk.readEffect {a : Nat} (h : s.tasksOk) : (s.readEffect a).tasksOk :=
  .ite (.mapPort h) (.ite (.update h rfl) (.ite (.update h rfl) h))

theorem State.tasksOk.hostRead {a : Nat} (h : s.tasksOk) : (s.hostRead a).tasksOk := by
  unfold State.hostRead
  split
  · exact .busClosed h
  · split
    · exact .readBuffer h
    · split
      · exact .readEffect (.drive16 h)
      · split
        · exact .drive16 (.ite (.update h rfl) h)
        · exact .hostViolation (.drive16 h)

theorem State.tasksOk.writeSlot {a : Nat} {d : BitVec 16} (h : s.tasksOk) : (s.writeSlot a d).tasksOk :=
  .ite (.ite (.useFree (.update h rfl)) (.update h rfl)) (.ite (.useFree (.update h rfl)) (.update h rfl))

theorem State.tasksOk.igo (h : s.tasksOk) : s.igo.tasksOk := .ite h (.unannounced (.update h rfl))

theorem State.tasksOk.odone (h : s.tasksOk) : s.odone.tasksOk := .ite h (.unannounced (.update h rfl))

theorem State.tasksOk.returnSlot (h : s.tasksOk) : s.returnSlot.tasksOk := .update h rfl

theorem Out.Sound.outboundReady (h : s.tasksOk) : (execOutboundReady s).Sound := by
  unfold Machine.execOutboundReady
  refine .next ?_
  split
  · exact h
  · exact .ite (.setBox (.update h rfl)) h

theorem State.tasksOk.lineBegun {r : Word} {x : AprLine} (h : s.tasksOk) : (s.lineBegun r x).tasksOk := by
  unfold State.lineBegun
  split
  · exact .touch (.readErrors h)
  · exact .ite (.readErrors h) h
  · split
    · exact .askDiscard h
    · exact h
  · exact h

theorem State.tasksOk.aprStart {fill : Bool} {line cnt : Fin 128} (h : s.tasksOk) : (s.aprStart fill line cnt).tasksOk :=
  .ite (.update h rfl) (.ite (.update h rfl) (.ite (.update h rfl) (.foldl (fun _ _ h1 => .lineBegun h1) (.unannounced (.update h
    rfl)))))

theorem State.tasksOk.endLine {fill : Bool} {remote : List RemoteLine} {x : Nat × AprLine} (h : s.tasksOk) : (s.endLine fill remote
    x).tasksOk := by
  unfold State.endLine
  split
  · exact .putLine (.ite (.hostViolation h) h)
  · exact .storeBytes (.ite (.hostViolation h) h)
  · split
    · exact .ite (.putLine (.ite (.hostViolation h) h)) (.ite (.putLine (.ite (.hostViolation h) h)) (.ite (.hostViolation h) h))
    · exact .ite (.hostViolation h) h
  · exact .ite (.putLine (.ite (.hostViolation h) h)) (.ite (.hostViolation h) h)
  · exact .ite (.hostViolation h) h

theorem State.tasksOk.goBoot (h : s.tasksOk) : s.goBoot.tasksOk := .ite (.update h rfl) h

theorem State.tasksOk.clearStatus {a : Nat} {d : BitVec 16} (h : s.tasksOk) : (s.clearStatus a d).tasksOk :=
  .ite (.update h rfl) (.ite (.update h rfl) (.ite (.update h rfl) (.ite (.mapPort h) (.ite (.update h rfl) (.ite (.mapLink h) (.ite
    (.update h rfl) (.ite (.update h rfl) (.ite (.update h rfl) (.ite (.update h rfl) (.update h rfl))))))))))

theorem State.tasksOk.writeHpi {a : Nat} {d : BitVec 16} (h : s.tasksOk) : (s.writeHpi a d).tasksOk :=
  .ite (.update h rfl) (.ite (.update h rfl) (.ite (.update h rfl) (.ite (.update h rfl) (.ite (.ite (.odone (.ite (.igo (.update h
    rfl)) (.update h rfl))) (.ite (.igo (.update h rfl)) (.update h rfl))) (.ite (.ite (.aprStart h) h) (.ite (.update h rfl) (.ite
    (.update h rfl) (.ite (.ite (.goBoot h) h) (.clearStatus h)))))))))

theorem State.tasksOk.commitWide {b : Nat} {ws : List (Nat × Nat)} (h : s.tasksOk) : (s.commitWide b ws).tasksOk :=
  .ite (.stickyClear h) (.ite (.update h rfl) (.ite (.update h rfl) h))

theorem State.tasksOk.writeWide {b n a : Nat} {d : BitVec 16} (h : s.tasksOk) : (s.writeWide b n a d).tasksOk :=
  .ite (.commitWide (.update h rfl)) (.update h rfl)

theorem State.tasksOk.applyWrite {a : Nat} {d : BitVec 16} (h : s.tasksOk) : (s.applyWrite a d).tasksOk := by
  unfold State.applyWrite
  split
  · exact .ite (.writeSlot h) (.ite (.update h rfl) (.update h rfl))
  · split
    · exact .writeWide h
    · exact .writeHpi h

theorem Out.Sound.hostWriteApply (h : s.tasksOk) : (execHostWriteApply s).Sound := by
  unfold Machine.execHostWriteApply
  refine .next ?_
  split
  · exact h
  · exact .applyWrite (.update h rfl)

/-! The recorder (R463 to R487). -/

theorem Out.Sound.perfSample {t : TaskId} {pc : Word} (h : s.tasksOk) : (execPerfSample t pc s).Sound := by
  unfold Machine.execPerfSample
  refine .next ?_
  split
  · exact h
  · split
    · split
      · exact .ite (.ite (.mapPart (.storeBytes (.update h rfl))) (.mapPart (.update h rfl))) h
    · exact h

theorem State.tasksOk.writeSamp {p : PartId} {v : Word} (h : s.tasksOk) : (s.writeSamp p v).tasksOk := .mapPart (.ite (.update h rfl) h)

theorem State.tasksOk.emit {p : PartId} {v : Word} (h : s.tasksOk) : (s.emit p v).tasksOk := .ite (.logFull h) h

theorem State.tasksOk.clearPerm (h : s.tasksOk) : s.clearPerm.tasksOk := .log (.update h rfl)

theorem State.tasksOk.readPiece {t : Nat} {gd : Reg} (h : s.tasksOk) : (s.readPiece t gd).tasksOk := .finish (.update h rfl)

/-! Boot (R490 to R494, R529, R530). -/

theorem State.tasksOk.runImage {b : List Byte} {source : Nat} (h : s.tasksOk) : (s.runImage b source).tasksOk := by
  unfold State.runImage
  extract_lets s0 _ _ s1 s2
  have entry : s0.pw = s.pw := by
    unfold s0
    split
    · rfl
    · rfl
  have started : s2.tasksOk := .startWarden (.enterMode (.placeImage (h.same rfl (congrArg PartWords.entry entry))))
  exact .ite (.enterWatch started) started

theorem State.tasksOk.hostReady (h : s.tasksOk) : s.hostReady.tasksOk := .update h rfl

theorem State.tasksOk.bootHost (h : s.tasksOk) : s.bootHost.tasksOk := .ite (.runImage (.update h rfl)) (.hostReady (.update h rfl))

theorem Out.Sound.imageVerified (h : s.tasksOk) : (execImageVerified s).Sound := by
  unfold Machine.execImageVerified
  refine .whenDo h ?_
  split
  · exact h
  · split
    · exact .bootHost h
    · split
      · split
        · exact .runImage h
        · exact .hostReady h
      · exact .ite (.ite (.runImage h) h) h

theorem State.tasksOk.writeFabCfg {v : Word} (h : s.tasksOk) : (s.writeFabCfg v).tasksOk := .update h rfl

theorem State.tasksOk.sourceChanged (h : s.tasksOk) : s.sourceChanged.tasksOk :=
  .timeBaseChanged (.ite (.loseSource (.update h rfl)) (.update (.update h rfl) rfl))

theorem State.tasksOk.writeTsuCfg {v : Word} (h : s.tasksOk) : (s.writeTsuCfg v).tasksOk :=
  .ite (.sourceChanged (.update h rfl)) (.update h rfl)

theorem State.tasksOk.writeAsym {v : Word} (h : s.tasksOk) : (s.writeAsym v).tasksOk := .update h rfl

theorem State.tasksOk.writeThmCfg {v : Word} (h : s.tasksOk) : (s.writeThmCfg v).tasksOk := .ite h (.update h rfl)

theorem State.tasksOk.adoptWords {p : Personality} (h : s.tasksOk) : (s.adoptWords p).tasksOk :=
  .update (.writeThmCfg (.writeAsym (.writeTsuCfg (.writeFabCfg h)))) rfl

theorem Out.Sound.personalityOfferRx {o : ReplicaOffer} (h : s.tasksOk) : (execPersonalityOfferRx o s).Sound := by
  unfold Machine.execPersonalityOfferRx
  refine .whenDo h ?_
  split
  · exact .ite h (.startElection (.update (.adoptWords h) rfl))
  · exact .ite h (.log (.update (.adoptWords h) rfl))

/-! Jumps (R313 to R315). -/

theorem Out.Sound.jump {t : TaskId} {link : Option Reg} {target : Task → Word} (h : s.tasksOk)
    (ht : ∀ k, k.ok → (target k).toNat % 4 = 0) : (jump t link target s).Sound := by
  refine .onRunning (fun k _ hk h1 => .goto (.countFor (.countInstr ?_)) (ht k hk)) h
  split
  · exact .putReg h1
  · exact h1

theorem Out.Sound.j {t : TaskId} {off : BitVec 26} (h : s.tasksOk) : (execJ t off s).Sound :=
  .jump h fun _ hk => word_branch_aligned hk.pc _

theorem Out.Sound.jal {t : TaskId} {off : BitVec 26} (h : s.tasksOk) : (execJal t off s).Sound :=
  .jump h fun _ hk => word_branch_aligned hk.pc _

theorem Out.Sound.jalr {t : TaskId} {gd ga : Reg} {imm : BitVec 16} (h : s.tasksOk) : (execJalr t gd ga imm s).Sound :=
  .jump h fun _ _ => word_mask_aligned _

/-! Global accesses (R320 to R324). -/

theorem State.tasksOk.freeStores {p : PartId} (h : s.tasksOk) : (s.freeStores p).tasksOk :=
  .foldl (fun _ _ h1 => .ite (.storeBytes h1) h1) (.useFree h)

theorem State.tasksOk.bumpSeq {t : Nat} (h : s.tasksOk) : (s.bumpSeq t).tasksOk := by
  unfold State.bumpSeq
  split
  next k found => exact .setTask h (h.task found : k.ok)
  · exact h

theorem State.tasksOk.globalFree {t : TaskId} {gd : Reg} {o : GlobalOp} {k : Task} (h : s.tasksOk) : (globalFree t gd o k s).tasksOk :=
  .ite (.next (.ite h (.freeStores h))) (.finish (.useFree (.ite h (.freeStores h))))

theorem State.tasksOk.globalReply {t : TaskId} {gd : Reg} {o : GlobalOp} {k : Task} {r : HomeReply} (h : s.tasksOk) (hk : k.ok) :
    (globalReply t gd o k r s).tasksOk :=
  .ite (.ite (.next h) (.finish h)) (.ite (.violate h) (.exception h hk.pc))

theorem State.tasksOk.counted {o : GlobalOp} {k : Task} (h : s.tasksOk) : (o.counted k s).tasksOk := .countFor h

theorem State.tasksOk.globalHere {t : TaskId} {gd : Reg} {o : GlobalOp} {k : Task} (h : s.tasksOk) (hk : k.ok) :
    (globalHere t gd o k s).tasksOk := by
  unfold Machine.globalHere
  extract_lets s1
  have drained : s1.tasksOk := .drain h
  split
  · exact .makeWait drained
  · refine .ite (.makeWait drained) ?_
    extract_lets q s2 s3
    have opened : s2.tasksOk := .bumpSeq (.openTag (.counted drained))
    have told : s3.tasksOk := .ite (.noteStore opened) (.taughtAt opened)
    refine .ite (.ite (.next (.homePark told)) (.makeWait (.homePark told))) ?_
    have served := State.tasksOk.serveHome (q := q) told
    exact .ite (.globalReply (.useFree (.setTag served)) hk) (.globalReply (.setTag served) hk)

theorem State.tasksOk.replicaLoad {t : TaskId} {gd : Reg} {o : GlobalOp} {k : Task} {r : Replica} (h : s.tasksOk) (hk : k.ok) :
    (replicaLoad t gd o k r s).tasksOk := by
  unfold Machine.replicaLoad
  split
  · exact .makeWait h
  · exact .ite (.exception (.update (.setTag (.openTag (.counted h))) rfl) hk.pc) (.finish (.update (.setTag (.openTag (.counted h)))
    rfl))

theorem State.tasksOk.globalAway {t : TaskId} {gd : Reg} {o : GlobalOp} {k : Task} (h : s.tasksOk) : (globalAway t gd o k s).tasksOk :=
    by
  unfold Machine.globalAway
  split
  · exact .makeWait h
  · exact .ite (.next (.sendPacket (.bumpSeq (.openTag (.counted (.ite (.update h rfl) h)))))) (.makeWait (.sendPacket (.bumpSeq
    (.openTag (.counted (.ite (.update h rfl) h))))))

theorem State.tasksOk.globalAccess {t : TaskId} {gd : Reg} {o : GlobalOp} {k : Task} (h : s.tasksOk) (hk : k.ok) : (globalAccess t gd o
    k s).tasksOk := by
  unfold Machine.globalAccess
  split
  · exact .violate h
  · split
    · exact .globalFree (.counted h)
    · split
      · exact .makeWait h
      · split
        · exact .globalHere h hk
        · split
          · exact .ite (.next (.storeError (.bumpSeq (.counted h)))) (.exception (.counted h) hk.pc)
          · split
            · exact .replicaLoad h hk
            · exact .globalAway h

theorem Out.Sound.globalLoad {t : TaskId} {gd ga : Reg} {imm : BitVec 16} {n : Nat} {signed : Bool} (h : s.tasksOk) : (globalLoad t gd
    ga imm n signed s).Sound :=
  .onEngine (fun _ _ hk h1 => .globalAccess h1 hk) h

theorem Out.Sound.globalStore {t : TaskId} {gd ga : Reg} {imm : BitVec 16} {n : Nat} (h : s.tasksOk) : (globalStore t gd ga imm n
    s).Sound :=
  .onEngine (fun _ _ hk h1 => .globalAccess h1 hk) h

theorem Out.Sound.atomic {t : TaskId} {gd ga gb : Reg} {op : Fin 5} {n : Nat} (h : s.tasksOk) : (atomic t gd ga gb op n s).Sound :=
  .onEngine (fun _ _ hk h1 => .globalAccess h1 hk) h

/-! Local accesses (R316 to R319). -/

theorem Out.Sound.localLoad {t : TaskId} {gd ga : Reg} {imm : BitVec 16} {n : Nat} {ext : Nat → Word} (h : s.tasksOk) : (localLoad t gd
    ga imm n ext s).Sound :=
  .onRunning (fun _ _ hk h1 => .ite (.ite (.makeWait h1) (.ite (.exception (.readErrors h1) hk.pc) (.ite (.finish (.useFree (.taughtAt
    (.countFor (.touchRange (.readErrors h1)))))) (.finish (.taughtAt (.countFor (.touchRange (.readErrors h1)))))))) (.violate h1)) h

theorem Out.Sound.localStore {t : TaskId} {gd ga : Reg} {imm : BitVec 16} {n : Nat} (h : s.tasksOk) : (localStore t gd ga imm n s).Sound
    :=
  .onRunning (fun _ _ hk h1 => .ite (.ite (.makeWait h1) (.next (.noteStore (.countFor (.setTask h1 hk))))) (.violate h1)) h

/-! Cells, reports and the TAP bridge (R208, R213 to R220). -/

theorem State.tasksOk.beginPacket {l : ChainId} {c : Cell} (h : s.tasksOk) : (s.beginPacket l c).tasksOk :=
  .ite (.update (.firstCopy h) rfl) (.firstCopy h)

theorem State.tasksOk.reportRx {l : ChainId} {m : BitVec 128} (h : s.tasksOk) : (s.reportRx l m).tasksOk :=
  .ite (.placeFault h) (.holdFault h)

theorem State.tasksOk.learn {v : BitVec 12} {a : Mac} {n : NodeId} (h : s.tasksOk) : (s.learn v a n).tasksOk := .update h rfl

theorem State.tasksOk.tapSend {v : BitVec 12} {f : EthFrame} (h : s.tasksOk) : (s.tapSend v f).tasksOk := .ite (.update h rfl) h

theorem State.tasksOk.frameRx {src : NodeId} {body : List Byte} (h : s.tasksOk) : (s.frameRx src body).tasksOk :=
  .ite (.count h) (.ite (.arriveMsg (.learn h)) (.tapSend (.learn h)))

theorem State.tasksOk.ptpForward {f : EthFrame} (h : s.tasksOk) : (s.ptpForward f).tasksOk := .ite h (.sendPacket h)

theorem State.tasksOk.ptpLeave {body : List Byte} (h : s.tasksOk) : (s.ptpLeave body).tasksOk := .ite h (.update h rfl)

theorem Out.Sound.tapFrameRx {f : EthFrame} (h : s.tasksOk) : (execTapFrameRx f s).Sound := by
  dsimp only [Machine.execTapFrameRx]
  refine .whenDo h ?_
  split
  · exact .count h
  · split
    · exact .ptpForward h
    · split
      · exact .count h
      · split
        · exact .arriveMsg (.learn h)
        · split
          · exact .ite (.learn h) (.sendPacket (.learn h))
          · exact .sendPacket (.learn h)

theorem State.tasksOk.takePacket {l : ChainId} {c : Cell} {body : List Byte} (h : s.tasksOk) : (s.takePacket l c body).tasksOk := by
  unfold State.takePacket
  split
  · exact .messageRx h
  · exact .frameRx h
  · exact .ptpLeave h
  · exact .reportRx h
  · exact h

theorem State.tasksOk.takeCell {l : ChainId} {c : Cell} (h : s.tasksOk) : (s.takeCell l c).tasksOk := by
  dsimp only [State.takeCell]
  split
  · exact h
  · exact .ite (.takePacket (.update h rfl)) (.update h rfl)

theorem State.tasksOk.forwardOn {l m : ChainId} {c : Cell} (h : s.tasksOk) : (s.forwardOn l m c).tasksOk :=
  .ite (.queueOn (.update h rfl)) (.ite (.count h) h)

theorem State.tasksOk.forwardCell {l : ChainId} {c : Cell} (h : s.tasksOk) : (s.forwardCell l c).tasksOk :=
  .ite (.count h) (.ite (.deadEnd h) (.foldl (fun _ _ h1 => .forwardOn h1) h))

/-! System words (R287 to R291, R330, R331). -/

theorem State.tasksOk.excReturn {t : Nat} (h : s.tasksOk) : (s.excReturn t).tasksOk := by
  unfold State.excReturn
  split
  · exact h
  next k found => exact .goto (.setTask (.countInstr (.update h rfl)) (h.task found : k.ok)) (word_mask_aligned _)

theorem State.tasksOk.mapTabs {p : PartId} {f : Tables → Tables} (h : s.tasksOk) : (s.mapTabs p f).tasksOk := .mapPart h

theorem State.tasksOk.readTap {t : Nat} {k : Task} {gd : Reg} (h : s.tasksOk) : (s.readTap t k gd).tasksOk := by
  unfold State.readTap
  split
  · exact .violate h
  · exact .ite (.finish (.mapTabs h)) (.finish (.useFree (.mapTabs h)))

theorem State.tasksOk.freeTaps {c : Nat} (h : s.tasksOk) : (s.freeTaps c).tasksOk := .useFree (.mapSlot h)

theorem State.tasksOk.writeTap {t : Nat} {k : Task} {v : Word} (h : s.tasksOk) : (s.writeTap t k v).tasksOk := by
  unfold State.writeTap
  split
  · exact .violate h
  · exact .next (.ite (.freeTaps (.mapTabs h)) (.ite (.mapSlot (.invalidate (.mapTabs h))) (.mapTabs h)))

theorem State.tasksOk.writeTapCfg {v : Word} (h : s.tasksOk) : (s.writeTapCfg v).tasksOk :=
  .ite (.dropLink (.update h rfl)) (.update h rfl)

theorem State.tasksOk.writeVlan {v : Word} (h : s.tasksOk) : (s.writeVlan v).tasksOk := .update h rfl

theorem State.tasksOk.writeHpiCfg {v : Word} (h : s.tasksOk) : (s.writeHpiCfg v).tasksOk := .update h rfl

theorem State.tasksOk.writePol {v : Word} (h : s.tasksOk) : (s.writePol v).tasksOk :=
  .ite (.update h rfl) (.ite (.update h rfl) (.coreFreq (.update h rfl)))

theorem State.tasksOk.writeHka {v : Word} (h : s.tasksOk) : (s.writeHka v).tasksOk := .ite (.triggerScan (.update h rfl)) (.update h
    rfl)

theorem State.tasksOk.writeSlotCmd {v : Word} (h : s.tasksOk) : (s.writeSlotCmd v).tasksOk :=
  .ite (.startOp h) (.ite (.startOp h) (.ite (.startOp h) (.ite (.startOp h) (.ite (.startOp h) (.ite (.startOp h) h)))))

theorem State.tasksOk.seeCuff {n : SubId} (h : s.tasksOk) : (s.seeCuff n).tasksOk := .update h rfl

theorem State.tasksOk.sysRead {t : Nat} {k : Task} {gd : Reg} {i : Nat} (h : s.tasksOk) : (s.sysRead t k gd i).tasksOk :=
  .ite (.finish (.mapTabs h)) (.ite (.finish (.mapTabs h)) (.ite (.readTap h) (.ite (.readPiece h) (.ite (.finish (.useFree h)) (.ite
    (.finish (.seeCuff h)) (.ite (.finish h) (.finish h)))))))

theorem State.tasksOk.undefWord {t : Nat} (h : s.tasksOk) : (s.undefWord t).tasksOk := by
  dsimp only [State.undefWord]
  have undef : (s.undefTask t).tasksOk := .undefTask h
  split
  next k found => exact .goto undef (undef.task found).pc
  · exact undef

theorem State.tasksOk.mapTask {t : Nat} {f : Task → Task} (h : s.tasksOk) (hf : ∀ k, k.ok → (f k).ok) : (s.mapTask t f).tasksOk := by
  unfold State.mapTask
  split
  next k found => exact .setTask h (hf k (h.task found))
  · exact h

theorem State.tasksOk.writeTaskWord {t : Nat} {k : Task} {i : Nat} {v : Word} (h : s.tasksOk) : (s.writeTaskWord t k i v).tasksOk := by
  have excPc : (s.mapTask t fun k => { k with excPc := v }).tasksOk := .mapTask h fun _ hk => hk
  have evec : (s.mapTask t fun k => { k with evec := v &&& ~~~3#64 }).tasksOk :=
    .mapTask h fun _ hk => ⟨hk.1, hk.pc, word_mask_aligned v⟩
  exact .ite excPc (.ite evec (.ite (.mapPart h) (.ite (.writeSamp h) (.ite (.mapPart h) (.ite (.mapTabs h) (.ite (.mapTabs h)
    (.ite (.mapTabs h) (.ite (.mapTabs h) (.ite (.mapTabs h) (.ite (.emit h) (.ite (.mapTabs h) h)))))))))))

theorem State.tasksOk.writeObsWord {i : Nat} {v : Word} (h : s.tasksOk) : (s.writeObsWord i v).tasksOk :=
  .ite (.stickyClear h) (.ite (.update h rfl) (.ite (.update h rfl) (.ite (.update h rfl) (.ite (.update h rfl) (.ite (.ite (.clearPerm
    h) h) h)))))

theorem State.tasksOk.writePartWord {i : Nat} {v : Word} (h : s.tasksOk) : (s.writePartWord i v).tasksOk :=
  .ite (.writePartSel h) (.ite (.writeGrant h) (.ite (.writeGrant h) (.ite (.writeGrant h) (.ite ⟨h.1, word_mask_aligned v⟩
    (.ite (.same h rfl rfl) (.ite (.writePartAlloc h) h))))))

theorem State.tasksOk.writeWardenWord {i : Nat} {v : Word} (h : s.tasksOk) : (s.writeWardenWord i v).tasksOk :=
  .ite (.writeSarm h) (.ite (.ite (.startElection (.writeFabCfg h)) (.writeFabCfg h)) (.ite (.update h rfl) (.ite (.writeTapCfg h) (.ite
    (.writeVlan h) (.ite (.writeTsuCfg h) (.ite (.ite (.timeBaseChanged (.update h rfl)) h) (.ite (.writeAsym h) (.ite (.writeHpiCfg h)
    (.ite (.writePol h) (.ite (.update h rfl) (.ite (.writeThmCfg h) (.ite (.writeHka h) (.ite (.update h rfl) (.ite (.writeSlotCmd h)
    (.ite (.writePartWord h) (.writeObsWord h))))))))))))))))

theorem State.tasksOk.sysWrite {t : Nat} {k : Task} {i : Nat} {v : Word} (h : s.tasksOk) : (s.sysWrite t k i v).tasksOk :=
  .ite (.ite (.excReturn h) (.next h)) (.ite (.writeTap h) (.ite (.next (.writeTaskWord h)) (.next (.writeWardenWord h))))

/-! Frames on chain links (R196, R213). -/

theorem State.tasksOk.asksSent {l : ChainId} (h : s.tasksOk) : (s.asksSent l).tasksOk := .ite (.update h rfl) h

theorem State.tasksOk.sendFrame {l : ChainId} (h : s.tasksOk) : (s.sendFrame l).tasksOk := .ite (.asksSent (.mapLink h)) h

theorem State.tasksOk.sendOne {l : ChainId} (h : s.tasksOk) : (s.sendOne l).tasksOk := by
  unfold State.sendOne
  split
  · split
    · exact h
    · exact .countBy (.mapLink (.update h rfl))
  · exact h

/-! Reserved encodings (R307). -/

theorem State.tasksOk.runReserved {t : TaskId} (h : s.tasksOk) : (s.runReserved t).tasksOk := .ite (.undefTask h) h

/-! The engine's own cycle (log 5). -/

theorem State.tasksOk.passCycle (h : s.tasksOk) : s.passCycle.tasksOk := .ite h (.advance h)

theorem State.tasksOk.keyFalls {p : PortId} (h : s.tasksOk) : (s.keyFalls p).tasksOk := by
  dsimp only [State.keyFalls]
  split
  · exact h
  · split
    · exact .ite (.mapPort h) h
    · exact h

theorem State.tasksOk.ownWork (h : s.tasksOk) : s.ownWork.tasksOk :=
  .place (.timeCommits (.serveBoxes (.wakeRetries (.homeRetry (.drainLate (.foldl (fun _ _ h3 => .drainSome (.runReserved h3)) (.foldl
    (fun _ _ h2 => .sendOne (.sendFrame h2)) (.foldl (fun _ _ h1 => .keyFalls h1) h))))))))

theorem State.tasksOk.upset (h : s.tasksOk) : s.upset.tasksOk := .update h rfl

theorem State.tasksOk.tick (h : s.tasksOk) : s.tick.tasksOk := .ite (.passCycle h) (.upset (.ownWork (.passCycle h)))

/-- Every command leaves the tasks sound: by cases on the command, each arm by the operations that it is made of. -/
theorem exec_sound (c : Instr) (h : s.tasksOk) : Out.Sound (exec c s) := by
  unfold exec
  cases c with
  | addR | subR | adds | subs | addus | subus | mulR | mulh | mulhu | divS | divu | remS | remu | minS | maxS | andR | orR | xorR | andn
    | slt | sltu | sll | srl | sra | addW | subW | addsW | subsW | addusW | subusW | mulW | divW | divuW | remW | remuW | sllW | srlW |
    sraW =>
    exact .regReg h
  | slli | srli | srai | slliW | srliW | sraiW | addi | andi | ori | xori | slti | sltiu | lui | ihw2 | addiW | ihw3 => exact .regImm h
  | ldB | ldBu | ldH | ldHu | ldW | ldWu | ldD => exact .localLoad h
  | stB | stH | stW | stD => exact .localStore h
  | gldB | gldBu | gldH | gldHu | gldW | gldWu | gldD => exact .globalLoad h
  | gstB | gstH | gstW | gstD => exact .globalStore h
  | aaddW | aaddD | aswapW | aswapD | acasW | acasD => exact .atomic h
  | beq | bne | blt | bge | bltu | bgeu => exact .branch h
  | j => exact .j h
  | jal => exact .jal h
  | jalr => exact .jalr h
  | fenceL => exact .onRunning (fun _ _ _ h1 => .ite (.next (.publish (.drain h1))) (.makeWait (.drain h1))) h
  | fenceG => exact .onRunning (fun _ _ hk h1 => .fenceDone (fun _ h2 => .next (.publish h2)) h1 hk) h
  | fenceI => exact .onRunning (fun _ _ _ h1 => .ite (.next (.drain h1)) (.makeWait (.drain h1))) h
  | sysr => exact .onRunning (fun _ _ _ h1 => .ite (.sysRead h1) (.ite (.violate h1) (.undefWord h1))) h
  | sysw => exact .onRunning (fun _ _ _ h1 => .ite (.sysWrite h1) (.ite (.violate h1) (.undefWord h1))) h
  | excRet => exact .onRunning (fun _ _ _ h1 => .excReturn h1) h
  | chAlloc => exact .chAlloc h
  | chAllocReturn => exact .chAllocReturn h
  | chFree => exact .chFree h
  | chFreeRelease | synCorrectionApply | refSyntonised | acceptSend | headAnnounce | epochAnnounceRx | pdelayReqRx | ptpMasterSend |
    ppsOutFall | heatDecay | feedPowerOn | severityWindowExpire | tokenRefill | optimeSave | personalitySend | holdUpCharged |
    chainImageRequestRx =>
    exact .whenDo h (.update h rfl)
  | chSet => exact .onChannel (fun _ _ _ _ h1 => .ite (.undefTask h1) (.ite (.finish (.setUndefined h1)) (.finish (.setSlot h1)))) h
  | chGet => exact .chGet h
  | chCommitCut => exact .chCommitCut h
  | chCommitFade => exact .chCommitFade h
  | commitLaneResult => exact .next (.ite (.update h rfl) (.laneResult h))
  | chMute => exact .onChannel (fun _ _ _ _ h1 => .finish (.queueRound h1)) h
  | chUnmute => exact .onChannel (fun _ _ _ _ h1 => .finish (.queueRound (.ite (.wakePower h1) h1))) h
  | chArm =>
    exact .onChannel (fun _ _ _ _ h1 => .ite (.finish h1) (.ite (.refuse h1) (.ite (.refuse (.update h1 rfl)) (.finish (.wakePower
      (.askArm h1)))))) h
  | chMeas => exact .chMeas h
  | chProbe => exact .chProbe h
  | portTune => exact .portTune h
  | portSched => exact .portSched h
  | allocP => exact .onEngine (fun _ _ _ h1 => .ite (.finish2 (.allocFor h1)) (.refuse (.allocFor h1))) h
  | freeP =>
    exact .onEngine (fun _ _ _ h1 => .ite (.ite (.makeWait h1) (.finish (.homeRetry (.foldl (fun _ _ h2 => .releasePage h2) h1))))
      (.violate h1)) h
  | keepP =>
    exact .onEngine (fun _ _ _ h1 => .ite (.violate h1) (.ite (.finish (.homeRetry (.foldl (fun _ _ h2 => .clearKeep h2) h1))) (.ite
      (.finish (.foldl (fun _ _ h3 => .setKeep h3) h1)) (.finish (.mapPart h1))))) h
  | cntRd => exact .onRunning (fun _ _ _ h1 => .ite (.finish h1) (.violate h1)) h
  | modeReq => exact .modeReq h
  | spawnT => exact .spawnT h
  | yieldT => exact .yieldT h
  | exitT => exact .onRunning (fun _ _ hk h1 => .fenceDone (fun _ h2 => .endTask (.countDone h2)) h1 hk) h
  | joinT => exact .joinT h
  | timeT => exact .onRunning (fun _ _ _ h1 => .finish h1) h
  | waitUntil => exact .onRunning (fun _ _ _ h1 => .ite (.finish h1) (.makeWait h1)) h
  | waitEv => exact .onRunning (fun _ _ _ h1 => .ite (.finish (.mapPart h1)) (.ite (.finish h1) (.makeWait h1))) h
  | waitDeadlineExpire => exact .waitDeadlineExpire h
  | sendM =>
    exact .onRunning (fun _ _ hk h1 => .ite (.violate h1) (.ite (.violate h1) (.ite (.makeWait (.drain h1)) (.ite (.exception (.readErrors
      (.drain h1)) hk.pc) (.ite (.refuse (.drain h1)) (.finish (.sendBody (.readErrors (.drain h1))))))))) h
  | recvM =>
    exact .onRunning (fun _ _ _ h1 => .ite (.violate2 h1) (.ite (.violate2 h1) (.takeMsg (fun _ h2 => .ite (.refuse h2) (.makeWait h2))
      (fun _ h3 => .violate2 h3) (fun _ h4 => .makeWait h4) (fun _ _ h5 => .finish2 (.taught h5)) h1))) h
  | engineRoundBoundary => exact .whenDo h (.round h)
  | controlSampleBoundary =>
    exact .whenDo h (.trackFreeze (.ovrCheck (.ite (.glcFlags (.setSlot h)) (.update (.countBy (.glcFlags (.setSlot h))) rfl))))
  | settlingComplete => exact .whenDo h (.trackFreeze (.mapSlot h))
  | fadeEnd | muteRampComplete => exact .whenDo h (.mapSlot h)
  | fbcUpdateStep => exact .whenDo h (.ite (.ite (.invalidate (.setSlot h)) (.setSlot h)) (.setSlot h))
  | modelFreezeTimeout => exact .whenDo h (.invalidate h)
  | isolationRefresh => exact .isolationRefresh h
  | probeBurstStart => exact .probeBurstStart h
  | probeBurstEnd => exact .probeBurstEnd h
  | probeResult =>
    exact .whenDo h (.ite (.event (.ite (.mapSlot (.mapSlot (.ite (.mapSlot (.invalidate h)) h))) (.mapSlot (.ite (.mapSlot (.invalidate
      h)) h)))) (.ite (.mapSlot (.mapSlot (.ite (.mapSlot (.invalidate h)) h))) (.mapSlot (.ite (.mapSlot (.invalidate h)) h))))
  | oscWindowEnd => exact .whenDo h (.ite (.ngdFlag (.askFence (.mapSlot h))) (.ite (.ngdFlag (.trim (.mapSlot h))) (.mapSlot h)))
  | nriseEstimate => exact .nriseEstimate h
  | dlossMute => exact .whenDo h (.count (.ngdFlag (.mapSlot h)))
  | dlossUnmute | trimRelease => exact .whenDo h (.chEvent (.mapSlot h))
  | aclrMeasure => exact .whenDo h (.ite (.ite (.ngdFlag (.foldl (fun _ _ h1 => .aclrAct h1) (.mapPort h))) (.mapPort h)) (.mapPort h))
  | silencedHoldoffEnd => exact .silencedHoldoffEnd h
  | heldRearmEffect => exact .whenDo h (.ite (.doRearm (.nextBoundary h)) (.nextBoundary h))
  | ngdSarmGo => exact .wardenWrite (fun _ h1 => .writeSarm h1) h
  | gntPowerCheck => exact .gntPowerCheck h
  | gntDutyCheck => exact .gntDutyCheck h
  | compositeLimitScale => exact .next (.ite (.mapPort h) (.update (.countBy (.mapPort h)) rfl))
  | compositeLimitRestore | cnvAdaptUpdate => exact .next (.mapPort h)
  | bankChangeComplete => exact .bankChangeComplete h
  | boosterKeyRise => exact .whenDo h (.ite (.portFault h) (.ite (.mapPort h) (.mapPort h)))
  | boosterEnFall => exact .whenDo h (.mapPort h)
  | tddSwitchPoint => exact .tddSwitchPoint h
  | tddPeriodStart => exact .tddPeriodStart h
  | rfkillAssert => exact .whenDo h (.log (.trackFreeze (.update (.foldl (fun _ _ h1 => .abortBurst h1) (.mapPorts h)) rfl)))
  | rfkillRelease => exact .whenDo h (.trackFreeze (.update h rfl))
  | rfkillRestart => exact .whenDo h (.driveAll (.mapPorts (.update h rfl)))
  | boosterFault => exact .whenDo h (.portFault h)
  | adcClip => exact .next (.ite (.mapPort h) (.count (.mapPort h)))
  | clipcntRead | hostSnapshotRead | hpiViolRead | cuffRead => exact .next (.hostRead h)
  | txCalTrack => exact .whenDo h (.txCal h)
  | portSynthLocked => exact .whenDo h (.synLine (.mapPort h))
  | portRetuneComplete => exact .whenDo h (.beginBank (.drive (.fixOutputs (.trackFreeze (.mapPort (.txCal h))))))
  | portSynthUnlock => exact .whenDo h (.log (.synLine (.update (.portUnlock h) rfl)))
  | mainSynthUnlock => exact .whenDo h (.log (.synLine (.update (.foldl (fun _ _ h1 => .portUnlock h1) h) rfl)))
  | mainSynthRelock => exact .whenDo h (.ite (.linePulse (.synLine (.followAll (.update (.lockMain h) rfl)))) (.lockMain h))
  | coreFreqChange => exact .next (.coreFreq h)
  | coreSynthLocked => exact .whenDo h (.synLine (.update h rfl))
  | linkLightDetected | linkLullEnter | laneMapChange | acceptRx | timeSyncRx | parentAnnounceRx => exact .whenDo h (.mapLink h)
  | linkUp => exact .ite (.whenDo h (.mapLink h)) (.whenDo h (.startElection (.mapLink h)))
  | linkDown => exact .linkDown h
  | linkLullExit => exact .whenDo h (.unannounced (.endLull h))
  | frameHeaderRx =>
    exact .whenDo h (.ite (.ite (.loseLink (.badFrame h)) (.mapLink (.badFrame h))) (.ite (.mapLink h) (.log (.count (.mapLink (.badFrame
      h))))))
  | laneMapRequestRx => exact .laneMapRequestRx h
  | electionStart => exact .whenDo h (.startElection h)
  | fabElect => exact .wardenWrite (fun _ h1 => .writeWardenWord h1) h
  | proposalRx => exact .proposalRx h
  | epochTake => exact .epochTake h
  | noProposalTimeout => exact .whenDo h (.failUnreachable (.loseSource (.update (.useFree h) rfl)))
  | cellRx =>
    exact .whenDo h (.ite (.count h) (.ite (.unannounced (.ite (.ite (.takeCell (.ite (.beginPacket (.count h)) (.count h))) (.ite
      (.beginPacket (.count h)) (.count h))) (.forwardCell (.ite (.takeCell (.ite (.beginPacket (.count h)) (.count h))) (.ite
      (.beginPacket (.count h)) (.count h)))))) (.ite (.ite (.takeCell (.ite (.beginPacket (.count h)) (.count h))) (.ite (.beginPacket
      (.count h)) (.count h))) (.forwardCell (.ite (.takeCell (.ite (.beginPacket (.count h)) (.count h))) (.ite (.beginPacket (.count h))
      (.count h)))))))
  | requestDeadlineExpire => exact .whenDo h (.failTag h)
  | responseRx => exact .responseRx h
  | homeRequestRx => exact .homeRequestRx h
  | faultReportHoldExpire => exact .next (.ite (.update h rfl) (.foldl (fun _ _ h1 => .sendOnPorts h1) (.update h rfl)))
  | tapFrameRx => exact .tapFrameRx h
  | macAgeing | partResetNoticeRx | leadTimeRecompute | silencedCountExpire => exact .next (.update h rfl)
  | stampBlockRx => exact .stampBlockRx h
  | laneBlockRx => exact .laneBlockRx h
  | laneDescriptorChange => exact .laneDescriptorChange h
  | laneLost => exact .whenDo h (.linePulse (.trkMute (.update (.mapSlot (.dropDesc h)) rfl)))
  | laneRestore => exact .whenDo h (.trkMute (.mapSlot h))
  | gateWindow => exact .whenDo h (.ite (.mapSlot h) (.ite (.count (.mapSlot h)) (.mapSlot h)))
  | timeEchoRx => exact .whenDo h (.ite (.offsetSeen (.mapLink h)) (.mapLink h))
  | timeInfoRx => exact .whenDo h (.ite (.update (.mapLink h) rfl) (.mapLink h))
  | tsuSet => exact .wardenWrite (fun _ h1 => .ite (.timeBaseChanged (.update h1 rfl)) h1) h
  | tsuSetApply => exact .tsuSetApply h
  | tsuLocked | tsuUnlock => exact .whenDo h (.headTrace (.update h rfl))
  | tsuSourceLost => exact .whenDo h (.loseSource h)
  | ptpEventRx => exact .next (.ite (.offsetSeen (.ite (.update h rfl) h)) (.ite (.update h rfl) h))
  | ptpAnnounceRx => exact .whenDo (.ite (.update h rfl) h) (.selectMaster (.ite (.update h rfl) h))
  | grandmasterLoss => exact .whenDo h (.ite (.loseSource (.selectMaster h)) (.selectMaster h))
  | ppsInEdge =>
    exact .next (.ite (.update h rfl) (.ite (.ppsFail (.linePulse (.update (.update h rfl) rfl))) (.setPhase (.update (.update h rfl)
      rfl))))
  | ppsInMissing => exact .whenDo h (.ppsFail h)
  | ppsOutSecond => exact .whenDo h (.update (.passTime h) rfl)
  | hostUnmappedAccess => exact .ite (.next h) (.ite (.whenDo h (.hostViolation h)) (.next (.hostRead h)))
  | hostWrite => exact .whenDo h (.ite (.hostViolation h) (.ite (.linePulse (.update h rfl)) (.update h rfl)))
  | hostWriteApply => exact .hostWriteApply h
  | mbxIgo => exact .whenDo h (.igo h)
  | inboundPlace => exact .whenDo h (.ite (.returnSlot (.linePulse (.update h rfl))) (.ite h (.returnSlot (.deliverMsg h))))
  | outboundReady => exact .outboundReady h
  | mbxOdone => exact .whenDo h (.odone h)
  | aprFill | aprFlush => exact .whenDo h (.aprStart h)
  | aprCommandEnd => exact .whenDo h (.memWake (.update (.foldl (fun _ _ h1 => .endLine h1) h) rfl))
  | bootGo => exact .whenDo h (.goBoot h)
  | fswStickyClear => exact .next (.stickyClear h)
  | keepBufferWrite => exact .keepBufferWrite h
  | pageMigrate => exact .pageMigrate h
  | replicaRequest => exact .replicaRequest h
  | replicaDiscardRx => exact .next (.sendPacket (.countBy (.update h rfl)))
  | replicaAckRx => exact .replicaAckRx h
  | patrolScrub => exact .patrolScrub h
  | band4Evict => exact .band4Evict h
  | partCreate | partStart | partReset | partDestroy | partClear | partRelease => exact .wardenWrite (fun _ h1 => .partOp h1) h
  | partResetComplete => exact .partResetComplete h
  | partGrantWrite => exact .wardenWrite (fun _ h1 => .writeGrant h1) h
  | partAlloc => exact .wardenWrite (fun _ h1 => .writePartAlloc h1) h
  | schedWindowStart => exact .next (.startWindow (.update (.ite (.passTime h) h) rfl))
  | creditExhausted => exact .whenDo h (.countFor (.foldl (fun _ _ h1 => .takeOff h1) (.update h rfl)))
  | taskTimeslice => exact .taskTimeslice h
  | workerCoreFault => exact .workerCoreFault h
  | wardenStop =>
    exact .whenDo h (.pairStopped (.ite (.log (.linePulse (.log (.linePulse (.update h rfl))))) (.log (.linePulse (.update h rfl)))))
  | wardenRestart => exact .whenDo h (.startWarden (.log h))
  | modeTransition => exact .modeTransition h
  | dozeEnter => exact .whenDo h (.powerStep (fun _ h1 => .enterMode (.update h1 rfl)) h)
  | hibernateEnter => exact .whenDo h (.powerStep (fun _ h1 => .foldl (fun _ _ h2 => .setDepth h2) (.enterMode h1)) h)
  | dozeExit =>
    exact .whenDo h (.powerStep (fun _ h1 => .ite (.enterWatch (.enterMode (.ite (.update h1 rfl) (.endAllTasks (.update h1 rfl)))))
      (.runHeld (.enterMode (.update h1 rfl)))) h)
  | hibernateWake => exact .whenDo h (.update (.enterMode h) rfl)
  | wakeEdge | pwrTimerExpire => exact .whenDo h (.wakePower (.update h rfl))
  | coreIdleEnter => exact .whenDo h (.setDepth h)
  | coreIdleExit => exact .next (.setDepth h)
  | feedLost => exact .whenDo h (.loseFeed h)
  | feedOvervoltage => exact .whenDo h (.loseFeed (.linePulse (.update h rfl)))
  | feedReconnect => exact .whenDo h (.gainFeed (.update h rfl))
  | powerFailWarning => exact .whenDo h (.codedFault (.log (.linePulse (.mapPorts (.update h rfl)))))
  | powerLossComplete => exact .powerLossComplete h
  | feedRestored | powerGood => exact .whenDo h (.ite (.beginBoot (.update h rfl)) (.update h rfl))
  | holdupExhausted => exact .holdupExhausted h
  | rstAssert => exact .rstAssert h
  | rstRelease => exact .next (.ite (.beginBoot (.update h rfl)) (.update h rfl))
  | imageVerified => exact .imageVerified h
  | chainImageReceived => exact .whenDo h (.runImage h)
  | hkaRoundTrigger => exact .whenDo h (.triggerScan (.update h rfl))
  | hkaTrig => exact .wardenWrite (fun _ h1 => .triggerScan h1) h
  | hkaConversionEnd =>
    exact .whenDo h (.ite (.ite (.replaceBroken (.update h rfl)) (.update h rfl)) (.lineLevel (.ite (.replaceBroken (.update h rfl))
      (.update h rfl))))
  | hkaScanEnd => exact .whenDo h (.update (.ite (.endRound h) h) rfl)
  | housekeepingRecord => exact .whenDo h (.logFull (.update h rfl))
  | errorLineRise => exact .whenDo h (.lineRise h)
  | errorLineFall => exact .next (.lineFall h)
  | faultMsgRx => exact .whenDo h (.placeFault (.countSource h))
  | eventRecordCommit => exact .next (.commitRecord h)
  | bushelDump =>
    exact .whenDo h (.ite (.update (.passTime h) rfl) (.ite (.update (.storeBytes (.update (.passTime h) rfl)) rfl) (.linePulse (.update
      (.update (.passTime h) rfl) rfl))))
  | perfSample => exact .perfSample h
  | obsSampEnable => exact .onRunning (fun _ _ _ h1 => .next (.writeSamp h1)) h
  | obsFclr => exact .wardenWrite (fun _ h1 => .stickyClear h1) h
  | obsEmit => exact .onRunning (fun _ _ _ h1 => .next (.emit h1)) h
  | obsPclr => exact .wardenWrite (fun _ h1 => .clearPerm h1) h
  | obsRdataRead => exact .onRunning (fun _ _ _ h1 => .ite (.readPiece h1) (.violate h1)) h
  | glcTableSwap | glcEset | glcTdataWrite | fbcTableSwap | fbcTdataWrite | fbcTapdWrite =>
    exact .onRunning (fun _ _ _ h1 => .sysWrite h1) h
  | glcTdataRead | fbcTdataRead | fbcTapdRead | chFindRead => exact .onRunning (fun _ _ _ h1 => .sysRead h1) h
  | wrimg | wrcht | actcht | restart | confirm | fuse => exact .wardenWrite (fun _ h1 => .startOp h1) h
  | charterActivate =>
    exact .whenDo h (.ite (.log (.foldl (fun _ _ h2 => .stopOverDuty h2) (.foldl (fun _ _ h1 => .fenceUncovered h1) (.recover
      (.chartInForce (.update (.update (.nextBoundary h) rfl) rfl)))))) (.linePulse (.update (.update (.nextBoundary h) rfl) rfl)))
  | slotOpComplete => exact .slotOpComplete h
  | isolateCalibrationEnd => exact .whenDo h (.ite (.takeMode (.update h rfl)) (.update h rfl))
  | personalityOfferRx => exact .personalityOfferRx h
  | portTransitionComplete => exact .portTransitionComplete h
  | feedRecovery => exact .whenDo h (.gainFeed h)
  | coreSynthLockFail => exact .whenDo h (.log (.synLine (.update h rfl)))
  | modelParityError => exact .whenDo h (.linePulse (.mapSlot (.invalidate h)))
  | testAccessPortClock => exact .whenDo h (.ite (.update h rfl) (.useFree (.update h rfl)))

end

/-- Settles O58: by cases on the step, a tick or the command at the front of the queue, each made of operations that keep every task
sound. -/
theorem tasksStaySound : Obligations.TasksStaySound := by
  intro s u h run
  unfold step at run
  split at run
  · exact Host.Outcome.next.inj run ▸ h.tick
  next c rest _ => exact exec_sound c (s := { s with pending := rest }) h u run

end Sys2Proof.Machine

namespace Sys2Proof.Machine

/-! Stores, packets and the placement of tasks (R215, R278, R319, R394): what they leave of the partitions, of what may be fetched, and
of each task's program. -/

/-- The partitions' records and which bytes are allocated are in `u` as in `s`, and memory has no error there that it did not have. -/
structure State.OnlyStores (s u : State) : Prop where
  parts : u.parts = s.parts
  allocated : u.allocated = s.allocated
  poison : u.ms.poison ⊆ s.ms.poison
  flaws : u.ms.flaws ⊆ s.ms.flaws

theorem State.onlyStores_refl (s : State) : s.OnlyStores s := ⟨rfl, rfl, fun _ h => h, fun _ h => h⟩

theorem State.OnlyStores.trans {s u v : State} (h1 : s.OnlyStores u) (h2 : u.OnlyStores v) : s.OnlyStores v where
  parts := h2.parts.trans h1.parts
  allocated := h2.allocated.trans h1.allocated
  poison := fun _ h => h1.poison (h2.poison h)
  flaws := fun _ h => h1.flaws (h2.flaws h)

/-- The same, the second change first. -/
theorem State.OnlyStores.after {s u v : State} (h2 : u.OnlyStores v) (h1 : s.OnlyStores u) : s.OnlyStores v := h1.trans h2

theorem State.onlyStores_foldl {α : Type} {f : State → α → State} (hf : ∀ (s : State) (a : α), s.OnlyStores (f s a)) (l : List α)
    (s : State) : s.OnlyStores (l.foldl f s) := by
  induction l generalizing s with
  | nil => exact s.onlyStores_refl
  | cons a l ih => exact (hf s a).trans (ih (f s a))

theorem State.onlyStores_of_eq {s u : State} (parts : u.parts = s.parts) (pages : u.ms.pages = s.ms.pages)
    (poison : u.ms.poison = s.ms.poison) (flaws : u.ms.flaws = s.ms.flaws) : s.OnlyStores u where
  parts := parts
  allocated := by funext p a; simp only [State.allocated, State.pageAt, pages]
  poison := by rw [poison]; exact fun _ h => h
  flaws := by rw [flaws]; exact fun _ h => h

theorem State.OnlyQueues.onlyStores {s u : State} (h : s.OnlyQueues u) : s.OnlyStores u := by
  obtain ⟨_, _, _, rfl⟩ := h
  exact State.onlyStores_of_eq rfl rfl rfl rfl

/-- What may be fetched, and cleanly, still may. -/
theorem State.OnlyStores.fetchClean {s u : State} (h : s.OnlyStores u) {p : PartId} {a : Word} (clean : s.fetchClean p a) :
    u.fetchClean p a := by
  obtain ⟨fetch, sound⟩ := clean
  have unflawed : u.flawsAt false (memKey p a.toNat) 4 = [] := by
    simp only [State.flawsAt, List.filter_eq_nil_iff] at sound ⊢
    exact fun f hf => sound f (h.flaws hf)
  refine ⟨?_, unflawed⟩
  simp only [State.fetchOk, State.allocatedRange, State.badRead, sound, unflawed, List.any_nil, Bool.or_false, h.allocated,
    Bool.and_eq_true, Bool.not_eq_true', State.poisoned, List.any_eq_false] at fetch ⊢
  exact ⟨fetch.1, fun b hb => fetch.2 b (h.poison hb)⟩

theorem State.touch_onlyStores (s : State) (part : PartId) (va : Nat) : s.OnlyStores (s.touch part va) := by
  unfold State.touch
  split
  · exact s.onlyStores_refl
  · refine State.OnlyStores.trans ?_ (State.countBy_onlyQueues _ _ 1).onlyStores
    refine ⟨rfl, ?_, fun _ h => h, fun _ h => h⟩
    funext p a
    simp only [State.allocated, State.pageAt, List.find?_map, Option.isSome_map]
    congr 2
    funext q
    simp only [Function.comp_apply]
    split <;> rfl

theorem State.storeBytes_onlyStores (s : State) (part : PartId) (va : Nat) (bs : List Byte) : s.OnlyStores (s.storeBytes part va bs) := by
  refine State.OnlyStores.trans ?_ (State.onlyStores_foldl (fun u _ => u.touch_onlyStores _ _) _ _)
  exact ⟨rfl, rfl, fun _ h => List.mem_of_mem_filter h, fun _ h => List.mem_of_mem_filter (List.mem_of_mem_filter h)⟩

theorem State.askDiscard_onlyStores (s : State) (key : Nat) : s.OnlyStores (s.askDiscard key) := by
  unfold State.askDiscard
  split
  · exact s.onlyStores_refl
  · split
    · exact s.onlyStores_refl
    · exact State.OnlyStores.after (State.onlyStores_foldl (fun u _ => (u.sendPacket_onlyQueues _ _ _ _ _).onlyStores) _ _)
        (State.onlyStores_of_eq rfl rfl rfl rfl)

theorem State.askDiscardAt_onlyStores (s : State) (part : PartId) (va n : Nat) : s.OnlyStores (s.askDiscardAt part va n) := by
  unfold State.askDiscardAt
  extract_lets key first
  have asked : s.OnlyStores first := by
    unfold first
    split
    · exact s.askDiscard_onlyStores _
    · exact s.onlyStores_refl
  split
  · exact asked
  · split
    · exact asked.trans (State.askDiscard_onlyStores _ _)
    · exact asked

theorem drainList_onlyStores (part : PartId) (l : List StoreEntry) (n : Nat) (held : List StoreEntry) (s : State) :
    s.OnlyStores (drainList part n held l s).1 := by
  induction l generalizing s n held with
  | nil => exact s.onlyStores_refl
  | cons e l ih =>
    unfold drainList
    split_ifs
    · exact ih _ _ s
    · exact (s.askDiscardAt_onlyStores _ _ _).trans (ih _ _ _)
    · exact (s.storeBytes_onlyStores _ _ _).trans (ih _ _ _)

theorem State.drain_onlyStores (s : State) (t : Nat) : s.OnlyStores (s.drain t) := by
  unfold State.drain State.drainSome
  split
  · exact s.onlyStores_refl
  · exact (drainList_onlyStores _ _ _ _ s).trans (State.onlyStores_of_eq rfl rfl rfl rfl)

theorem State.placeOn_onlyStores (s : State) (t c : Nat) : s.OnlyStores (s.placeOn t c) := by
  unfold State.placeOn
  split
  · exact s.onlyStores_refl
  · split
    · exact State.onlyStores_of_eq rfl rfl rfl rfl
    · dsimp only
      split
      · exact s.drain_onlyStores t
      · split
        · exact (s.drain_onlyStores t).trans (State.onlyStores_of_eq (by simp) (by simp) (by simp) (by simp))
        · exact s.drain_onlyStores t

theorem placeList_onlyStores (l : List Nat) (s : State) : s.OnlyStores (placeList l s) := by
  induction l generalizing s with
  | nil => exact s.onlyStores_refl
  | cons t l ih =>
    unfold placeList
    split
    · split
      · exact (s.placeOn_onlyStores _ _).trans (ih _)
      · exact ih s
    · exact State.OnlyStores.after (ih _) (State.onlyStores_of_eq rfl rfl rfl rfl)

theorem State.place_onlyStores (s : State) : s.OnlyStores s.place := by
  unfold State.place
  split
  · exact placeList_onlyStores _ s
  · exact s.onlyStores_refl

/-! A task that is placed keeps its program (R278). -/

/-- A task's record but for where it stands and which of its stores wait. -/
def Task.program (k : Task) : Task := { k with st := .ready, sq := [], placedAt := 0, lastCtx := none }

/-- A task's record is replaced by one with the same program. -/
theorem State.program_of_put {s u : State} {t : Nat} {k : Task} (k' : Task) (found : s.task? t = some k)
    (tasks : u.cpu.tasks = tblPut t k' s.cpu.tasks) (same : k'.program = k.program) (i : Nat) :
    (u.task? i).map Task.program = (s.task? i).map Task.program := by
  simp only [State.task?, tasks] at found ⊢
  by_cases hi : i = t
  · subst hi
    rw [tblFind_tblPut_same, found, Option.map_some, Option.map_some, same]
  · rw [tblFind_tblPut_ne hi]

theorem State.placeOn_program (s : State) (t c i : Nat) :
    ((s.placeOn t c).task? i).map Task.program = (s.task? i).map Task.program := by
  unfold State.placeOn
  split
  · rfl
  · rename_i k found
    split
    · exact State.program_of_put { k with st := .running c, placedAt := s.clk.ed, lastCtx := some c } found rfl rfl i
    · obtain ⟨v, sq, kept, drained⟩ := State.drain_eq found
      have stored := State.program_of_put (u := v.setTask t { k with sq := sq }) { k with sq := sq } found
        (by rw [State.setTask_cpu, kept.cpu]) rfl i
      simp only [drained, State.task?_setTask]
      split
      · refine Eq.trans ?_ stored
        exact State.program_of_put { k with sq := sq, st := .running c, placedAt := s.clk.ed, lastCtx := some c }
          (State.task?_setTask v t { k with sq := sq }) (by simp) rfl i
      · exact stored

theorem placeList_program (l : List Nat) (s : State) (i : Nat) :
    ((placeList l s).task? i).map Task.program = (s.task? i).map Task.program := by
  induction l generalizing s with
  | nil => rfl
  | cons t l ih =>
    unfold placeList
    split
    · split
      · exact (ih _).trans (s.placeOn_program _ _ i)
      · exact ih s
    · exact ih _

theorem State.place_program (s : State) (i : Nat) : (s.place.task? i).map Task.program = (s.task? i).map Task.program := by
  unfold State.place
  split
  · exact placeList_program _ s i
  · rfl

end Sys2Proof.Machine

namespace Sys2Proof.Machine

/-! Faults and errors (R379 to R382, R463 to R477): what they leave of the tasks, of the partitions and of memory. -/

/-- The engine, the partitions and the memory system are in `u` as in `s`. -/
structure State.Reports (s u : State) : Prop where
  cpu : u.cpu = s.cpu
  parts : u.parts = s.parts
  ms : u.ms = s.ms

theorem State.reports_refl (s : State) : s.Reports s := ⟨rfl, rfl, rfl⟩

theorem State.Reports.trans {s u v : State} (h1 : s.Reports u) (h2 : u.Reports v) : s.Reports v where
  cpu := h2.cpu.trans h1.cpu
  parts := h2.parts.trans h1.parts
  ms := h2.ms.trans h1.ms

/-- The same, the second change first. -/
theorem State.Reports.after {s u v : State} (h2 : u.Reports v) (h1 : s.Reports u) : s.Reports v := h1.trans h2

theorem State.count_reports (s : State) (c : Nat) : s.Reports (s.count c) := ⟨by simp, by simp, by simp⟩

theorem State.countFor_reports (s : State) (p : PartId) (c : Nat) : s.Reports (s.countFor p c) := ⟨by simp, by simp, by simp⟩

theorem State.countInstr_reports (s : State) (k : Task) : s.Reports (s.countInstr k) := ⟨by simp, by simp, by simp⟩

theorem State.lineRise_reports (s : State) (n : SubId) (kind : Byte) : s.Reports (s.lineRise n kind) := by
  unfold State.lineRise
  split <;> exact ⟨rfl, rfl, rfl⟩

theorem State.lineFall_reports (s : State) (n : SubId) : s.Reports (s.lineFall n) := by
  unfold State.lineFall
  split <;> exact ⟨rfl, rfl, rfl⟩

theorem State.linePulse_reports (s : State) (n : SubId) (kind : Byte) : s.Reports (s.linePulse n kind) := by
  unfold State.linePulse
  split
  · exact s.reports_refl
  · exact (s.lineRise_reports n kind).trans (State.lineFall_reports _ n)

theorem State.logFull_reports (s : State) (code : Nat) (fl : RecFlags) (node : NodeId) (part p0 p1 p2 p3 : Nat) :
    s.Reports (s.logFull code fl node part p0 p1 p2 p3) := by
  simp only [State.logFull]
  split
  · exact ⟨rfl, rfl, rfl⟩
  · split
    · exact State.Reports.after (State.linePulse_reports _ _ _) ⟨rfl, rfl, rfl⟩
    · exact ⟨rfl, rfl, rfl⟩

theorem State.log_reports (s : State) (code p0 p1 p2 : Nat) : s.Reports (s.log code p0 p1 p2) := s.logFull_reports _ _ _ _ _ _ _ _

theorem State.logFault_reports (s : State) (m : BitVec 128) (k : Byte) : s.Reports (s.logFault m k) := s.logFull_reports _ _ _ _ _ _ _ _

theorem State.placeFault_reports (s : State) (m : BitVec 128) (k : Byte) : s.Reports (s.placeFault m k) := by
  simp only [State.placeFault]
  refine State.Reports.after (State.logFault_reports _ _ _) ?_
  split
  · exact State.Reports.after (State.linePulse_reports _ _ _) ⟨rfl, rfl, rfl⟩
  · exact ⟨rfl, rfl, rfl⟩

theorem State.holdFault_reports (s : State) (m : BitVec 128) (via : Option ChainId) : s.Reports (s.holdFault m via) := by
  simp only [State.holdFault]
  split
  · exact State.Reports.after (State.count_reports _ _) ⟨rfl, rfl, rfl⟩
  · exact ⟨rfl, rfl, rfl⟩

theorem State.codedFaultN_reports (s : State) (sub kind part : Nat) (addr : Word) (n : Nat) (exc : Option Nat) :
    s.Reports (s.codedFaultN sub kind part addr n exc) := by
  unfold State.codedFaultN
  extract_lets here s0 sev m link nest
  refine State.Reports.after ?_ (show s.Reports s0 from ⟨rfl, rfl, rfl⟩)
  clear_value s0
  split
  · exact State.Reports.after (State.logFault_reports _ _ _) ⟨rfl, rfl, rfl⟩
  · split
    · exact State.Reports.after (State.logFault_reports _ _ _) ⟨rfl, rfl, rfl⟩
    · rename_i s1 _ s2 _ _ _
      have handled : s1.Reports s2 := by
        unfold s2
        split <;> exact ⟨rfl, rfl, rfl⟩
      have placed := (s0.placeFault_reports m 0).trans handled
      split
      · exact placed
      · exact placed.trans (State.holdFault_reports _ _ _)

theorem State.codedFault_reports (s : State) (sub kind part : Nat) (addr : Word) : s.Reports (s.codedFault sub kind part addr) :=
  s.codedFaultN_reports _ _ _ _ _ _

/-! Memory's errors (R379 to R382). -/

/-- The engine and each partition's violation word are in `u` as in `s`. -/
structure State.Heals (s u : State) : Prop where
  cpu : u.cpu = s.cpu
  viol : ∀ p : PartId, u.parts[p].viol = s.parts[p].viol
  lastK : ∀ p : PartId, u.parts[p].lastK = s.parts[p].lastK

theorem State.heals_refl (s : State) : s.Heals s := ⟨rfl, fun _ => rfl, fun _ => rfl⟩

theorem State.Heals.trans {s u v : State} (h1 : s.Heals u) (h2 : u.Heals v) : s.Heals v where
  cpu := h2.cpu.trans h1.cpu
  viol p := (h2.viol p).trans (h1.viol p)
  lastK p := (h2.lastK p).trans (h1.lastK p)

/-- The same, the second change first. -/
theorem State.Heals.after {s u v : State} (h2 : u.Heals v) (h1 : s.Heals u) : s.Heals v := h1.trans h2

theorem State.heals_foldl {α : Type} {f : State → α → State} (hf : ∀ (s : State) (a : α), s.Heals (f s a)) (l : List α)
    (s : State) : s.Heals (l.foldl f s) := by
  induction l generalizing s with
  | nil => exact s.heals_refl
  | cons a l ih => exact (hf s a).trans (ih (f s a))

theorem State.heals_of_eq {s u : State} (cpu : u.cpu = s.cpu) (parts : u.parts = s.parts) : s.Heals u :=
  ⟨cpu, fun _ => by rw [parts], fun _ => by rw [parts]⟩

theorem State.Reports.heals {s u : State} (h : s.Reports u) : s.Heals u := State.heals_of_eq h.cpu h.parts

theorem State.count_heals (s : State) (c : Nat) : s.Heals (s.count c) := (s.count_reports c).heals

theorem State.mapPage_heals (s : State) (p : Page) (f : Page → Page) : s.Heals (s.mapPage p f) := State.heals_of_eq rfl rfl

theorem State.dropFlaw_heals (s : State) (f : Flaw) : s.Heals (s.dropFlaw f) := State.heals_of_eq rfl rfl

theorem State.frameGone_heals (s : State) (t g : Nat) : s.Heals (s.frameGone t g) :=
  State.Heals.after (((State.count_reports _ _).trans (State.linePulse_reports _ _ _)).trans (State.log_reports _ _ _ _ _)).heals
    (State.heals_of_eq rfl rfl)

theorem State.leaveFrame_heals (s : State) (t g : Nat) (ce : List Nat) : s.Heals (s.leaveFrame t g ce) := by
  simp only [State.leaveFrame]
  split
  · exact s.frameGone_heals t g
  · split <;> exact State.heals_of_eq rfl rfl

theorem State.takeFrame_heals (s : State) (t g : Nat) : s.Heals (s.takeFrame t g).1 := by
  simp only [State.takeFrame]
  split
  · exact s.heals_refl
  · split <;> exact State.heals_of_eq rfl rfl

theorem State.uncorrected_heals (s : State) (part : PartId) (va : Nat) : s.Heals (s.uncorrected part va) :=
  State.Heals.after (((State.count_reports _ _).trans (State.linePulse_reports _ _ _)).trans (State.codedFault_reports _ _ _ _ _)).heals
    (State.heals_of_eq rfl rfl)

theorem State.corrected_heals (s : State) : s.Heals s.corrected :=
  State.Heals.after (State.count_heals _ _) (State.heals_of_eq rfl rfl)

/-- A partition is noted to hold a poisoned block (R381). -/
theorem State.notePoison_heals (s : State) (p : PartId) : s.Heals (s.mapPart p fun x => { x with poison := true }) := by
  refine ⟨rfl, fun q => ?_, fun q => ?_⟩
  · by_cases h : p.val = q.val <;> simp [State.mapPart, h]
  · by_cases h : p.val = q.val <;> simp [State.mapPart, h]

theorem State.poisonBlock_heals (s : State) (part : PartId) (va : Nat) : s.Heals (s.poisonBlock part va) :=
  State.Heals.after ((State.notePoison_heals _ part).trans (State.uncorrected_heals _ part va)) (State.heals_of_eq rfl rfl)

theorem State.carryFlaw_heals (s : State) (part : PartId) (t : Nat) (f : Flaw) : s.Heals (s.carryFlaw part t f) := by
  unfold State.carryFlaw
  split
  · exact (s.dropFlaw_heals f).trans (State.corrected_heals _)
  · exact (s.dropFlaw_heals f).trans (State.poisonBlock_heals _ _ _)

theorem State.carryFlaws_heals (s : State) (p : Page) (copy : Bool) : s.Heals (s.carryFlaws p copy).1 :=
  State.heals_foldl (fun u f => u.carryFlaw_heals _ _ f) _ _

theorem State.releaseCopy_heals (s : State) (p : Page) : s.Heals (s.releaseCopy p) :=
  State.Heals.trans (State.heals_foldl (fun u f => (u.dropFlaw_heals f).trans (State.uncorrected_heals _ _ _)) _ s)
    (State.heals_of_eq rfl rfl)

theorem State.outFrame_heals (s : State) (gone : Bool) (t g : Nat) (ce : List Nat) :
    s.Heals (if gone then s.frameGone t g else s.leaveFrame t g ce) := by
  split
  · exact s.frameGone_heals _ _
  · exact s.leaveFrame_heals _ _ _

theorem State.reframe_heals (s : State) (p : Page) (tier : BitVec 2) (gone : Bool) : s.Heals (s.reframe p tier gone) := by
  simp only [State.reframe]
  split
  · exact (s.releaseCopy_heals p).trans ((State.mapPage_heals _ _ _).trans (State.outFrame_heals _ _ _ _ _))
  · have framed := (s.carryFlaws_heals p false).trans (State.takeFrame_heals _ tier.toNat p.gills)
    split
    · exact framed.trans (State.mapPage_heals _ _ _)
    · exact framed.trans ((State.mapPage_heals _ _ _).trans (State.outFrame_heals _ _ _ _ _))

theorem State.makeRoom_heals (s : State) (g : Nat) : s.Heals (s.makeRoom g) := by
  refine State.heals_foldl (fun u _ => ?_) _ s
  split
  · exact u.heals_refl
  · unfold State.dropColdReplica
    extract_lets least
    split
    · exact State.Heals.after (State.count_heals _ _) (State.heals_of_eq rfl rfl)
    · exact u.heals_refl

theorem State.retireFrame_heals (s : State) (p : Page) (copy : Bool) : s.Heals (s.retireFrame p copy) := by
  simp only [State.retireFrame]
  split
  · split
    · exact (s.carryFlaws_heals p true).trans ((State.takeFrame_heals _ _ _).trans ((State.mapPage_heals _ _ _).trans
        (State.frameGone_heals _ _ _)))
    · exact s.heals_refl
  · split
    · refine State.Heals.trans ?_ (State.count_heals _ _)
      split
      · exact (s.makeRoom_heals _).trans (State.reframe_heals _ _ _ _)
      · exact s.reframe_heals _ _ _
    · exact s.heals_refl

theorem State.correctedError_heals (s : State) (p : Page) (copy : Bool) : s.Heals (s.correctedError p copy) := by
  unfold State.correctedError
  extract_lets times s1
  have noted : s.Heals s1 := s.corrected_heals.trans (State.mapPage_heals _ _ _)
  split
  · exact noted.trans (State.retireFrame_heals _ _ _)
  · exact noted

theorem State.meetFlaw_heals (s : State) (part : PartId) (f : Flaw) : s.Heals (s.meetFlaw part f) := by
  unfold State.meetFlaw
  split
  · exact s.heals_refl
  · split
    · exact (s.dropFlaw_heals f).trans (State.correctedError_heals _ _ _)
    · dsimp only
      split
      · exact (s.uncorrected_heals _ _).trans (State.dropFlaw_heals _ _)
      · exact s.uncorrected_heals _ _

theorem State.readErrors_heals (s : State) (part : PartId) (va n : Nat) : s.Heals (s.readErrors part va n) :=
  State.heals_foldl (fun u f => u.meetFlaw_heals _ f) _ _

end Sys2Proof.Machine

namespace Sys2Proof.Machine

/-! O16: violations of kinds 0x01, 0x02 and 0x03 (R298, R299). -/

/-- A violation counted, and the task's record put. -/
theorem State.violation_setTask_violates (s : State) (t : Nat) (k : Task) (kind : Byte) :
    s.violates ((s.violation k.part kind).setTask t k) t k kind := by
  have full : (if s.parts[k.part].viol = 0xFFFFFFFF then s.parts[k.part].viol else s.parts[k.part].viol + 1)
      = (if s.parts[k.part].viol = 0xFFFFFFFF then 0xFFFFFFFF else s.parts[k.part].viol + 1) := by
    split
    · assumption
    · rfl
  unfold State.violates
  rw [State.violation_eq, full]
  simp only [State.setTask]

/-- An instruction with two results that ends as a violation: zero in both, and the violation word. -/
theorem State.violate2_violates {s : State} {t : Nat} {k : Task} (h : s.task? t = some k) (hf : s.fetchClean k.part (k.pc + 4))
    (kind : Byte) (gd gb : Reg) : s.violates (s.violate2 t kind gd gb) t (k.step2 gd gb 0 0) kind := by
  have counted : (s.violation k.part kind).task? t = some k := by simpa using h
  have first : ((s.violation k.part kind).setTask t (k.put gd 0)).task? t = some (k.put gd 0) := by simp
  have second : ((s.violation k.part kind).setTask t ((k.put gd 0).put gb 0)).task? t = some ((k.put gd 0).put gb 0) := by simp
  have e : s.violate2 t kind gd gb = (s.violation k.part kind).setTask t (k.step2 gd gb 0 0) := by
    simp only [State.violate2, h]
    rw [State.putReg_eq counted, State.putReg_eq first, State.setTask_setTask, State.pass_eq second (by simpa using hf),
      State.setTask_setTask]
    simp [Task.step2]
  have part : (k.step2 gd gb 0 0).part = k.part := by simp [Task.step2]
  rw [e, ← part]
  exact s.violation_setTask_violates t (k.step2 gd gb 0 0) kind

/-- A violation with g0 as its result changes no register. -/
theorem Task.step_zero (k : Task) (v : Word) : k.step 0 v = { k with pc := k.pc + 4 } := by
  simp [Task.step, Task.put]

/-! The instructions of R317 are the accesses of their tables. -/

theorem exec_ld {e : (TaskId → Reg → Reg → BitVec 16 → Instr) × Nat × (Nat → Word)} (he : e ∈ resultsLd) :
    ∃ ext, ∀ t gd ga imm s, exec (e.1 t gd ga imm) s = localLoad t gd ga imm e.2.1 ext s := by
  simp only [resultsLd, List.mem_cons, List.not_mem_nil, or_false] at he
  rcases he with rfl | rfl | rfl | rfl | rfl | rfl | rfl <;> exact ⟨_, fun _ _ _ _ _ => rfl⟩

theorem exec_st {e : (TaskId → Reg → Reg → BitVec 16 → Instr) × Nat} (he : e ∈ resultsSt) (t : TaskId) (gd ga : Reg)
    (imm : BitVec 16) (s : State) : exec (e.1 t gd ga imm) s = localStore t gd ga imm e.2 s := by
  simp only [resultsSt, List.mem_cons, List.not_mem_nil, or_false] at he
  rcases he with rfl | rfl | rfl | rfl <;> rfl

theorem localAccessBeyondRights : LocalAccessBeyondRights := by
  intro s t k c gd ga imm h hn
  refine ⟨fun e he beyond => ?_, fun e he beyond => ?_⟩
  · obtain ⟨ext, runs⟩ := exec_ld he
    exact State.gives_of_violate h hn (runs t gd ga imm s) fun x y =>
      if_neg (Bool.eq_false_iff.mp (beyond : (s.counted x y).localOk _ _ _ = false))
  · rw [← Task.step_zero k 0]
    exact State.gives_of_violate h hn (exec_st he t gd ga imm s) fun x y =>
      if_neg (Bool.eq_false_iff.mp (beyond : (s.counted x y).localOk _ _ _ = false))

/-- An engine's instruction that ends as a violation (R299). -/
theorem onEngine_violates {s : State} {t : TaskId} {k : Task} {c : Nat} (h : s.runs t k c) (hn : s.nextOk k) {kind reason : Byte}
    {gd : Reg} {f : Task → State → State} (ends : ∀ x y, f k (s.counted x y) = (s.counted x y).violate t reason gd) :
    ∃ u, onEngine t kind s f = .next u ∧ s.violates u t (k.step gd 0) reason := by
  refine onEngine_counted h fun x y => ?_
  rw [ends]
  exact State.violate_violates (s := s.counted x y) h.1 hn reason gd

theorem onEngine_violates2 {s : State} {t : TaskId} {k : Task} {c : Nat} (h : s.runs t k c) (hn : s.nextOk k) {kind reason : Byte}
    {gd gb : Reg} {f : Task → State → State} (ends : ∀ x y, f k (s.counted x y) = (s.counted x y).violate2 t reason gd gb) :
    ∃ u, onEngine t kind s f = .next u ∧ s.violates u t (k.step2 gd gb 0 0) reason := by
  refine onEngine_counted h fun x y => ?_
  rw [ends]
  exact State.violate2_violates (s := s.counted x y) h.1 hn reason gd gb

theorem globalAccessBeyondPartition : GlobalAccessBeyondPartition := by
  intro s t k c gd ga gb imm h hn tenant
  refine ⟨fun foreign => ⟨fun e he => ?_, fun e he => ?_⟩, fun foreign e he => ?_⟩
  · obtain ⟨sg, runs⟩ := exec_gld he
    rw [runs]
    exact onEngine_violates h hn fun x y => if_pos ⟨tenant, foreign⟩
  · rw [exec_gst he, ← Task.step_zero k 0]
    exact onEngine_violates h hn fun x y => if_pos ⟨tenant, foreign⟩
  · obtain ⟨op, load, runs⟩ := exec_atomic he
    have reads : op ≠ 1 := by omega
    rw [runs]
    refine onEngine_violates h hn fun x y => (if_pos ⟨tenant, foreign⟩).trans ?_
    rw [if_neg reads]

theorem tenantWardenWordViolates : TenantWardenWordViolates := by
  intro s t k c gd ga h hn tenant warden notTenant
  have index : sysIndex (k.get ga) = (k.get ga).toNat % 4096 := by simp [sysIndex, fieldN]
  rw [← index] at warden notTenant
  have readRuns : exec (.sysr t gd ga) s = execSysr t gd ga s := rfl
  have writeRuns : exec (.sysw t gd ga) s = execSysw t gd ga s := rfl
  refine ⟨?_, ?_⟩
  · refine State.gives_of_violate h hn readRuns fun x y => ?_
    simp [warden, notTenant, tenant]
  · rw [← Task.step_zero k 0]
    refine State.gives_of_violate h hn writeRuns fun x y => ?_
    simp [warden, notTenant, tenant]

section

variable {s : State} {t : TaskId} {k : Task} {c : Nat} {ga : Reg} (h : s.runs t k c) (hn : s.nextOk k)
  (bad : s.chan k.part (k.get ga) = none)

include h hn bad

theorem onChannel_invalid (gd : Reg) (f : Task → Nat → State → State) :
    ∃ u, onChannel t gd ga s f = .next u ∧ s.violates u t (k.step gd 0) 3 := by
  refine onEngine_violates h hn fun x y => ?_
  simp only [State.counted_chan, bad]

theorem onChannelHeld_invalid (awake : s.inWatch = false) (gd : Reg) (i : Instr) (f : Task → Nat → State → State) :
    ∃ u, onChannelHeld t gd ga i s f = .next u ∧ s.violates u t (k.step gd 0) 3 := by
  refine onEngine_violates h hn fun x y => (if_neg ?_).trans ?_
  · exact Bool.eq_false_iff.mp (awake : (s.counted x y).inWatch = false)
  · simp only [State.counted_chan, bad]

end

theorem invalidHandleViolates : InvalidHandleViolates := by
  intro s t k c gd ga gb n h hn awake bad
  refine ⟨fun i hi => ?_, fun i hi => ?_⟩
  · simp only [List.mem_cons, List.not_mem_nil, or_false] at hi
    rcases hi with rfl | rfl | rfl | rfl | rfl | rfl | rfl | rfl
    case inl | inr.inr.inr.inr.inl | inr.inr.inr.inr.inr.inl | inr.inr.inr.inr.inr.inr.inl =>
      exact onChannel_invalid h hn bad gd _
    all_goals exact onChannelHeld_invalid h hn bad awake gd _ _
  · simp only [List.mem_cons, List.not_mem_nil, or_false] at hi
    rcases hi with rfl | rfl
    all_goals exact onEngine_violates2 h hn fun x y => by simp only [State.counted_chan, bad]

/-- Settles O16: each of the four kinds of access takes the branch that ends as a violation. -/
theorem violationsCountAndGoOn : Obligations.ViolationsCountAndGoOn :=
  ⟨localAccessBeyondRights, globalAccessBeyondPartition, tenantWardenWordViolates, invalidHandleViolates⟩

end Sys2Proof.Machine

namespace Sys2Proof.Machine

/-! O13: exceptions (R293 to R297, R315, R322, R352, R381). -/

/-! A task that the end of an instruction leaves on its context, or DONE with nobody joining it. -/

theorem State.serveJoins_running {s : State} {t c : Nat} {k : Task} (h : s.task? t = some k) (st : k.st = .running c) (fuel : Nat) :
    s.serveJoins t fuel = s := by
  cases fuel with
  | zero => rfl
  | succ fuel => simp only [State.serveJoins, h, st]

/-- No task waits for the end of another (R352). -/
def State.joinless (s : State) : Prop := ∀ x ∈ s.cpu.tasks, ∀ gd gb h, x.2.st ≠ .waiting (.join gd gb h)

theorem joiners_eq_nil {a : Word} {l : List (Nat × Task)} (h : ∀ x ∈ l, ∀ gd gb b, x.2.st ≠ .waiting (.join gd gb b)) :
    joiners a l = [] := by
  induction l with
  | nil => rfl
  | cons x l ih =>
    have rest := ih fun y hy => h y (List.mem_cons_of_mem x hy)
    unfold joiners
    split
    · rename_i gd gb b st
      exact absurd st (h x List.mem_cons_self gd gb b)
    · exact rest

theorem State.serveJoins_joinless {s : State} (h : s.joinless) (t fuel : Nat) : s.serveJoins t fuel = s := by
  cases fuel with
  | zero => rfl
  | succ fuel =>
    unfold State.serveJoins
    split
    · rfl
    · split
      · rw [joiners_eq_nil h]
      · rfl

/-! An exception with a handler (R294). -/

/-- What may be fetched depends on the memory system alone. -/
theorem State.fetchOk_congr {s u : State} (h : u.ms = s.ms) : u.fetchOk = s.fetchOk := by
  funext p a
  simp only [State.fetchOk, State.allocatedRange, State.allocated, State.pageAt, State.badRead, State.poisoned, State.flawsAt,
    State.soundCopy, h]

/-- The task's record as its handler begins (R294). -/
def Task.handling (k : Task) (cause : Byte) (pc addr : Word) : Task :=
  { k with cause := cause, excPc := pc, excAddr := addr, active := true, pc := k.evec }

section

variable {s : State} {t : Nat} {k : Task} {c : Nat}

theorem State.exception0_handled (found : s.task? t = some k) (handler : k.evec ≠ 0) (inactive : k.active = false)
    (fetch : s.fetchOk k.part k.evec = true) {cause : Byte} (notCore : cause ≠ 5) (pc addr : Word) (n : Nat) :
    (s.setTask t (k.handling cause pc addr)).Heals (s.exception0 t cause pc addr n) := by
  have told := (s.codedFaultN_reports (excSub k.part) cause.toNat k.part.val addr n (some t)).trans
    (State.countFor_reports _ k.part 10)
  simp only [State.exception0, found]
  rw [if_pos ⟨handler, inactive, notCore⟩, if_pos ?fetched]
  case fetched =>
    rw [State.fetchOk_congr (s := s) (by exact told.ms)]
    exact fetch
  refine State.Heals.after (State.readErrors_heals _ _ _ _) (State.heals_of_eq ?_ ?_)
  · simp only [State.setTask, State.dropPend, told.cpu, Task.handling]
  · simp only [State.setTask, State.dropPend, told.parts]

/-- A RUNNING task takes an exception: it goes on at its handler, and the violation words stay. -/
theorem State.exception0_afterEnd (found : s.task? t = some k) (st : k.st = .running c) (idle : t ∉ s.cpu.ready)
    (handler : k.evec ≠ 0) (inactive : k.active = false) (fetch : s.fetchOk k.part k.evec = true) {cause : Byte}
    (notCore : cause ≠ 5) (pc addr : Word) (n : Nat) :
    ((s.exception0 t cause pc addr n).afterEnd t).task? t = some (k.handling cause pc addr) ∧
      ∀ p : PartId, ((s.exception0 t cause pc addr n).afterEnd t).parts[p].viol = s.parts[p].viol ∧
        ((s.exception0 t cause pc addr n).afterEnd t).parts[p].lastK = s.parts[p].lastK := by
  have taken := State.exception0_handled found handler inactive fetch notCore pc addr n
  have own : (s.exception0 t cause pc addr n).task? t = some (k.handling cause pc addr) := by
    rw [State.task?_of_cpu taken.cpu, State.task?_setTask]
  have waits : t ∉ (s.exception0 t cause pc addr n).cpu.ready := by rw [taken.cpu]; exact idle
  have parts := (State.place_onlyStores (s.exception0 t cause pc addr n)).parts
  rw [State.afterEnd, State.serveJoins_running own (by exact st), State.place_task? waits, own, parts]
  exact ⟨rfl, fun p => ⟨taken.viol p, taken.lastK p⟩⟩

/-! An exception without a handler, or in one (R294, R296, R352). -/

/-- The task's record as an exception ends it (R352). -/
def Task.failed (k : Task) (cause : Byte) (pc addr : Word) : Task :=
  { k with cause := cause, excPc := pc, excAddr := addr, nest := k.nest || k.active, pc := pc, st := .done (excExit cause) }

theorem State.endTask0_cpu (found : s.task? t = some k) (v : Word) : (s.endTask0 t v).cpu =
    { s.cpu with tasks := tblPut t { k with st := .done v } s.cpu.tasks, ready := s.cpu.ready.erase t } := by
  simp only [State.endTask0, found, State.dropPend, State.dropWait_cpu]

theorem State.exceptionEnd_cpu (found : s.task? t = some k) (cause : Byte) (pc addr : Word) (n : Nat) :
    (s.exceptionEnd t cause pc addr n).cpu =
      { s.cpu with tasks := tblPut t (k.failed cause pc addr) s.cpu.tasks, ready := s.cpu.ready.erase t } := by
  have told := (s.codedFaultN_reports (excSub k.part) cause.toNat k.part.val addr n (some t)).trans
    (State.countFor_reports _ k.part 10)
  simp only [State.exceptionEnd, found]
  rw [State.endTask0_cpu (State.task?_setTask _ _ _)]
  simp only [State.setTask_cpu, told.cpu, tblPut_tblPut, Task.failed]

/-- With nobody joining, a task that an exception ends is DONE with the cause in its exit value. -/
theorem State.exceptionN_ends (found : s.task? t = some k) (idle : t ∉ s.cpu.ready) (alone : s.joinless)
    (unhandled : k.evec = 0 ∨ k.active = true) (cause : Byte) (pc addr : Word) (n : Nat) :
    (s.exceptionN t cause pc addr n).task? t = some (k.failed cause pc addr) := by
  have ends : s.exception0 t cause pc addr n = s.exceptionEnd t cause pc addr n := by
    simp only [State.exception0, found]
    refine if_neg fun ⟨handler, inactive, _⟩ => ?_
    rcases unhandled with none | active
    · exact handler none
    · exact Bool.false_ne_true (inactive.symm.trans active)
  have cpu := State.exceptionEnd_cpu found cause pc addr n
  have joinless : (s.exceptionEnd t cause pc addr n).joinless := by
    intro x hx gd gb h
    rw [cpu] at hx
    rcases mem_tblPut hx with rfl | old
    · simp [Task.failed]
    · exact alone x old gd gb h
  have waits : t ∉ (s.exceptionEnd t cause pc addr n).cpu.ready := by
    rw [cpu]
    exact fun h => idle (List.mem_of_mem_erase h)
  rw [State.exceptionN, ends, State.afterEnd, State.serveJoins_joinless joinless, State.place_task? waits, State.task?, cpu,
    tblFind_tblPut_same]

end

/-! Jumps (R293, R315). -/

theorem jumpOffset (off : BitVec 26) : off.signExtend 64 * 4 = BitVec.ofInt 64 (4 * off.toInt) := by
  rw [BitVec.signExtend, BitVec.ofInt_mul, BitVec.mul_comm]
  rfl

theorem State.violation_cpu_ms (s : State) (p : PartId) (kind : Byte) :
    (s.violation p kind).cpu = s.cpu ∧ (s.violation p kind).ms = s.ms := by
  rw [State.violation_eq]
  exact ⟨rfl, rfl⟩

/-- A violation of partition `p` (R291, R298). -/
theorem State.violation_word (s : State) (p : PartId) (kind : Byte) : (s.violation p kind).parts[p].lastK = kind ∧
    (s.violation p kind).parts[p].viol = if s.parts[p].viol = 0xFFFFFFFF then 0xFFFFFFFF else s.parts[p].viol + 1 := by
  rw [State.violation_eq]
  refine ⟨by simp, ?_⟩
  simp only [Fin.getElem_fin, Vector.getElem_set_self]
  split
  · assumption
  · rfl

/-- A jump beyond the partition's pages ends as FETCH at its target (R293). -/
theorem State.goto_beyond {s : State} {t : Nat} {k : Task} (found : s.task? t = some k) {target : Word}
    (beyond : s.allocatedRange k.part target.toNat 4 = false) :
    s.goto t target = ((s.violation k.part 8).exception0 t 1 target target 1).afterEnd t := by
  simp [State.goto, State.goto0, found, State.fetchOk, beyond]

theorem jumpRaisesFetch : JumpRaisesFetch := by
  intro s t k c off h idle to' beyond handler inactive fetch
  have runs : exec (.j t off) s =
      onRunning t s fun k s => ((s.countInstr k).countFor k.part 9).goto t (k.pc + off.signExtend 64 * 4) := rfl
  refine State.gives_of_onRunning h runs fun x y => ?_
  rw [jumpOffset]
  obtain ⟨cpu, parts, ms⟩ := ((s.counted x y).countInstr_reports k).trans (State.countFor_reports _ k.part 9)
  generalize ((s.counted x y).countInstr k).countFor k.part 9 = v at cpu parts ms
  have found : v.task? t = some k := (State.task?_of_cpu cpu t).trans h.1
  have out : v.allocatedRange k.part to'.toNat 4 = false := by
    rw [← beyond]
    simp only [State.allocatedRange, State.allocated, State.pageAt, ms]
    rfl
  have told := v.violation_cpu_ms k.part 8
  rw [State.goto_beyond found out]
  have own' : (v.violation k.part 8).task? t = some k := by rw [State.task?_violation]; exact found
  have idle' : t.val ∉ (v.violation k.part 8).cpu.ready := by rw [told.1, cpu]; exact idle
  have fetch' : (v.violation k.part 8).fetchOk k.part k.evec = true := by
    rw [State.fetchOk_congr (s := s) (told.2.trans ms)]
    exact fetch
  obtain ⟨own, words⟩ := State.exception0_afterEnd own' h.2 idle' handler inactive fetch' (cause := 1) (by decide) to' to' 1
  obtain ⟨viol, lastK⟩ := words k.part
  obtain ⟨kind, count⟩ := v.violation_word k.part 8
  rw [parts] at count
  exact ⟨own, lastK.trans kind, viol.trans count⟩

/-! Loads that meet an error (R381). -/

theorem localLoad_bad {s : State} {t : TaskId} {k : Task} {c : Nat} (h : s.runs t k c) {i : Instr} {gd ga : Reg} {imm : BitVec 16}
    {n : Nat} {ext : Nat → Word} (runs : exec i s = localLoad t gd ga imm n ext s)
    (allowed : s.localOk k.part (localEA k ga imm) n = true)
    (free : s.postedHere t k.part (localEA k ga imm).toNat n = false) (bad : s.badRead k.part (localEA k ga imm).toNat n = true)
    {P : State → Prop}
    (hP : ∀ x y, P (((s.counted x y).readErrors k.part (localEA k ga imm).toNat n).exception t 2 k.pc (localEA k ga imm))) :
    s.gives i P := by
  refine State.gives_of_onRunning h runs fun x y => ?_
  have allowed' : (s.counted x y).localOk k.part (localEA k ga imm) n = true := allowed
  have free' : (s.counted x y).postedHere t k.part (localEA k ga imm).toNat n = false := free
  have bad' : (s.counted x y).badRead k.part (localEA k ga imm).toNat n = true := bad
  simp only [allowed', free', bad', if_true, Bool.false_eq_true, if_false]
  exact hP x y

theorem poisonedLoadRaisesEcc : PoisonedLoadRaisesEcc := by
  intro s t k c gd ga imm h idle e he ea allowed free bad
  obtain ⟨ext, runs⟩ := exec_ld he
  refine ⟨fun handler inactive clean fetch => ?_, fun unhandled alone => ?_⟩
  · refine localLoad_bad h (runs t gd ga imm s) allowed free bad fun x y => ?_
    have read : (s.counted x y).readErrors k.part ea.toNat e.2.1 = s.counted x y := State.readErrors_clean clean
    rw [read]
    exact (State.exception0_afterEnd (s := s.counted x y) h.1 h.2 idle handler inactive fetch (by decide) k.pc ea 1).1
  · refine localLoad_bad h (runs t gd ga imm s) allowed free bad fun x y => ?_
    have healed := (s.counted x y).readErrors_heals k.part ea.toNat e.2.1
    refine State.exceptionN_ends ((State.task?_of_cpu healed.cpu t).trans h.1) (by rw [healed.cpu]; exact idle) ?_ unhandled 2 k.pc ea 1
    unfold State.joinless
    rw [healed.cpu]
    exact alone

/-! Posted stores that failed (R295, R322). -/

theorem State.drain_empty {s : State} {t : Nat} {k : Task} (found : s.task? t = some k) (empty : k.sq = []) :
    s.drain t = s.setTask t k := by
  simp only [State.drain, State.drainSome, found, empty, drainList]
  rw [← empty]

theorem postedStoreErrorAtFence : PostedStoreErrorAtFence := by
  intro s t k c e h idle empty settled error notCore handler inactive fetch
  have runs : exec (.fenceG t) s = execFenceG t s := rfl
  refine State.gives_of_onRunning h runs fun x y => ?_
  have drained : (s.counted x y).drain t = (s.counted x y).setTask t k := State.drain_empty h.1 empty
  have found : ((s.counted x y).setTask t k).task? t = some k := State.task?_setTask _ _ _
  have noneQueued : k.sq.isEmpty = true := by rw [empty]; rfl
  have quiet : ((s.counted x y).setTask t k).outstanding t = false := settled
  have gone : ((s.counted x y).setTask t k).clearError t = (s.counted x y).setTask t { k with gerr := none } := by
    simp only [State.clearError, found, State.setTask_setTask]
  simp only [fenceDone, drained, State.drained, found, noneQueued, quiet, error, gone, Bool.not_false, Bool.and_self, if_true]
  have cleared := State.task?_setTask (s.counted x y) t { k with gerr := none }
  exact (State.exception0_afterEnd cleared h.2 idle handler inactive fetch notCore k.pc e.addr (e.more + 1)).1

/-- Settles O13: with a handler that may be fetched the task goes on there, else it ends; what the exception finds of the state is that
of the instruction's issue but for memory's errors. -/
theorem exceptionsTaken : Obligations.ExceptionsTaken := ⟨jumpRaisesFetch, poisonedLoadRaisesEcc, postedStoreErrorAtFence⟩

end Sys2Proof.Machine

namespace Sys2Proof.Machine

/-! O27: spawn, join and wait.until (R279, R280, R352, R353). -/

theorem firstFree_ok {ok : Nat → Bool} {n i j : Nat} (h : firstFree ok n i = some j) : ok j = true := by
  induction n generalizing i with
  | zero => simp [firstFree] at h
  | succ n ih =>
    unfold firstFree at h
    split at h
    · rename_i free
      obtain rfl := Option.some.inj h
      exact free
    · exact ih h

theorem State.freeTask_none {s : State} {i : Nat} (h : s.freeTask = some i) : s.task? i = none := by
  simpa using firstFree_ok h

theorem State.becomes_task?_ne {s u : State} {t i : Nat} {k : Task} (h : s.becomes u t k) (hi : i ≠ t) : u.task? i = s.task? i := by
  unfold State.becomes at h
  rw [h, State.task?, tblFind_tblPut_ne hi]
  rfl

theorem State.becomes_gens {s u : State} {t : Nat} {k : Task} (h : s.becomes u t k) : u.cpu.gens = s.cpu.gens := by
  unfold State.becomes at h
  rw [h]

theorem State.taskOf_task? {s : State} {p : PartId} {a : Word} {i : Nat} {x : Task} (h : s.taskOf p a = some (i, x)) :
    s.task? i = some x := by
  unfold State.taskOf at h
  dsimp only at h
  split at h
  · cases h
  · rename_i y own
    split at h
    · cases h
      exact own
    · cases h

theorem Task.program_get {x y : Task} (h : x.program = y.program) (r : Reg) : x.get r = y.get r :=
  (congrArg (fun z : Task => z.get r) h : x.program.get r = y.program.get r)

/-- A new task whose first instruction may be fetched is READY, and HSC places it with the others. -/
theorem State.startTask_eq {s : State} {i : Nat} {k : Task} (ready : k.st = .ready) (clean : s.fetchClean k.part k.pc) :
    s.startTask i k = ((s.setTask i k).newIndex i).makeReady i := by
  have fetch : ((s.setTask i k).newIndex i).fetchOk k.part k.pc = true := clean.1
  have sound : ((s.setTask i k).newIndex i).readErrors k.part k.pc.toNat 4 = (s.setTask i k).newIndex i :=
    State.readErrors_clean clean.2
  have found : ((s.setTask i k).newIndex i).task? i = some k := State.task?_setTask s i k
  simp only [State.startTask, fetch, sound, if_true, found, ready]

theorem State.makeReady_eq {s : State} {i : Nat} {k : Task} (h : s.task? i = some k) :
    s.makeReady i = ({ s.setTask i { k with st := .ready } with
      cpu := { (s.setTask i { k with st := .ready }).cpu with ready := s.cpu.ready ++ [i] } } : State).place := by
  simp only [State.makeReady, h]
  rfl

/-- What a new task's start leaves: tasks that are not READY, and what may be fetched; the new task has its program. -/
theorem State.startTask_starts {s : State} {i : Nat} {k : Task} (ready : k.st = .ready) (clean : s.fetchClean k.part k.pc) :
    (∀ t, t ≠ i → t ∉ s.cpu.ready → (s.startTask i k).task? t = s.task? t) ∧
    (∀ p a, s.fetchClean p a → (s.startTask i k).fetchClean p a) ∧
    ((s.startTask i k).task? i).map Task.program = some k.program := by
  have found : ((s.setTask i k).newIndex i).task? i = some k := State.task?_setTask s i k
  rw [State.startTask_eq ready clean, State.makeReady_eq found]
  refine ⟨fun t other idle => ?_, fun p a fetch => (State.place_onlyStores _).fetchClean fetch, ?_⟩
  · have waits : t ∉ s.cpu.ready ++ [i] := by simp [idle, other]
    rw [State.place_task? waits]
    exact (State.task?_setTask_ne _ other _).trans (State.task?_setTask_ne s other k)
  · rw [State.place_program]
    exact congrArg (Option.map Task.program) (State.task?_setTask ((s.setTask i k).newIndex i) i { k with st := .ready })

/-- The record of a task that `k` spawns at `entry` with `arg` in g1 (R286, R352). -/
def Task.spawned (k : Task) (entry arg : Word) : Task := (Task.fresh k.part entry k.evec).put 1 arg

theorem Task.spawned_evec (k : Task) (entry arg : Word) : (k.spawned entry arg).evec = k.evec := rfl

theorem Task.spawned_get (k : Task) (entry arg : Word) (r : Reg) : (k.spawned entry arg).get r = if r = 1 then arg else 0 := by
  have zero : (Task.fresh k.part entry k.evec).get r = 0 := by simp [Task.get, Task.fresh]
  rw [Task.spawned, Task.get_put, zero]
  simp

/-- What a task learns of others is not what tasks, indices and memory hold (R345). -/
theorem State.taught_eq (s : State) (t : Nat) (l : List (Nat × Nat)) :
    ∃ know, s.taught t l = { s with cpu := { s.cpu with know := know } } := by
  unfold State.taught
  split
  · exact ⟨_, rfl⟩
  · exact ⟨_, rfl⟩

/-- An index that is freed, and what the joining task `t` then knows: the others' records stay, and so does what may be fetched. -/
theorem State.freeIndex_taught (s : State) (i t : Nat) (l : List (Nat × Nat)) :
    let u := (s.freeIndex i).taught t l
    (∀ j, j ≠ i → u.task? j = s.task? j) ∧ u.task? i = none ∧ tblGet 0 i u.cpu.gens = tblGet 0 i s.cpu.gens + 1 ∧
      s.OnlyStores u := by
  obtain ⟨know, taught⟩ := (s.freeIndex i).taught_eq t l
  rw [taught]
  refine ⟨fun j hj => ?_, ?_, ?_, State.onlyStores_of_eq rfl rfl rfl rfl⟩
  · simp [State.task?, State.freeIndex, tblFind_tblDel, hj]
  · simp [State.task?, State.freeIndex]
  · simp [State.freeIndex]

section

variable {s : State} {t : TaskId} {k : Task} {c : Nat} (h : s.runs t k c) (hn : s.nextOk k)

include h hn

/-- spawn within the quota, with an index free (R352). -/
theorem spawn_starts (idle : t.val ∉ s.cpu.ready) {i : Nat} (free : s.freeTask = some i)
    (quota : s.tasksOf k.part < s.share k.part 512 fun p => p.grants.taskq) {gd ga gb : Reg}
    (clean : s.fetchClean k.part (k.get ga &&& ~~~3#64)) :
    s.gives (.spawnT t gd ga gb) fun u => u.task? t = some (k.step2 gd gb 1 (s.taskHandle i k.part)) ∧
      (u.task? i).map Task.program = some (k.spawned (k.get ga &&& ~~~3#64) (k.get gb)).program := by
  have runs : exec (.spawnT t gd ga gb) s = execSpawnT t gd ga gb s := rfl
  refine State.gives_of_onRunning h runs fun x y => ?_
  have room : ¬ (s.counted x y).share k.part 512 (fun p => p.grants.taskq) ≤ (s.counted x y).tasksOf k.part := Nat.not_le.mpr quota
  have index : (s.counted x y).freeTask = some i := free
  have other : t.val ≠ i := by
    rintro rfl
    exact absurd h.1 (by simp [State.freeTask_none free])
  rw [if_neg room]
  simp only [index]
  obtain ⟨tasks, fetch, started⟩ := State.startTask_starts (s := (s.counted x y).countFor k.part 12) (i := i)
    (k := k.spawned (k.get ga &&& ~~~3#64) (k.get gb)) rfl (by rw [State.fetchClean_countFor]; exact clean)
  have own := tasks t other (by rw [State.countFor_cpu]; exact idle)
  rw [State.task?_countFor] at own
  have ends := State.finish2_becomes (own.trans h.1) (fetch _ _ (by rw [State.fetchClean_countFor]; exact hn)) gd gb 1
    ((s.counted x y).taskHandle i k.part)
  refine ⟨State.task?_becomes ends, ?_⟩
  exact (congrArg (Option.map Task.program) (State.becomes_task?_ne ends other.symm)).trans started

/-- join of a task that is DONE takes its exit value and frees its index (R352). -/
theorem join_frees {gd ga gb : Reg} {i : Nat} {x : Task} {v : Word} (names : s.taskOf k.part (k.get ga) = some (i, x))
    (done : x.st = .done v) :
    s.gives (.joinT t gd ga gb) fun u => u.task? t = some (k.step2 gd gb 1 v) ∧ u.task? i = none ∧
      tblGet 0 i u.cpu.gens = tblGet 0 i s.cpu.gens + 1 := by
  have runs : exec (.joinT t gd ga gb) s = execJoinT t gd ga gb s := rfl
  refine State.gives_of_onRunning h runs fun a b => ?_
  have named : (s.counted a b).taskOf k.part (k.get ga) = some (i, x) := names
  simp only [named, done]
  have found := State.taskOf_task? names
  have other : t.val ≠ i := by
    rintro rfl
    obtain rfl : k = x := Option.some.inj (h.1.symm.trans found)
    exact absurd (h.2.symm.trans done) (by simp)
  obtain ⟨tasks, gone, gens, stores⟩ := (s.counted a b).freeIndex_taught i t ((s.counted a b).know i).seen
  have ends := State.finish2_becomes ((tasks t other).trans h.1) (stores.fetchClean hn) gd gb 1 v
  refine ⟨State.task?_becomes ends, (State.becomes_task?_ne ends other.symm).trans gone, ?_⟩
  rw [← State.becomes_gens ends] at gens
  exact gens

theorem waitUntil_past {gd ga : Reg} (past : (k.get ga).toNat ≤ s.fabNs) :
    s.gives (.waitUntil t gd ga) fun u => s.becomes u t (k.step gd (BitVec.ofNat 64 s.fabNs)) := by
  have runs : exec (.waitUntil t gd ga) s = execWaitUntil t gd ga s := rfl
  refine State.gives_of_onRunning h runs fun x y => ?_
  rw [if_pos (by exact past)]
  exact State.finish_counted h.1 hn x y gd _

omit hn in
theorem waitUntil_ahead (idle : t.val ∉ s.cpu.ready) {gd ga : Reg} (ahead : s.fabNs < (k.get ga).toNat) :
    s.gives (.waitUntil t gd ga) fun u => u.task? t = some { k with st := .waiting (.until gd (k.get ga)) } := by
  have runs : exec (.waitUntil t gd ga) s = execWaitUntil t gd ga s := rfl
  refine State.gives_of_onRunning h runs fun x y => ?_
  rw [if_neg (by exact Nat.not_le.mpr ahead)]
  exact State.makeWait_task? (s := s.counted x y) h.1 idle _

end

/-- The deadline of a waiting task has come (R353). -/
theorem waitDeadlineExpire_wakes {s : State} {t : TaskId} {k : Task} {gd : Reg} {d : Word} (found : s.task? t = some k)
    (waits : k.st = .waiting (.until gd d)) (past : d.toNat ≤ s.fabNs) (hn : s.nextOk k) :
    s.gives (.waitDeadlineExpire t) fun u => u.woken t k gd 0 (BitVec.ofNat 64 s.fabNs) 0 := by
  refine ⟨s.wake t gd (BitVec.ofNat 64 s.fabNs), ?_, State.wake2_woken found waits hn gd 0 (BitVec.ofNat 64 s.fabNs) 0⟩
  show execWaitDeadlineExpire t s = _
  simp only [execWaitDeadlineExpire, found, waits, past, if_true]

/-- Settles O27: the spawned task's record outlives its placement, the joined one's is gone, and a deadline decides whether a task
waits. -/
theorem spawnJoinAndWaits : Obligations.SpawnJoinAndWaits := by
  intro s t k c gd ga gb
  refine ⟨fun h hn idle i free quota clean => ?_, fun h hn i x v names done => join_frees h hn names done,
    fun h hn idle => ⟨fun past => waitUntil_past h hn past, fun ahead => waitUntil_ahead h idle ahead⟩,
    fun d found waits past hn => waitDeadlineExpire_wakes found waits past hn⟩
  obtain ⟨u, hu, own, started⟩ := spawn_starts h hn idle free quota (gd := gd) (gb := gb) clean
  obtain ⟨x, found, same⟩ := Option.map_eq_some_iff.mp started
  exact ⟨u, x, hu, own, found, (congrArg Task.part same).trans (Task.put_part _ _ _),
    (congrArg Task.pc same).trans (Task.put_pc _ _ _), (congrArg Task.evec same).trans (Task.spawned_evec _ _ _),
    fun r => (Task.program_get same r).trans (Task.spawned_get _ _ _ r)⟩

end Sys2Proof.Machine

namespace Sys2Proof.Machine

/-! O48: a faulty worker core (R285, R396). -/

/-- A task of P0 whose program counter and handler lie in no page. -/
def unpagedTask (st : TaskState) : Task := { Task.fresh 0 0 0 with st := st }

/-- QUIET with core 0 alone running, and two records at index 0: a task on the core's first context and, behind it, one that waits
for the event of a mode change. -/
def doubledTask : State :=
  { State.reset with
    cpu := { State.reset.cpu with
      coreUp := 1, tasks := [(0, unpagedTask (.running 0)), (0, unpagedTask (.waiting (.event 0 0x400 0)))] }
    pwr := { State.reset.pwr with mode := .quiet } }

/-- The cause of task `t`'s last exception once a command has completed. -/
def Out.causeOf (t : Nat) : Out → Option Byte
  | .next u => (u.task? t).map Task.cause
  | _ => none

/-- The entry to WATCH wakes the second record's waiter, and so the task that the core's fault has ended: its fetch raises FETCH. -/
theorem workerCoreFault_doubledTask : Out.causeOf 0 (exec (.workerCoreFault 0) doubledTask) = some 1 := by decide

theorem doubledTask_joinless : ∀ y ∈ doubledTask.cpu.tasks, ∀ gd gb h, y.2.st ≠ .waiting (.join gd gb h) := by
  simp [doubledTask, unpagedTask]

/-- Refutes O48: the faulty core's clause speaks of every task table, also of one with two records at an index, which the time slice's
clause rules out. There the ended task does not keep its cause: with the last core the engine enters WATCH, whose event wakes the
waiter of the other record. -/
theorem not_windowsSlicesAndCores : ¬ Obligations.WindowsSlicesAndCores := by
  intro h
  obtain ⟨-, -, -, fault⟩ := h doubledTask
  obtain ⟨-, ends⟩ := fault 0 (by decide)
  obtain ⟨u, hu, y, found, -, cause⟩ := ends 0 (unpagedTask (.running 0)) 0 rfl rfl rfl List.not_mem_nil doubledTask_joinless
  have raised := workerCoreFault_doubledTask
  rw [hu, Out.causeOf, found, Option.map_some, cause] at raised
  exact absurd raised (by decide)

end Sys2Proof.Machine
